-- ==== Sys2Proof/Word.lean ====
section
/-! DEFINITION. The word types of the Q96 model and their plainest arithmetic: 64-bit registers, bytes,
bit fields written [msb:lsb] (R9), saturating counters, and sparse maps kept in one canonical form. -/

namespace Sys2Proof

/-- A 64-bit word: a register (R13), a value, pack time (R8). -/
abbrev Word := BitVec 64
/-- A byte of memory. -/
abbrev Byte := BitVec 8
/-- A 40-bit destination (R35, Table 2.2). -/
abbrev Dest := BitVec 40
/-- A 48-bit tag (R38, Table 2.3). -/
abbrev Tag := BitVec 48
/-- A 16-bit ledger origin (R529, Table 16.9): class in [15:12], ID in [11:0]. -/
abbrev Origin := BitVec 16

/-- Bit field [hi:lo] of a word as a number. -/
def fld {w : Nat} (x : BitVec w) (hi lo : Nat) : Nat := (x.toNat >>> lo) % 2 ^ (hi + 1 - lo)

/-- One bit of a word. -/
def bit {w : Nat} (x : BitVec w) (i : Nat) : Bool := x.getLsbD i

/-- A word whose bits [hi:lo] are ones and whose other bits are zeros. -/
def fmask (w hi lo : Nat) : BitVec w := BitVec.ofNat w ((2 ^ (hi + 1 - lo) - 1) * 2 ^ lo)

/-- Replace bit field [hi:lo] by the low bits of `v`. -/
def setFld {w : Nat} (x : BitVec w) (hi lo v : Nat) : BitVec w :=
  (x &&& ~~~ fmask w hi lo) ||| (BitVec.ofNat w (v * 2 ^ lo) &&& fmask w hi lo)

/-- Replace one bit. -/
def setBit {w : Nat} (x : BitVec w) (i : Nat) (b : Bool) : BitVec w := setFld x i i (if b then 1 else 0)

/-- A Bool as a number. -/
def b2n (b : Bool) : Nat := if b then 1 else 0

/-- Add to a counter field that saturates at all ones of `bits` bits. -/
def satAdd (bits v n : Nat) : Nat := min (v + n) (2 ^ bits - 1)

/-- Sparse maps from numbers, the default `d` unlisted: keys strictly rising, no entry equal to `d`. -/
abbrev SMap (α : Type) := List (Nat × α)

namespace SMap

/-- The value at a key; `d` where the map lists none. -/
def get {α : Type} (d : α) (m : SMap α) (k : Nat) : α :=
  match m.find? (fun e => e.1 == k) with
  | some e => e.2
  | none => d

/-- Drop every entry of a key. -/
def drop {α : Type} (m : SMap α) (k : Nat) : SMap α := m.filter (fun e => !(e.1 == k))

/-- Insert an entry before the first larger key. -/
def ins {α : Type} (m : SMap α) (k : Nat) (v : α) : SMap α :=
  match m with
  | [] => [(k, v)]
  | e :: r => if k < e.1 then (k, v) :: e :: r else e :: ins r k v

/-- Set a key; setting the default removes the entry, so equal maps are equal lists. -/
def set {α : Type} [DecidableEq α] (d : α) (m : SMap α) (k : Nat) (v : α) : SMap α :=
  if v = d then drop m k else ins (drop m k) k v

/-- The canonical form: keys strictly rising, no listed default. -/
def wf {α : Type} [DecidableEq α] (d : α) : SMap α → Bool
  | [] => true
  | [e] => !(decide (e.2 = d))
  | e :: f :: r => !(decide (e.2 = d)) && decide (e.1 < f.1) && wf d (f :: r)

end SMap

/-- Remove the first element that satisfies `p`; `none` when no element does. -/
def takeFirst {α : Type} (p : α → Bool) : List α → Option (α × List α)
  | [] => none
  | a :: r => if p a then some (a, r) else
      match takeFirst p r with
      | some (b, r') => some (b, a :: r')
      | none => none

/-- Replace the first element that satisfies `p`. -/
def replFirst {α : Type} (p : α → Bool) (f : α → α) : List α → List α
  | [] => []
  | a :: r => if p a then f a :: r else a :: replFirst p f r

/-- Little-endian bytes of a number (R9). -/
def leBytes (n : Nat) (v : Nat) : List Byte :=
  (List.range n).map (fun i => BitVec.ofNat 8 (v >>> (8 * i)))

/-- The number that little-endian bytes hold (R9). -/
def ofLe : List Byte → Nat
  | [] => 0
  | b :: r => b.toNat + 256 * ofLe r

/-- Pack time difference `b − a` modulo 2^64. -/
def dur (a b : Word) : Nat := (b - a).toNat

/-- Pack ticks in one microsecond (R8). -/
def us : Nat := 16000

end Sys2Proof
end

