-- ==== Sys2Proof/Syntax.lean ====
section
/-! DEFINITION. The commands of the Q96 block: one constructor per row of opcode_table.json (file
95_what_each_step_holds.md lists what each row's step holds), with the row's operands. -/

namespace Sys2Proof

/-- Part of a register that one access addresses (R13). -/
inductive AccSize | d64 | lo32 | hi32
deriving DecidableEq, Repr

/-- A control-window write: who writes, which half, and the data (R13, R14, R529). A 32-bit access carries its
data in bits [31:0]. -/
structure RegW where
  origin : Origin
  size   : AccSize
  data   : Word
deriving DecidableEq, Repr

/-- A control-window read. -/
structure RegR where
  origin : Origin
  size   : AccSize
deriving DecidableEq, Repr

/-- A token (R34, Table 2.1). -/
structure Token where
  dest  : Dest
  tag   : Tag
  value : Word
  ctl   : Byte
deriving DecidableEq, Repr

/-- What a SEC-DED or outer-code checker finds on one access (R113, R436): environment input. -/
inductive Ecc | clean | corrected | uncorrectable
deriving DecidableEq, Repr

/-- Response status of the mesh (R442, Table 13.7). -/
inductive Status | ok | data | isolated | address
deriving DecidableEq, Repr

/-- An on-die entry of the matching store, named by its key, that is not read as it was written (R113, R114): the outcome of
its code, and the bits of its KEY that are read inverted. -/
structure MsBad where
  key   : Word
  ecc   : Ecc := .clean
  flips : Word := 0
deriving DecidableEq, Repr

/-- What a lookup, the scrubber or the sweep meets where it reads the matching store (R113, R114): the entries with errors, and
the sets whose checksum fails after correction: environment input. Only what the access reads counts. -/
structure MsRead where
  bad  : List MsBad := []
  sums : List Nat := []
deriving DecidableEq, Repr

/-- One access of the sweep (R108): its tile, and what its read meets. -/
structure SweepRead where
  tile : Nat
  read : MsRead := {}
deriving DecidableEq, Repr

/-- The rest of what the scrubber's read meets (R114, R115): KEY bits of that entry read inverted, errors in other entries of
the set, and whether the checksum fails. -/
structure ScrubErr where
  flips  : Word := 0
  more   : List MsBad := []
  sumBad : Bool := false
deriving DecidableEq, Repr

/-- The errors that the stack delivers on one line read: which of the 68 code bytes are inverted by which mask,
and whether the inner code corrected the read (R428 to R430): environment input. -/
structure LineErr where
  flips : List (Nat × Byte)
  inner : Bool
deriving DecidableEq, Repr

/-- A mesh memory request (Table 13.7), and, as environment input, the errors that the line read of a CAS or of a posted write of
part of a line meets (R430, R431). -/
structure MemReq where
  node   : Nat
  txid   : Nat
  origin : Origin
  addr   : BitVec 48
  be     : Byte
  data   : Word
  err    : LineErr := ⟨[], false⟩
deriving DecidableEq, Repr

/-- A semaphore-window access: requester, device address inside a window, access width in bytes, direction and
the priority its header carries (R399, R406). -/
structure SemReq where
  node   : Nat
  txid   : Nat
  origin : Origin
  addr   : BitVec 48
  bytes  : Nat
  write  : Bool
  prio   : Nat
deriving DecidableEq, Repr

/-- The fields of an upstream SYNC block (Table 7.4). -/
structure UpSync where
  credits  : Word
  consumed : Word
  failsSent : BitVec 32
  gen      : BitVec 16
  lostSlots : BitVec 16
  run      : BitVec 16
  selected : Bool
  otherUp  : Bool
  conflict : Bool
  endSent  : Bool
deriving DecidableEq, Repr

/-- A training frame's header symbols on one lane (Table 7.6). -/
structure TrainFrame where
  marker : Bool
  lane   : Nat
  state  : Nat
  count  : Nat
  mode   : Nat
  skew   : Nat := 0
deriving DecidableEq, Repr

/-- A codeword that a link receives with errors (R230, R246): the link, and the pattern of its symbols in error: environment
input. -/
structure RxCodeword where
  link : Nat
  errs : List (Nat × BitVec 10)
deriving DecidableEq, Repr

/-- The rings that software configures or consumes (Table 12.1 and the probe trace rings of R452). -/
inductive RingId
  | kenOut (n : Nat) | kenTrace | retStart (n : Nat) | retComp (n : Nat) | dma (n : Nat)
  | quiescence | failLog (p : Nat) | probe (k : Nat)
deriving DecidableEq, Repr

/-- What a bus reports when an I3C or SPI transfer ends (R276, R278): environment input. The boot ROM's reads of the flash (Table
17.6) end as those of a 65th subchannel, 64. -/
structure BusResult where
  nack : Bool
  done : Nat
  data : List Byte
deriving DecidableEq, Repr

/-- What a training of the UCIe link reports (R535): at how many of the data rates, from the highest, it failed, the lanes repaired,
and the flit retries of the link since the last report: environment input. -/
structure UcieReport where
  failed   : Nat
  repaired : Nat
  retries  : Nat
deriving DecidableEq, Repr

/-- Inputs of one governor interval (R465, R469): sensor readings by node, in eighths of a °C as TJ_MAX shows them, and the package
power in W. -/
structure GovIn where
  temps : List (Nat × Int)
  watts : Nat
deriving DecidableEq, Repr

/-- The fields of a BSYNC block (Table 15.1). -/
structure BSyncF where
  txTime  : Word
  peerTx  : Word
  peerRx  : Word
  rxTime  : Word
  ack     : BitVec 16
  tcredit : BitVec 24
deriving DecidableEq, Repr

/-- The fields of an HB message (Table 15.1). -/
structure HbF where
  role  : Nat
  gen   : BitVec 16
  level : Nat
  seq   : BitVec 32
deriving DecidableEq, Repr

/-- The fields of a UNITRES message (Table 15.1). -/
structure UnitResF where
  subch : Nat
  opnum : BitVec 16
  endc  : Nat
  check : Nat
  residual : Nat
  unit  : BitVec 16
  data  : List Byte
deriving DecidableEq, Repr

/-- The fields of a DIGEST message (Table 15.1). -/
structure DigestF where
  seq : BitVec 32
  a   : Word
  n   : BitVec 32
  value : Word
  ovf : Bool
deriving DecidableEq, Repr

/-- A ledger record as a REPLAY carries it (Table 16.8): the words that the STANDBY reads. -/
structure ReplayF where
  seq    : BitVec 32
  origin : Origin
  offset : BitVec 24
  new    : Word
deriving DecidableEq, Repr

/-- The commands of the block. A command that names an event which cannot occur in the present state (the
deadline has not come, the queue is empty) changes nothing: log entry 3. -/
inductive Instr
  -- resets
  | powerOnReset
  | porstNRelease (bootsel : BitVec 2)
  | glbRst (w : RegW)
  | functionReset (page : Nat) (w : RegW)
  | functionResetDone (page : Nat)
  | tileFunctionReset (tile : Nat) (w : RegW)
  | hubFunctionReset (hub : Nat) (w : RegW)
  | portFunctionReset (port : Nat) (w : RegW)
  | retFunctionReset (n : Nat) (w : RegW)
  | shepFunctionReset (core : Nat) (w : RegW)
  | dmaFunctionReset (ch : Nat) (w : RegW)
  | kenFunctionReset (w : RegW)
  | kenRingPageReset (page : Nat) (w : RegW)
  | barkFunctionReset (w : RegW)
  | hbmcFunctionReset (u : Nat) (w : RegW)
  | ledgFunctionReset (w : RegW)
  | functionLevelReset
  -- the control window
  | registerWrite (off : BitVec 24) (w : RegW)
  | readClear (off : BitVec 24) (r : RegR)
  -- tiles: queues, matching, spill, rotation
  | tokenEnterTile (tile src : Nat)
  | spillDelayExpire (tile pe : Nat)
  | queueChainRefill (tile pe : Nat)
  | tokenMatch (tile pe : Nat) (slotEcc : Ecc) (r : MsRead)
  | flush (tile pe : Nat)
  | flushAll (tile pe : Nat)
  | gateOpen (tile pe : Nat)
  | gateClose (tile pe : Nat)
  | spillAccessComplete (tile : Nat) (key : Word)
  | spillBucketGrant (tile : Nat)
  | fabricStall (tile : Nat)
  | conflictWindowEnd (tile : Nat)
  | forceRot (tile : Nat) (w : RegW)
  | sweepMove (a : SweepRead)
  | sweepComplete (tile : Nat)
  | msScrub (tile : Nat) (overflow : Bool) (idx way : Nat) (ecc : Ecc) (e : ScrubErr)
  | tileLoadGo (tile : Nat) (w : RegW)
  | tileLoadEntry (tile : Nat) (e : LineErr)
  | tileMsSpillWrite (tile : Nat) (w : RegW)
  | spillReady (tile : Nat)
  | tileFence (tile : Nat) (w : RegW)
  | excPop (tile : Nat) (w : RegW)
  -- PE opcodes: the firing that stage 4 of PE `pe` of tile `tile` holds executes
  | copy (tile pe : Nat)
  | merge (tile pe : Nat)
  | const (tile pe : Nat)
  | retype (tile pe : Nat)
  | ctrlgen (tile pe : Nat)
  | steer (tile pe : Nat)
  | sink (tile pe : Nat)
  | addSub (tile pe : Nat)
  | mul (tile pe : Nat)
  | mulhsMulhu (tile pe : Nat)
  | divsDivuRemsRemu (tile pe : Nat)
  | negAbs (tile pe : Nat)
  | minsMaxsMinuMaxu (tile pe : Nat)
  | andOrXorAndn (tile pe : Nat)
  | not (tile pe : Nat)
  | shlShrSarRolRor (tile pe : Nat)
  | clzPopc (tile pe : Nat)
  | bfext (tile pe : Nat)
  | bfins (tile pe : Nat)
  | faddFsubFmul (tile pe : Nat)
  | fdiv (tile pe : Nat)
  | fsqrt (tile pe : Nat)
  | fminFmax (tile pe : Nat)
  | fnegFabs (tile pe : Nat)
  | fcvtIf (tile pe : Nat)
  | fcvtFi (tile pe : Nat)
  | fcvtDs (tile pe : Nat)
  | fcvtSd (tile pe : Nat)
  | daddDsub (tile pe : Nat)
  | cmpeqCmpneCmpltCmple (tile pe : Nat)
  | fcmpeqFcmpltFcmpleFcmpun (tile pe : Nat)
  | iterGet (tile pe : Nat)
  | tagGet (tile pe : Nat)
  | loopHead (tile pe : Nat)
  | loopTail (tile pe : Nat)
  | ctx (tile pe : Nat)
  | ctxQueueGrant
  | free (tile pe : Nat)
  | teardownComplete (ctx : Nat)
  | ctxGetParentGet (tile pe : Nat)
  | ifetch (tile pe : Nat)
  | istore (tile pe : Nat)
  | load (tile pe : Nat)
  | store (tile pe : Nat)
  | emit (tile pe : Nat)
  | emitCreditReturn (tile stream : Nat)
  | time (tile pe : Nat)
  | twait (tile pe : Nat)
  | twaitRelease (tile : Nat)
  | send (tile pe : Nat)
  | event (tile pe : Nat)
  | reduceAccumulate (tile pe : Nat)
  | iFetchRequest (unit : Nat) (es ed : LineErr)
  | iStoreRequest (unit : Nat) (es ed : LineErr)
  | deadlockDetect (ctx : Nat)
  | glbQmAbort (w : RegW)
  | qmRecordPost
  -- streams and Plates
  | streamRun (hub : Nat) (w : RegW)
  | streamStop (hub : Nat) (w : RegW)
  | emitWordArrive (hub tile : Nat)
  | ingressPlace (hub : Nat)
  | storedLineReturn (hub : Nat) (e : LineErr)
  | scrambleWrite (port : Nat) (w : RegW)
  | downstreamBlockTime (port : Nat)
  | creditDeadline (port : Nat)
  -- ports and fail capture; the contents [247:0] of an upstream control block (Table 7.4) come whole, or in pieces of 64
  -- bits, the lowest first, and the bits that are left
  | credit (port : Nat) (c0 : Word) (c1 : BitVec 184)
  | sync (port : Nat) (c : BitVec 248)
  | failRecord (port : Nat) (rec : BitVec 192)
  | summaryRecord (port : Nat) (rec : BitVec 192)
  | endCaptureRecord (port : Nat) (rec : BitVec 192)
  | failIn (port : Nat)
  | portFailCtlWrite (port : Nat) (w : RegW)
  | sbRsp (port : Nat) (c0 c1 : Word) (c2 : BitVec 120)
  | sidebandTimeout (port tag : Nat)
  | sbTagRelease (port tag : Nat)
  | resume (port : Nat) (c0 c1 : Word) (c2 : BitVec 120)
  | linkid (port : Nat) (c0 c1 c2 : Word) (c3 : BitVec 56)
  | lanemapAck (hub : Nat) (c : BitVec 248)
  | upstreamInvalidBlock (link : Nat) (isData : Bool) (code : Byte)
  | upstreamUncorrectable (c : RxCodeword)
  | heartbeatLoss (link : Nat)
  | linkEnable (port : Nat) (w : RegW)
  | retrain (port : Nat) (w : RegW)
  | trainingFrame (link lane : Nat) (f : TrainFrame)
  | trainingTimeout (link : Nat)
  | spareLockTimeout (port lane : Nat)
  | spareGo (hub : Nat) (w : RegW)
  | lanemapAckTimeout (hub : Nat)
  | laneSwap (hub : Nat)
  | switchSend (port : Nat) (w : RegW)
  -- the Retriever
  | retRun (n : Nat) (w : RegW)
  | retStartDoorbell (n : Nat) (w : RegW)
  | startEntryTake (n : Nat)
  | ccwFetch (n : Nat)
  | ccwWrite (n : Nat)
  | ccwRead (n : Nat)
  | ccwControl (n : Nat)
  | ccwSense (n : Nat)
  | ccwJump (n : Nat)
  | ccwWaitEvent (n : Nat)
  | ccwWaitTime (n : Nat)
  | ccwSkipIf (n : Nat)
  | ccwPost (n : Nat)
  | ccwNop (n : Nat)
  | gpioOutSet (n : Nat)
  | gpioOutClr (n : Nat)
  | gpioOutToggle (n : Nat)
  | gpioDirOut (n : Nat)
  | gpioDirIn (n : Nat)
  | gpioArm (n : Nat)
  | gpioDisarm (n : Nat)
  | gpioCapture (n : Nat)
  | busTransferComplete (n : Nat) (r : BusResult)
  | waitEventTimeout (n : Nat)
  | waitTimeExpire (n : Nat)
  | gpioEdge (pin : Nat) (rising : Bool)
  | i3cIbi (bus : Nat) (addr : BitVec 7) (mdb : Byte)
  | retResume (n : Nat) (w : RegW)
  | remoteTimeout (n : Nat)
  | emergArm (w : RegW)
  -- rings
  | stashDrain (r : RingId)
  | ringConsumerWrite (r : RingId) (w : RegW)
  | ringConfigWrite (r : RingId) (w : RegW)
  -- Shepherd instructions: the core executes the instruction at its PC
  | shMov (core : Nat)
  | shMovzMovs (core : Nat)
  | shLea (core : Nat)
  | shAddSub (core : Nat)
  | shAdcSbc (core : Nat)
  | shMul (core : Nat)
  | shMulhsMulhu (core : Nat)
  | shDivsDivuRemsRemu (core : Nat)
  | shNeg (core : Nat)
  | shAndOrXorAndn (core : Nat)
  | shNot (core : Nat)
  | shShlShrSarRolRor (core : Nat)
  | shCmp (core : Nat)
  | shTst (core : Nat)
  | shClzPopc (core : Nat)
  | shBfext (core : Nat)
  | shBfins (core : Nat)
  | shBperm (core : Nat)
  | shBcc (core : Nat)
  | shCall (core : Nat)
  | shSignal (core : Nat)
  | shWaitt (core : Nat)
  | waittExpire (core : Nat)
  | shTrap (core : Nat)
  | shMovsr (core : Nat)
  | shMovrs (core : Nat)
  | shCas (core : Nat)
  | shFaddFsubFmulFdiv (core : Nat)
  | shFsqrt (core : Nat)
  | shFminFmax (core : Nat)
  | shFcmp (core : Nat)
  | shFcvtif (core : Nat)
  | shFcvtfi (core : Nat)
  | shFcvtff (core : Nat)
  | shDaddDsub (core : Nat)
  | sysNop (core : Nat)
  | sysRet (core : Nat)
  | sysRte (core : Nat)
  | sysWaitsig (core : Nat)
  | sysFence (core : Nat)
  | sysIcinv (core : Nat)
  | sysBrk (core : Nat)
  | sysStop (core : Nat)
  | watchdogExpiry (core : Nat)
  | wdogConfigWrite (core : Nat) (w : RegW)
  | coreStart (core : Nat) (w : RegW)
  -- Hatch
  | setvl (core : Nat)
  | vld (core : Nat)
  | vst (core : Nat)
  | vgather (core : Nat)
  | vscatter (core : Nat)
  | vbcast (core : Nat)
  | vget (core : Nat)
  | vset (core : Nat)
  | hfiget (core : Nat)
  | hfiset (core : Nat)
  | vaddVsubVmul (core : Nat)
  | vaddssVsubss (core : Nat)
  | vaddsuVsubsu (core : Nat)
  | vmulhrs (core : Nat)
  | vrshr (core : Nat)
  | vshl (core : Nat)
  | vminsVmaxsVminuVmaxu (core : Nat)
  | vandVorVxor (core : Nat)
  | vcmpeqVcmpltVcmpltu (core : Nat)
  | vfaddVfsubVfmul (core : Nat)
  | vfminVfmax (core : Nat)
  | hatchWake (core : Nat)
  | hatchPowerDown (core : Nat)
  -- Kennel and Bark
  | kenRingDoorbell (ring : Nat) (w : RegW)
  | kenRingConfig (ring : Nat) (w : RegW)
  | itemFetch (ring : Nat)
  | delayExpire
  | dispatch (core : Nat)
  | cdoneDone (w : RegW)
  | cdoneYield (w : RegW)
  | thrCreate (w : RegW)
  | thrExit (w : RegW)
  | thrSwitch (w : RegW)
  | thrBlockEvent (w : RegW)
  | thrBlockTime (w : RegW)
  | thrWake (w : RegW)
  | threadWakeTime (t : Nat)
  | threadSliceExpire (core : Nat)
  | eventLinePulse (line : Nat)
  | interruptEntry (core : Nat)
  | barkSwset (w : RegW)
  | barkDiscard (src : Nat) (w : RegW)
  -- semaphores
  | semTake (r : SemReq)
  | semTry (r : SemReq)
  | semGive (r : SemReq)
  | semPeek (r : SemReq)
  | semPlainStore (r : MemReq)
  | leashExpiry (unit : Nat)
  | resetNotice (origin : Origin)
  -- DMA
  | dmaDoorbell (ch : Nat) (w : RegW)
  | dmaDescriptorBegin (ch : Nat)
  | dmaCopy (ch : Nat)
  | dmaFill (ch : Nat)
  | dmaProof (ch : Nat)
  | dmaComplete (ch : Nat)
  | dmaDisable (ch : Nat) (w : RegW)
  -- memory and mesh
  | memRead8 (r : MemReq) (e : LineErr)
  | memRead64 (r : MemReq) (e : LineErr)
  | memWrite8 (r : MemReq) (e : LineErr)
  | memWrite64 (r : MemReq) (line : List Byte)
  | memCas (r : MemReq) (new : Word) (isD : Bool)
  | postedWrite (r : MemReq) (line : Option (List Byte))
  | meshResponse (node txid : Nat) (st : Status) (data : List Byte)
  | routerForward (node port vn : Nat)
  | niRequestTimeout (node txid : Nat)
  | niIsolate (node : Nat) (w : RegW)
  | routeTableWrite (node : Nat) (w : RegW)
  | routerPortEnableWrite (node : Nat) (w : RegW)
  | routeFenceGo (w : RegW)
  | routeFenceDone
  | hbmScrub (u line : Nat) (e : LineErr)
  | sramScrub (addr : Nat) (e : Ecc)
  | retireAdd (u : Nat) (w : RegW)
  | retireCopyLine (u : Nat) (e : LineErr)
  | trackerAgeExpire (u page : Nat)
  | hbmOvertemp (u : Nat)
  -- power, time, gauges
  | domainTargetWrite (d : Nat) (w : RegW)
  | domainDrainDone (d : Nat)
  | domainPowerOffDone (d : Nat)
  | domainWakeDone (d : Nat)
  | governorInterval (i : GovIn)
  | packSyncEdge
  | refLoss
  | timeLock
  | gaugeSample (g : Nat) (v : Word)
  | gaugeCfgWrite (g : Nat) (w : RegW)
  | gaugeSnap (r : RegR)
  | railExcursion
  | brownOut
  -- Bamior messages: the link (port 0 to 95, brace link k as 96 + k), its LSEQ, and the message's fields
  | bsync (link : Nat) (f : BSyncF)
  | nak (link : Nat) (expect : BitVec 16)
  | token (link : Nat) (lseq : BitVec 16) (t : Token) (hops : Nat)
  | arrive (link : Nat) (lseq : BitVec 16) (bar : Nat) (epoch : BitVec 16)
  | release (link : Nat) (lseq : BitVec 16) (bar : Nat) (epoch : BitVec 16) (t : Word)
  | cfg (link : Nat) (lseq : BitVec 16) (off : BitVec 24) (id : BitVec 16) (data : Word)
  | cfgAck (link : Nat) (lseq : BitVec 16) (id : BitVec 16) (error : Bool)
  | msg (link : Nat) (lseq : BitVec 16) (src dst hops : Nat) (item : List Word)
  | msgAck (link : Nat) (lseq : BitVec 16) (src dst hops : Nat) (refused : Bool)
  | rstart (link : Nat) (lseq : BitVec 16) (src dst hops subch : Nat) (entry : List Word)
  | rstartAck (link : Nat) (lseq : BitVec 16) (src dst hops subch : Nat) (refused : Bool)
  | leadhb (link : Nat) (lseq : BitVec 16) (leadId : BitVec 10) (epoch : BitVec 16)
  | leadhbInterval
  | deputyTakeover
  | bamiorLinkid (link : Nat) (serial : Word) (device : BitVec 10)
  | bcastGo (w : RegW)
  | barrierArrive (bar : Nat) (w : RegW)
  | barrierReleaseTime (bar : Nat)
  | packMsgGo (w : RegW)
  | hb (link : Nat) (lseq : BitVec 16) (f : HbF)
  | hbInterval
  | hbLoss
  | replay (link : Nat) (lseq : BitVec 16) (f : ReplayF)
  | mirror (link : Nat) (lseq : BitVec 16) (addr : BitVec 48) (be : Word) (line : List Byte)
  | unitres (link : Nat) (lseq : BitVec 16) (f : UnitResF)
  | digest (link : Nat) (lseq : BitVec 16) (f : DigestF)
  | epochBoundary
  | fence (link : Nat) (lseq : BitVec 16)
  | swap (link : Nat) (lseq : BitVec 16) (gen : BitVec 16)
  | syncDone (link : Nat) (lseq : BitVec 16)
  | braceLinkUp (k : Nat) (twinSerial : Word) (twinRunning twinPref : Bool)
  | brcEnable (w : RegW)
  | brcTakeover (w : RegW)
  | brcSwap (w : RegW)
  | brcDetach (w : RegW)
  | brcResync (w : RegW)
  | takeoverDeadline
  | brcSeal (w : RegW)
  -- faults and ledger
  | reactionTimerExpire (page : Nat)
  | faultAck (page : Nat) (w : RegW)
  | errEnWrite (page : Nat) (w : RegW)
  | levelRaise (page : Nat) (w : RegW)
  | injectArm (page : Nat) (w : RegW)
  | injectForce (page : Nat) (w : RegW)
  | ledgerDrain
  | ledgRingWrite (w : RegW)
  | ledgConsWrite (w : RegW)
  -- host and boot
  | hostWrite (bar : Nat) (off : Nat) (bytes : List Byte)
  | hostRead (bar : Nat) (off : Nat) (len : Nat)
  | h2dPost (w : RegW)
  | h2dDone (w : RegW)
  | d2hPost (w : RegW)
  | d2hDone (w : RegW)
  | romLoad
  | romProgramKey
  | romRevokeKey
  | romSetSvn
  | hostLinkTrain (m0 m1 : Bool) (report : UcieReport)
  | l1Entry
  | l1Exit
  | msixUnmask (vec : Nat)
  | hbmStackTrained (u : Nat)
  | referenceReturn
  | brownOutRelease
  | hostConfigWrite (busMaster d3hot msixEn funcMask : Bool)
  | hostCompletion (txid : Nat) (data : List Byte) (ok : Bool)
deriving DecidableEq, Repr

end Sys2Proof
end

