-- ==== Sys2Proof/Decode.lean ====
section
/-! DEFINITION. Commands as words. opcode_table.json gives no row any bits: the commands come from outside the device as
accesses, messages and events, not as words. -/

namespace Sys2Proof

/-- The command that a word spells by the table's bits: none, since the table gives bits to no row. -/
def decodeTableWord (_nbits _w : Nat) : Option Instr := none

end Sys2Proof
end

