-- ==== Sys2Proof/Machine/Arith.lean ====
section
/-! DEFINITION. The arithmetic that PEs and Shepherd cores share (chapter 10): integer multiply and divide, IEEE 754
binary64 and binary32, and packed decimal; the CRCs of graph images. Values are exact numbers, rounded once. -/

namespace Sys2Proof.Machine

/-! ## Integers (R334, R335) -/

/-- The signed value of the low `n` bits. -/
def sgn (n v : Nat) : Int := if v % 2 ^ n < 2 ^ (n - 1) then (v % 2 ^ n : Nat) else (v % 2 ^ n : Nat) - (2 ^ n : Nat)

/-- Two's complement of an integer in `n` bits. -/
def unsgn (n : Nat) (i : Int) : Nat := (i % (2 ^ n : Nat)).toNat

/-- Quotient and remainder of `n`-bit operands (R335, Table 10.1). -/
def divRem (n : Nat) (signed : Bool) (a b : Nat) : Nat × Nat :=
  if b % 2 ^ n = 0 then (2 ^ n - 1, a % 2 ^ n)
  else if signed then
    let x := sgn n a
    let y := sgn n b
    (unsgn n (Int.tdiv x y), unsgn n (Int.tmod x y))
  else (a % 2 ^ n / (b % 2 ^ n), a % 2 ^ n % (b % 2 ^ n))

/-- High half of the product of `n`-bit operands (R334). -/
def mulHigh (n : Nat) (signed : Bool) (a b : Nat) : Nat :=
  if signed then unsgn n ((sgn n a * sgn n b) / (2 ^ n : Nat)) else (a % 2 ^ n * (b % 2 ^ n)) / 2 ^ n

/-- Leading zeros of an `n`-bit operand; `n` for zero. -/
def clz (n v : Nat) : Nat := if v % 2 ^ n = 0 then n else n - 1 - Nat.log2 (v % 2 ^ n)

/-- Number of ones in an `n`-bit operand. -/
def popc (n v : Nat) : Nat := (List.range n).foldl (fun c i => c + b2n (v.testBit i)) 0

/-! ## IEEE 754 (R336 to R346) -/

/-- A binary format: width, exponent bits, fraction bits. -/
structure Fmt where
  w  : Nat
  eb : Nat
  mb : Nat
deriving DecidableEq, Repr

/-- binary64. -/
def f64 : Fmt := ⟨64, 11, 52⟩
/-- binary32. -/
def f32 : Fmt := ⟨32, 8, 23⟩

/-- Exponent bias. -/
def Fmt.bias (f : Fmt) : Nat := 2 ^ (f.eb - 1) - 1
/-- Exponent of the least significant bit of a subnormal. -/
def Fmt.qmin (f : Fmt) : Int := 1 - (f.bias : Int) - f.mb
/-- Exponent field of infinities and NaNs. -/
def Fmt.emax (f : Fmt) : Nat := 2 ^ f.eb - 1
/-- Canonical quiet NaN (Table 10.2). -/
def Fmt.qnan (f : Fmt) : Nat := f.emax * 2 ^ f.mb + 2 ^ (f.mb - 1)
/-- Infinity with a sign. -/
def Fmt.inf (f : Fmt) (neg : Bool) : Nat := b2n neg * 2 ^ (f.w - 1) + f.emax * 2 ^ f.mb
/-- Zero with a sign. -/
def Fmt.zero (f : Fmt) (neg : Bool) : Nat := b2n neg * 2 ^ (f.w - 1)
/-- Largest finite number with a sign. -/
def Fmt.big (f : Fmt) (neg : Bool) : Nat := f.inf neg - 1

/-- The flags, in TRAP_EN bit order: invalid. -/
def flNV : Nat := 1
/-- Divide by zero. -/
def flDZ : Nat := 2
/-- Overflow. -/
def flOF : Nat := 4
/-- Underflow. -/
def flUF : Nat := 8
/-- Inexact. -/
def flNX : Nat := 16

/-- A decoded operand: NaN (signalling or not), infinity, or the exact value ±m × 2^e. -/
inductive FVal | nan (signalling : Bool) | inf (neg : Bool) | fin (neg : Bool) (m : Nat) (e : Int)
deriving DecidableEq, Repr

/-- Decode an operand; with flush-to-zero a subnormal reads as a zero of its sign (R339). -/
def Fmt.dec (f : Fmt) (ftz : Bool) (v : Nat) : FVal :=
  let neg := v.testBit (f.w - 1)
  let ex := v / 2 ^ f.mb % 2 ^ f.eb
  let fr := v % 2 ^ f.mb
  if ex = f.emax then (if fr = 0 then .inf neg else .nan (!fr.testBit (f.mb - 1)))
  else if ex = 0 then .fin neg (if ftz then 0 else fr) f.qmin
  else .fin neg (fr + 2 ^ f.mb) ((ex : Int) - f.bias - f.mb)

/-- Round m × 2^(e−q) to an integer: the integer and whether it is inexact. Rounding: 0 to nearest even, 1 toward
zero, 2 toward +∞, 3 toward −∞. -/
def roundAt (rm : Nat) (neg : Bool) (m : Nat) (e q : Int) : Nat × Bool :=
  if q ≤ e then (m * 2 ^ (e - q).toNat, false)
  else
    let k := (q - e).toNat
    let t := m / 2 ^ k
    let r := m % 2 ^ k
    let up := match rm with
      | 0 => decide (2 ^ k < 2 * r) || (decide (2 * r = 2 ^ k) && t % 2 == 1)
      | 1 => false
      | 2 => decide (r ≠ 0) && !neg
      | _ => decide (r ≠ 0) && neg
    (t + b2n up, decide (r ≠ 0))

/-- Round the exact value ±m × 2^e into a format: bits and flags (R338 to R340). -/
def Fmt.pack (f : Fmt) (rm : Nat) (ftz neg : Bool) (m : Nat) (e : Int) : Nat × Nat :=
  if m = 0 then (f.zero neg, 0) else
  let lead := e + Nat.log2 m
  let qU := lead - f.mb
  let q := max qU f.qmin
  let (ru, _) := roundAt rm neg m e qU
  let tiny := decide (lead < f.qmin + f.mb) && !(decide (ru = 2 ^ (f.mb + 1)) && decide (lead = f.qmin + f.mb - 1))
  let (r, nx) := roundAt rm neg m e q
  if tiny && ftz then (f.zero neg, flUF + flNX)
  else
    let (r2, q2) := if r = 2 ^ (f.mb + 1) then (2 ^ f.mb, q + 1) else (r, q)
    let ex := q2 + f.bias + f.mb
    if r2 ≥ 2 ^ f.mb && decide (ex ≥ f.emax) then
      let toBig := match rm with | 0 => false | 1 => true | 2 => neg | _ => !neg
      (if toBig then f.big neg else f.inf neg, flOF + flNX)
    else
      let bits := if r2 < 2 ^ f.mb then r2 else ex.toNat * 2 ^ f.mb + (r2 - 2 ^ f.mb)
      (f.zero neg + bits, (if nx then flNX else 0) + (if tiny && nx then flUF else 0))

/-- The settings of an operation: rounding, flush-to-zero, and whether NaN results follow the PE column of Table
10.2. -/
structure FEnv where
  rm  : Nat
  ftz : Bool
  pe  : Bool
deriving DecidableEq, Repr

/-- Is a decoded operand a NaN? -/
def FVal.isNan : FVal → Bool
  | .nan _ => true
  | _ => false
/-- Is it a signalling NaN? -/
def FVal.isSnan : FVal → Bool
  | .nan s => s
  | _ => false

/-- The NaN result of operands of which at least one is a NaN (R341, Table 10.2). -/
def Fmt.nanOf (f : Fmt) (env : FEnv) (a b : Nat) : Nat × Nat :=
  let da := f.dec false a
  let db := f.dec false b
  let fl := if da.isSnan || db.isSnan then flNV else 0
  if env.pe then ((if da.isNan then a else b) % 2 ^ f.w ||| 2 ^ (f.mb - 1), fl) else (f.qnan, fl)

/-- Invalid operation with no NaN operand. -/
def Fmt.invalid (f : Fmt) : Nat × Nat := (f.qnan, flNV)

/-- Sum (R336). -/
def Fmt.add (f : Fmt) (env : FEnv) (a b : Nat) : Nat × Nat :=
  match f.dec env.ftz a, f.dec env.ftz b with
  | .nan _, _ => f.nanOf env a b
  | _, .nan _ => f.nanOf env a b
  | .inf n, .inf n2 => if n = n2 then (f.inf n, 0) else f.invalid
  | .inf n, _ => (f.inf n, 0)
  | _, .inf n => (f.inf n, 0)
  | .fin n1 m1 e1, .fin n2 m2 e2 =>
    let e := min e1 e2
    let x : Int := (m1 * 2 ^ (e1 - e).toNat : Nat)
    let y : Int := (m2 * 2 ^ (e2 - e).toNat : Nat)
    let t := (if n1 then -x else x) + (if n2 then -y else y)
    if t = 0 then (f.zero (if n1 = n2 then n1 else env.rm = 3), 0)
    else f.pack env.rm env.ftz (decide (t < 0)) t.natAbs e

/-- Change of sign of an operand's bits (FNEG). -/
def Fmt.neg (f : Fmt) (a : Nat) : Nat := (a % 2 ^ f.w) ^^^ 2 ^ (f.w - 1)
/-- Sign cleared (FABS). -/
def Fmt.abs (f : Fmt) (a : Nat) : Nat := a % 2 ^ (f.w - 1)

/-- Difference: a NaN subtrahend keeps its own sign. -/
def Fmt.sub (f : Fmt) (env : FEnv) (a b : Nat) : Nat × Nat :=
  if (f.dec env.ftz a).isNan || (f.dec env.ftz b).isNan then f.nanOf env a b else f.add env a (f.neg b)

/-- Product. -/
def Fmt.mul (f : Fmt) (env : FEnv) (a b : Nat) : Nat × Nat :=
  match f.dec env.ftz a, f.dec env.ftz b with
  | .nan _, _ => f.nanOf env a b
  | _, .nan _ => f.nanOf env a b
  | .inf n1, .inf n2 => (f.inf (n1 != n2), 0)
  | .inf n1, .fin n2 m _ => if m = 0 then f.invalid else (f.inf (n1 != n2), 0)
  | .fin n1 m _, .inf n2 => if m = 0 then f.invalid else (f.inf (n1 != n2), 0)
  | .fin n1 m1 e1, .fin n2 m2 e2 => f.pack env.rm env.ftz (n1 != n2) (m1 * m2) (e1 + e2)

/-- Quotient: the exact quotient carried to enough bits, a last bit standing for any remainder. -/
def Fmt.div (f : Fmt) (env : FEnv) (a b : Nat) : Nat × Nat :=
  match f.dec env.ftz a, f.dec env.ftz b with
  | .nan _, _ => f.nanOf env a b
  | _, .nan _ => f.nanOf env a b
  | .inf _, .inf _ => f.invalid
  | .inf n1, .fin n2 _ _ => (f.inf (n1 != n2), 0)
  | .fin n1 _ _, .inf n2 => (f.zero (n1 != n2), 0)
  | .fin n1 m1 e1, .fin n2 m2 e2 =>
    if m2 = 0 then (if m1 = 0 then f.invalid else (f.inf (n1 != n2), flDZ))
    else if m1 = 0 then (f.zero (n1 != n2), 0)
    else
      let k := 2 * f.mb + 4
      let t := m1 * 2 ^ k
      f.pack env.rm env.ftz (n1 != n2) (2 * (t / m2) + b2n (t % m2 != 0)) (e1 - e2 - k - 1)

/-- Integer square root by binary digits, `n` of them. -/
def isqrt (n v : Nat) : Nat :=
  (List.range n).foldl (fun r i =>
    let c := r + 2 ^ (n - 1 - i)
    if c * c ≤ v then c else r) 0

/-- Square root. -/
def Fmt.sqrt (f : Fmt) (env : FEnv) (a : Nat) : Nat × Nat :=
  match f.dec env.ftz a with
  | .nan _ => f.nanOf env a a
  | .inf n => if n then f.invalid else (f.inf false, 0)
  | .fin n m e =>
    if m = 0 then (f.zero n, 0)
    else if n then f.invalid
    else
      let k := 2 * f.mb + 8
      let odd := e % 2 != 0
      let m1 := (if odd then 2 * m else m) * 2 ^ k
      let e1 := (if odd then e - 1 else e) - k
      let r := isqrt (f.mb + k / 2 + 4) m1
      f.pack env.rm env.ftz false (2 * r + b2n (r * r != m1)) (e1 / 2 - 1)

/-- Order of two decoded numbers, neither a NaN: −1, 0 or 1; −0 and +0 are equal (R343). -/
def FVal.cmp (a b : FVal) : Int :=
  let key (v : FVal) (e : Int) : Option Int := match v with
    | .fin n m ev => some (if n then -((m * 2 ^ (ev - e).toNat : Nat) : Int) else ((m * 2 ^ (ev - e).toNat : Nat) : Int))
    | _ => none
  match a, b with
  | .inf n, .inf n2 => if n = n2 then 0 else if n then -1 else 1
  | .inf n, _ => if n then -1 else 1
  | _, .inf n => if n then 1 else -1
  | .fin _ _ e1, .fin _ _ e2 =>
    let e := min e1 e2
    match key a e, key b e with
    | some x, some y => if x < y then -1 else if x = y then 0 else 1
    | _, _ => 0
  | _, _ => 0

/-- An operand after flush-to-zero. -/
def Fmt.flush (f : Fmt) (ftz : Bool) (a : Nat) : Nat :=
  if ftz && (a / 2 ^ f.mb % 2 ^ f.eb == 0) then f.zero (a.testBit (f.w - 1)) else a % 2 ^ f.w

/-- minimumNumber and maximumNumber (R341); −0 is below +0. -/
def Fmt.minMax (f : Fmt) (env : FEnv) (isMax : Bool) (a b : Nat) : Nat × Nat :=
  let da := f.dec env.ftz a
  let db := f.dec env.ftz b
  let fl := if da.isSnan || db.isSnan then flNV else 0
  match da.isNan, db.isNan with
  | true, true => ((f.nanOf env a b).1, fl)
  | true, false => (f.flush env.ftz b, fl)
  | false, true => (f.flush env.ftz a, fl)
  | false, false =>
    let c := da.cmp db
    let aNeg := a.testBit (f.w - 1)
    let aLess := decide (c < 0) || (decide (c = 0) && aNeg)
    (f.flush env.ftz (if aLess != isMax then a else b), fl)

/-- The relations of the comparisons. -/
inductive FRel | eq | lt | le | un
deriving DecidableEq, Repr

/-- A comparison: its result and flags; EQ and UN are quiet, LT and LE signalling (R343). -/
def Fmt.rel (f : Fmt) (ftz : Bool) (r : FRel) (a b : Nat) : Bool × Nat :=
  let da := f.dec ftz a
  let db := f.dec ftz b
  let anyNan := da.isNan || db.isNan
  let anyS := da.isSnan || db.isSnan
  let quiet := match r with | .eq | .un => true | _ => false
  let fl := if anyS || (anyNan && !quiet) then flNV else 0
  let c := da.cmp db
  (match r with
    | .un => anyNan
    | .eq => !anyNan && decide (c = 0)
    | .lt => !anyNan && decide (c < 0)
    | .le => !anyNan && decide (c ≤ 0), fl)

/-- Conversion of a signed 64-bit integer. -/
def Fmt.ofInt (f : Fmt) (rm : Nat) (i : Int) : Nat × Nat := f.pack rm false (decide (i < 0)) i.natAbs 0

/-- Conversion to a signed 64-bit integer (R344). -/
def Fmt.toInt (f : Fmt) (rm : Nat) (ftz : Bool) (a : Nat) : Nat × Nat :=
  match f.dec ftz a with
  | .nan _ => (2 ^ 63, flNV)
  | .inf n => (if n then 2 ^ 63 else 2 ^ 63 - 1, flNV)
  | .fin n m e =>
    let (r, nx) := roundAt rm n m e 0
    if n then (if r > 2 ^ 63 then (2 ^ 63, flNV) else ((2 ^ 64 - r) % 2 ^ 64, if nx then flNX else 0))
    else if r ≥ 2 ^ 63 then (2 ^ 63 - 1, flNV) else (r, if nx then flNX else 0)

/-- binary64 to binary32 (R342). -/
def narrow (env : FEnv) (a : Nat) : Nat × Nat :=
  match f64.dec env.ftz a with
  | .nan s =>
    (if env.pe then b2n (a.testBit 63) * 2 ^ 31 + f32.emax * 2 ^ 23 + 2 ^ 22 + a / 2 ^ 29 % 2 ^ 22 else f32.qnan,
      if s then flNV else 0)
  | .inf n => (f32.inf n, 0)
  | .fin n m e => f32.pack env.rm env.ftz n m e

/-- binary32 to binary64, exact (R342). -/
def widen (env : FEnv) (a : Nat) : Nat × Nat :=
  match f32.dec env.ftz a with
  | .nan s =>
    (if env.pe then b2n (a.testBit 31) * 2 ^ 63 + f64.emax * 2 ^ 52 + 2 ^ 51 + (a % 2 ^ 22) * 2 ^ 29 else f64.qnan,
      if s then flNV else 0)
  | .inf n => (f64.inf n, 0)
  | .fin n m e => f64.pack env.rm false n m e

/-- Apply a binary64 operation, or a binary32 operation to both elements with the flags' OR (R337). -/
def lanes2 (single : Bool) (op : Fmt → Nat → Nat → Nat × Nat) (a b : Nat) : Nat × Nat :=
  if single then
    let lo := op f32 (a % 2 ^ 32) (b % 2 ^ 32)
    let hi := op f32 (a / 2 ^ 32 % 2 ^ 32) (b / 2 ^ 32 % 2 ^ 32)
    (lo.1 + hi.1 * 2 ^ 32, lo.2 ||| hi.2)
  else op f64 (a % 2 ^ 64) (b % 2 ^ 64)

/-! ## Packed decimal (R347 to R349) -/

/-- Is an operand valid (R347)? -/
def decOk (v : Nat) : Bool :=
  (List.range 15).all (fun i => decide (v / 16 ^ (i + 1) % 16 ≤ 9)) &&
    (v % 16 == 0xC || v % 16 == 0xD || v % 16 == 0xF)

/-- Magnitude of a valid operand. -/
def decMag (v : Nat) : Nat := (List.range 15).foldl (fun m i => m + v / 16 ^ (i + 1) % 16 * 10 ^ i) 0

/-- Signed value of a valid operand. -/
def decVal (v : Nat) : Int := if v % 16 = 0xD then -(decMag v : Int) else decMag v

/-- Pack a magnitude below 10^15 and a sign nibble. -/
def decPack (m sign : Nat) : Nat :=
  sign + (List.range 15).foldl (fun r i => r + m / 10 ^ i % 10 * 16 ^ (i + 1)) 0

/-- Packed-decimal sum or difference of valid operands (R348). -/
def decAdd (sub : Bool) (a b : Nat) : Nat :=
  let r := if sub then decVal a - decVal b else decVal a + decVal b
  let mag := r.natAbs % 10 ^ 15
  let sign := if a % 16 = 0xF && b % 16 = 0xF && decide (0 ≤ r) then 0xF
    else if decide (r < 0) && mag != 0 then 0xD else 0xC
  decPack mag sign

/-! ## CRC-32C (R61) -/

/-- CRC-32C: polynomial 0x1EDC_6F41, reflected (R61). -/
def crc32c (bs : List Byte) : BitVec 32 :=
  ~~~ (bs.foldl (fun c b =>
    (List.range 8).foldl (fun (c : BitVec 32) (_ : Nat) =>
      if c.getLsbD 0 then (c >>> 1) ^^^ 0x82F63B78 else c >>> 1) (c ^^^ b.zeroExtend 32)) (BitVec.allOnes 32))

end Sys2Proof.Machine
end

