-- ==== Sys2Proof/Config.lean ====
section
/-! DEFINITION. What an implementation fixes and the free values: opaque constants that no proof can see through
(log entry 4). Each is applied to the counter State.freeCtr, which the step that draws a value advances. -/

namespace Sys2Proof.Config

/-- A 64-bit value that the spec leaves open: a salt of the device's random source (R108, R110), a random or
undefined register value. DESIGN CHOICE: log entry 4. -/
opaque freeWord : Nat → Word

/-- A bit that the spec leaves open: which of two permitted outcomes occurs. DESIGN CHOICE: log entry 4. -/
opaque freeBit : Nat → Bool

/-- A byte that the spec leaves open: an unspecified byte of memory. DESIGN CHOICE: log entry 4. -/
opaque freeByte : Nat → Byte

/-- The nine SEC-DED check bits of a matching-store entry with these 160 data bits (R102, R113): the spec gives no code.
DESIGN CHOICE: log entry 10. -/
opaque secded160 : Nat → BitVec 9

/-- Is byte `i` of a reset Shepherd workspace or a reset vector register this value: contents that the spec calls
undefined after the reset (Table 9.11). -/
opaque freeReset : Nat → Nat → Word

/-- Payload bits [63:0] of an EMIT or FAIL flit or of an event pulse, which Table 13.7 does not give. DESIGN CHOICE: log entry 4. -/
opaque freePayload : Nat → Word

/-- Byte of the boot ROM at an offset: contents that the spec does not give (R551). DESIGN CHOICE: log entry 4. -/
opaque romByte : Nat → Byte

end Sys2Proof.Config
end

