-- ==== Sys2Proof/Machine/Regs.lean ====
section
/-! DEFINITION. The register map of the control window: the page map (R557, Table 17.10), the access codes
(R15, Table 0.2), and one row per register with its fields, from the register tables of the chapters. -/

namespace Sys2Proof.Machine

/-- Block types (Table 17.10) and, as `hdr`, the header that every page begins with (R558). -/
inductive PKind | glb | tile | port | hub | noc | hbmc | shep | ken | bark | ret | dma | pwr | time | ledg | brc
  | pack | host | hdr
deriving DecidableEq, Repr

/-- Access codes (R15). -/
inductive Acc | ro | rw | w1c | w1s | wo | rc
deriving DecidableEq, Repr

/-- A field of a register: bits [hi:lo], its access code, its reset value, and the encodings that are not reserved
(`vmin` to `vmax` in steps of `step`; `vmax` 0 admits every value). -/
structure FieldDef where
  hi : Nat
  lo : Nat
  acc : Acc
  rst : Nat
  vmin : Nat := 0
  vmax : Nat := 0
  step : Nat := 1
deriving DecidableEq, Repr

/-- A register, or an array of `count` registers `stride` bytes apart, in pages `plo` to `phi` of a block. -/
structure RegDef where
  name : String
  blk : PKind
  plo : Nat
  phi : Nat
  off : Nat
  stride : Nat
  count : Nat
  fields : List FieldDef
deriving DecidableEq, Repr

/-- An RO field (R15). -/
def fRo (hi lo rst : Nat) : FieldDef := ⟨hi, lo, .ro, rst, 0, 0, 1⟩
/-- An RW field (R15). -/
def fRw (hi lo rst : Nat) : FieldDef := ⟨hi, lo, .rw, rst, 0, 0, 1⟩
/-- A W1C field (R15). -/
def fW1c (hi lo rst : Nat) : FieldDef := ⟨hi, lo, .w1c, rst, 0, 0, 1⟩
/-- A W1S field (R15). -/
def fW1s (hi lo rst : Nat) : FieldDef := ⟨hi, lo, .w1s, rst, 0, 0, 1⟩
/-- A WO field (R15). -/
def fWo (hi lo rst : Nat) : FieldDef := ⟨hi, lo, .wo, rst, 0, 0, 1⟩
/-- An RC field (R15). -/
def fRc (hi lo rst : Nat) : FieldDef := ⟨hi, lo, .rc, rst, 0, 0, 1⟩
/-- The field's encodings that are not reserved. -/
def FieldDef.in_ (f : FieldDef) (lo hi st : Nat) : FieldDef := { f with vmin := lo, vmax := hi, step := st }

/-- Registers of the TILE pages, part 1. -/
def regsTileA : List RegDef := [
  ⟨"TILE_LOAD_SRC", .tile, 0, 127, 0x100, 8, 1, [fRw 47 3 0]⟩,
  ⟨"TILE_LOAD_CTL", .tile, 0, 127, 0x108, 8, 1, [(fRw 14 0 0).in_ 0 16384 1, fRw 16 16 0, fWo 17 17 0]⟩,
  ⟨"TILE_LOAD_STAT", .tile, 0, 127, 0x110, 8, 1, [fRo 0 0 0, fRo 1 1 0, fRo 2 2 0, fRo 30 16 0, fRo 46 32 0]⟩,
  ⟨"TILE_FAULT_DEST", .tile, 0, 127, 0x118, 8, 1, [fRw 39 0 0, fRw 40 40 0]⟩,
  ⟨"TILE_CTX_TMPL", .tile, 0, 127, 0x120, 8, 1, [fRw 47 6 0, fRw 63 48 0]⟩,
  ⟨"TILE_MS_CTL", .tile, 0, 127, 0x128, 8, 1, [fRw 0 0 1, fRw 1 1 0, fWo 2 2 0, fRw 31 16 2048]⟩,
  ⟨"TILE_MS_SALT_NEXT", .tile, 0, 127, 0x130, 8, 1, [fRw 63 0 0]⟩,
  ⟨"TILE_MS_SALT_CUR", .tile, 0, 127, 0x138, 8, 1, [fRo 63 0 0]⟩,
  ⟨"TILE_MS_STAT", .tile, 0, 127, 0x140, 8, 1, [fRo 0 0 0, fRo 1 1 0, fRo 2 2 0, fRo 3 3 0, fRo 27 16 0, fRo 43 32 0]⟩,
  ⟨"TILE_MS_SPILL", .tile, 0, 127, 0x148, 8, 1, [fRw 0 0 0, (fRw 12 8 26).in_ 24 30 1, fRw 47 24 0]⟩,
  ⟨"TILE_MS_SPILL_SALT", .tile, 0, 127, 0x150, 8, 1, [fRo 63 0 0]⟩,
  ⟨"TILE_MS_OCC", .tile, 0, 127, 0x158, 8, 1, [fRo 15 0 0, fRo 26 16 0, fRo 57 32 0]⟩,
  ⟨"TILE_MS_EVT", .tile, 0, 127, 0x160, 8, 1, [fRc 15 0 0, fRc 31 16 0, fRc 47 32 0, fRc 63 48 0]⟩,
  ⟨"TILE_MS_WIN", .tile, 0, 127, 0x168, 8, 1, [fRc 31 0 0, fRo 47 32 0]⟩,
  ⟨"TILE_Q_CTL", .tile, 0, 127, 0x170, 8, 1, [fRw 15 0 500, fRw 31 16 100, fRw 55 32 4096]⟩,
  ⟨"TILE_Q_STAT", .tile, 0, 127, 0x178, 8, 1, [fRo 8 0 0, fRo 17 9 0, fRo 26 18 0, fRo 35 27 0, fRo 36 36 0, fRo 37 37 0, fRo 38 38 0, fRo 39 39 0]⟩,
  ⟨"TILE_Q_SPILL", .tile, 0, 127, 0x180, 8, 1, [fRo 25 0 0, fRo 55 32 0]⟩,
  ⟨"TILE_SEQ_STAT", .tile, 0, 127, 0x188, 8, 1, [fRo 10 0 0, fRc 31 16 0, fRc 47 32 0, fRc 63 48 0]⟩,
  ⟨"TILE_EXC_REC_LO", .tile, 0, 127, 0x190, 8, 1, [fRo 63 0 0]⟩,
  ⟨"TILE_EXC_REC_HI", .tile, 0, 127, 0x198, 8, 1, [fRo 63 0 0]⟩]

/-- Registers of the TILE pages, part 2. -/
def regsTileB : List RegDef := [
  ⟨"TILE_EXC_CTL", .tile, 0, 127, 0x1A0, 8, 1, [fWo 0 0 0, fRo 12 8 0, fRc 31 16 0]⟩,
  ⟨"TILE_ORD_MASK", .tile, 0, 127, 0x1A8, 8, 4, [fRw 63 0 0]⟩,
  ⟨"TILE_FENCE", .tile, 0, 127, 0x1C8, 8, 1, [fW1s 0 0 0, fRw 15 8 0]⟩,
  ⟨"TILE_DIVERT", .tile, 0, 127, 0x1D0, 8, 1, [fRc 31 0 0, fRc 63 32 0]⟩,
  ⟨"TILE_FAB_EVT", .tile, 0, 127, 0x1F0, 8, 1, [fRc 15 0 0, fRc 31 16 0, fRc 47 32 0]⟩,
  ⟨"TILE_EMIT_MAP0", .tile, 0, 127, 0x1D8, 8, 1, [(fRw 4 0 0).in_ 0 23 1, fRw 5 5 0, (fRw 10 6 0).in_ 0 23 1, fRw 11 11 0, (fRw 16 12 0).in_ 0 23 1, fRw 17 17 0, (fRw 22 18 0).in_ 0 23 1, fRw 23 23 0, (fRw 28 24 0).in_ 0 23 1, fRw 29 29 0, (fRw 34 30 0).in_ 0 23 1, fRw 35 35 0, (fRw 40 36 0).in_ 0 23 1, fRw 41 41 0, (fRw 46 42 0).in_ 0 23 1, fRw 47 47 0]⟩,
  ⟨"TILE_EMIT_MAP1", .tile, 0, 127, 0x1E0, 8, 1, [(fRw 4 0 0).in_ 0 23 1, fRw 5 5 0, (fRw 10 6 0).in_ 0 23 1, fRw 11 11 0, (fRw 16 12 0).in_ 0 23 1, fRw 17 17 0, (fRw 22 18 0).in_ 0 23 1, fRw 23 23 0, (fRw 28 24 0).in_ 0 23 1, fRw 29 29 0, (fRw 34 30 0).in_ 0 23 1, fRw 35 35 0, (fRw 40 36 0).in_ 0 23 1, fRw 41 41 0, (fRw 46 42 0).in_ 0 23 1, fRw 47 47 0]⟩,
  ⟨"TILE_EMIT_MAP2", .tile, 0, 127, 0x1E8, 8, 1, [(fRw 4 0 0).in_ 0 23 1, fRw 5 5 0, (fRw 10 6 0).in_ 0 23 1, fRw 11 11 0, (fRw 16 12 0).in_ 0 23 1, fRw 17 17 0, (fRw 22 18 0).in_ 0 23 1, fRw 23 23 0, (fRw 28 24 0).in_ 0 23 1, fRw 29 29 0, (fRw 34 30 0).in_ 0 23 1, fRw 35 35 0, (fRw 40 36 0).in_ 0 23 1, fRw 41 41 0, (fRw 46 42 0).in_ 0 23 1, fRw 47 47 0, fRc 63 48 0]⟩]

/-- Registers of the TILE pages. -/
def regsTile : List RegDef := regsTileA ++ regsTileB

/-- Registers of the GLB pages. -/
def regsGlb : List RegDef := [
  ⟨"GLB_QM_CTL", .glb, 0, 0, 0x300, 8, 1, [fRw 0 0 1]⟩,
  ⟨"GLB_QM_RING", .glb, 0, 0, 0x308, 8, 1, [(fRw 4 0 8).in_ 4 16 1, fRw 47 9 0]⟩,
  ⟨"GLB_QM_PROD", .glb, 0, 0, 0x310, 8, 1, [fRo 31 0 0]⟩,
  ⟨"GLB_QM_CONS", .glb, 0, 0, 0x318, 8, 1, [fRw 31 0 0]⟩,
  ⟨"GLB_QM_STAT", .glb, 0, 0, 0x320, 8, 1, [fRo 0 0 0, fRo 32 16 0]⟩,
  ⟨"GLB_QM_ABORT", .glb, 0, 0, 0x328, 8, 1, [fWo 15 0 0, fWo 31 16 0]⟩,
  ⟨"GLB_SAFE", .glb, 0, 0, 0x380, 8, 1, [fRw 15 0 0, fRo 16 16 0, fRo 31 20 0, fRc 47 32 0]⟩,
  ⟨"GLB_SAFE_TIME", .glb, 0, 0, 0x388, 8, 1, [fRo 63 0 0]⟩,
  ⟨"GLB_RST", .glb, 0, 0, 0x100, 8, 1, [fWo 0 0 0, fWo 31 16 0]⟩,
  ⟨"GLB_FABRIC", .glb, 0, 0, 0x108, 8, 1, [fRw 0 0 0]⟩,
  ⟨"GLB_CTX_TABLE", .glb, 0, 0, 0x110, 8, 1, [fRw 47 22 0]⟩,
  ⟨"GLB_CTX_FREE", .glb, 0, 0, 0x118, 8, 1, [fRo 16 0 65535, fRo 40 32 0, fRc 63 48 0]⟩,
  ⟨"GLB_SERIAL", .glb, 0, 0, 0x120, 8, 1, [fRo 63 0 0]⟩,
  ⟨"GLB_BOOT", .glb, 0, 0, 0x128, 8, 1, [fRo 1 0 3, fRo 2 2 0, fRo 7 4 0, fRo 9 8 0, fRo 11 10 0, fRo 12 12 0, fRo 13 13 1, fW1s 14 14 0, fRo 47 16 0]⟩,
  ⟨"GLB_FUSE", .glb, 0, 0, 0x130, 8, 1, [fRo 6 0 0, fRo 11 8 0, fRo 15 12 0, fRo 16 16 0]⟩]

/-- Registers of the HUB pages. -/
def regsHub : List RegDef := [
  ⟨"HUB_STRM_CTL", .hub, 0, 23, 0x100, 8, 1, [fRw 0 0 0, (fRw 2 1 0).in_ 0 1 1, fRw 3 3 0, fRw 4 4 0, fRw 5 5 0, fRw 13 8 0]⟩,
  ⟨"HUB_STRM_SRC", .hub, 0, 23, 0x108, 8, 1, [fRw 47 12 0]⟩,
  ⟨"HUB_STRM_COUNT", .hub, 0, 23, 0x110, 8, 1, [fRw 63 0 0]⟩,
  ⟨"HUB_STRM_CTX", .hub, 0, 23, 0x118, 8, 1, [fRw 15 0 0, fRw 47 24 0]⟩,
  ⟨"HUB_STRM_STAT", .hub, 0, 23, 0x120, 8, 1, [fRo 2 0 0, fRo 3 3 0, fRo 20 8 0]⟩,
  ⟨"HUB_STRM_INDEX", .hub, 0, 23, 0x128, 8, 1, [fRo 63 0 0]⟩,
  ⟨"HUB_STRM_EVT", .hub, 0, 23, 0x130, 8, 1, [fRc 15 0 0, fRc 31 16 0, fRc 47 32 0, fRc 63 48 0]⟩,
  ⟨"HUB_PLT_CTL", .hub, 0, 23, 0x140, 64, 4, [(fRw 4 0 0).in_ 0 23 1, fRw 5 5 0, fRw 6 6 0, (fRw 21 8 4096).in_ 1 8192 1, fRw 28 24 0, (fRw 35 32 0).in_ 0 12 1]⟩,
  ⟨"HUB_PLT_BG", .hub, 0, 23, 0x148, 64, 4, [fRw 31 0 0, fRw 63 32 0]⟩,
  ⟨"HUB_PLT_CMASK", .hub, 0, 23, 0x150, 64, 4, [fRw 31 0 0]⟩,
  ⟨"HUB_PLT_SCR", .hub, 0, 23, 0x158, 64, 4, [fRw 11 0 0, fRw 27 16 0, fWo 31 31 0]⟩,
  ⟨"HUB_PLT_STAT", .hub, 0, 23, 0x160, 64, 4, [fRo 13 0 0, fRo 18 16 0, fRo 19 19 0, fRo 23 20 0, fRc 63 32 0]⟩,
  ⟨"HUB_PLT_UR_IDX", .hub, 0, 23, 0x168, 64, 4, [fRo 63 0 18446744073709551615]⟩,
  ⟨"HUB_PLT_CONS", .hub, 0, 23, 0x170, 64, 4, [fRo 63 0 18446744073709551615]⟩,
  ⟨"HUB_LNK_SPARE", .hub, 0, 23, 0x240, 8, 1, [fRw 6 0 127, fRw 7 7 1, fRw 9 8 0, fWo 10 10 0, fRo 14 12 0, fRo 17 16 0]⟩]

/-- Registers of the PORT pages, part 1. -/
def regsPortA : List RegDef := [
  ⟨"PORT_FAIL_CTL", .port, 0, 95, 0x800, 8, 1, [fRw 0 0 0, fRw 1 1 0]⟩,
  ⟨"PORT_FAIL_CTX", .port, 0, 95, 0x808, 8, 1, [fRw 15 0 0]⟩,
  ⟨"PORT_FAIL_STAT", .port, 0, 95, 0x810, 8, 1, [fRo 0 0 0, fRo 1 1 0, fRo 15 8 0, fRo 28 16 0]⟩,
  ⟨"PORT_FAIL_CNT0", .port, 0, 95, 0x818, 8, 1, [fRc 31 0 0, fRc 63 32 0]⟩,
  ⟨"PORT_FAIL_CNT1", .port, 0, 95, 0x820, 8, 1, [fRc 15 0 0, fRc 31 16 0, fRc 47 32 0, fRc 63 48 0]⟩,
  ⟨"PORT_FAIL_CNT2", .port, 0, 95, 0x828, 8, 1, [fRc 31 0 0, fRc 63 32 0]⟩,
  ⟨"PORT_FAIL_LOG", .port, 0, 95, 0x830, 8, 1, [(fRw 4 0 8).in_ 4 16 1, fRw 47 9 0]⟩,
  ⟨"PORT_FAIL_LOG_PROD", .port, 0, 95, 0x838, 8, 1, [fRo 31 0 0]⟩,
  ⟨"PORT_FAIL_LOG_CONS", .port, 0, 95, 0x840, 8, 1, [fRw 31 0 0]⟩,
  ⟨"PORT_FAIL_GRP_MAP", .port, 0, 95, 0x880, 16, 8, [fRw 0 0 0, fRw 5 1 0, (fRw 10 6 0).in_ 0 16 1, fRw 18 11 0, fRw 27 19 0, fRw 33 28 0, (fRw 36 34 0).in_ 0 6 1, fRw 42 37 0, (fRw 47 43 0).in_ 0 18 1, fRw 53 48 0, (fRw 57 54 0).in_ 0 12 1]⟩,
  ⟨"PORT_FAIL_GRP_NODE", .port, 0, 95, 0x888, 16, 8, [fRw 39 0 0]⟩,
  ⟨"PORT_CWIN_CTL", .port, 0, 95, 0x900, 24, 4, [fRw 0 0 0, fRw 1 1 0, fRw 2 2 0]⟩,
  ⟨"PORT_CWIN_START", .port, 0, 95, 0x908, 24, 4, [fRw 63 0 0]⟩,
  ⟨"PORT_CWIN_END", .port, 0, 95, 0x910, 24, 4, [fRw 63 0 0]⟩,
  ⟨"PORT_LNK_CTL", .port, 0, 95, 0x100, 8, 1, [fRw 0 0 0, fRw 1 1 0, fRw 2 2 0, fWo 3 3 0, (fRw 17 8 128).in_ 16 1023 1, (fRw 47 32 10).in_ 1 65535 1]⟩,
  ⟨"PORT_LNK_STAT", .port, 0, 95, 0x108, 8, 1, [fRo 2 0 0, fRo 3 3 0, fRo 7 4 0, fRo 8 8 0, fRo 9 9 0, fRo 10 10 0, fRo 11 11 0, fRo 31 16 0, fRo 47 32 0]⟩,
  ⟨"PORT_LNK_PEER", .port, 0, 95, 0x110, 8, 1, [fRo 63 0 0]⟩,
  ⟨"PORT_LNK_PEERINFO", .port, 0, 95, 0x118, 8, 1, [fRo 0 0 0, fRo 1 1 0, fRo 31 8 0]⟩,
  ⟨"PORT_LNK_CRED", .port, 0, 95, 0x120, 8, 1, [fRo 63 0 0]⟩,
  ⟨"PORT_LNK_SENT", .port, 0, 95, 0x128, 8, 1, [fRo 63 0 0]⟩]

/-- Registers of the PORT pages, part 2. -/
def regsPortB : List RegDef := [
  ⟨"PORT_LNK_FCRED", .port, 0, 95, 0x130, 8, 1, [fRo 31 0 0, fRo 63 32 0]⟩,
  ⟨"PORT_LNK_ERR", .port, 0, 95, 0x138, 8, 1, [fRc 15 0 0, fRc 31 16 0, fRc 47 32 0, fRc 63 48 0]⟩,
  ⟨"PORT_LNK_CORR", .port, 0, 95, 0x140, 8, 1, [fRc 15 0 0, fRc 31 16 0, fRc 47 32 0, fRc 63 48 0]⟩,
  ⟨"PORT_LNK_SB", .port, 0, 95, 0x148, 8, 1, [fRo 4 0 0, fRc 31 16 0, fRc 47 32 0, fRc 63 48 0]⟩,
  ⟨"PORT_LNK_TRAIN", .port, 0, 95, 0x150, 8, 1, [fRc 15 0 0, fRc 31 16 0, fRo 39 32 0]⟩,
  ⟨"PORT_LNK_SWITCH", .port, 0, 95, 0x158, 8, 1, [fRw 15 0 1, fWo 16 16 0]⟩]

/-- Registers of the PORT pages. -/
def regsPort : List RegDef := regsPortA ++ regsPortB

/-- Registers of the RET pages. -/
def regsRet : List RegDef := [
  ⟨"RET_SC_CTL", .ret, 0, 63, 0x100, 8, 1, [fW1s 0 0 0, fRw 1 1 1, fRw 2 2 0, fWo 3 3 0, fRw 4 4 0, (fRw 48 32 65536).in_ 0 65536 1]⟩,
  ⟨"RET_SC_SRING", .ret, 0, 63, 0x108, 8, 1, [(fRw 4 0 8).in_ 4 16 1, fRw 47 8 0]⟩,
  ⟨"RET_SC_SPROD", .ret, 0, 63, 0x110, 8, 1, [fRw 31 0 0]⟩,
  ⟨"RET_SC_SCONS", .ret, 0, 63, 0x118, 8, 1, [fRo 31 0 0]⟩,
  ⟨"RET_SC_CRING", .ret, 0, 63, 0x120, 8, 1, [(fRw 4 0 8).in_ 4 16 1, fRw 47 9 0]⟩,
  ⟨"RET_SC_CPROD", .ret, 0, 63, 0x128, 8, 1, [fRo 31 0 0]⟩,
  ⟨"RET_SC_CCONS", .ret, 0, 63, 0x130, 8, 1, [fRw 31 0 0]⟩,
  ⟨"RET_SC_STAT", .ret, 0, 63, 0x138, 8, 1, [fRo 2 0 0, fRo 3 3 0, fRo 4 4 0, fRo 5 5 0, fRo 14 8 0]⟩,
  ⟨"RET_SC_CCW", .ret, 0, 63, 0x140, 8, 1, [fRo 47 0 0]⟩,
  ⟨"RET_SC_CNT", .ret, 0, 63, 0x148, 8, 1, [fRc 15 0 0, fRc 31 16 0, fRc 47 32 0, fRc 63 48 0]⟩,
  ⟨"RET_SC_EVPEND", .ret, 0, 63, 0x150, 8, 1, [fRo 63 0 0]⟩,
  ⟨"RET_SC_LEVPEND", .ret, 0, 63, 0x158, 8, 1, [fRo 35 0 0]⟩,
  ⟨"RET_ENG_CTL", .ret, 0, 0, 0x800, 8, 1, [fRw 0 0 0]⟩,
  ⟨"RET_ENG_SPI", .ret, 0, 0, 0x808, 8, 1, [(fRw 7 0 4).in_ 1 255 1, (fRw 23 16 4).in_ 1 255 1, (fRw 39 32 4).in_ 1 255 1, (fRw 55 48 4).in_ 1 255 1, fRw 9 8 0, fRw 25 24 0, fRw 41 40 0, fRw 57 56 0]⟩,
  ⟨"RET_EMERG_CHAIN", .ret, 0, 0, 0x810, 8, 1, [fRw 47 0 0]⟩,
  ⟨"RET_EMERG_CTL", .ret, 0, 0, 0x818, 8, 1, [fRw 5 0 63, fRw 8 8 0, fRo 9 9 0, fRo 10 10 0, fRo 11 11 0, fRc 47 32 0]⟩]

/-- Registers of the SHEP pages. -/
def regsShep : List RegDef := [
  ⟨"SHEP_CORE_CTL", .shep, 0, 15, 0x100, 8, 1, [fWo 0 0 0]⟩,
  ⟨"SHEP_START_PC", .shep, 0, 15, 0x108, 8, 1, [fRw 47 0 0]⟩,
  ⟨"SHEP_CORE_STAT", .shep, 0, 15, 0x110, 8, 1, [fRo 2 0 0, fRo 3 3 0, fRo 4 4 1, fRc 31 16 0, fRc 63 32 0]⟩,
  ⟨"SHEP_PC", .shep, 0, 15, 0x118, 8, 1, [fRo 47 0 0]⟩,
  ⟨"SHEP_WDOG", .shep, 0, 15, 0x120, 8, 1, [fRw 0 0 0, fRw 1 1 0, fRw 2 2 0, (fRw 47 16 1000).in_ 1 4294967295 1]⟩,
  ⟨"SHEP_WDOG_STAT", .shep, 0, 15, 0x128, 8, 1, [fRo 0 0 0, fRo 47 16 0, fRc 63 48 0]⟩]

/-- Registers of the KEN pages. -/
def regsKen : List RegDef := [
  ⟨"KEN_CTL", .ken, 0, 0, 0x100, 8, 1, [fRw 0 0 0, fRw 1 1 1, fRw 2 2 0]⟩,
  ⟨"KEN_STORE", .ken, 0, 0, 0x108, 8, 1, [fRw 47 21 0]⟩,
  ⟨"KEN_STAT", .ken, 0, 0, 0x110, 8, 1, [fRo 16 0 65536, fRo 48 32 0]⟩,
  ⟨"KEN_MBOX", .ken, 0, 0, 0x118, 8, 1, [fRw 47 10 0]⟩,
  ⟨"KEN_THR", .ken, 0, 0, 0x120, 8, 1, [fRw 47 13 0]⟩,
  ⟨"KEN_CDONE", .ken, 0, 0, 0x128, 8, 1, [(fWo 1 0 0).in_ 0 1 1]⟩,
  ⟨"KEN_THR_CMD", .ken, 0, 0, 0x130, 8, 1, [fWo 7 0 0, fWo 11 8 0, fWo 17 12 0]⟩,
  ⟨"KEN_EVT", .ken, 0, 0, 0x138, 8, 1, [fRc 31 0 0, fRc 63 32 0]⟩,
  ⟨"KEN_FLOW_SEL", .ken, 0, 0, 0x140, 8, 1, [fRw 11 0 0]⟩,
  ⟨"KEN_FLOW_STAT", .ken, 0, 0, 0x148, 8, 1, [fRo 15 0 0, fRo 31 16 0, fRo 40 32 0]⟩,
  ⟨"KEN_TRACE_RING", .ken, 0, 0, 0x150, 8, 1, [(fRw 4 0 8).in_ 4 16 1, fRw 47 9 0]⟩,
  ⟨"KEN_TRACE_PROD", .ken, 0, 0, 0x158, 8, 1, [fRo 31 0 0]⟩,
  ⟨"KEN_TRACE_CONS", .ken, 0, 0, 0x160, 8, 1, [fRw 31 0 0]⟩,
  ⟨"KEN_TRACE_CTL", .ken, 0, 0, 0x168, 8, 1, [fRw 15 0 65535, fRc 63 32 0]⟩,
  ⟨"KEN_CORE_CTL", .ken, 0, 0, 0x180, 8, 16, [fRw 0 0 0, fRw 1 1 0]⟩,
  ⟨"KEN_CORE_STAT", .ken, 0, 0, 0x200, 8, 16, [fRo 1 0 0, fRo 7 2 0, fRo 15 8 0, fRo 31 16 0]⟩,
  ⟨"KEN_RING_CFG", .ken, 1, 8, 0x800, 64, 32, [(fRw 4 0 8).in_ 4 16 1, fRw 5 5 0, fRw 6 6 0, fRw 47 9 0]⟩,
  ⟨"KEN_RING_PROD", .ken, 1, 8, 0x808, 64, 32, [fRw 31 0 0]⟩,
  ⟨"KEN_RING_CONS", .ken, 1, 8, 0x810, 64, 32, [fRw 31 0 0]⟩,
  ⟨"KEN_RING_STAT", .ken, 1, 8, 0x818, 64, 32, [fRo 6 0 0, fRo 7 7 0, fRo 8 8 0, fRc 31 16 0, fRc 47 32 0, fRc 63 48 0]⟩]

/-- Registers of the BARK pages. -/
def regsBark : List RegDef := [
  ⟨"BARK_CTL", .bark, 0, 0, 0x100, 8, 1, [fRw 0 0 0]⟩,
  ⟨"BARK_VEC", .bark, 0, 0, 0x108, 8, 1, [fRw 47 14 0]⟩,
  ⟨"BARK_SWSET", .bark, 0, 0, 0x110, 8, 1, [fWo 5 0 0]⟩,
  ⟨"BARK_THRESH", .bark, 0, 0, 0x180, 8, 16, [fRw 3 0 0]⟩,
  ⟨"BARK_CUR", .bark, 0, 0, 0x200, 8, 16, [fRo 10 0 0, fRo 15 12 0, fRo 23 16 0]⟩,
  ⟨"BARK_SRC", .bark, 1, 8, 0x800, 8, 256, [fRw 3 0 0, fRw 7 4 0, fRw 8 8 0, fRo 9 9 0, fRo 10 10 0, fRo 23 16 0, fWo 24 24 0]⟩]

/-- Registers of the HBMC pages. -/
def regsHbmc : List RegDef := [
  ⟨"HBMC_SEM_CTL", .hbmc, 0, 4, 0x800, 8, 1, [(fRw 15 0 1000).in_ 1 65535 1]⟩,
  ⟨"HBMC_SEM_STAT", .hbmc, 0, 4, 0x808, 8, 1, [fRo 12 0 0, fRo 28 16 0, fRo 43 32 0]⟩,
  ⟨"HBMC_SEM_EVT", .hbmc, 0, 4, 0x810, 8, 1, [fRc 15 0 0, fRc 31 16 0, fRc 47 32 0, fRc 63 48 0]⟩,
  ⟨"HBMC_SEM_EVT2", .hbmc, 0, 4, 0x818, 8, 1, [fRc 15 0 0, fRc 31 16 0]⟩,
  ⟨"HBMC_CTL", .hbmc, 0, 3, 0x100, 8, 1, [fRw 0 0 1, fRw 1 1 1, (fRw 15 8 24).in_ 1 255 1]⟩,
  ⟨"HBMC_STAT", .hbmc, 0, 3, 0x108, 8, 1, [fRo 0 0 0, fRo 1 1 0, fRo 2 2 0, fRo 3 3 0, fRo 28 16 0]⟩,
  ⟨"HBMC_ECC_CNT", .hbmc, 0, 3, 0x110, 8, 1, [fRc 15 0 0, fRc 31 16 0, fRc 47 32 0, fRc 63 48 0]⟩,
  ⟨"HBMC_ECC_LAST", .hbmc, 0, 3, 0x118, 8, 1, [fRo 47 0 0, fRo 48 48 0]⟩,
  ⟨"HBMC_RET_CTL", .hbmc, 0, 3, 0x120, 8, 1, [(fRw 7 0 4).in_ 1 255 1, (fRw 31 16 1000).in_ 1 65535 1]⟩,
  ⟨"HBMC_RET_ADD", .hbmc, 0, 3, 0x128, 8, 1, [fWo 0 0 0, fRw 34 12 0]⟩,
  ⟨"HBMC_RET_IDX", .hbmc, 0, 3, 0x130, 8, 1, [fRw 11 0 0]⟩,
  ⟨"HBMC_RET_ENTRY", .hbmc, 0, 3, 0x138, 8, 1, [fRo 0 0 0, fRo 1 1 0, fRo 34 12 0, fRc 63 48 0]⟩]

/-- Registers of the DMA pages. -/
def regsDma : List RegDef := [
  ⟨"DMA_CTL", .dma, 0, 31, 0x100, 8, 1, [fRw 0 0 0]⟩,
  ⟨"DMA_RING", .dma, 0, 31, 0x108, 8, 1, [(fRw 4 0 8).in_ 4 16 1, fRw 47 9 0]⟩,
  ⟨"DMA_PROD", .dma, 0, 31, 0x110, 8, 1, [fRw 31 0 0]⟩,
  ⟨"DMA_CONS", .dma, 0, 31, 0x118, 8, 1, [fRo 31 0 0]⟩,
  ⟨"DMA_STAT", .dma, 0, 31, 0x120, 8, 1, [fRo 0 0 0, fRo 1 1 0]⟩,
  ⟨"DMA_CNT", .dma, 0, 31, 0x128, 8, 1, [fRc 15 0 0, fRc 31 16 0, fRc 47 32 0, fRc 63 48 0]⟩,
  ⟨"DMA_EVPEND", .dma, 0, 31, 0x130, 8, 1, [fRo 63 0 0]⟩]

/-- Registers of the NOC pages. -/
def regsNoc : List RegDef := [
  ⟨"NOC_RTR_CTL", .noc, 0, 159, 0x100, 8, 1, [fRw 4 0 0]⟩,
  ⟨"NOC_RTR_FAULT_DEST", .noc, 0, 159, 0x108, 8, 1, [fRw 39 0 0, fRw 40 40 0]⟩,
  ⟨"NOC_RTR_EVT", .noc, 0, 159, 0x110, 8, 1, [fRc 15 0 0, fRc 31 16 0, fRc 47 32 0, fRc 63 48 0]⟩,
  ⟨"NOC_NI_CTL", .noc, 0, 159, 0x118, 8, 1, [fRo 0 0 0, fW1s 1 1 0]⟩,
  ⟨"NOC_RT_SEL", .noc, 0, 159, 0x120, 8, 1, [fRw 7 0 0, fRw 8 8 0]⟩,
  ⟨"NOC_RT_DATA", .noc, 0, 159, 0x128, 8, 1, [fRw 47 0 0, fRw 48 48 0]⟩,
  ⟨"NOC_NI_EVT", .noc, 0, 159, 0x130, 8, 1, [fRc 15 0 0, fRc 31 16 0, fRc 47 32 0, fRc 63 48 0]⟩,
  ⟨"NOC_NI_EVT2", .noc, 0, 159, 0x138, 8, 1, [fRc 31 0 0]⟩,
  ⟨"NOC_FENCE", .noc, 0, 0, 0x180, 8, 1, [fWo 0 0 0, fRw 1 1 0, fRo 2 2 0, fRo 3 3 0]⟩,
  ⟨"NOC_FENCE_STAT", .noc, 0, 0, 0x188, 8, 1, [fRo 15 0 0, fRo 31 16 0]⟩,
  ⟨"NOC_PRB_CTL", .noc, 0, 31, 0x800, 8, 1, [fRw 0 0 0, fRw 1 1 0, (fRw 9 2 0).in_ 0 159 1, (fRw 12 10 0).in_ 0 4 1, fRw 13 13 0, fRw 18 14 31, fRw 22 19 0]⟩,
  ⟨"NOC_PRB_MATCH", .noc, 0, 31, 0x808, 8, 1, [fRw 7 0 0, fRw 15 8 0, fRw 23 16 0, fRw 31 24 0, fRw 36 32 0, fRw 41 37 0]⟩,
  ⟨"NOC_PRB_COUNT", .noc, 0, 31, 0x810, 8, 1, [fRc 47 0 0, fRc 63 48 0]⟩,
  ⟨"NOC_PRB_RING", .noc, 0, 31, 0x818, 8, 1, [(fRw 4 0 8).in_ 4 16 1, fRw 47 9 0]⟩,
  ⟨"NOC_PRB_PROD", .noc, 0, 31, 0x820, 8, 1, [fRo 31 0 0]⟩,
  ⟨"NOC_PRB_CONS", .noc, 0, 31, 0x828, 8, 1, [fRw 31 0 0]⟩]

/-- Registers of the PWR pages. -/
def regsPwr : List RegDef := [
  ⟨"PWR_CTL", .pwr, 0, 0, 0x100, 8, 1, [fRw 0 0 1, fRw 1 1 1]⟩,
  ⟨"PWR_GOV", .pwr, 0, 0, 0x108, 8, 1, [fRw 13 0 2048, fRw 29 16 6144, (fRw 37 32 10).in_ 5 50 5, (fRw 48 40 128).in_ 1 256 1]⟩,
  ⟨"PWR_VLIM", .pwr, 0, 0, 0x110, 8, 1, [(fRw 9 0 600).in_ 600 750 5, (fRw 25 16 800).in_ 600 950 5]⟩,
  ⟨"PWR_CAP", .pwr, 0, 0, 0x118, 8, 1, [(fRw 8 0 450).in_ 100 450 1]⟩,
  ⟨"PWR_CAP_STAT", .pwr, 0, 0, 0x120, 8, 1, [fRo 23 0 0, fRo 24 24 0, fRo 25 25 0, fRo 47 32 0, fRc 63 48 0]⟩,
  ⟨"PWR_THERM", .pwr, 0, 0, 0x128, 8, 1, [(fRw 7 0 105).in_ 60 120 1, (fRw 15 8 115).in_ 106 120 1, fRo 27 16 0, fRo 39 32 0]⟩,
  ⟨"PWR_STAT", .pwr, 0, 0, 0x130, 8, 1, [fRo 0 0 0, fRo 15 8 0, fRo 31 16 0, fRc 63 32 0]⟩,
  ⟨"PWR_DOM", .pwr, 0, 0, 0x800, 8, 176, [(fRw 1 0 0).in_ 0 2 1, fRo 4 2 0, fRw 5 5 0, (fRw 25 16 800).in_ 600 950 5, fRo 41 32 800, fRc 63 48 0]⟩,
  ⟨"PWR_TILE_MAP", .pwr, 1, 1, 0x800, 8, 128, [fRw 23 0 0, fRw 27 24 0]⟩]

/-- Registers of the TIME pages. -/
def regsTime : List RegDef := [
  ⟨"TIME_NOW", .time, 0, 0, 0x100, 8, 1, [fRo 63 0 0]⟩,
  ⟨"TIME_CTL", .time, 0, 0, 0x108, 8, 1, [(fRw 1 0 0).in_ 0 2 1, fW1s 2 2 0]⟩,
  ⟨"TIME_LOAD", .time, 0, 0, 0x110, 8, 1, [fRw 63 0 0]⟩,
  ⟨"TIME_STAT", .time, 0, 0, 0x118, 8, 1, [fRo 0 0 0, fRo 1 1 0, fRo 2 2 0, fRo 31 16 0, fRc 47 32 0, fRc 63 48 0]⟩,
  ⟨"GAUGE_SEL", .time, 0, 0, 0x800, 8, 1, [fRw 7 0 0]⟩,
  ⟨"GAUGE_SNAP", .time, 0, 0, 0x808, 8, 1, [fRc 47 0 0]⟩,
  ⟨"GAUGE_SNAP_MINMAX", .time, 0, 0, 0x810, 8, 1, [fRo 31 0 4294967295, fRo 63 32 0]⟩,
  ⟨"GAUGE_SNAP_HIST", .time, 0, 0, 0x880, 8, 16, [fRo 31 0 0, fRo 63 32 0]⟩,
  ⟨"GAUGE_CFG", .time, 1, 2, 0x800, 8, 128, [fRw 15 0 0, fRw 20 16 0]⟩]

/-- Registers of the BRC pages. -/
def regsBrc : List RegDef := [
  ⟨"BRC_CTL", .brc, 0, 0, 0x100, 8, 1, [fRw 0 0 0, fRw 1 1 0, fRw 2 2 1, fRw 3 3 1, (fRw 11 8 4).in_ 1 15 1]⟩,
  ⟨"BRC_CMD", .brc, 0, 0, 0x108, 8, 1, [(fWo 2 0 0).in_ 1 4 1]⟩,
  ⟨"BRC_STAT", .brc, 0, 0, 0x110, 8, 1, [fRo 2 0 0, fRo 3 3 0, fRo 5 4 0, fRo 6 6 0, fRo 31 16 1, fRo 63 32 0]⟩,
  ⟨"BRC_TWIN", .brc, 0, 0, 0x118, 8, 1, [fRo 63 0 0]⟩,
  ⟨"BRC_EPOCH", .brc, 0, 0, 0x120, 8, 1, [(fRw 5 0 10).in_ 2 50 1, (fRw 10 8 2).in_ 1 5 1]⟩,
  ⟨"BRC_TAKE_TIME", .brc, 0, 0, 0x128, 8, 1, [fRo 63 0 0]⟩,
  ⟨"BRC_MIR", .brc, 0, 0, 0x140, 8, 8, [fRw 11 0 0, fRw 47 20 0]⟩,
  ⟨"BRC_DIGEST_MASK", .brc, 0, 0, 0x180, 8, 4, [fRw 63 0 0]⟩,
  ⟨"BRC_SEAL_VAL", .brc, 0, 0, 0x1A0, 8, 1, [fRw 63 0 0]⟩,
  ⟨"BRC_SEAL", .brc, 0, 0, 0x1A8, 8, 1, [fWo 15 0 0, fWo 23 16 0, fWo 55 24 0, fWo 63 63 0]⟩,
  ⟨"BRC_DIG_STAT", .brc, 0, 0, 0x1B0, 8, 1, [fRo 10 0 0, fRc 31 16 0, fRc 47 32 0, fRc 63 48 0]⟩,
  ⟨"BRC_DIV", .brc, 0, 0, 0x1B8, 8, 1, [fRo 31 0 0, fRo 32 32 0, fW1c 63 63 0]⟩,
  ⟨"BRC_EVT", .brc, 0, 0, 0x1C0, 8, 1, [fRc 15 0 0, fRc 31 16 0, fRc 47 32 0, fRc 63 48 0]⟩]

/-- Registers of the PACK pages. -/
def regsPack : List RegDef := [
  ⟨"PACK_CTL", .pack, 0, 0, 0x100, 8, 1, [fRw 9 0 0, (fRw 11 10 0).in_ 0 2 1, fRw 23 16 0, fRw 35 26 0, fRw 36 36 0]⟩,
  ⟨"PACK_TREE", .pack, 0, 0, 0x108, 8, 1, [fRw 6 0 127, fRw 14 8 127]⟩,
  ⟨"PACK_CHILD_LO", .pack, 0, 0, 0x110, 8, 1, [fRw 63 0 0]⟩,
  ⟨"PACK_CHILD_HI", .pack, 0, 0, 0x118, 8, 1, [fRw 31 0 0]⟩,
  ⟨"PACK_RT_SEL", .pack, 0, 0, 0x120, 8, 1, [fRw 9 0 0]⟩,
  ⟨"PACK_RT_DATA", .pack, 0, 0, 0x128, 8, 1, [fRw 6 0 0, fRw 7 7 0]⟩,
  ⟨"PACK_BCAST_ADDR", .pack, 0, 0, 0x130, 8, 1, [fRw 23 0 0]⟩,
  ⟨"PACK_BCAST_DATA", .pack, 0, 0, 0x138, 8, 1, [fRw 63 0 0]⟩,
  ⟨"PACK_BCAST_CTL", .pack, 0, 0, 0x140, 8, 1, [fWo 0 0 0, fRo 1 1 0, fRo 2 2 0, fRo 3 3 0]⟩,
  ⟨"PACK_BAR_SKEW", .pack, 0, 0, 0x148, 8, 1, [(fRw 15 0 2000).in_ 100 65535 1]⟩,
  ⟨"PACK_LEAD", .pack, 0, 0, 0x150, 8, 1, [fRo 9 0 0, fRo 31 16 0, fRc 47 32 0]⟩,
  ⟨"PACK_EVT", .pack, 0, 0, 0x158, 8, 1, [fRc 15 0 0, fRc 31 16 0, fRc 47 32 0, fRc 63 48 0]⟩,
  ⟨"PACK_MSG_CTL", .pack, 0, 0, 0x160, 8, 1, [fRw 9 0 0, fWo 16 16 0, fRo 17 17 0, fRo 18 18 0]⟩,
  ⟨"PACK_MSG_W", .pack, 0, 0, 0x168, 8, 4, [fRw 63 0 0]⟩,
  ⟨"PACK_BAR", .pack, 0, 0, 0x1C0, 8, 16, [fRw 5 0 0, fRw 6 6 0, fWo 7 7 0, fRo 8 8 0, fRo 23 16 0]⟩]

/-- Registers of the common header of all pages. -/
def regsHdr : List RegDef := [
  ⟨"PG_ERR_STAT", .hdr, 0, 0, 0x20, 8, 1, [fW1c 4 0 0, fRo 12 8 0, fRc 63 32 0]⟩,
  ⟨"PG_ERR_EN", .hdr, 0, 0, 0x28, 8, 1, [fRw 4 0 31, (fRw 9 8 3).in_ 1 3 1]⟩,
  ⟨"PG_ERR_INJ", .hdr, 0, 0, 0x30, 8, 1, [fRw 3 0 0, fRw 4 4 0, fRw 13 5 0, fRw 22 14 0, fRw 47 32 0, fWo 52 48 0]⟩,
  ⟨"PG_ERR_TIMER", .hdr, 0, 0, 0x38, 8, 1, [(fRw 31 0 1000).in_ 1 4294967295 1, fRo 63 32 0]⟩,
  ⟨"PG_ERR_LEVEL", .hdr, 0, 0, 0x40, 8, 1, [fRo 1 0 0, fRo 2 2 0, fWo 5 4 0]⟩,
  ⟨"PG_ERR_FIRST", .hdr, 0, 0, 0x48, 8, 1, [fRo 2 0 0, fRo 3 3 0, fRo 4 4 0, fRo 63 8 0]⟩,
  ⟨"PG_ID", .hdr, 0, 0, 0x0, 8, 1, [fRo 15 0 0, fRo 31 16 0, fRo 39 32 176, fRo 47 40 1]⟩,
  ⟨"PG_CAPS", .hdr, 0, 0, 0x8, 8, 1, [fRo 15 0 0]⟩,
  ⟨"PG_CTL", .hdr, 0, 0, 0x10, 8, 1, [fWo 0 0 0]⟩,
  ⟨"PG_STAT", .hdr, 0, 0, 0x18, 8, 1, [fRo 0 0 0]⟩,
  ⟨"PG_INT_STAT", .hdr, 0, 0, 0x50, 8, 1, [fW1c 31 0 0]⟩,
  ⟨"PG_INT_EN", .hdr, 0, 0, 0x58, 8, 1, [fRw 31 0 0]⟩,
  ⟨"PG_PWR", .hdr, 0, 0, 0x60, 8, 1, [fRo 7 0 0, fRo 10 8 0]⟩,
  ⟨"PG_LEDG_SEQ", .hdr, 0, 0, 0x68, 8, 1, [fRo 31 0 0]⟩]

/-- Registers of the LEDG pages. -/
def regsLedg : List RegDef := [
  ⟨"LEDG_RING", .ledg, 0, 0, 0x100, 8, 1, [(fRw 4 0 14).in_ 14 26 1, fRw 5 5 0, fRw 47 20 0]⟩,
  ⟨"LEDG_PROD", .ledg, 0, 0, 0x108, 8, 1, [fRo 31 0 0]⟩,
  ⟨"LEDG_CONS", .ledg, 0, 0, 0x110, 8, 1, [fRw 31 0 0]⟩,
  ⟨"LEDG_STAT", .ledg, 0, 0, 0x118, 8, 1, [fRo 12 0 0, fRo 28 16 0, fRo 63 32 0]⟩,
  ⟨"LEDG_CNT", .ledg, 0, 0, 0x120, 8, 1, [fRc 31 0 0, fRc 47 32 0, fRc 63 48 0]⟩,
  ⟨"LEDG_WRAP", .ledg, 0, 0, 0x128, 8, 1, [fRo 31 0 0]⟩,
  ⟨"LEDG_DIGEST", .ledg, 0, 0, 0x130, 8, 1, [fRo 63 0 0]⟩,
  ⟨"LEDG_BUF_SEL", .ledg, 0, 0, 0x138, 8, 1, [fRw 11 0 0]⟩,
  ⟨"LEDG_BUF_DATA", .ledg, 0, 0, 0x140, 8, 8, [fRo 63 0 0]⟩]

/-- Registers of the HOST pages. -/
def regsHost : List RegDef := [
  ⟨"HOST_LINK", .host, 0, 0, 0x100, 8, 1, [fRo 1 0 0, fRo 3 2 0, fRo 4 4 0, fRc 31 16 0, fRo 47 32 0, fRc 63 48 0]⟩,
  ⟨"HOST_ERR", .host, 0, 0, 0x108, 8, 1, [fRc 15 0 0, fRc 31 16 0, fRc 47 32 0, fRc 63 48 0]⟩,
  ⟨"HOST_MBX", .host, 0, 0, 0x110, 8, 1, [fRo 0 0 0, fWo 1 1 0, fWo 2 2 0, fRo 3 3 0, fWo 4 4 0, fWo 5 5 0, fRw 13 8 0, fRc 31 16 0]⟩,
  ⟨"HOST_H2D_MSG", .host, 0, 0, 0x140, 8, 8, [fRw 63 0 0]⟩,
  ⟨"HOST_D2H_MSG", .host, 0, 0, 0x180, 8, 8, [fRw 63 0 0]⟩,
  ⟨"MSIX_ADDR", .host, 1, 8, 0x0, 16, 256, [fRw 63 2 0]⟩,
  ⟨"MSIX_DATA", .host, 1, 8, 0x8, 16, 256, [fRw 31 0 0, fRw 32 32 1]⟩,
  ⟨"MSIX_PBA", .host, 9, 9, 0x0, 8, 32, [fRo 63 0 0]⟩]

/-- Base of a block's pages in the control window (Table 17.10). -/
def blkBase : PKind → Nat
  | .glb => 0x000000 | .tile => 0x100000 | .port => 0x180000 | .hub => 0x1E0000 | .noc => 0x200000
  | .hbmc => 0x300000 | .shep => 0x310000 | .ken => 0x320000 | .bark => 0x330000 | .ret => 0x340000
  | .dma => 0x380000 | .pwr => 0x3A0000 | .time => 0x3B0000 | .ledg => 0x3C0000 | .brc => 0x3D0000
  | .pack => 0x3E0000 | .host => 0x3F0000 | .hdr => 0

/-- Number of pages of a block (Table 17.10). -/
def blkPages : PKind → Nat
  | .glb => 1 | .tile => 128 | .port => 96 | .hub => 24 | .noc => 160 | .hbmc => 8 | .shep => 16 | .ken => 9
  | .bark => 9 | .ret => 64 | .dma => 32 | .pwr => 2 | .time => 3 | .ledg => 1 | .brc => 1 | .pack => 1
  | .host => 10 | .hdr => 0

/-- PG_ID.TYPE of a block (Table 17.10). -/
def blkType : PKind → Nat
  | .glb => 1 | .tile => 2 | .port => 3 | .hub => 4 | .noc => 5 | .hbmc => 6 | .shep => 7 | .ken => 8
  | .bark => 9 | .ret => 10 | .dma => 11 | .pwr => 12 | .time => 13 | .ledg => 14 | .brc => 15 | .pack => 16
  | .host => 17 | .hdr => 0

/-- The seventeen blocks. -/
def blocks : List PKind :=
  [.glb, .tile, .port, .hub, .noc, .hbmc, .shep, .ken, .bark, .ret, .dma, .pwr, .time, .ledg, .brc, .pack, .host]

/-- Control-window offset of page `n` of a block (R557). -/
def pageAt (b : PKind) (n : Nat) : Nat := blkBase b + n * 0x1000

/-- The page that a control-window offset lies in; none where Table 17.10 has no page. -/
def pageOf (off : Nat) : Option (PKind × Nat) :=
  match blocks.find? (fun b => blkBase b ≤ off && off < blkBase b + blkPages b * 0x1000) with
  | some b => some (b, (off - blkBase b) / 0x1000)
  | none => none

/-- The registers of a block's pages, the header apart. -/
def blkRegs : PKind → List RegDef
  | .glb => regsGlb | .tile => regsTile | .port => regsPort | .hub => regsHub | .noc => regsNoc
  | .hbmc => regsHbmc | .shep => regsShep | .ken => regsKen | .bark => regsBark | .ret => regsRet
  | .dma => regsDma | .pwr => regsPwr | .time => regsTime | .ledg => regsLedg | .brc => regsBrc
  | .pack => regsPack | .host => regsHost | .hdr => regsHdr

/-- Does a register row cover page-relative offset `o` of page `p`? -/
def RegDef.covers (r : RegDef) (p o : Nat) : Bool :=
  decide (r.plo ≤ p) && decide (p ≤ r.phi) && decide (r.off ≤ o) && decide (o < r.off + r.stride * r.count) &&
    decide ((o - r.off) % r.stride = 0)

/-- Does the page begin with the header of Table 17.11? The MSI-X table and PBA pages do not (Table 17.10 puts the
table at offset 0 of HOST page [1]), and the reserved HBMC pages read zero (R456). -/
def hasHeader (b : PKind) (p : Nat) : Bool :=
  match b with
  | .host => p == 0
  | .hbmc => p < 5
  | _ => true

/-- Page [4] of the HBMC block holds only HBMC_ECC_CNT and HBMC_ECC_LAST beside its semaphore registers (R456). -/
def hbmc4Regs : List RegDef := regsHbmc.filter (fun r => r.off == 0x110 || r.off == 0x118)

/-- The register at an 8-byte-aligned control-window offset, with its index in its array. Pages [5] to [7] of the HBMC block
hold none (R456). -/
def regAt (off : Nat) : Option (RegDef × Nat) :=
  match pageOf off with
  | none => none
  | some (b, p) =>
    let o := off % 0x1000
    let tab := if o < 0x100 && hasHeader b p then regsHdr else blkRegs b
    let hit :=
      if b == .hbmc && decide (5 ≤ p) then none
      else if o < 0x100 && hasHeader b p then tab.find? (fun r => r.covers 0 o)
      else match b with
        | .hbmc => (if p = 4 then hbmc4Regs ++ regsHbmc.filter (fun r => r.phi == 4) else regsHbmc).find?
                     (fun r => r.off == o || r.covers p o)
        | _ => tab.find? (fun r => r.covers p o)
    match hit with
    | some r => some (r, (o - r.off) / r.stride)
    | none => none

/-- The mesh node that serves a page (R437, Table 13.5): the ID of the hardware agent of its block. -/
def pageNode (b : PKind) (n : Nat) : Nat :=
  match b with
  | .tile => 16 * (1 + n / 16) + n % 16
  | .hub => hubNode n
  | .port => hubNode (n / 4)
  | .noc => n
  | .hbmc => match n with | 0 => 6 | 1 => 9 | 2 => 16 * 9 + 6 | 3 => 16 * 9 + 9 | _ => 16 * 9 + 7
  | .shep => 16 * 9 + 7
  | .host => 7
  | _ => 16 * 9 + 8
where
  /-- Node of a port hub (R20, Table 1.2). -/
  hubNode (h : Nat) : Nat :=
    if h < 6 then h else if h < 12 then h + 4 else if h < 18 then 16 * 9 + (h - 12) else 16 * 9 + (h - 8)

/-- Reset value assembled from a register's fields. -/
def fieldsReset (fs : List FieldDef) : Word :=
  fs.foldl (fun w f => setFld w f.hi f.lo f.rst) 0

/-- The ports that a router has: XP, XN, YP, YN and local (R437, Table 13.9). -/
def portsThatExist (node : Nat) : Nat :=
  let x := node % 16
  let y := node / 16
  (if x < 15 then 1 else 0) + (if 0 < x then 2 else 0) + (if y < 9 then 4 else 0) + (if 0 < y then 8 else 0) + 16

/-- Switched domain of a page (Table 14.1); 255 for the always-on domain. -/
def pageDomain (b : PKind) (n : Nat) : Nat :=
  match b with
  | .tile => n
  | .hub => 128 + n
  | .port => 128 + n / 4
  | .shep => 152 + n
  | .hbmc => if n < 4 then 168 + n else 255
  | _ => 255

/-- Reset value of the register at an offset: the tables' Reset column, with the per-page values. -/
def regReset (off : Nat) : Word :=
  match regAt off with
  | none => 0
  | some (r, i) =>
    let base := fieldsReset r.fields
    match pageOf off with
    | none => base
    | some (b, p) =>
      if r.blk = .hdr then
        if r.off = 0x000 then BitVec.ofNat 64 (blkType b + p * 2 ^ 16 + 0xB0 * 2 ^ 32 + 0x01 * 2 ^ 40)
        else if r.off = 0x008 then BitVec.ofNat 64 (blkPages b)
        else if r.off = 0x060 then BitVec.ofNat 64 (pageDomain b p)
        else base
      else match b with
        | .noc => if r.off = 0x100 then BitVec.ofNat 64 (portsThatExist p) else base
        | .pwr => if r.off = 0x800 && p = 0 then setFld base 5 5 (b2n (i < 128)) else base
        | .bark => if r.off = 0x800 && (p - 1) * 256 + i < 16 then BitVec.ofNat 64 (1 + ((p - 1) * 256 + i) * 16)
                   else base
        | _ => base

/-! Page-relative offsets of the registers, by the manual's names. -/

def R.tileLoadSrc : Nat := 0x100
def R.tileLoadCtl : Nat := 0x108
def R.tileLoadStat : Nat := 0x110
def R.tileFaultDest : Nat := 0x118
def R.tileCtxTmpl : Nat := 0x120
def R.tileMsCtl : Nat := 0x128
def R.tileMsSaltNext : Nat := 0x130
def R.tileMsSaltCur : Nat := 0x138
def R.tileMsStat : Nat := 0x140
def R.tileMsSpill : Nat := 0x148
def R.tileMsSpillSalt : Nat := 0x150
def R.tileMsOcc : Nat := 0x158
def R.tileMsEvt : Nat := 0x160
def R.tileMsWin : Nat := 0x168
def R.tileQCtl : Nat := 0x170
def R.tileQStat : Nat := 0x178
def R.tileQSpill : Nat := 0x180
def R.tileSeqStat : Nat := 0x188
def R.tileExcRecLo : Nat := 0x190
def R.tileExcRecHi : Nat := 0x198
def R.tileExcCtl : Nat := 0x1A0
def R.tileOrdMask : Nat := 0x1A8
def R.tileFence : Nat := 0x1C8
def R.tileDivert : Nat := 0x1D0
def R.glbQmCtl : Nat := 0x300
def R.glbQmRing : Nat := 0x308
def R.glbQmProd : Nat := 0x310
def R.glbQmCons : Nat := 0x318
def R.glbQmStat : Nat := 0x320
def R.glbQmAbort : Nat := 0x328
def R.tileFabEvt : Nat := 0x1F0
def R.hubStrmCtl : Nat := 0x100
def R.hubStrmSrc : Nat := 0x108
def R.hubStrmCount : Nat := 0x110
def R.hubStrmCtx : Nat := 0x118
def R.hubStrmStat : Nat := 0x120
def R.hubStrmIndex : Nat := 0x128
def R.hubStrmEvt : Nat := 0x130
def R.hubPltCtl : Nat := 0x140
def R.hubPltBg : Nat := 0x148
def R.hubPltCmask : Nat := 0x150
def R.hubPltScr : Nat := 0x158
def R.hubPltStat : Nat := 0x160
def R.hubPltUrIdx : Nat := 0x168
def R.hubPltCons : Nat := 0x170
def R.portFailCtl : Nat := 0x800
def R.portFailCtx : Nat := 0x808
def R.portFailStat : Nat := 0x810
def R.portFailCnt0 : Nat := 0x818
def R.portFailCnt1 : Nat := 0x820
def R.portFailCnt2 : Nat := 0x828
def R.portFailLog : Nat := 0x830
def R.portFailLogProd : Nat := 0x838
def R.portFailLogCons : Nat := 0x840
def R.portFailGrpMap : Nat := 0x880
def R.portFailGrpNode : Nat := 0x888
def R.portCwinCtl : Nat := 0x900
def R.portCwinStart : Nat := 0x908
def R.portCwinEnd : Nat := 0x910
def R.portLnkCtl : Nat := 0x100
def R.portLnkStat : Nat := 0x108
def R.portLnkPeer : Nat := 0x110
def R.portLnkPeerinfo : Nat := 0x118
def R.portLnkCred : Nat := 0x120
def R.portLnkSent : Nat := 0x128
def R.portLnkFcred : Nat := 0x130
def R.portLnkErr : Nat := 0x138
def R.portLnkCorr : Nat := 0x140
def R.portLnkSb : Nat := 0x148
def R.portLnkTrain : Nat := 0x150
def R.portLnkSwitch : Nat := 0x158
def R.hubLnkSpare : Nat := 0x240
def R.retScCtl : Nat := 0x100
def R.retScSring : Nat := 0x108
def R.retScSprod : Nat := 0x110
def R.retScScons : Nat := 0x118
def R.retScCring : Nat := 0x120
def R.retScCprod : Nat := 0x128
def R.retScCcons : Nat := 0x130
def R.retScStat : Nat := 0x138
def R.retScCcw : Nat := 0x140
def R.retScCnt : Nat := 0x148
def R.retScEvpend : Nat := 0x150
def R.retScLevpend : Nat := 0x158
def R.retEngCtl : Nat := 0x800
def R.retEngSpi : Nat := 0x808
def R.retEmergChain : Nat := 0x810
def R.retEmergCtl : Nat := 0x818
def R.shepCoreCtl : Nat := 0x100
def R.shepStartPc : Nat := 0x108
def R.shepCoreStat : Nat := 0x110
def R.shepPc : Nat := 0x118
def R.shepWdog : Nat := 0x120
def R.shepWdogStat : Nat := 0x128
def R.kenCtl : Nat := 0x100
def R.kenStore : Nat := 0x108
def R.kenStat : Nat := 0x110
def R.kenMbox : Nat := 0x118
def R.kenThr : Nat := 0x120
def R.kenCdone : Nat := 0x128
def R.kenThrCmd : Nat := 0x130
def R.kenEvt : Nat := 0x138
def R.kenFlowSel : Nat := 0x140
def R.kenFlowStat : Nat := 0x148
def R.kenTraceRing : Nat := 0x150
def R.kenTraceProd : Nat := 0x158
def R.kenTraceCons : Nat := 0x160
def R.kenTraceCtl : Nat := 0x168
def R.kenCoreCtl : Nat := 0x180
def R.kenCoreStat : Nat := 0x200
def R.kenRingCfg : Nat := 0x800
def R.kenRingProd : Nat := 0x808
def R.kenRingCons : Nat := 0x810
def R.kenRingStat : Nat := 0x818
def R.barkCtl : Nat := 0x100
def R.barkVec : Nat := 0x108
def R.barkSwset : Nat := 0x110
def R.barkThresh : Nat := 0x180
def R.barkCur : Nat := 0x200
def R.barkSrc : Nat := 0x800
def R.hbmcSemCtl : Nat := 0x800
def R.hbmcSemStat : Nat := 0x808
def R.hbmcSemEvt : Nat := 0x810
def R.hbmcSemEvt2 : Nat := 0x818
def R.dmaCtl : Nat := 0x100
def R.dmaRing : Nat := 0x108
def R.dmaProd : Nat := 0x110
def R.dmaCons : Nat := 0x118
def R.dmaStat : Nat := 0x120
def R.dmaCnt : Nat := 0x128
def R.dmaEvpend : Nat := 0x130
def R.nocRtrCtl : Nat := 0x100
def R.nocRtrFaultDest : Nat := 0x108
def R.nocRtrEvt : Nat := 0x110
def R.nocNiCtl : Nat := 0x118
def R.nocRtSel : Nat := 0x120
def R.nocRtData : Nat := 0x128
def R.nocNiEvt : Nat := 0x130
def R.nocNiEvt2 : Nat := 0x138
def R.nocFence : Nat := 0x180
def R.nocFenceStat : Nat := 0x188
def R.nocPrbCtl : Nat := 0x800
def R.nocPrbMatch : Nat := 0x808
def R.nocPrbCount : Nat := 0x810
def R.nocPrbRing : Nat := 0x818
def R.nocPrbProd : Nat := 0x820
def R.nocPrbCons : Nat := 0x828
def R.hbmcCtl : Nat := 0x100
def R.hbmcStat : Nat := 0x108
def R.hbmcEccCnt : Nat := 0x110
def R.hbmcEccLast : Nat := 0x118
def R.hbmcRetCtl : Nat := 0x120
def R.hbmcRetAdd : Nat := 0x128
def R.hbmcRetIdx : Nat := 0x130
def R.hbmcRetEntry : Nat := 0x138
def R.pwrCtl : Nat := 0x100
def R.pwrGov : Nat := 0x108
def R.pwrVlim : Nat := 0x110
def R.pwrCap : Nat := 0x118
def R.pwrCapStat : Nat := 0x120
def R.pwrTherm : Nat := 0x128
def R.pwrStat : Nat := 0x130
def R.pwrDom : Nat := 0x800
def R.pwrTileMap : Nat := 0x800
def R.timeNow : Nat := 0x100
def R.timeCtl : Nat := 0x108
def R.timeLoad : Nat := 0x110
def R.timeStat : Nat := 0x118
def R.gaugeSel : Nat := 0x800
def R.gaugeSnap : Nat := 0x808
def R.gaugeSnapMinmax : Nat := 0x810
def R.gaugeSnapHist : Nat := 0x880
def R.gaugeCfg : Nat := 0x800
def R.brcCtl : Nat := 0x100
def R.brcCmd : Nat := 0x108
def R.brcStat : Nat := 0x110
def R.brcTwin : Nat := 0x118
def R.brcEpoch : Nat := 0x120
def R.brcTakeTime : Nat := 0x128
def R.brcMir : Nat := 0x140
def R.brcDigestMask : Nat := 0x180
def R.brcSealVal : Nat := 0x1A0
def R.brcSeal : Nat := 0x1A8
def R.brcDigStat : Nat := 0x1B0
def R.brcDiv : Nat := 0x1B8
def R.brcEvt : Nat := 0x1C0
def R.packCtl : Nat := 0x100
def R.packTree : Nat := 0x108
def R.packChildLo : Nat := 0x110
def R.packChildHi : Nat := 0x118
def R.packRtSel : Nat := 0x120
def R.packRtData : Nat := 0x128
def R.packBcastAddr : Nat := 0x130
def R.packBcastData : Nat := 0x138
def R.packBcastCtl : Nat := 0x140
def R.packBarSkew : Nat := 0x148
def R.packLead : Nat := 0x150
def R.packEvt : Nat := 0x158
def R.packMsgCtl : Nat := 0x160
def R.packMsgW : Nat := 0x168
def R.packBar : Nat := 0x1C0
def R.pgErrStat : Nat := 0x20
def R.pgErrEn : Nat := 0x28
def R.pgErrInj : Nat := 0x30
def R.pgErrTimer : Nat := 0x38
def R.pgErrLevel : Nat := 0x40
def R.pgErrFirst : Nat := 0x48
def R.glbSafe : Nat := 0x380
def R.glbSafeTime : Nat := 0x388
def R.ledgRing : Nat := 0x100
def R.ledgProd : Nat := 0x108
def R.ledgCons : Nat := 0x110
def R.ledgStat : Nat := 0x118
def R.ledgCnt : Nat := 0x120
def R.ledgWrap : Nat := 0x128
def R.ledgDigest : Nat := 0x130
def R.ledgBufSel : Nat := 0x138
def R.ledgBufData : Nat := 0x140
def R.pgId : Nat := 0x0
def R.pgCaps : Nat := 0x8
def R.pgCtl : Nat := 0x10
def R.pgStat : Nat := 0x18
def R.pgIntStat : Nat := 0x50
def R.pgIntEn : Nat := 0x58
def R.pgPwr : Nat := 0x60
def R.pgLedgSeq : Nat := 0x68
def R.glbRst : Nat := 0x100
def R.glbFabric : Nat := 0x108
def R.glbCtxTable : Nat := 0x110
def R.glbCtxFree : Nat := 0x118
def R.glbSerial : Nat := 0x120
def R.glbBoot : Nat := 0x128
def R.glbFuse : Nat := 0x130
def R.hostLink : Nat := 0x100
def R.hostErr : Nat := 0x108
def R.hostMbx : Nat := 0x110
def R.hostH2dMsg : Nat := 0x140
def R.hostD2hMsg : Nat := 0x180
def R.tileEmitMap0 : Nat := 0x1D8
def R.tileEmitMap1 : Nat := 0x1E0
def R.tileEmitMap2 : Nat := 0x1E8
def R.msixAddr : Nat := 0x0
def R.msixData : Nat := 0x8
def R.msixPba : Nat := 0x0
end Sys2Proof.Machine
end

