-- ==== Sys2Proof/Machine/State.lean ====
section
/-! DEFINITION. The state of the Q96 as plain data: the register file of the control window, memory, and the state
of each block that its registers do not show; the faults and refusals; and the state after power-on. -/

namespace Sys2Proof.Machine

/-! ## Ledger (R528 to R534) -/

/-- A ledger record (R529, Table 16.8). -/
structure LRec where
  seq     : Nat := 0
  kind    : Nat := 0
  size32  : Bool := false
  half    : Bool := false
  applied : Bool := false
  origin  : Origin := 0
  time    : Word := 0
  off     : Nat := 0
  old     : Word := 0
  new     : Word := 0
  data    : Word := 0
  digest  : Word := 0
deriving DecidableEq, Repr

/-! ## The dataflow fabric (chapters 2 to 4) -/

/-- A token in a queue: the token, whether it is bound for a fault node (R80), and, for a firing that R136 released,
that it executes without matching again and its second operand (R581). -/
structure QItem where
  tok   : Token
  flt   : Bool := false
  again : Bool := false
  y     : Option (Word × Byte) := none
deriving DecidableEq, Repr

/-- A firing that has passed stage 3 (Table 3.1): left operand x with the firing's tag, right operand y where the
mode supplies one, the slot, whether ordering has already released it, whether its token was bound for a fault node
(R80), and whether its pass is still to be counted, since a loop or order may yet let it wait in stage 3 for a bucket (R75,
R126). -/
structure Firing where
  x     : Token
  y     : Option (Word × Byte)
  slot  : BitVec 128
  again : Bool := false
  flt   : Bool := false
  due   : Bool := false
deriving DecidableEq, Repr

/-- Entry KINDs of the matching store (R102), the codes 0 empty and 7 reserved apart. -/
inductive MsKind | wait | sticky | gate | reduce | resident | pending
deriving DecidableEq, Repr

/-- Where an entry lies (R101): its set, an overflow way counted under a set index (OVF_CNT), or spill chain p. -/
inductive MsPlace | set (n : Nat) | ovf (way home : Nat) | spill (p : Nat)
deriving DecidableEq, Repr

/-- A chain of buckets of the spill pool, by their numbers in the order of the chain, and whether the first entry slot of
its head has been consumed (R111, R122, R124). -/
structure Chain where
  bk  : List Nat := []
  off : Bool := false
deriving DecidableEq, Repr

/-- A matching-store entry (Table 3.7) with the tokens that it holds pending and their chain (R94). -/
structure MsEntry where
  key   : Word
  kind  : MsKind
  side  : Bool
  gen   : Bool
  count : Nat
  ctl   : Byte
  value : Word
  place : MsPlace
  held  : List QItem := []
  heldB : Chain := {}
deriving DecidableEq, Repr

/-- A sequencer entry: a loop entry (R129) with INFLIGHT and its limit, or an order entry (R136) with NEXT; what it holds, and
the chain of that. -/
structure SeqEntry where
  loop   : Bool
  pe     : Nat
  node   : Nat
  ctx    : Nat
  colour : Nat
  n      : Nat
  k      : Nat
  held   : List QItem := []
  heldB  : Chain := {}
deriving DecidableEq, Repr

/-- One PE: its queue of up to 256 tokens, the tokens that go ahead of it (R94, R130, R136), the tokens of its queue chain
and their buckets (R120, R122), the firings past stage 3, the oldest of them in stage 4, and its node store. -/
structure PeSt where
  queue    : List QItem := []
  front    : List QItem := []
  chain    : List QItem := []
  chainB   : Chain := {}
  ex       : List Firing := []
  nodes    : SMap (BitVec 128) := []
deriving DecidableEq, Repr

/-- A token in a tile's network interface: its source node, whether its TYPE has been judged (R40), since when a full queue
has held it (R120), and its number among the items that wait for a spill bucket, where it does (R126). -/
structure Arrival where
  src    : Nat
  item   : QItem
  seen   : Bool := false
  since  : Option Word := none
  bucket : Option Nat := none
deriving DecidableEq, Repr

/-- An item that waits in stage 3 of a PE for a spill bucket, its number among the items that wait (R126), and whether its
pass is still to be counted (R75). -/
structure Waiting where
  pe    : Nat
  item  : QItem
  n     : Nat
  due   : Bool := true
deriving DecidableEq, Repr

/-- A node-store load (R71): running, next entry, entries in all, address, and the slots as they stood at GO by PE and node,
4,096 to a PE. -/
structure LoadSt where
  busy  : Bool := false
  next  : Nat := 0
  count : Nat := 0
  addr  : Nat := 0
  old   : SMap (BitVec 128) := []
deriving DecidableEq, Repr

/-- A spill access in flight (R106): its key, when it was issued, and the tokens that wait for it. -/
structure SpillAcc where
  key   : Word
  since : Word := 0
  items : List (Nat × QItem)
deriving DecidableEq, Repr

/-- A waiting TWAIT token (R88): the firing and the time it waits for. -/
structure TwItem where
  pe   : Nat
  f    : Firing
  till : Word
deriving DecidableEq, Repr

/-- One tile, its registers apart: its PEs; the tokens in its network interface in the order in which they reached it; its
matching store, the entries of a spill chain in the order of their entry slots; the spill accesses in flight with the
tokens that wait for them (R106); the items that wait for buckets (R126) and the number of the next one; its sequencer
table; waiting TWAIT tokens; the exception FIFO; the conflicts of the window, its start, and whether it has triggered a
rotation (R107); SALT_OLD and the position of the sweep; a node-store load; when the formatting of the spill region began;
since when EXHAUSTED has been 1; the last firing; EMIT credits in use; and of the spill pool the buckets of each
matching-store chain behind its head bucket, the free chain, and the first bucket never allocated (R111). -/
structure Tile where
  pes      : SMap PeSt := []
  arr      : List Arrival := []
  ms       : List MsEntry := []
  inflight : List SpillAcc := []
  wait     : List Waiting := []
  waitN    : Nat := 0
  seq      : List SeqEntry := []
  twait    : List TwItem := []
  exc      : List (Word × Word) := []
  confl    : SMap Nat := []
  winStart : Word := 0
  winTrig  : Bool := false
  saltOld  : Word := 0
  sweep    : Nat := 0
  load     : LoadSt := {}
  readyAt  : Option Word := none
  exhSince : Option Word := none
  lastFire : Word := 0
  emitUsed : SMap Nat := []
  msCh     : SMap (List Nat) := []
  free     : List Nat := []
  bump     : Nat := 0
deriving DecidableEq, Repr

/-- Teardown of a context (Table 4.7): whether an abort started it and its reason, the number of the next flit when it
began (the VN0 fence of step 3), and the waiting items discarded. -/
structure Teardown where
  abort  : Bool
  reason : Nat
  upTo   : Nat
  gone   : Nat
deriving DecidableEq, Repr

/-- What the quiescence monitor keeps of a context (R143, R144). -/
structure CtxSt where
  lastAct  : Word := 0
  detected : Bool := false
  teardown : Option Teardown := none
deriving DecidableEq, Repr

/-- A request for a context that waits in the allocation queue (R51). -/
structure AllocReq where
  tile : Nat
  pe   : Nat
  f    : Firing
deriving DecidableEq, Repr

/-- An I-fetch or I-store on its way to its HBM controller or at it (R56): the requesting tile, the firing, the return tag formed
when it was issued (R85), and of its packet the TXID, the route of its response and its generation (Table 13.7). -/
structure IReq where
  store  : Bool
  tile   : Nat
  f      : Firing
  rtag   : Tag
  txid   : Nat := 0
  rroute : Nat := 0
  gen    : Bool := false
deriving DecidableEq, Repr

/-! ## Mesh and memory (chapter 13) -/

/-- An EMIT word on its way from a tile to a hub, or in the hub's ingress buffer (R171, R173): the tile and PE, whether
it is a mask word and whether poison made it void (R139), the word, and the firing it answers. -/
structure EmitWord where
  tile : Nat
  pe   : Nat
  mask : Bool
  void : Bool
  f    : Firing
deriving DecidableEq, Repr

/-- A delivery to a FAIL_IN node (R206 to R211): destination, context and colour of its tokens, the two words and
iterations, and whether it is an end marker. -/
structure Delivery where
  dest   : Dest
  ctx    : Nat
  colour : Nat
  row    : Word
  col    : Word
  rowKey : Nat
  colKey : Nat
  fin    : Bool
deriving DecidableEq, Repr

/-- Who awaits the answer of a semaphore access: a mesh request, an instruction of a core, the CCW of a Retriever subchannel by
its epoch, or a host read. -/
inductive SemBy | mesh (node txid : Nat) | core (c : Nat) | sub (n epoch : Nat) | host (off : Nat)
deriving DecidableEq, Repr

/-- What a packet carries (Table 13.7); an EMIT flit words of one stream for its hub (R171), a FAIL flit up to three deliveries of
a port (R210), an EVENT the pulse of a hardware event line, a SEM_GRANT the value for the waiting TAKE of a master that is no
requester on the mesh. -/
inductive Body
  | token (t : Token) (flt : Bool)
  | req (r : MemReq) (opc : Nat)
  | istruct (r : IReq) (addr : Nat)
  | resp (txid : Nat) (st : Status) (data : List Byte)
  | posted (r : MemReq) (line : Option (List Byte))
  | event (line : Nat)
  | emit (hub : Nat) (ws : List EmitWord)
  | fails (port : Nat) (l : List Delivery)
  | grant (who : SemBy) (v : Word)
deriving DecidableEq, Repr

/-- A flit in a router (R438): a number in the order of injection, header fields, the route of a response, its source
node, and its body. -/
structure Flit where
  id    : Nat
  route : Nat
  rroute : Nat := 0
  vn    : Nat
  gen   : Bool
  last  : Bool
  prio  : Nat
  opc   : Nat
  src   : Nat
  body  : Body
deriving DecidableEq, Repr

/-- A request that has reached the network interface of its target (R442): its opcode, and the route and generation of
its response. -/
structure InReq where
  opc    : Nat
  req    : MemReq
  rroute : Nat
  gen    : Bool
deriving DecidableEq, Repr

/-- What completes when a response to an outstanding request of a PE returns (R85), an I-fetch or I-store among them (R56,
R579); nothing where a function reset of its tile has discarded the firing (R582). -/
inductive Client
  | load (tile : Nat) (f : Firing) (rtag : Tag)
  | store (tile : Nat) (f : Firing)
  | istruct (tile : Nat) (f : Firing)
  | gone
deriving DecidableEq, Repr

/-- A request that awaits its response (R448). -/
structure Outst where
  node   : Nat
  txid   : Nat
  since  : Word
  line   : Nat
  gen    : Bool
  client : Client
deriving DecidableEq, Repr

/-- An HBM controller, its registers apart: retired local pages in order of spare number (R434), poisoned lines of
spares, the errors that stand in the raw stack, a mask for each code byte in error by raw line (R429, R430), the correction tracker (page, corrections, last correction; R433), the copy in progress (local page, next
line), the pages that wait for retirement, and the I-structure requests that have reached it (R56). -/
structure Hbmc where
  spares  : List Nat := []
  poison  : List Nat := []
  errs    : SMap (SMap Nat) := []
  tracker : List (Nat × Nat × Word) := []
  copy    : Option (Nat × Nat) := none
  queue   : List Nat := []
  iq      : List IReq := []
deriving DecidableEq, Repr

/-! ## Rings, semaphores, DMA (chapter 12) -/

/-- A semaphore hold (R405, R409): unit, word, origin, lease end, whether it is EXPIRED, and whether a master reset of its
origin has come since, whose notice frees it (R410). -/
structure Hold where
  unit    : Nat
  addr    : Nat
  origin  : Origin
  till    : Word
  expired : Bool
  old     : Bool := false
deriving DecidableEq, Repr

/-- A waiting TAKE (R406), with the core that it boosts (R408), whether a master reset of its origin has come since (R410), the
request that came over the mesh, the generation of its request, and whether a route change has marked it (R446). -/
structure Waiter where
  unit   : Nat
  addr   : Nat
  who    : SemBy
  origin : Origin
  prio   : Nat
  boost  : Option Nat := none
  old    : Bool := false
  req    : Option InReq := none
  gen    : Bool := false
  moved  : Bool := false
deriving DecidableEq, Repr

/-- A begun DMA descriptor (R413): its index, its four words, and how it has ended, if it has: the error code and the
offset of a mismatch. -/
structure DmaDesc where
  idx  : Nat
  w0   : Word
  src  : Nat
  dst  : Nat
  cst  : Word
  fin  : Option (Nat × Option Nat) := none
deriving DecidableEq, Repr

/-- A DMA channel, its registers apart: the descriptor that it has read and not begun (R394, R413), begun descriptors, and
event-line latches (R418). -/
structure Dma where
  held    : Option DmaDesc := none
  begun   : List DmaDesc := []
  latches : Word := 0
deriving DecidableEq, Repr

/-! ## Kennel (chapter 11) -/

/-- Where an accepted item stands: delayed until a pack time, ready, running on a core, or finished with the KIND and
words of its completion. -/
inductive KState
  | delayed (due : Word) | ready | running (core : Nat) | fin (kind : Nat) (w1 w2 w3 : Word)
deriving DecidableEq, Repr

/-- An accepted work item (R362): its number in the order of acceptance, its store entry, its ring, its four words
with SEQ filled in, and where it stands. -/
structure KItem where
  id    : Nat
  entry : Nat
  ring  : Nat
  w0    : Word
  w1    : Word
  w2    : Word
  w3    : Word
  st    : KState
deriving DecidableEq, Repr

/-- Counters of a flow (R370). -/
structure KFlow where
  next : Nat := 0
  rel  : Nat := 0
  out  : Nat := 0
deriving DecidableEq, Repr

/-- A core as Kennel sees it (R366, R380): 0 idle, 1 item, 2 thread; whether it is asked to give way; the number of
its item or thread; when and as which dispatch it began. -/
structure KCore where
  st      : Nat := 0
  preempt : Bool := false
  what    : Nat := 0
  since   : Word := 0
  order   : Nat := 0
deriving DecidableEq, Repr

/-- Thread states (Table 11.2). -/
inductive TState | free | ready | running (core : Nat) | onEvent (line : Nat) | onTime (till : Word)
deriving DecidableEq, Repr

/-- A kernel thread: its state and what Kennel read at CREATE (R377, R378). -/
structure KThread where
  st       : TState := .free
  prio     : Nat := 0
  affinity : Nat := 0
  slice    : Nat := 0
  context  : Word := 0
  wake     : Word := 0
deriving DecidableEq, Repr

/-- A withheld doorbell (R363): its ring, origin, items and index, the request of a mesh master whose response waits,
and whether the core that wrote it has been reset since. -/
structure HeldDb where
  ring   : Nat
  origin : Origin
  items  : Nat
  index  : Nat
  who    : Option (Option InReq × MemReq) := none
  gone   : Bool := false
deriving DecidableEq, Repr

/-- Kennel, its registers apart: accepted items (those that have finished stand last, in the order in which they
finished), ready items in the order in which they became ready, entries reserved by ring, withheld doorbells, rings held for want of room in a flow (R371),
flows, stashes, threads and the order in which they became READY, line latches, cores, and the
numbers of the next item and the next dispatch. -/
structure Kennel where
  items   : List KItem := []
  ready   : List Nat := []
  resv    : SMap Nat := []
  heldDb  : List HeldDb := []
  full    : SMap Nat := []
  flows   : SMap KFlow := []
  stash   : SMap (List (List Word)) := []
  threads : SMap KThread := []
  thrRdy  : List Nat := []
  latches : Word := 0
  cores   : SMap KCore := []
  nextId  : Nat := 0
  order   : Nat := 0
deriving DecidableEq, Repr

/-! ## Shepherd cores (chapters 9 and 10) -/

/-- A Shepherd core with its Hatch unit, its registers in the SHEP page apart: the registers of Table 9.1 by nibble
(0 to 7 B, 8 to 15 X), the special registers of Table 9.3, SIGCNT and the signal count (R317), the vector registers,
the workspace as far as it has been written and the reset that its other bytes date from (R302), the state of
SHEP_CORE_STAT (0 RESET, 1 RUN, 2 SIGWAIT, 3 WAITT, 4 STOPPED, 5 CHECKSTOP), Hatch power (R358), the time that WAITT
awaits, the Watchdog (its expiry while it counts, the ticks left while it does not, a trap that waits for an instruction
to complete), and an instruction that a withheld response holds (R312): the values it has already read, and whether its
wait is over and it has yet to complete (R312, R358), whether a withheld doorbell write stalls the core (R310, R363), and the
lines of HBM in its instruction cache (R309). -/
structure Shep where
  gpr    : SMap Word := []
  bk     : BitVec 32 := 0
  pc     : BitVec 48 := 0
  psw    : Word := 0x3000000
  vl     : BitVec 32 := 0
  tbr    : Word := 0
  ksp    : Word := 0
  icount : Word := 0
  sigcnt : Nat := 0
  sig    : Nat := 0
  v      : SMap (BitVec 128) := []
  hfi    : Word := 0
  ws     : List (Nat × Byte) := []
  wsSeed : Nat := 0
  st     : Nat := 0
  hatch  : Bool := false
  hatchUse : Word := 0
  hatchReq : Option Word := none
  waitt  : Word := 0
  wdAt   : Option Word := none
  wdLeft : Nat := 0
  wdTrap : Bool := false
  hands  : List (Nat × Nat × Bool) := []
  cold   : Bool := false
  restart : Bool := false
  held   : Bool := false
  log    : List Word := []
  mid    : Bool := false
  stall  : Bool := false
  icache : SMap (List Byte) := []
  fbad   : Bool := false
deriving DecidableEq, Repr

/-! ## Streams (chapter 5) -/

/-- A port hub's stream engine, its registers apart: EMIT words that have reached its network interface, the credits it has to return to
tiles (R171), its ingress buffer, the positions placed ahead of NEXT and NEXT (R173), the stored words fetched so far
(R177), the ports whose Plates selected the stream at its RUN, and the substitution on the hub's spare lane (R253). -/
structure Hub where
  flight  : List EmitWord := []
  returns : SMap Nat := []
  ingress : List EmitWord := []
  ahead   : List (Nat × EmitWord) := []
  next    : Nat := 0
  fetch   : Nat := 0
  sel     : List Nat := []
  swapAt  : Nat := 0
  acked   : Bool := false
deriving DecidableEq, Repr

/-- A word that a Plate holds (R160, R166, R178): a vector word, a mask word, a void word that replaces a word, with
its cause, or the replacement of a poisoned mask word. -/
inductive PWord | vec (w : Word) | mask (m : BitVec 32) | void (cause : Nat) | badMask
deriving DecidableEq, Repr

/-- A Plate, its registers apart (R179 to R190): its words, the scramble table, the mask in force, whether the first
mask slot of the run is still to be sent, the vector index of the next word to send, whether it ends with the stopped
mark, whether READY has been sent and END not yet, whether the safe state makes it send voids, and its stream. -/
structure Plate where
  words   : List PWord := []
  scr     : SMap Nat := []
  maskNow : BitVec 32 := 0
  first   : Bool := false
  idx     : Word := 0
  stop    : Bool := false
  ready   : Bool := false
  abort   : Bool := false
  feed    : Option Nat := none
deriving DecidableEq, Repr

/-! ## Ports (chapters 6 and 7) -/

/-- A downstream block (Tables 7.2 and 7.3). Slot kinds: 0 NONE, 1 VECTOR, 2 MASK, 3 GAP, 4 VOID. -/
inductive DBlock
  | idle
  | data (ws : List Word)
  | slots (l : List (Nat × Word))
  | sync (sent next : Word) (fcredit gen run state : Nat) (stopped : Bool) (role : Nat)
  | ready (first : Word) (run gen : Nat)
  | fin (count : Word) (stopped invalid : Bool) (run : Nat)
  | sbReq (tag op be addr : Nat) (data : Word)
  | switch (gen : Nat)
  | abort (reason : Nat)
  | linkid (serial : Word) (device port stepping : Nat)
  | lanemap (lane : Nat) (swapAt : Nat)
deriving DecidableEq, Repr

/-- A sideband request of a Retriever subchannel (R254): its tag, operation, address, data and byte enables, and when
its block left, and the number of the subchannel's operation that it belongs to. -/
structure SbReq where
  tag   : Nat
  subch : Nat
  write : Bool
  addr  : Nat
  be    : Nat
  data  : Word
  sent  : Option Word := none
  epoch : Nat := 0
deriving DecidableEq, Repr

/-- A record in a port's fail ingress buffer (R201): the deliveries not yet made, and whether it holds a fail-record credit,
which an end of capture that the port acts on without having received the record does not (Table 7.5). -/
structure FailRec where
  dels : List Delivery
  cred : Bool := true
deriving DecidableEq, Repr

/-- A port's link, its registers apart: the number of its block time in block mode (R236), the block time of its last
control block, the control blocks that wait, the block times at which CREDITS rose (R238), whether it repeats SWITCH
(R256), its sideband requests and blocked tags (R254), its training (phase 1 TRAIN, 2 READY, 3 GO, 4 block mode; R249 to
R252), the time of the last SYNC, LOST_SLOTS last received, the run whose end of capture it has acted on, the records of
its fail ingress buffer, the FAIL blocks lost since link up (Table 7.5), a RESUME index whose word its Plate does not hold yet
(Table 15.3), whether it has sent READY since the last takeover's trigger, the consecutive training failures of a brace link, whether it withholds fail credits (R240); of training, the
block times since its frames began, the COUNT of its next GO frame, whether the peer has counted down, when the last
uncorrectable codeword came, whether LINKID has been received and by how many symbols each lane's frames come behind (Table
7.7), and the PRBS13 of each lane; and of the
codeword under way its blocks and the state of the scrambler (R231). -/
structure PortSt where
  blk      : Option Nat := none
  lastCtl  : Option Nat := none
  ctlq     : List DBlock := []
  credLog  : List (Nat × Nat) := []
  switching : Bool := false
  sb       : List SbReq := []
  sbWait   : List SbReq := []
  sbBlocked : List (Nat × Word) := []
  trainAt  : Word := 0
  locks    : SMap Nat := []
  readies  : Nat := 0
  onSpare  : Option Nat := none
  phase    : Nat := 0
  lastSync : Word := 0
  lostSlots : BitVec 16 := 0
  endRun   : Option Nat := none
  fails    : List FailRec := []
  lostF    : BitVec 32 := 0
  resumeIdx : Option Word := none
  readied  : Bool := false
  misses   : Nat := 0
  credHold : Bool := false
  frameT   : Nat := 0
  goTx     : Option Nat := none
  goRx     : Bool := false
  badAt    : Word := 0
  idSeen   : Bool := false
  skews    : SMap Nat := []
  prbs     : SMap (BitVec 13) := []
  msgq     : List (BitVec 257) := []
  txBlks   : List (BitVec 257) := []
  scram    : BitVec 58 := 0
deriving DecidableEq, Repr

/-! ## Pack and brace links (chapter 15) -/

/-- A Bamior message (Table 15.1), IDLE apart. -/
inductive Bmsg
  | linkid (serial : Word) (device : BitVec 10) (port stepping : Nat)
  | bsync (f : BSyncF)
  | nak (expect : BitVec 16)
  | token (t : Token) (hops : Nat)
  | arrive (bar : Nat) (epoch : BitVec 16)
  | release (bar : Nat) (epoch : BitVec 16) (t : Word)
  | cfg (off : BitVec 24) (id : BitVec 16) (data : Word)
  | cfgAck (id : BitVec 16) (error : Bool)
  | msg (src dst hops : Nat) (item : List Word)
  | msgAck (src dst hops : Nat) (refused : Bool)
  | rstart (src dst hops subch : Nat) (entry : List Word)
  | rstartAck (src dst hops subch : Nat) (refused : Bool)
  | leadhb (leadId : BitVec 10) (epoch : BitVec 16)
  | hb (f : HbF)
  | replay (r : LRec)
  | mirror (addr : BitVec 48) (be : Word) (line : List Byte)
  | unitres (f : UnitResF)
  | digest (f : DigestF)
  | fence
  | swap (gen : BitVec 16)
  | syncDone
deriving DecidableEq, Repr

/-- A Bamior link (R481, R482): the LSEQ of the next message sent, the LSEQ expected, whether a NAK is outstanding,
the unacknowledged messages, those that wait for room or credit, and the TOKEN counts. -/
structure BLink where
  sendSeq : BitVec 16 := 0
  recvSeq : BitVec 16 := 0
  naked   : Bool := false
  unacked : List (BitVec 16 × Bmsg) := []
  waitq   : List Bmsg := []
  tokSent : BitVec 24 := 0
  tcredit : BitVec 24 := 0
  taken   : BitVec 24 := 0
  peerTx  : Word := 0
  peerRx  : Word := 0
  txTime  : Word := 0
deriving DecidableEq, Repr

/-- A digest accumulator (R494). -/
structure Acc96 where
  ctx    : Nat
  colour : Nat
  a      : Word
  n      : BitVec 32
deriving DecidableEq, Repr

/-- A seal that its own twin made (R495, R496): its captured sums, whether its DIGEST has been sent, and the epoch
boundaries that have passed since. -/
structure Seal where
  seq   : BitVec 32
  a     : Word
  n     : BitVec 32
  value : Word
  ovf   : Bool
  sent  : Bool := false
  age   : Nat := 0
deriving DecidableEq, Repr

/-- Brace control, its registers apart: digest accumulators and overflowed domains (R494), own seals and those of the twin
that are not yet matched, these with the epoch boundaries that have passed since (R496), the twin's last HB (its ROLE and GEN), when one last arrived and how many intervals in a
row none did (R497), the ends of the last HB interval and the last epoch, a role swap that waits (R502), whether an HB has
arrived since the trigger of a takeover (R498), whether the device holds a level-3 entry under R525, and what the twin said
of itself when a brace link came up: its serial, whether it was running, its ACTIVE_PREF (R484). -/
structure Brace where
  accs : List Acc96 := []
  ovf  : List (Nat × Nat) := []
  own  : List Seal := []
  theirs : List (DigestF × Nat) := []
  twinRole : Nat := 0
  twinGen : BitVec 16 := 1
  hbSeen : Bool := false
  misses : Nat := 0
  hbEnd : Word := 0
  epochEnd : Word := 0
  swapping : Bool := false
  hbAfter : Bool := false
  fenced : Bool := false
  twinSerial : Word := 0
  twinRun : Bool := false
  twinPref : Bool := false
deriving DecidableEq, Repr

/-- A barrier of the pack (R510): the child ports whose ARRIVE has come, whether the ARRIVE has gone to the parent, and the
release time. -/
structure BarSt where
  kids : List Nat := []
  sent : Bool := false
  till : Option Word := none
deriving DecidableEq, Repr

/-- Pack control, its registers apart: a broadcast (R509): the child ports that have not answered, the link and BCAST_ID
that its CFG came with, its ERROR so far, whether it is in progress, and the next BCAST_ID of a lead; the barriers; the time
of the last LEADHB received, missed or sent, consecutive misses, and whether ALT_PARENT is in use (R508); and the MSG items
(link, source, words) that wait for a free store entry of Kennel (R511). -/
structure PackSt where
  bcOn   : Bool := false
  bcKids : List Nat := []
  bcUp   : Option (Nat × BitVec 16) := none
  bcErr  : Bool := false
  bcId   : BitVec 16 := 0
  bars   : SMap BarSt := []
  leadAt : Word := 0
  miss   : Nat := 0
  alt    : Bool := false
  msgs   : List (Nat × Nat × List Word) := []
deriving DecidableEq, Repr

/-- A gauge (R474, R475): the events of a counted source at its last sample, when its last sample point of a source that is
sampled by time was, its live statistics and its snapshot. -/
structure GaugeSt where
  base : Nat := 0
  last : Word := 0
  n    : Nat := 0
  lo   : Nat := 0xFFFFFFFF
  hi   : Nat := 0
  bins : SMap Nat := []
  sn   : Nat := 0
  slo  : Nat := 0xFFFFFFFF
  shi  : Nat := 0
  sbins : SMap Nat := []
deriving DecidableEq, Repr

/-! ## The Retriever (chapter 8) -/

/-- A segment of a transfer: address and length. -/
abbrev Seg := Nat × Nat

/-- A subchannel, its registers apart (R261 to R296): USER of its chain; the CCW that has been read and is not complete; the
CCW that began the transfer which a data-chained CCW continues; whether the CCW's operation has begun; when a wait ends, if
it does; JUMPs counted; SEQ; the stash; for the transfer in progress its segments, its length, whether the check LIST follows its
last byte, the PINSLICE requests not yet issued, the addresses of those outstanding, the data read, the failed request at
the lowest address, the address at which a PINSLICE transfer goes on, the SPI frame it holds; the device and subchannel of a
REMOTE WRITE and when it left; OPNUM, and whether it awaits a UNITRES (R492); the address of the last SUSPENDED record; the
number of its operation; the values that semaphore windows have answered the CCW, and whether an answer is withheld. -/
structure SubCh where
  user  : Word := 0
  ccw   : Option (BitVec 128) := none
  op    : Option (BitVec 128) := none
  busy  : Bool := false
  till  : Option Word := none
  loops : Nat := 0
  seq   : Nat := 0
  stash : List (List Word) := []
  segs  : List Seg := []
  want  : Nat := 0
  after : Bool := false
  todo  : List (Nat × Nat × Word) := []
  outs  : List Nat := []
  got   : List (Nat × Word) := []
  fail  : Option (Nat × Nat) := none
  pos   : Nat := 0
  frame : Option Nat := none
  onBus : Option Nat := none
  remote : Option (Nat × Nat × Word) := none
  opnum : Nat := 0
  unitWait : Bool := false
  suspAt : Option Nat := none
  epoch : Nat := 0
  log   : List Word := []
  semWait : Bool := false
  halting : Bool := false
  late  : List (List Word) := []
deriving DecidableEq, Repr

/-- A captured edge (R275): its time, its pin, whether it rose, and OVF. -/
structure Capture where
  time : Word
  pin  : Nat
  rise : Bool
  ovf  : Bool
deriving DecidableEq, Repr

/-- The last in-band interrupt of an I3C bus (Table 8.5): address, IBI seen since the last SENSE, mandatory byte. -/
structure Ibi where
  addr : Nat := 0
  seen : Bool := false
  mdb  : Byte := 0
deriving DecidableEq, Repr

/-- The Retriever, its registers apart: subchannels; the queue of each bus, its owner first (I3C buses 0 to 3, SPI buses 4
to 7; R276); GPIO output levels, output enables, input levels, armed edges by pin (1 rising, 2 falling, 3 both), the
capture FIFO and whether an edge has been dropped since its last record (R275); in-band interrupts; and the UNITRES results
that no subchannel has taken yet (R492). -/
structure Retr where
  subs  : SMap SubCh := []
  buses : SMap (List Nat) := []
  gout  : BitVec 32 := 0
  gdir  : BitVec 32 := 0
  gin   : BitVec 32 := 0
  garm  : SMap Nat := []
  fifo  : List Capture := []
  lost  : Bool := false
  ibis  : SMap Ibi := []
  results : List UnitResF := []
  remotes : List (Nat × Nat × Nat × Nat) := []
  emergDue : Bool := false
  emergSub : Nat := 0
deriving DecidableEq, Repr

/-! ## The whole machine -/

/-- How a read of the host is completed (R541). -/
inductive Completion
  | successful | unsupportedRequest | completerAbort | poisoned
deriving DecidableEq, Repr

/-- What leaves the block: responses on the mesh, register read data, MSI-X messages, and what the links, buses and
pins send. Later outputs stand first. -/
inductive Out
  | resp (node txid : Nat) (st : Status) (data : List Byte)
  | reg (origin : Origin) (st : Status) (data : Word)
  | msix (vec : Nat) (addr data : Word)
  | bamior (link : Nat) (lseq : BitVec 16) (m : Bmsg)
  | block (port : Nat) (b : DBlock)
  | codeword (port : Nat) (lanes : List (Nat × List (BitVec 10)))
  | frame (port lane : Nat) (spare : Bool) (symbols : List (BitVec 10))
  | bus (bus unit command param : Nat) (data : List Byte) (count : Nat)
  | busStop (bus : Nat)
  | busIdle (bus : Nat)
  | gpio (levels enables : BitVec 32)
  | hostRead (node txid addr len : Nat)
  | hostMem (write : Bool) (addr len : Nat) (data : List Byte)
  | hostData (bar off : Nat) (c : Completion) (data : List Byte)
deriving DecidableEq, Repr

/-- Effects that one block has on another and that the end of the command applies: a page's level-2 or level-3
actions, the wake of a sleeping core, a pulse of a hardware event line, the wake of a power domain. -/
inductive Reaction
  | level (page lvl : Nat)
  | wake (core : Nat)
  | pulse (line : Nat)
  | domWake (d : Nat)
  | woken (d : Nat)
  | lineMet (a : Nat)
  | sb (q : SbReq) (status : Nat) (data : Word)
  | sem (who : SemBy) (v : Word)
  | stored (unit addr : Nat)
  | preempt
  | sbPump (port : Nat)
  | cfg (off : Nat) (data : Word)
  | resync
deriving DecidableEq, Repr

/-- The fuses (R549, Table 17.12), the levels at the BOOTSEL balls and the value sampled there (R551): contents that come from
outside the device. -/
structure Fuses where
  serial   : Word := 0
  twin     : Word := 0
  stepping : Nat := 0xB0
  svnFloor : Nat := 0
  keyValid : Nat := 0
  keyRevoked : Nat := 0
  keyHash  : SMap Nat := []
  debugLock : Bool := false
  strap    : Nat := 0
  bootsel  : Nat := 0
deriving DecidableEq, Repr

/-- The boot ROM while it reads the flash on SPI0 (Table 17.6): the headers that it has read, slot A's first, and, once it has both,
the slots that it has still to try, the first of which it is reading. -/
structure RomSt where
  hdrs : List (List Byte) := []
  todo : List Nat := []
deriving DecidableEq, Repr

/-- The ledger on die (R531): records by slot, the SEQ of the next record, the last DIGEST, the SEQ of the next record to
send to the twin (R533) and that of the next record to drain (R532). -/
structure Ledger where
  recs   : SMap LRec := []
  next   : BitVec 32 := 0
  digest : Word := 0
  sent   : BitVec 32 := 0
  drain  : BitVec 32 := 0
deriving DecidableEq, Repr

/-- A request of the host that the UCIe adapter holds (R488, R533, R542): a write or a read of a BAR. -/
inductive HostReq
  | wr (bar off : Nat) (bytes : List Byte)
  | rd (bar off len : Nat)
deriving DecidableEq, Repr

/-- Who gets the response to an access that waits for a domain to wake (R450): the sender of a command row, a master of the mesh,
or the host, for an access of BAR0 at an offset. -/
inductive ParkBy
  | row
  | mesh (q : Option InReq) (r : MemReq)
  | host (off : Nat)
deriving DecidableEq, Repr

/-- A control-window access that waits for a domain to wake (R450, R559), a write with its data, or a read; `behind` counts the
packets that the domain's router held when it came (R463). -/
structure Parked where
  dom    : Nat
  off    : Nat
  origin : Origin
  size   : AccSize
  data   : Option Word
  behind : Nat := 0
  who    : ParkBy := .row
deriving DecidableEq, Repr

/-- The PCIe function's configuration bits (R538, R543, R544), the host's requests that the UCIe adapter holds (R488, R533,
R542), whether the first of them has been counted as held for the brace; what waits for the link to leave L1 (R537); the kinds of completer error that Advanced Error Reporting has
reported (R541); and the link's data rate in GT/s (R535). -/
structure HostSt where
  held      : List HostReq := []
  mirHeld   : Bool := false
  waits     : List Out := []
  busMaster : Bool := false
  d3hot     : Bool := false
  msixEn    : Bool := false
  funcMask  : Bool := false
  l1At      : Option Word := none
  aer       : BitVec 4 := 0
  rate      : Nat := 0
deriving DecidableEq, Repr

/-- The state of the Q96. `tally` counts the events of the gauge sources that count (FIRE, void words, ACCEPT), by their
codes (Tables 3.11 and 5.6); `porst` says whether the device is held in power-on reset: by PORST_N while `pinLow`, by a brown-out
while `brown` (R571, R572); `turns` says for each router output which of VN0, VN1 and VN3 it served last (R441); `failArr` are the fail deliveries that have reached their tiles, with their ports (R210). -/
structure State where
  pending   : List Instr := []
  regs      : SMap Word := []
  mem       : List Host.Cell := []
  out       : List Out := []
  reactions : List Reaction := []
  freeCtr   : Nat := 0
  now       : Word := 0
  porst     : Bool := true
  pinLow    : Bool := true
  brown     : Bool := false
  fuses     : Fuses := {}
  rom       : Option RomSt := none
  ledger    : Ledger := {}
  timers    : SMap (Option Word) := []
  frst      : SMap (Option Word) := []
  devReset  : Option Word := none
  parked    : List Parked := []
  host      : HostSt := {}
  wfail     : List Nat := []
  plast     : SMap Nat := []
  tiles     : SMap Tile := []
  ctxNext   : Nat := 1
  ctxTail   : List Nat := []
  ctxQueue  : List AllocReq := []
  ctxs      : SMap CtxSt := []
  qmHeld    : List (List Word) := []
  bufs      : SMap (List Flit) := []
  heldFlits : SMap (List Flit) := []
  flitId    : Nat := 0
  routes    : SMap Word := []
  outst     : List Outst := []
  txNext    : Nat := 0
  inbox     : List InReq := []
  turns     : SMap Nat := []
  wakeFlits : SMap (List (Nat × Flit)) := []
  wakeSince : Option Word := none
  prbCnt    : SMap Nat := []
  domOrg    : SMap Nat := []
  domHeld   : SMap Nat := []
  wakeAsk   : List Nat := []
  govAt     : Word := 0
  capFrom   : SMap Nat := []
  niDest    : SMap Word := []
  hbmc      : SMap Hbmc := []
  holds     : List Hold := []
  waiters   : List Waiter := []
  notices   : List Origin := []
  dma       : SMap Dma := []
  ken       : Kennel := {}
  cores     : SMap Shep := []
  hubs      : SMap Hub := []
  plates    : SMap Plate := []
  ports     : SMap PortSt := []
  failArr   : List (Nat × Delivery) := []
  links     : SMap BLink := []
  packRt    : SMap Nat := []
  brace     : Brace := {}
  pack      : PackSt := {}
  gauges    : SMap GaugeSt := []
  tally     : SMap Nat := []
  timeOffs  : List Int := []
  ret       : Retr := {}
  tripHot   : Bool := false
deriving DecidableEq, Repr

/-- The faults that stop the model itself. There is none: every access that the spec refuses is answered with an
error response, a trap or a fault in a register page, and the machine goes on. -/
inductive Fault
  /-- Raised by no command; the model's own closed list needs one name. Safe. -/
  | none
deriving DecidableEq, Repr

/-- The refusals. -/
inductive Refusal
  /-- A command that this model gives no meaning yet. Safe. -/
  | notModelled (mnemonic : String)
  /-- Raised by DMA_COPY, DMA_FILL and DMA_PROOF for a descriptor whose OP is 3, a reserved code to which the spec gives no
  effect (log entry 21). Safe. -/
  | reservedDescriptor
deriving DecidableEq, Repr

/-- The machine right after power: PORST_N holds it in reset (R17, R571). Registers stand at their reset values (an unlisted
register reads as its reset value), memory reads 0 (log entry 5), nothing is queued. -/
def State.reset : State := {}

end Sys2Proof.Machine
end

