-- ==== Sys2Proof/Machine/Codec.lean ====
section
/-! DEFINITION. The bits of Phour blocks (Tables 7.1 to 7.4), training frames (Table 7.6), and the scrambler and code of a
codeword (R230, R231). -/

namespace Sys2Proof.Machine

/-! ## Blocks (R232 to R235) -/

/-- A field of a block, at its lowest bit. -/
def place (lo width v : Nat) : Nat := v % 2 ^ width * 2 ^ lo

/-- CODE of a downstream control block (Table 7.2). -/
def DBlock.code (b : DBlock) : Nat :=
  match b with
  | .idle => 0x00
  | .data _ => 0x00
  | .slots _ => 0x01
  | .sync _ _ _ _ _ _ _ _ => 0x02
  | .ready _ _ _ => 0x03
  | .fin _ _ _ _ => 0x04
  | .sbReq _ _ _ _ _ => 0x05
  | .switch _ => 0x06
  | .abort _ => 0x07
  | .linkid _ _ _ _ => 0x08
  | .lanemap _ _ => 0x09

/-- Contents of a block (Table 7.3): bits [247:0] of a control block, all of them for DATA. -/
def DBlock.contents : DBlock → Nat
  | .idle => 0
  | .data ws => (ws.take 4).zipIdx.foldl (fun n e => n + place (64 * e.2) 64 e.1.toNat) 0
  | .slots l => (l.take 3).zipIdx.foldl (fun n e => n + place (64 * e.2) 64 e.1.2.toNat + place (192 + 3 * e.2) 3 e.1.1) 0
  | .sync sent next fcredit gen run state stopped role =>
    sent.toNat + place 64 64 next.toNat + place 128 32 fcredit + place 160 16 gen + place 176 16 run + place 192 3 state +
      place 195 1 (b2n stopped) + place 196 2 role
  | .ready first run gen => first.toNat + place 64 16 run + place 80 16 gen
  | .fin count stopped invalid run => count.toNat + place 64 1 (b2n stopped) + place 65 1 (b2n invalid) + place 80 16 run
  | .sbReq tag op be addr w => place 0 8 tag + place 8 2 op + place 16 8 be + place 32 32 addr + place 64 64 w.toNat
  | .switch gen => place 0 16 gen
  | .abort reason => place 0 16 reason
  | .linkid serial device port stepping => serial.toNat + place 64 10 device + place 74 7 port + place 88 8 stepping
  | .lanemap lane swapAt => place 0 2 lane + place 32 32 swapAt

/-- The 257 bits of a block (Table 7.1): TYPE in bit 256; CODE in [255:248] of a control block. -/
def DBlock.bits (b : DBlock) : BitVec 257 :=
  match b with
  | .data _ => BitVec.ofNat 257 (2 ^ 256 + b.contents)
  | _ => BitVec.ofNat 257 (b.code * 2 ^ 248 + b.contents)

/-! ## Bamior messages (R480, Table 15.1) -/

/-- The 20 bytes of a token in memory (R34). -/
def Token.toBytes (t : Token) : List Byte :=
  leBytes 1 t.ctl.toNat ++ leBytes 8 t.value.toNat ++ leBytes 6 t.tag.toNat ++ leBytes 5 t.dest.toNat

/-- Words 0 to 5 of a ledger record (Table 16.8). -/
def LRec.words (r : LRec) : List Word :=
  [BitVec.ofNat 64 (r.seq + r.kind * 2 ^ 32 + b2n r.size32 * 2 ^ 34 + b2n r.half * 2 ^ 35 + b2n r.applied * 2 ^ 36
      + r.origin.toNat * 2 ^ 48),
   r.time, BitVec.ofNat 64 r.off, r.old, r.new, r.data]

/-- CODE of a message. -/
def Bmsg.code : Bmsg → Nat
  | .linkid _ _ _ _ => 0x08
  | .bsync _ => 0x20
  | .nak _ => 0x21
  | .token _ _ => 0x22
  | .arrive _ _ => 0x23
  | .release _ _ _ => 0x24
  | .cfg _ _ _ => 0x25
  | .cfgAck _ _ => 0x26
  | .msg _ _ _ _ => 0x27
  | .msgAck _ _ _ _ => 0x28
  | .rstart _ _ _ _ _ => 0x29
  | .rstartAck _ _ _ _ _ => 0x2A
  | .leadhb _ _ => 0x2B
  | .hb _ => 0x30
  | .replay _ => 0x31
  | .mirror _ _ _ => 0x32
  | .unitres _ => 0x33
  | .digest _ => 0x34
  | .fence => 0x35
  | .swap _ => 0x36
  | .syncDone => 0x37

/-- Source, destination and HOPS, as MSG, MSG_ACK, RSTART and RSTART_ACK place them. -/
def packHdr (src dst hops : Nat) : Nat := place 0 10 src + place 10 10 dst + place 20 4 hops

/-- Header bits [231:0] of a message. -/
def Bmsg.header : Bmsg → Nat
  | .linkid serial device port stepping => (DBlock.linkid serial device.toNat port stepping).contents
  | .bsync f => f.txTime.toNat + place 64 64 f.peerTx.toNat + place 128 64 f.peerRx.toNat + place 192 16 f.ack.toNat +
      place 208 24 f.tcredit.toNat
  | .nak e => e.toNat
  | .token t hops => ofLe (Token.toBytes t) + place 160 4 hops
  | .arrive b e => place 0 4 b + place 16 16 e.toNat
  | .release b e t => place 0 4 b + place 16 16 e.toNat + place 64 64 t.toNat
  | .cfg off id d => off.toNat + place 24 16 id.toNat + place 64 64 d.toNat
  | .cfgAck id err => place 24 16 id.toNat + place 40 1 (b2n err)
  | .msg src dst hops _ => packHdr src dst hops
  | .msgAck src dst hops ref => packHdr src dst hops + place 24 1 (b2n ref)
  | .rstart src dst hops sub _ => packHdr src dst hops + place 24 6 sub
  | .rstartAck src dst hops sub ref => packHdr src dst hops + place 24 6 sub + place 30 1 (b2n ref)
  | .leadhb i e => i.toNat + place 16 16 e.toNat
  | .hb f => place 0 3 f.role + place 16 16 f.gen.toNat + place 32 4 f.level + place 64 32 f.seq.toNat
  | .replay r => place 0 32 r.seq
  | .mirror a be _ => a.toNat + place 48 64 be.toNat
  | .unitres f => place 0 6 f.subch + place 16 16 f.opnum.toNat + place 32 2 f.endc + place 40 8 f.check + place 48 16 f.residual +
      place 64 16 f.data.length + place 80 16 f.unit.toNat
  | .digest f => f.seq.toNat + place 32 64 f.a.toNat + place 96 32 f.n.toNat + place 128 64 f.value.toNat + place 192 1 (b2n f.ovf)
  | .fence => 0
  | .swap g => g.toNat
  | .syncDone => 0

/-- The data that follows a header. -/
def Bmsg.data : Bmsg → List Byte
  | .msg _ _ _ item => item.flatMap (fun w => leBytes 8 w.toNat)
  | .rstart _ _ _ _ e => e.flatMap (fun w => leBytes 8 w.toNat)
  | .replay r => (r.words ++ [r.digest, 0]).flatMap (fun w => leBytes 8 w.toNat)
  | .mirror _ _ line => line
  | .unitres f => f.data
  | _ => []

/-- DATA blocks of 32 bytes each, the last one filled with zeros; `n` bounds their number. -/
def dataBlocks : Nat → List Byte → List (BitVec 257)
  | 0, _ => []
  | n + 1, l => if l.isEmpty then [] else BitVec.ofNat 257 (2 ^ 256 + ofLe (l.take 32)) :: dataBlocks n (l.drop 32)

/-- The blocks of a message: its header with CODE and LSEQ, then its DATA blocks. -/
def Bmsg.blocks (m : Bmsg) (lseq : BitVec 16) : List (BitVec 257) :=
  BitVec.ofNat 257 (m.code * 2 ^ 248 + lseq.toNat * 2 ^ 232 + m.header) :: dataBlocks m.data.length m.data

/-! ## Fields of an upstream block -/

/-- A bit of an upstream block's contents. -/
def ubit (c : BitVec 248) (i : Nat) : Bool := c.getLsbD i

/-- The fields of an upstream SYNC (Table 7.4). -/
def UpSync.ofBits (c : BitVec 248) : UpSync where
  credits   := c.extractLsb' 0 64
  consumed  := c.extractLsb' 64 64
  failsSent := c.extractLsb' 128 32
  gen       := c.extractLsb' 160 16
  lostSlots := c.extractLsb' 176 16
  run       := c.extractLsb' 192 16
  selected  := ubit c 208
  otherUp   := ubit c 209
  conflict  := ubit c 210
  endSent   := ubit c 211

/-! ## Training frames (R249) -/

/-- One bit of PRBS13, polynomial x^13 + x^12 + x^2 + x + 1: the bit sent and the state after it. -/
def prbsStep (r : BitVec 13) : Bool × BitVec 13 :=
  let b := ((r.getLsbD 12 ^^ r.getLsbD 11) ^^ r.getLsbD 1) ^^ r.getLsbD 0
  (b, (r <<< 1) ||| (BitVec.ofBool b).zeroExtend 13)

/-- `n` bits of PRBS13, the first one lowest, and the state after them. -/
def prbsBits (r : BitVec 13) : Nat → Nat × BitVec 13
  | 0 => (0, r)
  | n + 1 =>
    let (b, r1) := prbsStep r
    let (m, r2) := prbsBits r1 n
    (b2n b + 2 * m, r2)

/-- FILL of a frame: symbols of 10 bits each. -/
def prbsFill (r : BitVec 13) : Nat → List (BitVec 10) × BitVec 13
  | 0 => ([], r)
  | n + 1 =>
    let (v, r1) := prbsBits r 10
    let (l, r2) := prbsFill r1 n
    (BitVec.ofNat 10 v :: l, r2)

/-- The header symbols of a training frame (Table 7.6): MARKER, LANE, STATE, COUNT, MODE. -/
def frameHeader (lane state count mode : Nat) : List (BitVec 10) :=
  [0x2A5, 0x2A5, 0x15A, 0x15A, BitVec.ofNat 10 lane, BitVec.ofNat 10 state, BitVec.ofNat 10 count, BitVec.ofNat 10 mode]

/-! ## Codewords (R230, R231) -/

/-- One bit through the self-synchronising scrambler 1 + x^39 + x^58. -/
def scramStep (r : BitVec 58) (b : Bool) : Bool × BitVec 58 :=
  let o := (b ^^ r.getLsbD 38) ^^ r.getLsbD 57
  (o, (r <<< 1) ||| (BitVec.ofBool o).zeroExtend 58)

/-- Bits through the scrambler. -/
def scramble (r : BitVec 58) : List Bool → List Bool × BitVec 58
  | [] => ([], r)
  | b :: t =>
    let (o, r1) := scramStep r b
    let (l, r2) := scramble r1 t
    (o :: l, r2)

/-- The bits of a block in the order in which they are sent: TYPE, then bits 0 to 255 (R231). -/
def blockLine (b : BitVec 257) : List Bool := b.getLsbD 256 :: (List.range 256).map (fun i => b.getLsbD i)

/-- Symbols of 10 bits, the first bit lowest (log entry 62). -/
def symbols : Nat → List Bool → List (BitVec 10)
  | 0, _ => []
  | n + 1, l => BitVec.ofNat 10 ((l.take 10).foldr (fun b v => b2n b + 2 * v) 0) :: symbols n (l.drop 10)

/-- A product in GF(2^10) with the field polynomial x^10 + x^3 + 1 (log entry 62). -/
def gf10Mul (a b : BitVec 10) : BitVec 10 :=
  ((List.range 10).foldl (fun (e : BitVec 10 × BitVec 10) i =>
    (if b.getLsbD i then e.1 ^^^ e.2 else e.1, if e.2.getLsbD 9 then (e.2 <<< 1) ^^^ 9 else e.2 <<< 1)) (0, a)).1

/-- The generator polynomial of RS(544,514): the product of x + α^j for j from 0 to 29, highest coefficient first
(log entry 62). -/
def rs544Gen : List (BitVec 10) :=
  ((List.range 30).foldl (fun (e : List (BitVec 10) × BitVec 10) _ =>
    (List.zipWith (· ^^^ ·) (e.1 ++ [0]) (0 :: e.1.map (gf10Mul e.2)), gf10Mul e.2 2)) ([1], 1)).1

/-- The parity symbols of a message: its remainder by the generator polynomial. -/
def rs544Parity (g : List (BitVec 10)) (msg : List (BitVec 10)) : List (BitVec 10) :=
  msg.foldl (fun p m =>
    let k := m ^^^ p.headD 0
    List.zipWith (· ^^^ ·) (p.drop 1 ++ [0]) (g.map (gf10Mul k))) (List.replicate 30 0)

/-- The 544 symbols of the codeword of 20 blocks, and the scrambler after it. -/
def rsCodeword (r : BitVec 58) (bs : List (BitVec 257)) : List (BitVec 10) × BitVec 58 :=
  let (line, r1) := scramble r (bs.flatMap blockLine)
  let msg := symbols 514 line
  (msg ++ rs544Parity (rs544Gen.drop 1) msg, r1)

/-- A power of α in GF(2^10). -/
def gf10Pow (n : Nat) : BitVec 10 := (List.range n).foldl (fun x _ => gf10Mul x 2) 1

/-- An inverse in GF(2^10): the 1,022nd power. -/
def gf10Inv (a : BitVec 10) : BitVec 10 := (List.range 1021).foldl (fun x _ => gf10Mul x a) a

/-- The value of a polynomial, lowest coefficient first. -/
def gf10Eval (c : List (BitVec 10)) (x : BitVec 10) : BitVec 10 := c.foldr (fun v r => v ^^^ gf10Mul r x) 0

/-- The syndromes of an error pattern: symbol k of a codeword has the power 543 − k. -/
def rs544Syn (e : List (Nat × BitVec 10)) : List (BitVec 10) :=
  (List.range 30).map (fun j => e.foldl (fun s x => s ^^^ gf10Mul x.2 (gf10Pow (j * (543 - x.1) % 1023))) 0)

/-- One polynomial plus a multiple of another, shifted. -/
def gf10Add (c : List (BitVec 10)) (k : BitVec 10) (m : Nat) (b : List (BitVec 10)) : List (BitVec 10) :=
  (List.range (max c.length (b.length + m))).map (fun i => c.getD i 0 ^^^ (if i < m then 0 else gf10Mul k (b.getD (i - m) 0)))

/-- What the search for the error locator keeps: the locator, the last one before it grew, its discrepancy, its length, and the
steps since. -/
structure RsLoc where
  c : List (BitVec 10) := [1]
  b : List (BitVec 10) := [1]
  d : BitVec 10 := 1
  l : Nat := 0
  m : Nat := 1
deriving DecidableEq, Repr

/-- The shortest error locator that the syndromes allow. -/
def rsLocate (syn : List (BitVec 10)) : RsLoc :=
  (List.range 30).foldl (fun x n =>
    let d := (List.range (x.l + 1)).foldl (fun s i => s ^^^ gf10Mul (x.c.getD i 0) (syn.getD (n - i) 0)) 0
    if d = 0 then { x with m := x.m + 1 }
    else
      let c := gf10Add x.c (gf10Mul d (gf10Inv x.d)) x.m x.b
      if 2 * x.l ≤ n then { c := c, b := x.c, d := d, l := n + 1 - x.l, m := 1 } else { x with c := c, m := x.m + 1 }) {}

/-- The pattern of at most 15 symbols that the decoder takes for the error of a received codeword, by its syndromes; none where it
flags the codeword (R230). -/
def rsCorrect (syn : List (BitVec 10)) : Option (List (Nat × BitVec 10)) :=
  let x := rsLocate syn
  let omega := (List.range 30).map (fun n => (List.range (n + 1)).foldl (fun s i => s ^^^ gf10Mul (x.c.getD i 0) (syn.getD (n - i) 0)) 0)
  let slope := (List.range x.c.length).map (fun i => if i % 2 = 0 then x.c.getD (i + 1) 0 else 0)
  let at_ := (List.range 544).filter (fun k => gf10Eval x.c (gf10Pow ((480 + k) % 1023)) == 0)
  let e := at_.map (fun k =>
    let r := gf10Pow ((480 + k) % 1023)
    (k, gf10Mul (gf10Pow (543 - k)) (gf10Mul (gf10Eval omega r) (gf10Inv (gf10Eval slope r)))))
  if x.l ≤ 15 ∧ e.length = x.l ∧ rs544Syn e = syn then some e else none

/-- The symbols that the decoder corrects in a codeword received with an error pattern, none where it flags the codeword: a pattern
of up to 15 symbols is corrected; a larger one may be miscorrected (R230). -/
def rsFix (e : List (Nat × BitVec 10)) : Option (List (Nat × BitVec 10)) :=
  let m := e.filter (fun x => decide (x.1 < 544) && x.2 != 0)
  if m.length ≤ 15 then some m else rsCorrect (rs544Syn m)

/-- The symbols of a codeword on each of `n` logical lanes: symbol k on lane k mod n (R230, R479). -/
def laneSymbols (n : Nat) (cw : List (BitVec 10)) : List (List (BitVec 10)) :=
  (List.range n).map (fun l => (cw.zipIdx.filter (fun e => e.2 % n == l)).map (fun e => e.1))

end Sys2Proof.Machine
end

