-- ==== Sys2Proof/Machine/Ops.lean ====
section
/-! DEFINITION. The named operations over registers, memory, the ledger, faults, interrupts and rings that every
command's meaning is written with. -/

namespace Sys2Proof.Machine

/-! ## Registers (R13, R15) -/

/-- The stored value of the register at a control-window offset. -/
def State.reg (s : State) (off : Nat) : Word := SMap.get (regReset off) s.regs off

/-- Store a register. -/
def State.setReg (s : State) (off : Nat) (w : Word) : State :=
  { s with regs := SMap.set (regReset off) s.regs off w }

/-- A field of a register. -/
def State.f (s : State) (off hi lo : Nat) : Nat := fld (s.reg off) hi lo

/-- One bit of a register. -/
def State.b (s : State) (off i : Nat) : Bool := bit (s.reg off) i

/-- Store a field of a register. -/
def State.putF (s : State) (off hi lo v : Nat) : State := s.setReg off (setFld (s.reg off) hi lo v)

/-- Store one bit of a register. -/
def State.putB (s : State) (off i : Nat) (v : Bool) : State := s.putF off i i (b2n v)

/-- Add to a counter field, which saturates (the tables' "saturates"). -/
def State.inc (s : State) (off hi lo : Nat) (n : Nat := 1) : State :=
  s.putF off hi lo (satAdd (hi + 1 - lo) (s.f off hi lo) n)

/-- Forget the stored registers of one page from page offset `lo` up to `hi`: they return to their reset values. -/
def State.resetRegs (s : State) (page lo hi : Nat) (keep : List Nat := []) : State :=
  { s with regs := s.regs.filter (fun e =>
      !(decide (page + lo ≤ e.1) && decide (e.1 < page + hi)) || keep.contains (e.1 - page)) }

/-! ## Free values -/

/-- Draw a free 64-bit value (log entry 4). -/
def State.draw (s : State) : Word × State :=
  (Config.freeWord s.freeCtr, { s with freeCtr := s.freeCtr + 1 })

/-- Draw a free bit (log entry 4). -/
def State.drawBit (s : State) : Bool × State :=
  (Config.freeBit s.freeCtr, { s with freeCtr := s.freeCtr + 1 })

/-! ## Gauge sources that count (Tables 3.11, 5.6) -/

/-- An event of a gauge source. -/
def State.tallyUp (s : State) (code : Nat) : State := { s with tally := SMap.set 0 s.tally code (SMap.get 0 s.tally code + 1) }

/-! ## Gauges (R474) -/

/-- Offset of GAUGE_CFG of a gauge. -/
def gaugeAt (g : Nat) : Nat := pageAt .time (1 + g / 128) + R.gaugeCfg + 8 * (g % 128)

/-- A gauge. -/
def State.gauge (s : State) (g : Nat) : GaugeSt := SMap.get {} s.gauges g

/-- Change a gauge. -/
def State.updGauge (s : State) (g : Nat) (k : GaugeSt → GaugeSt) : State :=
  { s with gauges := SMap.set {} s.gauges g (k (s.gauge g)) }

/-- The bin of a sample (R474). -/
def gaugeBin (v scale : Nat) : Nat :=
  let u := v / 2 ^ scale
  if u = 0 then 0 else min 31 (1 + Nat.log2 u)

/-- A gauge takes a sample (R474). -/
def State.gaugeAdd (s : State) (g v : Nat) : State :=
  let v := min v 0xFFFFFFFF
  let b := gaugeBin v (s.f (gaugeAt g) 20 16)
  s.updGauge g (fun x => { x with n := satAdd 48 x.n 1, lo := min x.lo v, hi := max x.hi v,
                                  bins := SMap.set 0 x.bins b (satAdd 32 (SMap.get 0 x.bins b) 1) })

/-- The gauges whose SOURCE selects a code. -/
def State.gaugesOn (s : State) (code : Nat) : List Nat :=
  s.regs.filterMap (fun e => match (List.range 2).find? (fun i => decide (gaugeAt (128 * i) ≤ e.1 ∧ e.1 < gaugeAt (128 * i) + 0x400)) with
    | some i => if fld e.2 15 0 = code then some (128 * i + e.1 % 0x400 / 8) else none
    | none => none)

/-- A source reaches a sample point of its own (R474): the gauges that watch it take the sample. -/
def State.sampleAt (s : State) (code v : Nat) : State := (s.gaugesOn code).foldl (fun s g => s.gaugeAdd g v) s

/-! ## Outputs and reactions -/

/-- Send something out of the block. -/
def State.emit (s : State) (o : Out) : State := { s with out := o :: s.out }

/-- Leave an effect on another block for the end of the command. -/
def State.react (s : State) (r : Reaction) : State := { s with reactions := s.reactions ++ [r] }

/-! ## Memory (R9, R423, R425, R426) -/

/-- The regions of the device address map (Table 13.1). -/
inductive Region | hbm | shep | rom | control | sem (window : Nat) | host | unmapped
deriving DecidableEq, Repr

/-- End of the usable HBM range (Table 13.1). -/
def hbmEnd : Nat := 0x1680000000
/-- Base of the Shepherd store. -/
def shepBase : Nat := 0x2000000000
/-- Base of the boot ROM. -/
def romBase : Nat := 0x2000800000
/-- Base of the control window. -/
def ctrlBase : Nat := 0x3000000000
/-- Offset in the control window of the register that an address of the window lies in (R423). -/
def ctrlOff (a : Nat) : Nat := a % 0x1000000 / 8 * 8

/-- The region of an address (R423, Table 13.1). -/
def region (a : Nat) : Region :=
  if a < hbmEnd then .hbm
  else if shepBase ≤ a && a < shepBase + 0x800000 then .shep
  else if romBase ≤ a && a < romBase + 0x10000 then .rom
  else if ctrlBase ≤ a && a < ctrlBase + 0x1000000 then .control
  else if 0x4000000000 ≤ a && a < 0x14000000000 then .sem (a / 0x4000000000 - 1)
  else if 0x800000000000 ≤ a && a < 0x1000000000000 then .host
  else .unmapped

/-- The controller that owns an HBM address: the XOR of the fifteen 2-bit groups a[9:8] to a[37:36] (R425). -/
def hbmUnit (a : Nat) : Nat :=
  (List.range 15).foldl (fun x i => x ^^^ ((a >>> (8 + 2 * i)) % 4)) 0

/-- The local address L(a) within the owning controller's stack (R425). -/
def hbmLocal (a : Nat) : Nat := ((a >>> 10) % 2 ^ 28) <<< 8 ||| a % 256

/-- The device address of local address `l` of controller `u` (R425). -/
def hbmDevice (u l : Nat) : Nat :=
  let a0 := (l >>> 8) <<< 10 ||| l % 256
  a0 ||| (u ^^^ hbmUnit a0) <<< 8

/-- The pseudo-channel of a local address (R426). -/
def pseudoChannel (l : Nat) : Nat := ((l >>> 8) ^^^ (l >>> 18) ^^^ (l >>> 28)) % 32

/-- The unit that serves a word: HBM controllers 0 to 3, and 4 for the Shepherd store (R401, Table 12.6). -/
def unitOf (a : Nat) : Option Nat :=
  match region a with
  | .hbm => some (hbmUnit a)
  | .shep => some 4
  | _ => none

/-- Node of an HBMC page (Table 13.5). -/
def unitNode (u : Nat) : Nat := pageNode .hbmc u

/-- The node that serves a control-window address: that of its page, or for an address in no page that of core 0 (R424). -/
def ctrlNode (a : Nat) : Nat := match pageOf (ctrlOff a) with | some (b, p) => pageNode b p | none => pageNode .shep 0

/-- One byte of memory. -/
def State.byte (s : State) (a : Nat) : Byte := SMap.get 0 s.mem a

/-- `n` bytes of memory from an address upward. -/
def State.bytes (s : State) (a n : Nat) : List Byte := (List.range n).map (fun i => s.byte (a + i))

/-- A little-endian number of `n` bytes (R9). -/
def State.rd (s : State) (a n : Nat) : Nat := ofLe (s.bytes a n)

/-- A 64-bit word of memory. -/
def State.rd64 (s : State) (a : Nat) : Word := BitVec.ofNat 64 (s.rd a 8)

/-- Write one byte. -/
def State.wrByte (s : State) (a : Nat) (b : Byte) : State := { s with mem := SMap.set 0 s.mem a b }

/-- Write bytes from an address upward. -/
def State.wrBytes (s : State) (a : Nat) : List Byte → State
  | [] => s
  | b :: r => (s.wrByte a b).wrBytes (a + 1) r

/-- Write a little-endian number of `n` bytes (R9). -/
def State.wr (s : State) (a n v : Nat) : State := s.wrBytes a (leBytes n v)

/-- Write a 64-bit word. -/
def State.wr64 (s : State) (a : Nat) (w : Word) : State := s.wr a 8 w.toNat

/-- Write 64-bit words from an address upward. -/
def State.wrWords (s : State) (a : Nat) : List Word → State
  | [] => s
  | w :: r => (s.wr64 a w).wrWords (a + 8) r

/-- State of an HBM controller. -/
def State.hb (s : State) (u : Nat) : Hbmc := SMap.get {} s.hbmc u

/-- Change the state of an HBM controller. -/
def State.updHb (s : State) (u : Nat) (g : Hbmc → Hbmc) : State :=
  { s with hbmc := SMap.set {} s.hbmc u (g (s.hb u)) }

/-- The spare that holds a line of local address `l`, where its page is retired and the line has been copied
(R434). -/
def Hbmc.spareOf (h : Hbmc) (l : Nat) : Option Nat :=
  let pg := l / 4096
  match h.spares.findIdx? (fun p => p == pg) with
  | none => none
  | some i =>
    match h.copy with
    | some (p, ptr) => if p == pg && decide (ptr ≤ (l % 4096) / 64) then none else some i
    | none => some i

/-- Is the line of an HBM address a poisoned spare line (R434)? -/
def State.poisoned (s : State) (a : Nat) : Bool :=
  let h := s.hb (hbmUnit a)
  let l := hbmLocal a
  match h.spareOf l with
  | some i => h.poison.contains (i * 64 + (l % 4096) / 64)
  | none => false

/-- The raw line, raw address / 64, at which a line of local address `l` lies: its spare's where it has been copied there (Table
13.2, R434). -/
def Hbmc.rawLine (h : Hbmc) (l : Nat) : Nat :=
  match h.spareOf l with
  | some i => 0x5FA000000 / 64 + 64 * i + (l % 4096) / 64
  | none => l / 64

/-- The device address whose line a raw line of the data area or of a spare holds now. -/
def State.rawDevice (s : State) (u raw : Nat) : Option Nat :=
  let h := s.hb u
  if raw < 377487360 then if h.rawLine (64 * raw) = raw then some (hbmDevice u (64 * raw)) else none
  else
    let i := raw - 0x5FA000000 / 64
    match h.spares[i / 64]? with
    | some p => if h.rawLine (4096 * p + 64 * (i % 64)) = raw then some (hbmDevice u (4096 * p + 64 * (i % 64))) else none
    | none => none

/-- The errors that stand in the line of an HBM address: they are uncorrectable, for a line that is corrected is written back
(Table 13.4). -/
def State.errsAt (s : State) (a : Nat) : SMap Nat :=
  let h := s.hb (hbmUnit a)
  SMap.get [] h.errs (h.rawLine (hbmLocal a))

/-- Does a read of the line of an HBM address end with status DATA: a poisoned spare line, or errors that stand in it? -/
def State.lineBad (s : State) (a : Nat) : Bool := s.poisoned a || !(s.errsAt a).isEmpty

/-- A whole-line write clears the line's poison and leaves no error in it (R431). -/
def State.clearPoison (s : State) (a : Nat) : State :=
  let h := s.hb (hbmUnit a)
  let l := hbmLocal a
  match h.spareOf l with
  | some i => s.updHb (hbmUnit a) (fun h => { h with
      poison := h.poison.filter (fun q => !(q == i * 64 + (l % 4096) / 64)), errs := SMap.set [] h.errs (h.rawLine l) [] })
  | none => if (s.errsAt a).isEmpty then s else s.updHb (hbmUnit a) (fun h => { h with errs := SMap.set [] h.errs (l / 64) [] })

/-- Is the network interface of a node isolated (R449), by its own bit or by the level-2 action of its tile
(Table 16.3)? -/
def State.isolated (s : State) (node : Nat) : Bool :=
  s.b (pageAt .noc node + R.nocNiCtl) 1 ||
    (decide (16 ≤ node) && decide (node < 144) && s.b (pageAt .tile (node - 16) + R.pgErrLevel) 2)

/-- May the device send requests to host memory (R543)? -/
def State.hostOk (s : State) : Bool :=
  s.host.busMaster && !s.host.d3hot && decide (2 ≤ s.f (pageAt .host 0 + R.hostLink) 1 0)

/-- The blocks of `g` bytes that an access of `n` bytes at `a` touches. -/
def blocksOf (g a n : Nat) : List Nat :=
  if n = 0 then [] else (List.range ((a + n - 1) / g - a / g + 1)).map (fun k => (a / g + k) * g)

/-- The HBM controllers that an access reaches (R425). -/
def unitsOf (a n : Nat) : List Nat := (List.range 4).filter (fun u => (blocksOf 256 a n).any (fun b => hbmUnit b == u))

/-- The node of the UCIe adapter that serves an address of host memory (Table 13.1). -/
def adapterOf (a : Nat) : Nat := 7 + a / 0x1000 % 2

/-- The nodes that an access of `n` bytes reaches. -/
def nodesOf (a n : Nat) : List Nat :=
  match region a with
  | .hbm => (unitsOf a n).map unitNode
  | .shep => [unitNode 4]
  | .host => ((blocksOf 0x1000 a n).map adapterOf).eraseDups
  | _ => []

/-- The status that an engine's access of `n` bytes receives (R400, R423, R434, R449, R543): ADDRESS outside the memory
regions, ISOLATED from an isolated node or a host that cannot be reached and from a semaphore window, DATA from a poisoned or
uncorrectable line that the access reads or writes in part. -/
def State.access (s : State) (a n : Nat) (write : Bool) : Status :=
  if n = 0 then .ok else
  match region a, region (a + n - 1) with
  | .hbm, .hbm =>
    if (unitsOf a n).any (fun u => s.isolated (unitNode u)) then .isolated
    else if (blocksOf 64 a n).any (fun line =>
        s.lineBad line && !(write && decide (a ≤ line) && decide (line + 64 ≤ a + n))) then .data
    else .ok
  | .shep, .shep => if s.isolated (unitNode 4) then .isolated else .ok
  | .host, .host => if s.hostOk && (blocksOf 0x1000 a n).all (fun b => !s.isolated (adapterOf b)) then .ok else .isolated
  | .sem _, _ => .isolated
  | _, _ => .address

/-- Offset of PWR_DOM of a domain (R457). -/
def domAt (d : Nat) : Nat := pageAt .pwr 0 + R.pwrDom + 8 * d

/-- STATE of a domain: 0 ON, 1 RETAIN, 2 OFF, 3 DRAINING, 4 COMMITTED, 5 WAKING (Table 14.4). -/
def State.domState (s : State) (d : Nat) : Nat := s.f (domAt d) 4 2

/-- Is a domain powered: ON, or DRAINING (Table 14.2)? -/
def State.domOn (s : State) (d : Nat) : Bool := s.domState d == 0 || s.domState d == 3

/-- Does the controller of a memory address have no power? -/
def State.asleep (s : State) (a : Nat) : Option Nat :=
  match unitOf a with
  | some u => if u < 4 ∧ !s.domOn (168 + u) then some u else none
  | none => none

/-- A request waits at the router that leads to a domain without power: its wake is asked for, and time-out clocks pause (R448,
R450). -/
def State.askWake (s : State) (d : Nat) : State :=
  { s with wakeSince := match s.wakeSince with | some w => some w | none => some s.now }.react (.domWake d)

/-- Is the host's link in L1? -/
def State.linkL1 (s : State) : Bool := s.f (pageAt .host 0 + R.hostLink) 1 0 == 3

/-- A request to the host or a message starts an exit from L1 (R537). -/
def State.wakeLink (s : State) : State :=
  if s.linkL1 && s.host.l1At.isNone then { s with host := { s.host with l1At := some s.now } } else s

/-- A request or message to the host: while the link is in L1 it waits at the adapter (R537). -/
def State.toHost (s : State) (o : Out) : State :=
  if s.linkL1 then ({ s with host := { s.host with waits := s.host.waits ++ [o] } }).wakeLink
  else s.emit o

/-- A store has reached memory: the semaphore units grant waiters of the words it wrote (R403). -/
def State.stored (s : State) (a n : Nat) : State :=
  (s.waiters.filter (fun w => decide (w.addr < a + n) && decide (a < w.addr + 8))).foldl
    (fun s w => s.react (.stored w.unit w.addr)) s

/-! ## The ledger (R528 to R533) -/

/-- CRC-64 with polynomial 0x42F0_E1EB_A9EA_3693, reflected (R530). -/
def crc64 (bs : List Byte) : Word :=
  ~~~ (bs.foldl (fun c b =>
    (List.range 8).foldl (fun (c : Word) (_ : Nat) =>
      if c.getLsbD 0 then (c >>> 1) ^^^ 0xC96C5795D7870F42 else c >>> 1) (c ^^^ b.zeroExtend 64)) (BitVec.allOnes 64))

/-- DIGEST of a record: over the previous DIGEST and bytes 0 to 47 of the record (R530). -/
def LRec.digestAfter (r : LRec) (prev : Word) : Word :=
  crc64 ((prev :: r.words).flatMap (fun w => leBytes 8 w.toNat))

/-- The hardware-agent origin of a page's block (Table 16.9). -/
def agent (page : Nat) : Origin :=
  match pageOf page with
  | some (b, n) => BitVec.ofNat 16 (0x7000 + pageNode b n)
  | none => 0x7000

/-- The ledger's producer index advances to `n`; WRAPS advances each time it passes a multiple of the ring size (R532). -/
def State.ledgProdTo (s : State) (n : Nat) : State :=
  let lp := pageAt .ledg 0
  let s1 := s.putF (lp + R.ledgProd) 31 0 n
  if n % 2 ^ s.f (lp + R.ledgRing) 4 0 = 0 then s1.putF (lp + R.ledgWrap) 31 0 ((s1.f (lp + R.ledgWrap) 31 0 + 1) % 2 ^ 32) else s1

/-- Append a record to the ledger: at slot SEQ mod 4,096, DROPPED counting an undrained record that it overwrites (R531). -/
def State.record (s : State) (kind : Nat) (size32 half applied : Bool) (origin : Origin) (off : Nat)
    (old new data : Word) : State :=
  let n := s.ledger.next
  let r : LRec := { seq := n.toNat, kind := kind, size32 := size32, half := half, applied := applied,
                    origin := origin, time := s.now, off := off, old := old, new := new, data := data }
  let d := r.digestAfter s.ledger.digest
  let lp := pageAt .ledg 0
  let full := decide (4096 ≤ (n - s.ledger.drain).toNat)
  let s1 := { s with ledger :=
      { s.ledger with recs := SMap.set {} s.ledger.recs (n.toNat % 4096) { r with digest := d }, next := n + 1,
                      digest := d, drain := if full then s.ledger.drain + 1 else s.ledger.drain } }
  if full then (s1.inc (lp + R.ledgCnt) 47 32).ledgProdTo (s.ledger.drain + 1).toNat
  else s1

/-! ## Bark arrivals and MSI-X (R382, R383, R544) -/

/-- Offset of BARK_SRC of a source (R390). -/
def barkSrcAt (src : Nat) : Nat := pageAt .bark (1 + src / 256) + 0x800 + 8 * (src % 256)

/-- The first of a page's two Bark sources, INT and ERR (Table 11.5, R557); none for the reserved HBMC pages, whose
sources never arrive (R456). Pages that have no sources of their own signal through page [0] of their block. -/
def pageSource (page : Nat) : Option Nat :=
  match pageOf page with
  | none => none
  | some (b, n) => match b with
    | .glb => some 128 | .ken => some 130 | .bark => some 132 | .pwr => some 134 | .time => some 136
    | .ledg => some 138 | .brc => some 140 | .pack => some 142 | .host => some 144
    | .hbmc => if n < 5 then some (160 + 2 * n) else none
    | .shep => some (176 + 2 * n) | .ret => some (208 + 2 * n) | .dma => some (336 + 2 * n)
    | .hub => some (400 + 2 * n) | .port => some (448 + 2 * n) | .tile => some (640 + 2 * n)
    | .noc => some (896 + 2 * n) | .hdr => none

/-- Offsets of an MSI-X table entry's address and data words, and of the PBA word of a vector (Table 17.2). -/
def msixAt (v : Nat) : Nat := pageAt .host (1 + v / 256) + 16 * (v % 256)
/-- Offset of the PBA word of a vector. -/
def pbaAt (v : Nat) : Nat := pageAt .host 9 + 8 * (v / 64)

/-- Signal a vector to the host: a message, or the PBA bit while messages are disabled or masked (R538, R544). A
message starts an exit from L1 (R537). -/
def State.msix (s : State) (v : Nat) : State :=
  if s.host.msixEn && !s.host.funcMask && !s.host.d3hot && !s.b (msixAt v + 8) 32 then
    s.toHost (.msix v (s.reg (msixAt v)) (BitVec.ofNat 64 (s.f (msixAt v + 8) 31 0)))
  else s.putB (pbaAt v) (v % 64) true

/-- An arrival at a Bark source (R383): COUNT rises, saturating at 255; HOST mirrors it to MSI-X; a source with
PRIO ≠ 0 wakes its target core (R384, R459). -/
def State.bark (s : State) (src : Nat) : State :=
  let o := barkSrcAt src
  let s1 := s.inc o 23 16
  let s2 := if s1.b o 8 then s1.msix src else s1
  if s2.f o 3 0 = 0 then s2 else s2.react (.wake (s2.f o 7 4))

/-- A page event: set a PG_INT_STAT bit, with an arrival at the page's INT source where PG_INT_EN enables it
(R382). -/
def State.pageInt (s : State) (page i : Nat) : State :=
  let s1 := s.putB (page + R.pgIntStat) i true
  if s1.b (page + R.pgIntEn) i then
    match pageSource page with
    | some src => s1.bark src
    | none => s1
  else s1

/-! ## Faults (R514 to R520) -/

/-- Fault classes (Table 16.1). -/
inductive Cls | correctable | uncorrectable | protocol | timeout | config
deriving DecidableEq, Repr

/-- The class index (Table 16.1). -/
def Cls.idx : Cls → Nat
  | .correctable => 0 | .uncorrectable => 1 | .protocol => 2 | .timeout => 3 | .config => 4

/-- Does a page take a level-2 action (Table 16.3)? -/
def hasLevel2 (page : Nat) : Bool :=
  match pageOf page with
  | some (b, _) => match b with | .tile | .port | .hub | .shep | .ret | .dma => true | _ => false
  | none => false

/-- The reaction timer of a page: its expiry time while it runs. -/
def State.timer (s : State) (page : Nat) : Option Word := SMap.get none s.timers page

/-- Start or stop a page's reaction timer. -/
def State.setTimer (s : State) (page : Nat) (t : Option Word) : State :=
  { s with timers := SMap.set none s.timers page t }

/-- Start the reaction timer at TIMEOUT_US, unless the page is at CEIL, where it stops (R517). -/
def State.startTimer (s : State) (page : Nat) : State :=
  if s.f (page + R.pgErrLevel) 1 0 < s.f (page + R.pgErrEn) 9 8 then
    s.setTimer page (some (s.now + BitVec.ofNat 64 (us * s.f (page + R.pgErrTimer) 31 0)))
  else s.setTimer page none

/-- Change a page's LEVEL (R518, R519): ISOLATED set where the level reaches 2 and the page has a level-2 action, the
ledger record of KIND 2, the ERR arrival of a rise, and the level's action left for the end of the command. -/
def State.setLevel (s : State) (page lvl reason : Nat) (cls : Nat) : State :=
  let o := page + R.pgErrLevel
  let old := s.reg o
  let rise := decide (fld old 1 0 < lvl)
  let s1 := s.putF o 1 0 lvl
  let s2 := if decide (2 ≤ lvl) && hasLevel2 page then s1.putB o 2 true else s1
  let s3 := s2.record 2 false false true (agent page) o old (s2.reg o) (BitVec.ofNat 64 (cls + reason * 16))
  let s4 := if rise then
      match pageSource page with
      | some src => s3.bark (src + 1)
      | none => s3
    else s3
  if rise then (s4.startTimer page).react (.level page lvl)
  else if lvl = 0 then (s4.setTimer page none).react (.level page 0) else s4

/-- The enabled classes of a page other than correctable that are unacknowledged (R517). -/
def State.liveClasses (s : State) (page : Nat) : Nat :=
  (s.f (page + R.pgErrStat) 4 0 &&& s.f (page + R.pgErrEn) 4 0) &&& 0b11110

/-- A block raises a fault of a class in its page (R515 to R517). `inj` marks a fault that injection made (R522). -/
def State.fault (s : State) (page : Nat) (c : Cls) (inj : Bool := false) : State :=
  let k := c.idx
  let o := page + R.pgErrStat
  let before := s.f o 4 0
  let was := before.testBit k
  let s1 := (s.putB o k true).inc o 63 32
  let s2 := if before = 0 then
      s1.setReg (page + R.pgErrFirst) (BitVec.ofNat 64 (k + b2n inj * 8 + 16 + (s.now.toNat % 2 ^ 56) * 256))
    else s1
  let lvl := s2.f (page + R.pgErrLevel) 1 0
  if s2.b (page + R.pgErrEn) k then
    if lvl = 0 then s2.setLevel page 1 0 k
    else if c = .correctable then s2
    else if was then
      if lvl < s2.f (page + R.pgErrEn) 9 8 then s2.setLevel page (lvl + 1) 1 k else s2
    else if (s2.timer page).isNone then s2.startTimer page else s2
  else s2

/-! ## Reads and writes of an engine (R423, R430, R431, R436, R522) -/

/-- An access to a semaphore window that R400 refuses: counted, with a configuration fault in the serving unit's page. An
address in no unit reaches first the controller that R425's hash names (log entry 16). -/
def State.badWindow (s : State) (a : Nat) : State :=
  let u := match unitOf a with | some u => u | none => hbmUnit a
  (s.inc (pageAt .hbmc u + R.hbmcSemEvt2) 31 16).fault (pageAt .hbmc u) .config

/-- The device address behind a window address. -/
def semInner (a : Nat) : Nat := a % 0x4000000000

/-- The state in which a core waits with an access of memory or of a semaphore: for the wake of a controller without power (R450,
R462), or for the link's exit from L1 (R537); none where the access goes on. -/
def State.memWaits (s : State) (a : Nat) : Option State :=
  match region a with
  | .hbm => unitWaits a
  | .sem _ => unitWaits (semInner a)
  | .host => if s.linkL1 && s.hostOk && !s.isolated (adapterOf a) then some s.wakeLink else none
  | _ => none
where
  /-- The wait for the controller of a memory address, unless its interface answers (R449). -/
  unitWaits (a : Nat) : Option State :=
    match s.asleep a with
    | some u => if s.isolated (unitNode u) then none else some (s.askWake (168 + u))
    | none => none

/-- Isolated network interfaces count the request that they answer (R449). -/
def State.isoCount (s : State) (a : Nat) (st : Status) (n : Nat) : State :=
  if st = .isolated then ((nodesOf a n).filter s.isolated).foldl (fun s m => s.inc (pageAt .noc m + R.nocNiEvt) 47 32) s else s

/-- An HBM controller that is not ON is woken by an access (R462, R463). -/
def State.wakeUnits (s : State) (a : Nat) (st : Status) (n : Nat) : State :=
  if st = .isolated then s else
    (unitsOf a n).foldl (fun s u => if s.domState (168 + u) = 0 then s else s.react (.domWake (168 + u))) s

/-- An access of `n` bytes reaches the nodes that serve it: an isolated network interface that answers it counts it (R449); an HBM
controller that is not ON is woken (R462, R463); a read of a poisoned or an uncorrectable line counts there (Table 13.4). A request to the host
wakes the link; one to a semaphore window is refused there. -/
def State.visit (s : State) (a : Nat) (st : Status) (n : Nat := 1) : State :=
  let s0 := s.isoCount a st n
  match region a with
  | .hbm =>
    let s1 := s0.wakeUnits a st n
    if st = .data then
      let s2 := ((blocksOf 64 a n).filter s.poisoned).foldl (fun s b => s.inc (pageAt .hbmc (hbmUnit b) + R.hbmcEccCnt) 63 48) s1
      ((blocksOf 64 a n).filter (fun b => !(s.errsAt b).isEmpty)).foldl (fun s b => s.react (.lineMet b)) s2
    else s1
  | .host => if st = .ok then s0.wakeLink else s0
  | .sem _ => s0.badWindow (semInner a)
  | _ => s0

/-- Is a block of `g` bytes wholly inside an access? -/
def blockIn (g a n b : Nat) : Bool := decide (a ≤ b) && decide (b + g ≤ a + n)

/-- The blocks that an access reads: all for a read, those written in part for a write (R431). -/
def readBlocks (g a n : Nat) (write : Bool) : List Nat := (blocksOf g a n).filter (fun b => !(write && blockIn g a n b))

/-- Is injection armed for the checker of memory unit `u` (Table 16.5)? -/
def State.memArmed (s : State) (u : Nat) : Bool :=
  decide (s.f (pageAt .hbmc u + R.pgErrInj) 47 32 ≠ 0) && s.f (pageAt .hbmc u + R.pgErrInj) 3 0 == 0

/-- Does injection make a word of the Shepherd store that an engine reads uncorrectable (R436, R522)? -/
def State.sramStops (s : State) (a n : Nat) (write : Bool) : Bool :=
  region a == .shep && s.memArmed 4 && s.b (pageAt .hbmc 4 + R.pgErrInj) 4 && !(readBlocks 8 a n write).isEmpty

/-- The status that an engine's read or write receives, injection included. -/
def State.engineStatus (s : State) (a n : Nat) (write : Bool) : Status :=
  match s.access a n write with
  | .ok => if s.sramStops a n write then .data else .ok
  | st => st

/-- The checker of unit `u` sees one block: while injection is armed COUNT falls by one, and the error is counted and
raised as a real one would be (R522, Table 13.4). The outer code corrects what injection inverts. -/
def State.checkBlock (s : State) (u b : Nat) : State :=
  if s.memArmed u && !(u != 4 && s.lineBad b) then
    let p := pageAt .hbmc u
    let s1 := s.putF (p + R.pgErrInj) 47 32 (s.f (p + R.pgErrInj) 47 32 - 1)
    if u ≠ 4 then ((s1.inc (p + R.hbmcEccCnt) 31 16).setReg (p + R.hbmcEccLast) (BitVec.ofNat 64 b)).fault p .correctable true
    else if s.b (p + R.pgErrInj) 4 then
      ((s1.inc (p + R.hbmcEccCnt) 47 32).setReg (p + R.hbmcEccLast) (BitVec.ofNat 64 (b + 2 ^ 48))).fault p .uncorrectable true
    else (s1.inc (p + R.hbmcEccCnt) 15 0).fault p .correctable true
  else s

/-- The checkers of the memory units see an engine's access. -/
def State.checkMem (s : State) (a n : Nat) (write : Bool) : State :=
  if (List.range 5).all (fun u => !s.memArmed u) then s
  else match region a with
    | .hbm => (readBlocks 64 a n write).foldl (fun s b => s.checkBlock (hbmUnit b) b) s
    | .shep => (readBlocks 8 a n write).foldl (fun s b => s.checkBlock 4 b) s
    | _ => s

/-- Whole lines that an engine has written are poisoned no more and hold no error (R431). -/
def State.clearLines (s : State) (a n : Nat) : State :=
  if region a == .hbm then
    ((blocksOf 64 a n).filter (fun b => blockIn 64 a n b && s.lineBad b)).foldl (fun s b => s.clearPoison b) s
  else s

/-- An access that the units answer DATA has been seen by their checkers. -/
def State.refused (s : State) (a n : Nat) (write : Bool) (st : Status) : State :=
  if st = .data then (s.visit a (if s.access a n write = .ok then .ok else .data) n).checkMem a n write else s.visit a st n

/-- An engine's request to host memory is sent on the link (R543); in L1 it waits there (R537). -/
def State.hostSent (s : State) (write : Bool) (a n : Nat) (bs : List Byte) : State :=
  if region a == .host then s.toHost (.hostMem write (a % 0x800000000000) n bs) else s

/-- An engine's write, with the status it receives; it lands where the status is OK. -/
def State.memWrite (s : State) (a : Nat) (bs : List Byte) : Status × State :=
  match s.engineStatus a bs.length true with
  | .ok => (.ok, (((((s.wrBytes a bs).stored a bs.length).visit a .ok bs.length).hostSent true a bs.length bs).clearLines a
      bs.length).checkMem a bs.length true)
  | st => (st, s.refused a bs.length true st)

/-- An engine's read of `n` bytes: its status, its data, and the state after it. -/
def State.memRead (s : State) (a n : Nat) : Status × List Byte × State :=
  match s.engineStatus a n false with
  | .ok => (.ok, s.bytes a n, ((s.visit a .ok n).hostSent false a n []).checkMem a n false)
  | st => (st, [], s.refused a n false st)

/-- The class of fault that an error status raises in an engine's own page (R417, R584). -/
def statusCls : Status → Cls
  | .address => .config
  | .isolated => .timeout
  | _ => .uncorrectable

/-! ## Rings that an engine produces (R391 to R395, R584, R585) -/

/-- The registers of a ring that an engine produces: its page, the offsets of its configuration, producer and consumer
registers, the size of an entry and the low bit of its BASE field. -/
structure Ring where
  page : Nat
  cfg  : Nat
  prod : Nat
  cons : Nat
  size : Nat
  lo   : Nat
deriving DecidableEq, Repr

/-- Base address of a ring. -/
def State.ringBase (s : State) (r : Ring) : Nat := s.f r.cfg 47 r.lo * 2 ^ r.lo

/-- Filled entries of a ring, (P − C) mod 2^32 (R392). -/
def State.ringFill (s : State) (r : Ring) : Nat :=
  (s.f r.prod 31 0 + 2 ^ 32 - s.f r.cons 31 0) % 2 ^ 32

/-- Is a ring full, or write-failed (R395, R584)? -/
def State.ringFull (s : State) (r : Ring) : Bool :=
  decide (2 ^ s.f r.cfg 4 0 ≤ s.ringFill r) || s.wfail.contains r.cfg

/-- Write an entry at P of a ring that has room: P advances where the write is answered OK; an error response raises
the fault of R584 and makes the ring write-failed. True where the entry is in the ring. -/
def State.ringPush (s : State) (r : Ring) (ws : List Word) : Bool × State :=
  if s.ringFull r then (false, s) else
  let p := s.f r.prod 31 0
  let a := s.ringBase r + r.size * (p % 2 ^ s.f r.cfg 4 0)
  match s.memWrite a (ws.flatMap (fun w => leBytes 8 w.toNat)) with
  | (.ok, s1) => (true, s1.putF r.prod 31 0 ((p + 1) % 2 ^ 32))
  | (st, s1) => (false, ({ s1 with wfail := r.cfg :: s1.wfail }).fault r.page (statusCls st))

/-- Is a consumer value valid: (Cnew − Cold) mod 2^32 ≤ (P − Cold) mod 2^32 (R395)? -/
def State.consOk (s : State) (r : Ring) (c : Nat) : Bool :=
  let old := s.f r.cons 31 0
  decide ((c + 2 ^ 32 - old) % 2 ^ 32 ≤ (s.f r.prod 31 0 + 2 ^ 32 - old) % 2 ^ 32)

/-- Is a doorbell value valid (R393), for a ring of 2^`lg` entries with last valid doorbell `pl` and consumer index
`c`? -/
def doorbellOk (lg pl c v : Nat) : Bool :=
  decide ((v + 2 ^ 32 - pl) % 2 ^ 32 ≤ 2 ^ lg) && decide ((v + 2 ^ 32 - c) % 2 ^ 32 ≤ 2 ^ lg)

/-- Does the BASE field [47:lo] of a ring configuration word lie aligned to SIZE × E bytes for the SIZE_LOG2 of the
same word (R585)? `e` is the entry size. -/
def ringAligned (w : Word) (lo e : Nat) : Bool :=
  decide (fld w 47 lo * 2 ^ lo % (2 ^ fld w 4 0 * e) = 0)

end Sys2Proof.Machine
end

