-- ==== Sys2Proof/Machine/MeshOps.lean ====
section
/-! DEFINITION. Injection of packets into the mesh, route tables (R438 to R444) and the sending side of Bamior links
(R481, R482, R505). -/

namespace Sys2Proof.Machine

/-! ## Routes (R439, R440, R444) -/

/-- A route segment: DIR in bits [5:4], LEN in bits [3:0] (R439). -/
def seg (dir len : Nat) : Nat := dir * 16 + len

/-- The route that power-on fills in: XN |dx| when dx < 0, then YP or YN |dy|, then XP dx when dx > 0 (R444). -/
def xyRoute (src dst : Nat) : Nat :=
  let sx := src % 16
  let sy := src / 16
  let dx := dst % 16
  let dy := dst / 16
  let segs := (if dx < sx then [seg 1 (sx - dx)] else []) ++
    (if sy < dy then [seg 2 (dy - sy)] else if dy < sy then [seg 3 (sy - dy)] else []) ++
    (if sx < dx then [seg 0 (dx - sx)] else [])
  (segs.zipIdx).foldl (fun r e => r + e.1 * 2 ^ (6 * e.2)) 0

/-- Key of a route-table entry: node, bank, index. -/
def routeKey (node bank idx : Nat) : Nat := (node * 2 + bank) * 256 + idx

/-- Reset value of a route-table entry: bank 0 filled with valid routes to nodes 0 to 159 (R444). Bit 48 is VALID. -/
def routeReset (k : Nat) : Word :=
  let idx := k % 256
  let bank := k / 256 % 2
  let node := k / 512
  if bank = 0 && idx < 160 then BitVec.ofNat 64 (xyRoute node idx + 2 ^ 48) else 0

/-- A route-table entry. -/
def State.route (s : State) (node bank idx : Nat) : Word :=
  SMap.get (routeReset (routeKey node bank idx)) s.routes (routeKey node bank idx)

/-- The current generation of a node's NI (NOC_NI_CTL.GEN). -/
def State.niGen (s : State) (node : Nat) : Bool := s.b (pageAt .noc node + R.nocNiCtl) 0

/-- Key of a router's input buffer: router, input port (0 XP, 1 XN, 2 YP, 3 YN, 4 local), VN. -/
def bufKey (node port vn : Nat) : Nat := (node * 8 + port) * 8 + vn

/-- The flits of a packet: a packet moves whole, and its first flit is LAST unless a second follows (R438, Table 13.7). -/
def Flit.flits (f : Flit) : Nat := if f.last then 1 else 2

/-- The flits of a list of packets. -/
def flitCount (l : List Flit) : Nat := l.foldl (fun n f => n + f.flits) 0

/-- Has a packet a second flit, by its VN and opcode (Table 13.7)? -/
def twoFlits (vn opc : Nat) : Bool := (vn == 1 && opc == 4) || ((vn == 2 || vn == 3) && opc == 2)

/-- The packets in an input buffer, oldest first. -/
def State.buf (s : State) (k : Nat) : List Flit := SMap.get [] s.bufs k

/-- Replace an input buffer. -/
def State.setBuf (s : State) (k : Nat) (l : List Flit) : State := { s with bufs := SMap.set [] s.bufs k l }

/-- The segments of a route, LEN 0 ends it (R439). -/
def routeSegs (r : Nat) : List Nat :=
  ((List.range 8).map (fun k => r >>> (6 * k) % 64)).takeWhile (fun g => g % 16 != 0)

/-- A route from its segments. -/
def routeOf (l : List Nat) : Nat := (l.zipIdx).foldl (fun r e => r + e.1 * 2 ^ (6 * e.2)) 0

/-- The reversed route: segments in reverse order, each with its direction inverted (R440). -/
def rrouteOf (r : Nat) : Nat :=
  routeOf ((routeSegs r).reverse.map (fun g => seg ((g / 16) ^^^ 1) (g % 16)))

/-- One hop of a route: segment 0 loses one of its LEN, and is shifted out at 0 (R439). -/
def routeHop (r : Nat) : Nat := if r % 16 ≤ 1 then r >>> 6 else r - 1

/-- The hops that a route still has. -/
def routeLen (r : Nat) : Nat := (routeSegs r).foldl (fun n g => n + g % 16) 0

/-- Is a route change in progress (R445 step 3)? -/
def State.fencing (s : State) : Bool := s.b (pageAt .noc 0 + R.nocFence) 2

/-- Every flit of the mesh. -/
def State.allFlits (s : State) : List Flit :=
  s.bufs.flatMap (fun e => e.2) ++ s.wakeFlits.flatMap (fun e => e.2.map (fun p => p.2))

/-- Has a node a request to the 64-byte line of `a` under way, of another generation than `g`: a PE's, or one of another master that
has reached its target (R445)? -/
def State.oldTo (s : State) (node : Nat) (g : Bool) (a : Nat) : Bool :=
  s.outst.any (fun o => o.node == node && o.gen != g && o.line / 64 == a / 64) ||
    s.inbox.any (fun q => decide (q.opc < 64) && q.req.node == node && q.gen != g && q.req.addr.toNat / 64 == a / 64)

/-- Must an NI hold a packet back during a route change (R445 step 3): on VN0 and VN3 while a flit of the old generation
is left there; a request while an old one to its line awaits its response? -/
def State.niMustHold (s : State) (f : Flit) : Bool :=
  s.fencing &&
    (if f.vn = 0 ∨ f.vn = 3 then s.allFlits.any (fun g => (g.vn == 0 || g.vn == 3) && g.gen != f.gen)
     else if f.vn = 1 ∨ f.vn = 4 then
       match f.body with
       | .req r _ => s.oldTo f.src f.gen r.addr.toNat
       | .istruct _ a => s.oldTo f.src f.gen a
       | _ => false
     else false)

/-- Does a packet that is to enter the router's local input at its source find no room there: an input port holds four flits for
each VN (R441)? -/
def State.niFull (s : State) (f : Flit) : Bool := decide (4 < flitCount (s.buf (bufKey f.src 4 f.vn)) + f.flits)

/-- A packet leaves the NI of its source, in the order of its VN; it is held back while a route change or a full local input keeps
it (R441, R445). -/
def State.niSend (s : State) (f : Flit) : State :=
  let held := SMap.get [] s.heldFlits f.src
  if s.niMustHold f || s.niFull f || held.any (fun g => g.vn == f.vn) then
    { s with heldFlits := SMap.set [] s.heldFlits f.src (held ++ [f]) }
  else let k := bufKey f.src 4 f.vn; s.setBuf k (s.buf k ++ [f])

/-- An NI sends a packet to a node: it takes its route from the bank of the NI's generation, and enters the router's
local input (R444), or is held back (R441, R445). False where the entry is not valid. -/
def State.inject (s : State) (src dst vn opc prio : Nat) (body : Body) : Bool × State :=
  let g := s.niGen src
  let r := s.route src (b2n g) dst
  if bit r 48 then
    let fl : Flit := { id := s.flitId, route := fld r 47 0, rroute := rrouteOf (fld r 47 0), vn := vn, gen := g,
                       last := !twoFlits vn opc, prio := prio, opc := opc, src := src, body := body }
    (true, { s with flitId := s.flitId + 1 }.niSend fl)
  else (false, s)

/-- Packets that NIs hold back. -/
def State.heldCount (s : State) : Nat := s.heldFlits.foldl (fun (n : Nat) (e : Nat × List Flit) => n + e.2.length) 0

/-- NIs send what they held back as far as they may; `n` bounds the packets. -/
def State.niRelease (s : State) : Nat → State
  | 0 => s
  | n + 1 =>
    let go := s.heldFlits.findSome? (fun e => match takeFirst (fun f => !s.niMustHold f && !s.niFull f) e.2 with
      | some (f, r) => some (e.1, f, r)
      | none => none)
    match go with
    | some (node, f, r) =>
      let k := bufKey node 4 f.vn
      let s1 := { s with heldFlits := SMap.set [] s.heldFlits node r }
      (s1.setBuf k (s1.buf k ++ [f])).niRelease n
    | none => s

/-! ## Bamior links, sending side -/

/-- A link's state. -/
def State.link (s : State) (l : Nat) : BLink := SMap.get {} s.links l

/-- Change a link's state. -/
def State.updLink (s : State) (l : Nat) (g : BLink → BLink) : State :=
  { s with links := SMap.set {} s.links l (g (s.link l)) }

/-- Is a link a Bamior link that is UP (R479)? -/
def State.linkIsUp (s : State) (l : Nat) : Bool :=
  if l < 96 then s.b (pageAt .port l + R.portLnkCtl) 1 && s.f (pageAt .port l + R.portLnkStat) 2 0 == 4
  else decide (l < 98) && s.b (pageAt .brc 0 + R.brcStat) (4 + (l - 96))

/-- May a TOKEN be sent: fewer sent, modulo 2^24, than the last TCREDIT received (R482)? -/
def BLink.tokenOk (b : BLink) : Bool :=
  let d := (b.tcredit - b.tokSent).toNat
  decide (0 < d) && decide (d ≤ 2 ^ 23)

/-- Is a message a TOKEN? -/
def Bmsg.isToken : Bmsg → Bool
  | .token _ _ => true
  | _ => false

/-- A response leaves a unit for a node's request: it is seen at the output, and for a request that came over the mesh it
returns on VN2 along RROUTE with the request's generation (R440, R444). -/
def State.answer (s : State) (at_ : Nat) (q : Option InReq) (node txid : Nat) (st : Status) (data : List Byte) : State :=
  let s1 := s.emit (.resp node txid st data)
  match q with
  | none => s1
  | some q =>
    let fl : Flit := { id := s1.flitId, route := q.rroute, rroute := 0, vn := 2, gen := q.gen, last := data.length != 64,
                       prio := 0, opc := if data.length = 64 then 2 else 1, src := at_, body := .resp txid st data }
    { s1 with flitId := s1.flitId + 1 }.niSend fl

/-- A response to a memory request. -/
def State.respond (s : State) (at_ : Nat) (q : Option InReq) (r : MemReq) (st : Status) (data : List Byte) : State :=
  s.answer at_ q r.node r.txid st data

/-- Does a request of a source and TXID stand in an inbox? It leaves it. -/
def State.takeReq (s : State) (node txid : Nat) : Option InReq × State :=
  match takeFirst (fun q => q.req.node == node && q.req.txid == txid) s.inbox with
  | some (q, l) => (some q, { s with inbox := l })
  | none => (none, s)

/-- A packet of a master is held at the last router of its route for the wake of controller `u` (R450). -/
def State.holdFor (s : State) (u src vn opc : Nat) (b : Body) : State :=
  let node := unitNode u
  let f : Flit := { id := s.flitId, route := 0, rroute := rrouteOf (fld (s.route src (b2n (s.niGen src)) node) 47 0), vn := vn,
                    gen := s.niGen src, last := !twoFlits vn opc, prio := 0, opc := opc, src := src, body := b }
  { s with flitId := s.flitId + 1, wakeFlits := SMap.set [] s.wakeFlits node (SMap.get [] s.wakeFlits node ++ [(4, f)]) }.askWake (168 + u)

/-- A link: of a port, or 96 and 97, the brace links. -/
def State.port (s : State) (p : Nat) : PortSt := SMap.get {} s.ports p
/-- Change a link. -/
def State.updPort (s : State) (p : Nat) (g : PortSt → PortSt) : State :=
  { s with ports := SMap.set {} s.ports p (g (s.port p)) }

/-- A message leaves on a link: its blocks go out in the block times that follow (R480). -/
def State.sendMsg (s : State) (l : Nat) (lseq : BitVec 16) (m : Bmsg) : State :=
  (s.emit (.bamior l lseq m)).updPort l (fun x => { x with msgq := x.msgq ++ m.blocks lseq })

/-- Put a message on a link with the next LSEQ; it stays unacknowledged (R481). -/
def State.linkPut (s : State) (l : Nat) (m : Bmsg) : State :=
  let b := s.link l
  let s1 := s.updLink l (fun b => { b with
    unacked := b.unacked ++ [(b.sendSeq, m)], sendSeq := b.sendSeq + 1,
    tokSent := if m.isToken then b.tokSent + 1 else b.tokSent })
  s1.sendMsg l b.sendSeq m

/-- May this message go now: fewer than 2,048 unacknowledged, and credit for a TOKEN (R481, R482)? -/
def BLink.ready (b : BLink) (m : Bmsg) : Bool :=
  decide (b.unacked.length < 2048) && (!m.isToken || b.tokenOk)

/-- Send a message, or let it wait for the link, or behind earlier ones of its kind: TOKENs wait for credit without
holding other messages (R482). -/
def State.linkSend (s : State) (l : Nat) (m : Bmsg) : State :=
  let b := s.link l
  if s.linkIsUp l && b.ready m && !(b.waitq.any (fun q => q.isToken == m.isToken)) then s.linkPut l m
  else s.updLink l (fun b => { b with waitq := b.waitq ++ [m] })

/-- Send waiting messages as room and credit allow; `n` bounds the number sent. -/
def State.linkPump (s : State) (l : Nat) : Nat → State
  | 0 => s
  | n + 1 =>
    let b := s.link l
    match takeFirst (fun m => b.ready m) b.waitq with
    | some (m, r) => ((s.updLink l (fun b => { b with waitq := r })).linkPut l m).linkPump l n
    | none => s

/-- A link is UP again: its unacknowledged messages are sent once more in order, then those that wait (R481). -/
def State.linkResume (s : State) (l : Nat) : State :=
  ((s.link l).unacked.foldl (fun s e => s.sendMsg l e.1 e.2) s).linkPump l (s.link l).waitq.length

/-- Send a message that carries no LSEQ (R481). -/
def State.linkRaw (s : State) (l : Nat) (m : Bmsg) : State := s.sendMsg l 0 m

/-- The local device ID (R37). -/
def State.deviceId (s : State) : Nat := s.f (pageAt .pack 0 + R.packCtl) 9 0

/-- The Bamior port toward a device, where PACK_RT names one (R505): entry bits [6:0] PORT, [7] VALID. -/
def State.packPort (s : State) (dev : Nat) : Option Nat :=
  let e := SMap.get 0 s.packRt dev
  if e / 128 % 2 = 1 then some (e % 128) else none

end Sys2Proof.Machine
end

