-- ==== Sys2Proof/Machine/TileOps.lean ====
section
/-! DEFINITION. The operations of the dataflow fabric: tokens and their fields, tag transforms, contexts, the spill
pool, queues, diversion to the fault node, exception tokens, and the forming of outputs (chapters 2 to 4). -/

namespace Sys2Proof.Machine

/-! ## Token fields (R35, R38, R39) -/

/-- Device of a destination (Table 2.2). -/
def dDev (d : Dest) : Nat := fld d 39 30
/-- Tile of a destination. -/
def dTile (d : Dest) : Nat := fld d 29 23
/-- PE of a destination. -/
def dPe (d : Dest) : Nat := fld d 22 21
/-- Node of a destination. -/
def dNode (d : Dest) : Nat := fld d 20 9
/-- Side of a destination: true for right. -/
def dSide (d : Dest) : Bool := bit d 8
/-- Tag transform of a destination. -/
def dXform (d : Dest) : Nat := fld d 7 4
/-- Context of a tag (Table 2.3). -/
def tCtx (t : Tag) : Nat := fld t 47 32
/-- Iteration of a tag. -/
def tIter (t : Tag) : Nat := fld t 31 8
/-- Colour of a tag. -/
def tColour (t : Tag) : Nat := fld t 7 0
/-- TYPE of a control byte (Table 2.4). -/
def cType (c : Byte) : Nat := fld c 7 4
/-- POISON. -/
def cPoison (c : Byte) : Bool := bit c 3
/-- EXC. -/
def cExc (c : Byte) : Bool := bit c 2
/-- LAST. -/
def cLast (c : Byte) : Bool := bit c 1
/-- ORD. -/
def cOrd (c : Byte) : Bool := bit c 0
/-- A control byte from TYPE, POISON, EXC, LAST and ORD. -/
def mkCtl (ty : Nat) (poison exc last ord : Bool) : Byte :=
  BitVec.ofNat 8 (ty % 16 * 16 + b2n poison * 8 + b2n exc * 4 + b2n last * 2 + b2n ord)

/-- The value types (Table 2.4). -/
def tyInt64 : Nat := 0
/-- UINT64. -/
def tyUint64 : Nat := 1
/-- BIN64. -/
def tyBin64 : Nat := 2
/-- BIN32X2. -/
def tyBin32 : Nat := 3
/-- DEC. -/
def tyDec : Nat := 4
/-- BITS. -/
def tyBits : Nat := 5
/-- FAIL. -/
def tyFail : Nat := 6
/-- CTRL. -/
def tyCtrl : Nat := 7
/-- TIME. -/
def tyTime : Nat := 8

/-! ## Node slots (Table 2.13) -/

/-- Opcode of a slot. -/
def sOp (w : BitVec 128) : Nat := fld w 127 116
/-- Match mode of a slot. -/
def sMode (w : BitVec 128) : Nat := fld w 115 112
/-- Flags of a slot (Table 3.2). -/
def sFlags (w : BitVec 128) : Nat := fld w 111 104
/-- Destination 0 or 1 of a slot. -/
def sDest (w : BitVec 128) (i : Nat) : Dest := BitVec.ofNat 40 (if i = 0 then fld w 103 64 else fld w 63 24)
/-- Immediate of a slot. -/
def sImm (w : BitVec 128) : Nat := fld w 23 0
/-- Flag bit of a slot. -/
def sFlag (w : BitVec 128) (i : Nat) : Bool := (sFlags w).testBit i

/-- The immediate sign-extended to 64 bits. -/
def sImmS (w : BitVec 128) : Word := (BitVec.ofNat 24 (sImm w)).signExtend 64

/-- Apply a tag transform (R43, Table 2.5): code, the firing's tag, the immediate, the value the transform reads, and
PARENT of the tag's context. NONE and the reserved codes keep the tag; no token uses it. -/
def applyXform (code : Nat) (t : Tag) (imm : Nat) (v : Word) (parent : Nat) : Tag :=
  match code with
  | 1 => setFld t 31 8 (tIter t + 1)
  | 2 => setFld t 31 8 (tIter t + 2 ^ 24 - 1)
  | 3 => setFld t 31 8 0
  | 4 => setFld t 31 8 imm
  | 5 => setFld t 31 8 (fld v 23 0)
  | 6 => setFld t 31 8 (tIter t + imm)
  | 7 => setFld t 47 32 (fld v 15 0)
  | 8 => setFld t 47 32 parent
  | 9 => BitVec.ofNat 48 (fld v 47 0)
  | 10 => setFld t 7 0 imm
  | 11 => setFld t 7 0 (fld v 7 0)
  | 12 => setFld (setFld t 47 32 (fld v 15 0)) 31 8 0
  | _ => t

/-! ## Tiles and PEs -/

/-- Control-window offset of a tile's page. -/
def tp (t : Nat) : Nat := pageAt .tile t

/-- State of a tile. -/
def State.tile (s : State) (t : Nat) : Tile := SMap.get {} s.tiles t

/-- Change a tile's state. -/
def State.updTile (s : State) (t : Nat) (g : Tile → Tile) : State :=
  { s with tiles := SMap.set {} s.tiles t (g (s.tile t)) }

/-- A PE of a tile. -/
def Tile.pe (x : Tile) (p : Nat) : PeSt := SMap.get {} x.pes p

/-- Change a PE. -/
def Tile.updPe (x : Tile) (p : Nat) (g : PeSt → PeSt) : Tile := { x with pes := SMap.set {} x.pes p (g (x.pe p)) }

/-- Change a PE of a tile. -/
def State.updPe (s : State) (t p : Nat) (g : PeSt → PeSt) : State := s.updTile t (fun x => x.updPe p g)

/-- Mesh node of a tile (R19). -/
def tileNode (t : Nat) : Nat := pageNode .tile t

/-! ## Contexts (R47, R48) -/

/-- Address of a context's descriptor (R47). -/
def State.ctxAddr (s : State) (c : Nat) : Nat := s.f (pageAt .glb 0 + R.glbCtxTable) 47 22 * 2 ^ 22 + 64 * c

/-- Word `i` of a context's descriptor (Table 2.6). -/
def State.ctxW (s : State) (c i : Nat) : Word := s.rd64 (s.ctxAddr c + 8 * i)

/-- STATE of a context: 0 FREE, 1 ACTIVE, 2 TEARDOWN. -/
def State.ctxState (s : State) (c : Nat) : Nat := fld (s.ctxW c 0) 1 0

/-- Write STATE of a context. -/
def State.setCtxState (s : State) (c v : Nat) : State := s.wr64 (s.ctxAddr c) (setFld (s.ctxW c 0) 1 0 v)

/-- PARENT of a context. -/
def State.ctxParent (s : State) (c : Nat) : Nat := fld (s.ctxW c 0) 63 48

/-- EXC_DEST of a context. -/
def State.excDest (s : State) (c : Nat) : Dest := BitVec.ofNat 40 (fld (s.ctxW c 4) 63 24)

/-- What the monitor keeps of a context. -/
def State.ctx (s : State) (c : Nat) : CtxSt := SMap.get {} s.ctxs c

/-- Change what the monitor keeps of a context. -/
def State.updCtx (s : State) (c : Nat) (g : CtxSt → CtxSt) : State :=
  { s with ctxs := SMap.set {} s.ctxs c (g (s.ctx c)) }

/-- An activity of a context (R143). -/
def State.touch (s : State) (c : Nat) : State := s.updCtx c (fun x => { x with lastAct := s.now, detected := false })

/-! ## The spill region (R110, R111, R122 to R126) -/

/-- Is the spill region formatted and in use (SPILL_READY)? -/
def State.spillOn (s : State) (t : Nat) : Bool := s.b (tp t + R.tileMsStat) 3

/-- Base of the region: its head buckets (R111). -/
def State.spillBase (s : State) (t : Nat) : Nat := s.f (tp t + R.tileMsSpill) 47 24 * 2 ^ 24

/-- Address of pool bucket `i`: the pool follows the 65,536 head buckets (R111). -/
def State.bucketAddr (s : State) (t i : Nat) : Nat := s.spillBase t + 65536 * 64 + 64 * i

/-- Buckets of the pool: the region less 4 MiB of head buckets (R111). -/
def State.poolSize (s : State) (t : Nat) : Nat :=
  if s.b (tp t + R.tileMsSpill) 0 then (2 ^ (s.f (tp t + R.tileMsSpill) 12 8 - 22) - 1) * 65536 else 0

/-- Buckets in use: those ever allocated that are not on the free chain (R110). -/
def Tile.buckets (x : Tile) : Nat := x.bump - x.free.length

/-- Free buckets of a tile's pool. -/
def State.freeBuckets (s : State) (t : Nat) : Nat := s.poolSize t - (s.tile t).buckets

/-- Can `n` buckets be had now: the pool has them, and no earlier item waits for one (R126)? -/
def State.bucketsOk (s : State) (t n : Nat) : Bool :=
  decide (n = 0) || (s.spillOn t && (s.tile t).exhSince.isNone && decide (n ≤ s.freeBuckets t))

/-- Allocate `n` buckets: from the free chain, the last freed first, otherwise in ascending order (R111, log entry 60). -/
def Tile.takeBuckets (x : Tile) : Nat → List Nat × Tile
  | 0 => ([], x)
  | n + 1 =>
    let (b, y) := match x.free with
      | b :: r => (b, { x with free := r })
      | [] => (x.bump, { x with bump := x.bump + 1 })
    let (l, z) := y.takeBuckets n
    (b :: l, z)

/-- Return buckets to the free chain (R123). -/
def State.giveBuckets (s : State) (t : Nat) (l : List Nat) : State := s.updTile t (fun x => { x with free := l ++ x.free })

/-- The 24 bytes of an entry slot of a bucket; a slot that is not valid is written as zeros (log entry 60). -/
def slotBytes (o : Option (List Byte)) : List Byte := ((o.getD []) ++ List.replicate 24 0).take 24

/-- The 64 bytes of a bucket (Table 3.9): NEXT with VALID, reserved zeros (R10), two entry slots. -/
def bucketBytes (next : Nat) (a b : Option (List Byte)) : List Byte :=
  leBytes 8 (next % 2 ^ 48 + b2n a.isSome * 2 ^ 48 + b2n b.isSome * 2 ^ 49) ++ leBytes 8 0 ++ slotBytes a ++ slotBytes b

/-- Write the buckets of a chain at their addresses in order, `l` holding their entry slots from the first on; a bucket that
already reads so is not written again. -/
def State.writeBuckets (s : State) : List Nat → List (Option (List Byte)) → State
  | [], _ => s
  | a :: r, l =>
    let bs := bucketBytes (r.head?.getD 0) ((l.head?).getD none) (((l.drop 1).head?).getD none)
    (if s.bytes a 64 = bs then s else (s.memWrite a bs).2).writeBuckets r (l.drop 2)

/-- The entry slots that a held item takes: its token, and behind it y of a firing with a separate y, as a token under the
same tag and destination (R111, R581, log entry 60). -/
def QItem.slots (q : QItem) : List (List Byte) :=
  Token.toBytes q.tok :: match q.y with
    | some (v, c) => if q.again then [Token.toBytes { q.tok with value := v, ctl := c }] else []
    | none => []

/-- The entry slots of held items. -/
def chainSlots (l : List QItem) : List (List Byte) := l.flatMap QItem.slots

/-- A chain once `pop` entry slots at its head are consumed and it is to hold `slots`: emptied buckets go back to the free
chain, missing ones are allocated, and its buckets are written (R111, R122, R123); none where the pool has none to give. -/
def State.rechain (s : State) (t : Nat) (c : Chain) (pop : Nat) (slots : List (List Byte)) : Option (Chain × State) :=
  let o := b2n c.off + pop
  let off := !slots.isEmpty && o % 2 == 1
  let keep := if slots.isEmpty then [] else c.bk.drop (o / 2)
  let need := (b2n off + slots.length + 1) / 2
  if s.bucketsOk t (need - keep.length) then
    let (new, x) := (s.tile t).takeBuckets (need - keep.length)
    let bk := keep.take need ++ new
    let s1 := (s.updTile t (fun _ => x)).giveBuckets t (c.bk.filter (fun b => !bk.contains b))
    some (⟨bk, off⟩, s1.writeBuckets (bk.map (s.bucketAddr t)) ((if off then [none] else []) ++ slots.map some))
  else none

/-- A chain that only gives up entry slots: it never needs a bucket. -/
def State.unchain (s : State) (t : Nat) (c : Chain) (pop : Nat) (slots : List (List Byte)) : Chain × State :=
  (s.rechain t c pop slots).getD (c, s)

/-- Tokens in a tile's queue chains (TILE_Q_SPILL.TOKENS). -/
def Tile.chainTokens (x : Tile) : Nat := x.pes.foldl (fun n e => n + e.2.chain.length) 0

/-- Entries in spill and tokens held pending (TILE_MS_OCC.SPILL). -/
def Tile.spillOcc (x : Tile) : Nat :=
  x.ms.foldl (fun n e => n + e.held.length + match e.place with | .spill _ => 1 | _ => 0) 0

/-! ## Injection for test (R522) -/

/-- One access of a checker of a page: while injection is armed for the checker, COUNT falls by one and the answer
tells whether two check bits are inverted. -/
def State.injected (s : State) (page checker : Nat) : Option Bool × State :=
  let o := page + R.pgErrInj
  if s.f o 47 32 ≠ 0 ∧ s.f o 3 0 = checker then
    (some (s.b o 4), s.putF o 47 32 (s.f o 47 32 - 1))
  else (none, s)

/-- The outcome of a SEC-DED check after injection: one inverted bit shows as corrected, two as uncorrectable (R522);
the second component marks a fault INJ. -/
def injEcc (i : Option Bool) (e : Ecc) : Ecc × Bool :=
  match i with
  | some true => (.uncorrectable, true)
  | some false => (match e with | .clean => .corrected | e => e, true)
  | none => (e, false)

/-! ## Queues (R120 to R122, R126) -/

/-- Append an item to a PE's queue chain; none where that needs a bucket that cannot be had. -/
def State.chainAppend (s : State) (t p : Nat) (q : QItem) : Option State :=
  let pe := (s.tile t).pe p
  match s.rechain t pe.chainB 0 (chainSlots (pe.chain ++ [q])) with
  | some (c, s1) => some (s1.updPe t p (fun e => { e with chain := e.chain ++ [q], chainB := c }))
  | none => none

/-- What becomes of a token whose turn it is to enter its PE's queue: it has entered queue or chain, a full queue holds it
in the network interface, or it waits there for a bucket. -/
inductive Entry | entered (s : State) | full | bucket

/-- A token enters its PE's queue, or the queue chain where that is not empty, or where the queue is full and SPILL_DELAY is
0 (R120, R126); without a spill region a full queue holds it with no time limit (R582). -/
def State.enterPe (s : State) (t : Nat) (q : QItem) : Entry :=
  let p := dPe q.tok.dest
  let pe := (s.tile t).pe p
  if pe.chain.isEmpty && decide (pe.queue.length < 256) then .entered (s.updPe t p (fun e => { e with queue := e.queue ++ [q] }))
  else if !pe.chain.isEmpty || (s.spillOn t && s.f (tp t + R.tileQCtl) 15 0 == 0) then
    match s.chainAppend t p q with
    | some s1 => .entered s1
    | none => .bucket
  else .full

/-- Does an item of a tile wait for a bucket (R126)? -/
def Tile.starved (x : Tile) : Bool := !x.wait.isEmpty || x.arr.any (fun a => a.bucket.isSome)

/-- EXHAUSTED is 1 while any item waits for a bucket, since `was` where it already was (R126). -/
def State.exhFix (s : State) (t : Nat) (was : Option Word) : State :=
  s.updTile t (fun x => { x with exhSince := if x.starved then some (was.getD s.now) else none })

/-- An item of a tile begins to wait for a bucket: `g` places it with its number (R126). -/
def State.starve (s : State) (t : Nat) (g : Nat → Tile → Tile) : State :=
  (s.updTile t (fun x => { (g x.waitN x) with waitN := x.waitN + 1 })).exhFix t (s.tile t).exhSince

/-! ## Sending tokens (R36, R37, R80) -/

/-- A token that arrives with a reserved TYPE is poisoned, counted, and raises a configuration fault (R40). -/
def State.badType (s : State) (t : Nat) (q : QItem) : QItem × State :=
  if 8 < cType q.tok.ctl then
    ({ q with tok := { q.tok with ctl := q.tok.ctl ||| 0x08 } }, (s.inc (tp t + R.tileFabEvt) 15 0).fault (tp t) .config)
  else (q, s)

/-- A token joins those in the network interface of a tile, in the order in which they reach it (R120, R121). -/
def State.niHold (s : State) (t : Nat) (a : Arrival) : State := s.updTile t (fun x => { x with arr := x.arr ++ [a] })

/-- A tile counts a token for its fault node: sent there with EXC set, or dropped where the fault node is not valid or
the token was already bound for one (R80). The delivery itself is `deliver`. -/
def State.faultCount (s : State) (t : Nat) (flt : Bool) : Bool × State :=
  if flt || !s.b (tp t + R.tileFaultDest) 40 then (false, s.inc (tp t + R.tileDivert) 63 32)
  else (true, s.inc (tp t + R.tileDivert) 31 0)

/-- A destination as a token carries it: without transform and with reserved bits 0 (R10, R36). -/
def plainDest (d : Dest) : Dest := setFld d 7 0 0

/-- A token with EXC set, addressed to a destination whose transform is ignored (R36, R80). -/
def toFault (d : Nat) (tk : Token) : Token :=
  { tk with dest := plainDest (BitVec.ofNat 40 d), ctl := tk.ctl ||| 0x04 }

/-- Send a token over the pack links, where PACK_RT has a valid entry (R37, R505). -/
def State.sendPack (s : State) (tk : Token) : Option State :=
  match s.packPort (dDev tk.dest) with
  | some port => some (s.linkSend port (.token tk 15))
  | none => none

/-- Stage 6 of a tile's PE hands a token on: a token for its own tile enters the PE queue without the mesh (Table
3.1), or waits in the network interface while a function reset runs (R582), others enter the mesh, or a pack link for another device. A token without a route goes to the fault node of the
tile (R37); `fuel` 1 lets that diversion itself be sent. -/
def State.sendTok (s : State) (t : Nat) (tk : Token) (flt : Bool) : Nat → State
  | 0 => s
  | fuel + 1 =>
    let divert (s : State) (x : Token) : State :=
      let (go, s1) := s.faultCount t flt
      if go then s1.sendTok t (toFault (s.f (tp t + R.tileFaultDest) 39 0) x) true fuel else s1
    if dDev tk.dest = s.deviceId then
      if dTile tk.dest = t then
        let (q, s1) := s.badType t { tok := tk, flt := flt }
        if !flt && s1.ctxState (tCtx tk.tag) ≠ 1 then divert s1 q.tok
        else
          let a : Arrival := { src := tileNode t, item := q, seen := true }
          if (SMap.get none s1.frst (tp t)).isSome || (s1.tile t).arr.any (fun b => dPe b.item.tok.dest == dPe tk.dest) then s1.niHold t a
          else match s1.enterPe t q with
            | .entered s2 => s2
            | .full => s1.niHold t { a with since := some s.now }
            | .bucket => s1.starve t (fun n x => { x with arr := x.arr ++ [{ a with bucket := some n }] })
      else
        let (ok, s1) := s.inject (tileNode t) (tileNode (dTile tk.dest)) 0 1 0 (.token tk flt)
        if ok then s1 else divert s1 tk
    else match s.sendPack tk with
      | some s1 => s1
      | none => (divert s tk).fault (tp t) .config

/-- Send a token from a tile. -/
def State.send (s : State) (t : Nat) (tk : Token) : State := s.sendTok t tk false 2

/-- Divert a token of a tile to its fault node with EXC set, or drop it (R80). -/
def State.divert (s : State) (t : Nat) (tk : Token) (flt : Bool) : State :=
  let (go, s1) := s.faultCount t flt
  if go then s1.sendTok t (toFault (s.f (tp t + R.tileFaultDest) 39 0) tk) true 1 else s1

/-- Send a token from the system node or an HBM controller: onto the mesh toward its tile, or over the pack links. A
token that has no route is dropped; the spec names no fault node for it (log entry 12). -/
def State.sendFrom (s : State) (node : Nat) (tk : Token) : State :=
  if dDev tk.dest = s.deviceId then
    (s.inject node (tileNode (dTile tk.dest)) 0 1 0 (.token tk false)).2
  else match s.sendPack tk with
    | some s1 => s1
    | none => s

/-- ISOLATE of a node's network interface, with the tile's fault destination as it stands (R449). -/
def State.isolate (s : State) (node : Nat) : State :=
  let d : Word := if 16 ≤ node ∧ node < 144 then s.reg (tp (node - 16) + R.tileFaultDest) else 0
  { s.putB (pageAt .noc node + R.nocNiCtl) 1 true with niDest := SMap.set 0 s.niDest node d }

/-- A token that reaches an isolated network interface: sent to the fault destination with EXC set, or dropped where
none was valid, it has no route, or the token was already bound for a fault node; counted in the NI (R449). -/
def State.niDivert (s : State) (node : Nat) (tk : Token) (flt : Bool) : State :=
  let d := SMap.get 0 s.niDest node
  let tk1 := toFault (fld d 39 0) tk
  let lost := s.inc (pageAt .noc node + R.nocNiEvt) 63 48
  if flt || !bit d 40 then lost
  else if dDev tk1.dest = s.deviceId then
    let (ok, s1) := s.inject node (tileNode (dTile tk1.dest)) 0 1 0 (.token tk1 true)
    if ok then s1.inc (pageAt .noc node + R.nocNiEvt2) 31 0 else lost
  else match s.sendPack tk1 with
    | some s1 => s1.inc (pageAt .noc node + R.nocNiEvt2) 31 0
    | none => lost

/-! ## Outputs of a firing (R77, R78, R138) -/

/-- Does a firing's consumed operand carry a control flag? -/
def Firing.any (f : Firing) (p : Byte → Bool) : Bool :=
  p f.x.ctl || match f.y with | some (_, c) => p c | none => false

/-- Control byte of an output: TYPE from the opcode, LAST and ORD by R78, POISON by R138, EXC only where a rule sets
it (R140). -/
def Firing.outCtl (f : Firing) (ty : Nat) (poison exc : Bool) : Byte :=
  mkCtl ty (f.any cPoison || poison) exc (f.any cLast || sFlag f.slot 5) (cOrd f.x.ctl || sFlag f.slot 3)

/-- Form and send the output for one destination (R36, R43, R46, R77). A reserved code acts where a token is formed for its
destination, and only there (log entry 61). -/
def State.outTo (s : State) (t : Nat) (slot : BitVec 128) (tag : Tag) (i : Nat) (v : Word) (ctl : Byte) : State :=
  let d := sDest slot i
  let code := dXform d
  if code = 15 then s
  else if code = 13 ∨ code = 14 then
    (s.divert t { dest := plainDest d, tag := tag, value := v, ctl := ctl } false).fault (tp t) .config
  else s.send t { dest := plainDest d, value := v, ctl := ctl,
                  tag := applyXform code tag (sImm slot) v (s.ctxParent (tCtx tag)) }

/-- Form and send both outputs of a firing with one value (R77). -/
def State.outBoth (s : State) (t : Nat) (f : Firing) (v : Word) (ty : Nat) (poison : Bool := false) : State :=
  (s.outTo t f.slot f.x.tag 0 v (f.outCtl ty poison false)).outTo t f.slot f.x.tag 1 v (f.outCtl ty poison false)

/-! ## Exception tokens (R84, R141, R142) -/

/-- Exception causes (Table 4.4). -/
inductive Cause | type | mode | ieee | address | template | ctrl | retype | poisoned | seqFull | orderLate | memory
deriving DecidableEq, Repr

/-- CAUSE code (Table 4.4). -/
def Cause.code : Cause → Nat
  | .type => 1 | .mode => 2 | .ieee => 3 | .address => 4 | .template => 5 | .ctrl => 6 | .retype => 7
  | .poisoned => 8 | .seqFull => 9 | .orderLate => 10 | .memory => 11

/-- Append an exception record, or count it LOST where the FIFO of 16 is full (R142, Table 4.3). -/
def State.excRecord (s : State) (t : Nat) (x : Token) (op : Nat) (c : Cause) (ieee : Nat) : State :=
  if (s.tile t).exc.length < 16 then
    let lo := BitVec.ofNat 64 (x.ctl.toNat * 2 ^ 42 + op * 2 ^ 30 + dNode x.dest * 2 ^ 18 + dPe x.dest * 2 ^ 16
                + ieee * 2 ^ 8 + c.code)
    let hi := BitVec.ofNat 64 (2 ^ 63 + x.tag.toNat)
    s.updTile t (fun e => { e with exc := e.exc ++ [(lo, hi)] })
  else s.inc (tp t + R.tileExcCtl) 31 16

/-- One exception token to EXC_DEST of the context of `x`, with the value given or x's own (R141). The tokens of R51, R56, R57
and R579, for which Table 4.4 has no cause, are this alone and leave no record (log entry 61). -/
def State.excToken (s : State) (t : Nat) (x : Token) (v : Word) (ctl : Byte) : State :=
  s.send t { dest := plainDest (s.excDest (tCtx x.tag)), tag := x.tag, value := v, ctl := ctl }

/-- A firing handled under R84: the exception token of R141 and the record of R142. -/
def State.exc84 (s : State) (t : Nat) (x : Token) (op : Nat) (c : Cause) (ieee : Nat := 0) : State :=
  (s.excToken t x x.value (x.ctl ||| 0x04)).excRecord t x op c ieee

end Sys2Proof.Machine
end

