-- ==== Sys2Proof/Machine/Match.lean ====
section
/-! DEFINITION. Stages 1 to 3 of a PE: taking a token, reading its slot, and the match modes with the matching store,
its spill region and its protection (R75 to R115). -/

namespace Sys2Proof.Machine

/-! ## The keyed hash (R92, R103) -/

/-- The matching key K (R92). -/
def msKey (pe node : Nat) (tag : Tag) (iterZero : Bool) : Word :=
  BitVec.ofNat 64 (pe * 2 ^ 60 + node * 2 ^ 48 + (if iterZero then setFld tag 31 8 0 else tag).toNat)

/-- One round of ms_hash (R103). -/
def msRound (q : BitVec 16 × BitVec 16 × BitVec 16 × BitVec 16) : BitVec 16 × BitVec 16 × BitVec 16 × BitVec 16 :=
  let (a, b, c, d) := q
  let a := a + b
  let d := (d ^^^ a).rotateLeft 3
  let c := c + d
  let b := (b ^^^ c).rotateLeft 7
  (a, b, c, d)

/-- ms_hash (R103). -/
def msHash (k s : Word) : BitVec 16 :=
  let h (i : Nat) : BitVec 16 := BitVec.ofNat 16 (fld k (i + 15) i) + BitVec.ofNat 16 (fld s (i + 15) i)
  let (a, b, c, d) := msRound (msRound (h 0, h 16, h 32, h 48))
  a ^^^ b ^^^ c ^^^ d

/-- Set index of a key under a salt: bits [11:0] of the hash (R103). -/
def setIndex (k salt : Word) : Nat := (msHash k salt).toNat % 4096

/-! ## The store (R101, R105) -/

/-- Context of a key. -/
def keyCtx (k : Word) : Nat := fld k 47 32
/-- PE of a key. -/
def keyPe (k : Word) : Nat := fld k 61 60
/-- Node of a key. -/
def keyNode (k : Word) : Nat := fld k 59 48

/-- KIND code (R102). -/
def MsKind.code : MsKind → Nat
  | .wait => 1 | .sticky => 2 | .gate => 3 | .reduce => 4 | .resident => 5 | .pending => 6

/-- The 160 data bits of an entry, `head` being the address of the head bucket of what it holds pending (Table 3.7). -/
def MsEntry.bits (e : MsEntry) (head : Nat) : Nat :=
  fld e.key 61 0 + (if e.kind = .pending then head % 2 ^ 48 else e.value.toNat) * 2 ^ 62 + e.ctl.toNat * 2 ^ 126
    + (e.count % 2 ^ 20) * 2 ^ 134 + e.kind.code * 2 ^ 154 + b2n e.side * 2 ^ 157 + b2n e.gen * 2 ^ 158

/-- The data bits of an entry of a tile. -/
def State.entryBits (s : State) (t : Nat) (e : MsEntry) : Nat :=
  e.bits (match e.heldB.bk with | b :: _ => s.bucketAddr t b | [] => 0)

/-- The 169-bit array word of an on-die entry: its data bits, and above them their check bits (R102, R113, log entry 10). -/
def State.arrayWord (s : State) (t : Nat) (e : MsEntry) : BitVec 169 :=
  BitVec.ofNat 169 (s.entryBits t e + (Config.secded160 (s.entryBits t e)).toNat * 2 ^ 160)

/-- The checksum of a set: the sum modulo 2^16 of the ten 16-bit words of each entry (R113). -/
def State.checksum (s : State) (t n : Nat) : Nat :=
  ((s.tile t).ms.foldl (fun c e => if e.place = .set n then
      c + (List.range 10).foldl (fun v i => v + s.entryBits t e / 2 ^ (16 * i) % 2 ^ 16) 0 else c) 0) % 2 ^ 16

/-- Entries of a set. -/
def Tile.setOcc (x : Tile) (n : Nat) : Nat := (x.ms.filter (fun e => e.place == .set n)).length

/-- Is a place an overflow way? -/
def MsPlace.isOvf : MsPlace → Bool
  | .ovf _ _ => true
  | _ => false
/-- Is a place a spill chain? -/
def MsPlace.isSpill : MsPlace → Bool
  | .spill _ => true
  | _ => false
/-- Is a place on die? -/
def MsPlace.onDie (p : MsPlace) : Bool := !p.isSpill

/-- Overflow ways in use. -/
def Tile.ovfOcc (x : Tile) : Nat := (x.ms.filter (fun e => e.place.isOvf)).length

/-- The lowest overflow way not in use. -/
def Tile.freeWay (x : Tile) : Option Nat :=
  (List.range 1024).find? (fun w => !(x.ms.any (fun e => match e.place with | .ovf w' _ => w' == w | _ => false)))

/-- Live salt of a tile. -/
def State.saltCur (s : State) (t : Nat) : Word := s.reg (tp t + R.tileMsSaltCur)

/-- Current generation of a tile. -/
def State.msGen (s : State) (t : Nat) : Bool := s.b (tp t + R.tileMsStat) 0

/-! ## Salt rotation (R107 to R109) -/

/-- Start a rotation (R108 steps 1 to 3). -/
def State.rotate (s : State) (t : Nat) : State :=
  let old := s.saltCur t
  let (salt, s1) := if s.b (tp t + R.tileMsCtl) 1 then (s.reg (tp t + R.tileMsSaltNext), s) else s.draw
  let s2 := s1.setReg (tp t + R.tileMsSaltCur) salt
  let s3 := s2.putB (tp t + R.tileMsStat) 0 (!s.msGen t)
  let s4 := (s3.putB (tp t + R.tileMsStat) 1 true).putF (tp t + R.tileMsStat) 27 16 0
  (s4.updTile t (fun x => { x with saltOld := old, sweep := 0 })).inc (tp t + R.tileMsEvt) 15 0

/-- A rotation trigger (R107): during a rotation it is counted, and the first is held. -/
def State.rotTrigger (s : State) (t : Nat) : State :=
  if s.b (tp t + R.tileMsStat) 1 then
    (s.putB (tp t + R.tileMsStat) 2 true).inc (tp t + R.tileMsEvt) 31 16
  else s.rotate t

/-- Conflicts counted in the current window. -/
def Tile.conflicts (x : Tile) : Nat := x.confl.foldl (fun n e => n + e.2) 0

/-- A trigger where the count of the current window exceeds ROT_THRESH while ROT_EN is 1, once in a window (R107). -/
def State.rotCheck (s : State) (t : Nat) : State :=
  let th := s.f (tp t + R.tileMsCtl) 31 16
  if s.b (tp t + R.tileMsCtl) 0 ∧ th ≠ 0 ∧ th < (s.tile t).conflicts ∧ !(s.tile t).winTrig then
    (s.updTile t (fun x => { x with winTrig := true })).rotTrigger t
  else s

/-- Count one conflict of a set, which may trigger a rotation (R107). -/
def State.conflict (s : State) (t n : Nat) : State :=
  (s.updTile t (fun x => { x with confl := SMap.set 0 x.confl n (SMap.get 0 x.confl n + 1) })).rotCheck t

/-! ## Entries and their spill chains (R105, R106, R111, R123) -/

/-- Entries of spill chain `p`, in the order of their entry slots. -/
def Tile.chainOf (x : Tile) (p : Nat) : List MsEntry := x.ms.filter (fun e => e.place == .spill p)

/-- Buckets that a matching-store chain of `n` entries has behind its head bucket. -/
def msNeed (n : Nat) : Nat := (n + 1) / 2 - 1

/-- Give spill chain `p` the buckets that its entries need, return those emptied at its tail (R123), and write the chain
(R111). The caller has seen that the pool has a bucket where one is needed. -/
def State.msSync (s : State) (t p : Nat) : State :=
  let l := (s.tile t).chainOf p
  let old := SMap.get [] (s.tile t).msCh p
  let need := msNeed l.length
  let (new, x) := (s.tile t).takeBuckets (need - old.length)
  let bk := old.take need ++ new
  let s1 := (s.updTile t (fun _ => { x with msCh := SMap.set [] x.msCh p bk })).giveBuckets t (old.drop need)
  s1.writeBuckets ((s.spillBase t + 64 * p) :: bk.map (s.bucketAddr t)) (l.map (fun e => some (leBytes 20 (s1.entryBits t e))))

/-- The chain that a place belongs to is brought up to date. -/
def State.msSyncAt (s : State) (t : Nat) : MsPlace → State
  | .spill p => s.msSync t p
  | _ => s

/-- Where a new entry for a key goes (R105): its set, an overflow way, or a spill chain, with the conflict counted
where the set has no empty way; none where the pool has no bucket for it (R112). -/
def State.placeFor (s : State) (t : Nat) (k : Word) : Option (MsPlace × Bool) :=
  let x := s.tile t
  let s1 := setIndex k (s.saltCur t)
  if x.setOcc s1 < 8 then some (.set s1, false)
  else match (if x.ovfOcc < 1024 then x.freeWay else none) with
    | some w => some (.ovf w s1, true)
    | none =>
      let p := (msHash k (s.reg (tp t + R.tileMsSpillSalt))).toNat
      let n := (x.chainOf p).length
      if s.spillOn t && s.bucketsOk t (msNeed (n + 1) - msNeed n) then some (.spill p, true) else none

/-- Insert a new entry (R105); none where it must wait for a bucket. -/
def State.msInsert (s : State) (t : Nat) (e : MsEntry) : Option State :=
  match s.placeFor t e.key with
  | none => none
  | some (pl, hot) =>
    let s1 := (s.updTile t (fun x => { x with ms := x.ms ++ [{ e with place := pl, gen := s.msGen t }] })).msSyncAt t pl
    some (if hot then s1.conflict t (setIndex e.key (s.saltCur t)) else s1)

/-- The entry of a key. -/
def Tile.entry (x : Tile) (k : Word) : Option MsEntry := x.ms.find? (fun e => e.key == k)

/-- The store without an entry: in a spill chain the last entry moves into its slot (R123). -/
def msTakeOut (l : List MsEntry) (e : MsEntry) : List MsEntry :=
  match e.place with
  | .spill p =>
    match (l.filter (fun b => b.place == .spill p)).getLast? with
    | some z => if z.key = e.key then l.filter (fun b => !(b.key == e.key))
        else (l.filter (fun b => !(b.key == z.key))).map (fun b => if b.key = e.key then z else b)
    | none => l
  | _ => l.filter (fun b => !(b.key == e.key))

/-- Remove the entry of a key, with what it holds: its buckets return to the pool. -/
def State.msRemove (s : State) (t : Nat) (k : Word) : State :=
  match (s.tile t).entry k with
  | some e => ((s.updTile t (fun x => { x with ms := msTakeOut x.ms e })).giveBuckets t e.heldB.bk).msSyncAt t e.place
  | none => s

/-- Change the entry of a key where it lies. -/
def State.msUpd (s : State) (t : Nat) (k : Word) (g : MsEntry → MsEntry) : State :=
  let s1 := s.updTile t (fun x => { x with ms := replFirst (fun e => e.key == k) g x.ms })
  match (s.tile t).entry k with
  | some e => s1.msSyncAt t e.place
  | none => s1

/-- Move an entry to another place, under the live generation. -/
def State.msMove (s : State) (t : Nat) (e : MsEntry) (pl : MsPlace) : State :=
  let s1 := (s.updTile t (fun x => { x with ms := msTakeOut x.ms e ++ [{ e with place := pl, gen := s.msGen t }] })).msSyncAt t e.place
  s1.msSyncAt t pl

/-- A spilled entry that a token accumulates into, or whose pending work it finds, moves into its set where that has
an empty way (R106). -/
def State.msRecall (s : State) (t : Nat) (k : Word) : State :=
  let s1 := setIndex k (s.saltCur t)
  match (s.tile t).entry k with
  | some e => if e.place.isSpill && decide ((s.tile t).setOcc s1 < 8) then s.msMove t e (.set s1) else s
  | none => s

/-! ## Protection (R113, R114) -/

/-- An invalidated entry is reported by a token to the fault node: the KEY bits as read, `flips` inverted, in value[61:0],
TYPE BITS, POISON and EXC, under the KEY's tag bits (R114). -/
def State.msLost (s : State) (t : Nat) (key flips : Word) : State :=
  let k := key ^^^ flips
  s.divert t { dest := 0, tag := BitVec.ofNat 48 (fld k 47 0), value := BitVec.ofNat 64 (fld k 61 0),
               ctl := mkCtl tyBits true true false false } false

/-- What a read meets at the entry of a key: the outcome of its code, and the KEY bits read inverted. -/
def msMeets (r : MsRead) (k : Word) : Ecc × Word :=
  match r.bad.find? (fun b => b.key == k) with
  | some b => (b.ecc, b.flips)
  | none => (.clean, 0)

/-- Handle the outcome of reading on-die entries, those that `p` selects: a correction is counted and reported; an
uncorrectable error invalidates and reports each entry, what it held pending being lost with it (R114, log entry 61). -/
def State.msError (s : State) (t : Nat) (e : Ecc) (inj : Bool) (r : MsRead) (p : MsEntry → Bool) : State :=
  match e with
  | .clean => s
  | .corrected => (s.inc (tp t + R.tileMsEvt) 63 48).fault (tp t) .correctable inj
  | .uncorrectable =>
    let lost := (s.tile t).ms.filter p
    let s1 := lost.foldl (fun s e => s.msRemove t e.key) s
    (lost.foldl (fun s e => s.msLost t e.key (msMeets r e.key).2) s1).fault (tp t) .uncorrectable inj

/-- The codes of the entries with these keys, which one access reads (R113, R114); injection strikes the first of them, or, where
there is none, an empty way (R522, log entry 56). -/
def State.msCodes (s : State) (t : Nat) (r : MsRead) (i : Option Bool) : List Word → State
  | [] => s.msError t (injEcc i .clean).1 (injEcc i .clean).2 r (fun _ => false)
  | k :: l =>
    let (e, inj) := injEcc i (msMeets r k).1
    l.foldl (fun s k => s.msError t (msMeets r k).1 false r (fun x => x.key == k)) (s.msError t e inj r (fun x => x.key == k))

/-- The checksums of the sets that one access reads, after correction (R113, R114). -/
def State.msSums (s : State) (t : Nat) (r : MsRead) : List Nat → State
  | [] => s
  | n :: l =>
    let (i, s1) := s.injected (tp t) 1
    let bad (s : State) (inj : Bool) (n : Nat) : State :=
      if inj || r.sums.contains n then s.msError t .uncorrectable inj r (fun x => x.place == .set n) else s
    l.foldl (fun s n => bad s false n) (bad s1 i.isSome n)

/-- One access reads on-die entries, those that `here` selects, and of these the whole of some sets (R113, R114). -/
def State.msCheck (s : State) (t : Nat) (sets : List Nat) (here : MsEntry → Bool) (r : MsRead) : State :=
  let (i, s1) := s.injected (tp t) 0
  (s1.msCodes t r i (((s.tile t).ms.filter (fun e => e.place.onDie && here e)).map (fun e => e.key))).msSums t r sets

/-- The lookup of a key reads its set; during a rotation its set under SALT_OLD, where its set does not hold it; and the
overflow ways, where no set holds it and OVF_CNT calls for the search (R105). -/
def State.lookCheck (s : State) (t : Nat) (k : Word) (r : MsRead) : State :=
  let cur := setIndex k (s.saltCur t)
  let old := setIndex k (s.tile t).saltOld
  let inSet (n : Nat) : Bool := (s.tile t).ms.any (fun e => e.key == k && e.place == .set n)
  let rot := s.b (tp t + R.tileMsStat) 1 && !inSet cur
  let ways := !inSet cur && !(rot && inSet old) && (s.tile t).ms.any (fun e => match e.place with
      | .ovf _ h => h == cur || (rot && h == old)
      | _ => false)
  s.msCheck t (cur :: if rot && old != cur then [old] else [])
    (fun e => e.place == .set cur || (rot && e.place == .set old) || (ways && e.place.isOvf)) r

/-- A walk over the whole on-die store reads the sets that hold an entry, and the overflow ways (R99, R100, R148). -/
def State.walkCheck (s : State) (t : Nat) (r : MsRead) : State :=
  s.msCheck t ((s.tile t).ms.filterMap (fun e => match e.place with | .set n => some n | _ => none)).eraseDups (fun _ => true) r

/-! ## Slots (R81, R84) -/

/-- Opcodes of Table 3.3. -/
def opDefined (op : Nat) : Bool :=
  (1 ≤ op && op ≤ 7) || (0x100 ≤ op && op ≤ 0x10E) || (0x110 ≤ op && op ≤ 0x11D) || (0x200 ≤ op && op ≤ 0x20C) ||
  op == 0x300 || op == 0x301 || (0x400 ≤ op && op ≤ 0x409) || (0x500 ≤ op && op ≤ 0x503) ||
  (0x600 ≤ op && op ≤ 0x603) || (0x700 ≤ op && op ≤ 0x703) || (0x800 ≤ op && op ≤ 0x805) ||
  (0x900 ≤ op && op ≤ 0x907)

/-- Does an opcode's row name both x and y (Table 3.3)? -/
def opDyadic (op : Nat) : Bool :=
  op == 6 || (0x100 ≤ op && op ≤ 0x108) || (0x10B ≤ op && op ≤ 0x10E) || (0x110 ≤ op && op ≤ 0x113) ||
  (0x115 ≤ op && op ≤ 0x119) || op == 0x11D || (0x200 ≤ op && op ≤ 0x203) || op == 0x205 || op == 0x206 ||
  op == 0x300 || op == 0x301 || (0x400 ≤ op && op ≤ 0x409) || op == 0x701 || op == 0x703

/-- Is the opcode a reduce accumulation? -/
def opReduce (op : Nat) : Bool := 0x900 ≤ op && op ≤ 0x907
/-- Is the mode a reduce or resident mode (Table 3.5)? -/
def modeReduce (m : Nat) : Bool := 4 ≤ m && m ≤ 6

/-- Does the immediate hold a value that the opcode's row names reserved (R81): a BFEXT or BFINS width, a zero
threshold (R98), or reserved bits of an EMIT immediate (R169)? -/
def immReserved (slot : BitVec 128) : Bool :=
  let op := sOp slot
  let m := sMode slot
  let imm := sImm slot
  ((op == 0x11C || op == 0x11D) && (imm / 64 % 128 == 0 || decide (64 < imm / 64 % 128))) ||
  ((m == 4 || m == 6) && opReduce op && imm % 2 ^ 20 == 0) ||
  (op == 0x800 && decide (64 ≤ imm))

/-- Is the slot's encoding reserved (R81)? The empty slot is not. -/
def slotReserved (slot : BitVec 128) : Bool :=
  !opDefined (sOp slot) || decide (7 ≤ sMode slot) || immReserved slot

/-- Is a slot in a mode that its opcode does not take (R84 cause MODE, R128)? -/
def modeWrong (slot : BitVec 128) : Bool :=
  let op := sOp slot
  let m := sMode slot
  (modeReduce m != opReduce op) ||
  ((op == 0x502 || op == 0x503) && m != 0) ||
  (opDyadic op && ((m == 0 && !sFlag slot 1) || m == 3))

/-! ## Firing (R77 to R79) -/

/-- Form the firing from the left operand and, where the mode supplies one, the right: IMM_R in MONADIC mode, then
SWAP (R79). The tag is that of the token that fires. -/
def mkFiring (slot : BitVec 128) (l : Token) (r : Option (Word × Byte)) : Firing :=
  let y := match r with
    | some q => some q
    | none => if sMode slot = 0 && sFlag slot 1 then
        some (sImmS slot, mkCtl (cType l.ctl) false false false false) else none
  if sFlag slot 0 then
    match y with
    | some (v, c) => { x := { l with value := v, ctl := c }, y := some (l.value, l.ctl), slot := slot }
    | none => { x := l, y := none, slot := slot }
  else { x := l, y := y, slot := slot }

/-- A firing goes on to stage 4 of its PE. -/
def State.pushEx (s : State) (t p : Nat) (f : Firing) : State :=
  s.updPe t p (fun e => { e with ex := e.ex ++ [f] })

/-- A firing is counted (R75): for FIRE of the tile (Table 3.11), as the tile's last firing, with STALLED cleared (R127), as an
activity of the context (R143). -/
def State.fired (s : State) (t c : Nat) : State :=
  (((s.tallyUp (0x1004 + 8 * t)).updTile t (fun x => { x with lastFire := s.now })).putB (tp t + R.tileQStat) 39 false).touch c

/-- A firing whose pass is still to be counted is counted once it goes on. -/
def State.dueCount (s : State) (t : Nat) (f : Firing) : State := if f.due then s.fired t (tCtx f.x.tag) else s

/-- The item that a firing is while it waits: a released or waiting firing does not match again. In MONADIC mode the item is
the token that fired, before IMM_R and SWAP; otherwise it keeps y (R581). -/
def Firing.item (f : Firing) : QItem :=
  if sMode f.slot = 0 then
    { tok := if sFlag f.slot 0 then (match f.y with | some (v, c) => { f.x with value := v, ctl := c } | none => f.x) else f.x,
      again := true, flt := f.flt }
  else { tok := f.x, again := true, y := f.y, flt := f.flt }

/-- Is a firing's side effect ordered (R134): EMIT, STORE, SEND and EVENT nodes, by the ORD flag of the token that reached a
MONADIC node, and of x where the match supplies y (R581)? -/
def State.ordered (s : State) (t : Nat) (f : Firing) : Bool :=
  let x := f.item.tok
  (sOp f.slot == 0x703 || sOp f.slot == 0x800 || sOp f.slot == 0x804 || sOp f.slot == 0x805) &&
    cOrd x.ctl && bit (s.ctxW (tCtx x.tag) 5) 8 && s.b (tp t + R.tileOrdMask + 8 * (tColour x.tag / 64)) (tColour x.tag % 64)

/-- May a firing have to wait in stage 3 once its loop or order has judged it: a left token of LOOP_HEAD, or an ordered side
effect (R126)? -/
def State.holdable (s : State) (t : Nat) (f : Firing) : Bool :=
  !f.again && ((sOp f.slot == 0x502 && !dSide f.x.dest) || s.ordered t f)

/-- A firing that has passed its match goes on to stage 4; it is counted now, or where a loop or order may let it wait in stage 3
for a bucket, once that is decided (R75, R126, R127). -/
def State.pass3 (s : State) (t p : Nat) (f : Firing) : State :=
  if s.holdable t f then s.pushEx t p { f with due := true } else (s.pushEx t p f).fired t (tCtx f.x.tag)

/-! ## Reduce entries (R96 to R100, R493) -/

/-- Types that an accumulation accepts (Table 3.6). -/
def reduceAccepts (op ty : Nat) : Bool :=
  match op with
  | 0x900 => ty == 0 || ty == 1 || ty == 5 || ty == 8 || ty == 2 || ty == 3
  | 0x901 => ty != 4
  | 0x902 => ty != 4
  | 0x903 => ty == 0 || ty == 1 || ty == 5 || ty == 8 || ty == 2 || ty == 3
  | 0x904 => ty == 0 || ty == 1 || ty == 5 || ty == 8 || ty == 2 || ty == 3
  | _ => true

/-- First-token value and TYPE (Table 3.6). -/
def reduceFirst (op : Nat) (v : Word) (ty : Nat) : Word × Nat :=
  match op with
  | 0x906 => (BitVec.ofNat 64 (2 ^ fld v 5 0), tyBits)
  | 0x907 => (1, tyUint64)
  | _ => (v, ty)

/-- A further token's VALUE and IEEE flags (Table 3.6), the TYPEs agreeing. -/
def reduceNext (op : Nat) (env : FEnv) (ty : Nat) (acc v : Word) : Word × Nat :=
  let mm (isMax : Bool) : Word × Nat :=
    if ty = 2 ∨ ty = 3 then
      let r := lanes2 (ty = 3) (fun f a b => f.minMax env isMax a b) acc.toNat v.toNat
      (BitVec.ofNat 64 r.1, r.2)
    else
      let less := if ty = 0 then acc.slt v else acc.ult v
      (if less == isMax then v else acc, 0)
  match op with
  | 0x900 => if ty = 2 ∨ ty = 3 then
      let r := lanes2 (ty = 3) (fun f a b => f.add env a b) acc.toNat v.toNat
      (BitVec.ofNat 64 r.1, r.2)
    else (acc + v, 0)
  | 0x901 => (acc ||| v, 0)
  | 0x902 => (acc &&& v, 0)
  | 0x903 => mm true
  | 0x904 => mm false
  | 0x905 => (acc, 0)
  | 0x906 => (acc ||| BitVec.ofNat 64 (2 ^ fld v 5 0), 0)
  | _ => (acc + 1, 0)

/-- Do differing TYPEs poison the entry instead of applying the token (R97)? -/
def reduceTyped (op : Nat) : Bool := 0x900 ≤ op && op ≤ 0x904

/-- The arithmetic settings of a context's PE operations (R337). -/
def State.peEnv (s : State) (c : Nat) : FEnv :=
  let w := s.ctxW c 4
  ⟨fld w 9 8, bit w 10, true⟩

/-- The entry after a further token (R96, R97): the TYPE rule, VALUE, COUNT saturating, POISON, LAST and EXC. ORD stays that
of the first token (log entry 61). -/
def reduceStep (op : Nat) (env : FEnv) (e : MsEntry) (x : Token) : MsEntry :=
  let same := cType x.ctl == cType e.ctl || !reduceTyped op
  let (v, fl) := if same then reduceNext op env (cType e.ctl) e.value x.value else (e.value, 0)
  { e with
    value := v, count := min (e.count + 1) 1048575,
    ctl := mkCtl (cType e.ctl) (cPoison e.ctl || cPoison x.ctl || !same)
             (cExc e.ctl || decide ((fl &&& (flNV ||| flOF)) ≠ 0)) (cLast e.ctl || cLast x.ctl) (cOrd e.ctl) }

/-- The event that a reduce firing folds into its domain's digest (R493). -/
def digestEvent (e : MsEntry) : List Byte :=
  leBytes 8 (setFld e.key 47 32 0).toNat ++ leBytes 8 e.value.toNat ++ leBytes 4 e.count ++ [e.ctl, 0, 0, 0]

/-- The hash of an event: CRC-32C of its halves (R493). -/
def digestHash (ev : List Byte) : Word :=
  BitVec.ofNat 64 ((crc32c (ev.take 12)).toNat + 2 ^ 32 * (crc32c (ev.drop 12)).toNat)

/-- Fold a firing into its domain's accumulator, where DIGEST_EN of brace and context and the colour's mask bit are
set (R493, R494). -/
def State.digestFold (s : State) (e : MsEntry) : State :=
  let c := keyCtx e.key
  let colour := fld e.key 7 0
  let bp := pageAt .brc 0
  if s.b (bp + R.brcCtl) 3 && bit (s.ctxW c 5) 9 && s.b (bp + R.brcDigestMask + 8 * (colour / 64)) (colour % 64) then
    let h := digestHash (digestEvent e)
    if s.brace.accs.any (fun a => a.ctx == c && a.colour == colour) then
      let accs := replFirst (fun a => a.ctx == c && a.colour == colour)
        (fun a => { a with a := a.a + h, n := a.n + 1 }) s.brace.accs
      { s with brace := { s.brace with accs := accs } }
    else if s.brace.accs.length < 4096 then
      { s with brace := { s.brace with accs := s.brace.accs ++ [⟨c, colour, h, 1⟩] } }
    else
      let s1 := s.inc (bp + R.brcDigStat) 63 48
      { s1 with brace := { s1.brace with ovf := (c, colour) :: s1.brace.ovf.filter (fun q => !(q == (c, colour))) } }
  else s

/-- A reduce or resident firing sends VALUE to destination 0 and COUNT to destination 1, under the entry's tag and
flags (R97, R98). `fold` says whether it folds into the digest (R493). -/
def State.reduceFire (s : State) (t : Nat) (slot : BitVec 128) (e : MsEntry) (fold : Bool) : State :=
  let tag : Tag := BitVec.ofNat 48 (fld e.key 47 0)
  let ctl (ty : Nat) : Byte := mkCtl ty (cPoison e.ctl) (cExc e.ctl) (cLast e.ctl || sFlag slot 5) (cOrd e.ctl || sFlag slot 3)
  let s1 := if fold then s.digestFold e else s
  (s1.outTo t slot tag 0 e.value (ctl (cType e.ctl))).outTo t slot tag 1 (BitVec.ofNat 64 e.count) (ctl tyUint64)

/-- Fire and release the entry of a key, as a FLUSH does (R99); with no entry, the firing of value 0 and count 0. LAST and
POISON of the FLUSH itself join only the latter (log entry 61). -/
def State.flushKey (s : State) (t : Nat) (slot : BitVec 128) (k : Word) (tok : Token) : State :=
  match (s.tile t).entry k with
  | some e => (s.msRemove t k).reduceFire t slot e true
  | none =>
    let c : Byte := mkCtl tyUint64 (cPoison tok.ctl) false (cLast tok.ctl || sFlag slot 5) (sFlag slot 3)
    (s.outTo t slot tok.tag 0 0 c).outTo t slot tok.tag 1 0 c

/-- Fire and release every reduce or resident entry of a node and context (R100): the state and the number fired. -/
def State.flushNode (s : State) (t pe node c : Nat) (slot : BitVec 128) : Nat × State :=
  let es := (s.tile t).ms.filter (fun e =>
    keyPe e.key == pe && keyNode e.key == node && keyCtx e.key == c && (e.kind == .reduce || e.kind == .resident))
  (es.length, es.foldl (fun s e => (s.msRemove t e.key).reduceFire t slot e true) s)

/-! ## Match modes (R91 to R100, R580) -/

/-- The outcome of matching one token: a firing that goes on to stage 4, with the state; the token is stored or has done its
work in stage 3; it is diverted at stage 3; or it waits there for a bucket (R112). -/
inductive MatchRes | fires (s : State) (f : Firing) | done (s : State) | away (s : State) | waits

/-- Code of a CTRL token, where the token is one (R90). -/
def ctrlCode (x : Token) : Option Nat := if cType x.ctl = tyCtrl then some (fld x.value 15 0) else none

/-- A token that finds an entry of a KIND its mode does not use (R580). -/
def State.kindMismatch (s : State) (t : Nat) (q : QItem) : State :=
  (s.divert t q.tok q.flt).fault (tp t) .config

/-- Hold a left token pending under a key: create the entry or append to its chain (R94); waits where no bucket is
free. -/
def State.holdPending (s : State) (t : Nat) (k : Word) (q : QItem) (proto : MsEntry) : MatchRes :=
  match (s.tile t).entry k with
  | some e =>
    match s.rechain t e.heldB 0 (chainSlots (e.held ++ [q])) with
    | some (c, s1) => .done ((s1.msUpd t k (fun e => { e with kind := .pending, held := e.held ++ [q], heldB := c })).msRecall t k)
    | none => .waits
  | none =>
    match s.rechain t {} 0 (chainSlots [q]) with
    | some (c, s1) => match s1.msInsert t { proto with kind := .pending, held := [q], heldB := c } with
      | some s2 => .done s2
      | none => .waits
    | none => .waits

/-- Return held tokens to the PE ahead of tokens not yet begun (R94). -/
def State.release (s : State) (t p : Nat) (l : List QItem) : State :=
  s.updPe t p (fun e => { e with front := e.front ++ l })

/-- The first `n` held tokens of an entry return to the PE, and `g` changes the entry, which keeps the rest (R94); a spilled
entry whose pending work was found moves into its set where it can (R106). -/
def State.unpend (s : State) (t p : Nat) (e : MsEntry) (n : Nat) (g : MsEntry → MsEntry) : State :=
  let (c, s1) := s.unchain t e.heldB n (chainSlots (e.held.drop n))
  let s2 := s1.msUpd t e.key (fun e => g { e with held := e.held.drop n, heldB := c })
  (if e.kind = .pending then s2.msRecall t e.key else s2).release t p (e.held.take n)

/-- Apply the match mode of a slot to a token (Table 3.5). A first right token at a gate that is neither GATE_OPEN nor
GATE_CLOSE creates no entry (log entry 61). -/
def State.matchMode (s : State) (t p : Nat) (slot : BitVec 128) (q : QItem) : MatchRes :=
  let x := q.tok
  let right := dSide x.dest
  let mode := sMode slot
  let k := msKey p (dNode x.dest) x.tag (mode == 2 || mode == 3)
  let ent := (s.tile t).entry k
  let proto : MsEntry := { key := k, kind := .wait, side := right, gen := false, count := 0, ctl := x.ctl,
                           value := x.value, place := .set 0 }
  let mism : MatchRes := .away (s.kindMismatch t q)
  let inserted (e : MsEntry) : MatchRes := match s.msInsert t e with
    | some s1 => .done s1
    | none => .waits
  match mode with
  | 0 => .fires s (mkFiring slot x none)
  | 1 => -- DYADIC
    match ent with
    | none => inserted proto
    | some e =>
      if e.kind ≠ .wait then mism
      else if e.side = right then
        .away ((s.divert t x q.flt).inc (tp t + R.tileMsEvt) 47 32)
      else
        let s1 := s.msRemove t k
        if right then .fires s1 (mkFiring slot { x with value := e.value, ctl := e.ctl } (some (x.value, x.ctl)))
        else .fires s1 (mkFiring slot x (some (e.value, e.ctl)))
  | 2 => -- STICKY
    match ent with
    | some e =>
      if e.kind ≠ .sticky ∧ e.kind ≠ .pending then mism
      else if right then
        if ctrlCode x = some 2 then
          if e.kind = .sticky then .done (s.msRemove t k) else .done (s.msRecall t k)
        else .done (s.unpend t p e e.held.length (fun e => { e with kind := .sticky, side := true, ctl := x.ctl, value := x.value }))
      else if e.kind = .sticky then .fires s (mkFiring slot x (some (e.value, e.ctl)))
      else s.holdPending t k q proto
    | none =>
      if right then
        if ctrlCode x = some 2 then .done s else inserted { proto with kind := .sticky }
      else s.holdPending t k q proto
  | 3 => -- GATE
    let gate (s : State) (e : MsEntry) : MatchRes :=
      if e.kind ≠ .gate ∧ e.kind ≠ .pending then mism
      else if right then
        match ctrlCode x with
        | some 5 =>
          let arg := fld x.value 63 32
          let credit := if arg = 0 then 0xFFFFF else min arg 1048574
          let n := if arg = 0 then e.held.length else min credit e.held.length
          .done (s.unpend t p e n (fun b => { b with count := credit, kind := if n < e.held.length then .pending else .gate }))
        | some 6 => .done (s.unpend t p e 0 (fun e => { e with count := 0 }))
        | _ => .done (s.exc84 t x (sOp slot) .ctrl)
      else if e.count ≠ 0 then
        .fires (s.unpend t p e 0 (fun e => { e with count := if e.count = 0xFFFFF then e.count else e.count - 1 }))
          (mkFiring slot x none)
      else s.holdPending t k q proto
    match ent with
    | some e => gate s e
    | none =>
      if right && ctrlCode x != some 5 && ctrlCode x != some 6 then .done (s.exc84 t x (sOp slot) .ctrl)
      else if right then
        match s.msInsert t { proto with kind := .gate, ctl := 0, value := 0 } with
        | some s1 => match (s1.tile t).entry k with
          | some e => gate s1 e
          | none => .waits
        | none => .waits
      else s.holdPending t k q { proto with ctl := 0, value := 0 }
  | _ => -- REDUCE_COUNT, REDUCE_FLUSH, RESIDENT
    let op := sOp slot
    let want : MsKind := if mode = 6 then .resident else .reduce
    if right then
      match ctrlCode x with
      | some 2 =>
        match ent with
        | some e => if e.kind ≠ want then mism else .done (s.flushKey t slot k x)
        | none => .done (s.flushKey t slot k x)
      | some 3 =>
        let (n, s1) := s.flushNode t p (dNode x.dest) (tCtx x.tag) slot
        .done (s1.outTo t slot x.tag 0 (BitVec.ofNat 64 (4 + n * 2 ^ 32))
          (mkCtl tyCtrl (cPoison x.ctl) false true (sFlag slot 3)))
      | _ => .done (s.exc84 t x op .ctrl)
    else if !reduceAccepts op (cType x.ctl) then .done (s.exc84 t x op .type)
    else
      let thresh := sImm slot % 2 ^ 20
      let check (s : State) (e : MsEntry) : State :=
        if (mode = 4 ∨ mode = 6) ∧ e.count = thresh then
          if mode = 4 then (s.msRemove t k).reduceFire t slot e true
          else (s.msUpd t k (fun e => { e with count := 0 })).reduceFire t slot e false
        else s
      match ent with
      | some e =>
        if e.kind ≠ want then mism
        else
          let e1 := reduceStep op (s.peEnv (tCtx x.tag)) e x
          let s1 := s.msUpd t k (fun _ => e1)
          .done ((check s1 e1).msRecall t k)
      | none =>
        let (v, ty) := reduceFirst op x.value (cType x.ctl)
        let c1 := mkCtl ty (cPoison x.ctl) false (cLast x.ctl) (cOrd x.ctl)
        let e1 : MsEntry := { proto with kind := want, count := 1, value := v, ctl := c1 }
        match s.msInsert t e1 with
        | some s1 => .done (check s1 e1)
        | none => .waits

/-! ## Beginning a token (stages 1 to 3) -/

/-- The item that a PE begins next: released ones go ahead of the queue (R121). -/
def PeSt.head (e : PeSt) : Option QItem := (e.front ++ e.queue).head?

/-- Take the head item. -/
def PeSt.popHead (e : PeSt) : PeSt :=
  match e.front with
  | _ :: r => { e with front := r }
  | [] => { e with queue := e.queue.drop 1 }

/-- The slot that an item names. -/
def State.slotOf (s : State) (t p : Nat) (q : QItem) : BitVec 128 := SMap.get 0 ((s.tile t).pe p).nodes (dNode q.tok.dest)

/-- May a PE begin a token: GLB_FABRIC.EN, no load (R72), not fenced (R153), not at level 2 (Table 16.3), not in a
function reset, stage 4 free, and no token of the PE waiting in stage 3 (R112)? -/
def State.peReady (s : State) (t p : Nat) : Bool :=
  s.b (pageAt .glb 0 + R.glbFabric) 0 && s.domOn t && !(s.tile t).load.busy && !s.b (tp t + R.tileFence) 0 &&
    !s.b (tp t + R.pgErrLevel) 2 && (SMap.get none s.frst (tp t)).isNone &&
    ((s.tile t).pe p).ex.isEmpty && !((s.tile t).wait.any (fun w => w.pe == p))

/-- A token must wait in stage 3 for a spill bucket (R126); `due` says whether its pass is still to be counted. -/
def State.waitBucket (s : State) (t p : Nat) (q : QItem) (due : Bool := true) : State :=
  s.starve t (fun n x => { x with wait := x.wait ++ [⟨p, q, n, due⟩] })

/-- Match a token whose lookup is complete; where it has passed stage 3 the firing is counted (R75). -/
def State.matchDone (s : State) (t p : Nat) (slot : BitVec 128) (q : QItem) : State :=
  match s.matchMode t p slot q with
  | .fires s1 f => s1.pass3 t p { f with flt := q.flt }
  | .done s1 => s1.fired t (tCtx q.tok.tag)
  | .away s1 => s1
  | .waits => s.waitBucket t p q

/-- Does the lookup of a key go to the spill region: no entry on die, and PRESENCE non-zero for its spill index
(R105)? -/
def State.needsSpill (s : State) (t : Nat) (k : Word) : Bool :=
  let p := (msHash k (s.reg (tp t + R.tileMsSpillSalt))).toNat
  !((s.tile t).ms.any (fun e => e.key == k && e.place.onDie)) &&
    (s.tile t).ms.any (fun e => match e.place with | .spill p' => p' % 4096 == p % 4096 | _ => false)

/-- The matching key of an item at a slot (R92). -/
def itemKey (p : Nat) (slot : BitVec 128) (q : QItem) : Word :=
  msKey p (dNode q.tok.dest) q.tok.tag (sMode slot == 2 || sMode slot == 3)

/-- Does a token have the store walked: a FLUSH_ALL at a reduce or resident node (R100)? -/
def walks (slot : BitVec 128) (x : Token) : Bool := modeReduce (sMode slot) && dSide x.dest && ctrlCode x == some 3

/-- Stage 3: a MONADIC token passes; a token whose key has a spill access in flight joins it; otherwise the on-die entries that
its lookup or walk reads are checked (R114); one that then needs the spill region issues an access (R106), and for others the
mode applies. -/
def State.stage3 (s : State) (t p : Nat) (slot : BitVec 128) (q : QItem) (r : MsRead) : State :=
  if sMode slot = 0 then s.matchDone t p slot q
  else
    let k := itemKey p slot q
    if (s.tile t).inflight.any (fun w => w.key == k) then
      s.updTile t (fun x => { x with inflight := replFirst (fun w => w.key == k) (fun w => { w with items := w.items ++ [(p, q)] }) x.inflight })
    else
      let s1 := if walks slot q.tok then s.walkCheck t r else s.lookCheck t k r
      if s1.needsSpill t k then
        (s1.updTile t (fun x => { x with inflight := x.inflight ++ [⟨k, s.now, [(p, q)]⟩] })).inc (tp t + R.tileMsWin) 31 0
      else s1.matchDone t p slot q

/-- A PE begins the item at its head: the context check (R41, R148), the slot read (R81), the reserved encodings, the mode
check of R84, which judges every token that reaches the slot (log entry 61), and the match, which a released firing passes
without (R581), except where its slot now accumulates (log entry 61). FAIL_IN diverts its tokens in every mode (R87, log entry
61). -/
def State.beginItem (s : State) (t p : Nat) (q : QItem) (slotEcc : Ecc) (r : MsRead) : State :=
  let x := q.tok
  if !q.flt && s.ctxState (tCtx x.tag) ≠ 1 then s.divert t x q.flt
  else
    let (i, s1) := s.injected (tp t) 2
    let (e, inj) := injEcc i slotEcc
    let slot := s.slotOf t p q
    match e with
    | .uncorrectable => (s1.divert t x q.flt).fault (tp t) .uncorrectable inj
    | _ =>
      let s2 := match e with | .corrected => s1.fault (tp t) .correctable inj | _ => s1
      if slot = 0 || sOp slot = 0 then s2.divert t x q.flt
      else if slotReserved slot then (s2.divert t x q.flt).fault (tp t) .config
      else if sOp slot = 0x801 then s2.divert t x q.flt
      else if modeWrong slot then (s2.exc84 t x (sOp slot) .mode).fired t (tCtx x.tag)
      else if q.again && !opReduce (sOp slot) then
        (s2.pushEx t p (if sMode slot = 0 then { mkFiring slot x none with again := true, flt := q.flt }
          else { x := x, y := q.y, slot := slot, again := true, flt := q.flt })).fired t (tCtx x.tag)
      else s2.stage3 t p slot q r

/-- Must the head item of a PE wait for a place in the in-flight spill table, which holds 1,024 accesses (R106)? It is not
begun before there is one (log entry 61). -/
def State.spillBusy (s : State) (t p : Nat) (q : QItem) : Bool :=
  let slot := s.slotOf t p q
  let k := itemKey p slot q
  decide (1024 ≤ (s.tile t).inflight.length) && (!q.again || opReduce (sOp slot)) && sMode slot != 0 && !(s.tile t).inflight.any (fun w => w.key == k) &&
    s.needsSpill t k

/-- A PE begins its next token, where it may and has one. -/
def State.beginToken (s : State) (t p : Nat) (slotEcc : Ecc) (r : MsRead) : State :=
  if s.peReady t p then
    match ((s.tile t).pe p).head with
    | some q => if s.spillBusy t p q then s else (s.updPe t p PeSt.popHead).beginItem t p q slotEcc r
    | none => s
  else s

/-- Is the head item of a PE one that `f` selects by its slot and token? -/
def State.headIs (s : State) (t p : Nat) (f : BitVec 128 → Token → Bool) : Bool :=
  match ((s.tile t).pe p).head with
  | some q => !q.again && f (s.slotOf t p q) q.tok
  | none => false

end Sys2Proof.Machine
end

