-- ==== Sys2Proof/Machine/PeOps.lean ====
section
/-! DEFINITION. Stage 4 of a PE: the firing that executes, its operand types (R82, R84), ordered side effects
(R134 to R137, R581), loop throttles (R129 to R132), contexts (R49 to R52), teardown (R148 to R151), and memory
requests of a PE (R85). -/

namespace Sys2Proof.Machine

/-! ## The firing in stage 4 -/

/-- The oldest firing of a PE, where its opcode is one that a row executes, and the state without it. -/
def State.stage4 (s : State) (t p : Nat) (g : Nat → Bool) : Option (Firing × State) :=
  match ((s.tile t).pe p).ex with
  | f :: r => if g (sOp f.slot) then some (f, s.updPe t p (fun e => { e with ex := r })) else none
  | [] => none

/-- INT64, UINT64, BITS and TIME: the types of the integer rows (Table 3.3). -/
def intTy (ty : Nat) : Bool := ty == 0 || ty == 1 || ty == 5 || ty == 8

/-- BIN64 and BIN32X2. -/
def fltTy (ty : Nat) : Bool := ty == 2 || ty == 3

/-- Types that an opcode accepts for x (Table 3.3). -/
def accX (op ty : Nat) : Bool :=
  if 0x100 ≤ op ∧ op ≤ 0x11D ∨ 0x400 ≤ op ∧ op ≤ 0x405 then intTy ty
  else if 0x200 ≤ op ∧ op ≤ 0x208 ∨ 0x406 ≤ op ∧ op ≤ 0x409 then fltTy ty
  else if op = 0x209 then ty == tyInt64
  else if op = 0x20A ∨ op = 0x20B then ty == tyBin64
  else if op = 0x20C then ty == tyBin32
  else if op = 0x300 ∨ op = 0x301 then ty == tyDec
  else if op = 0x700 ∨ op = 0x701 then ty == tyInt64 || ty == tyUint64
  else if op = 0x702 ∨ op = 0x703 then ty == tyUint64 || ty == tyBits
  else if op = 0x803 then ty == tyTime
  else true

/-- Types that an opcode accepts for y; the floating rows take both operands of one TYPE (Table 3.3). -/
def accY (op tx ty : Nat) : Bool :=
  if op = 6 then ty == tyInt64 || ty == tyUint64 || ty == tyBits
  else if 0x100 ≤ op ∧ op ≤ 0x11D ∨ 0x400 ≤ op ∧ op ≤ 0x405 then intTy ty
  else if 0x200 ≤ op ∧ op ≤ 0x206 ∨ 0x406 ≤ op ∧ op ≤ 0x409 then ty == tx
  else if op = 0x300 ∨ op = 0x301 then ty == tyDec
  else true

/-- Does destination 0 of a firing receive nothing? -/
def Firing.none0 (f : Firing) : Bool := dXform (sDest f.slot 0) == 15

/-- Are the operands' TYPEs accepted (R84 cause TYPE)? An IFETCH or LOAD that has no destination raises no exception
(R85). -/
def Firing.typeOk (f : Firing) : Bool :=
  let op := sOp f.slot
  ((op == 0x700 || op == 0x702) && f.none0) || accX op (cType f.x.ctl) &&
    (!opDyadic op || match f.y with | some (_, c) => accY op (cType f.x.ctl) (cType c) | none => true)

/-- Value of the right operand; an executing two-operand firing has one (R84). -/
def Firing.yv (f : Firing) : Word := match f.y with | some (v, _) => v | none => 0

/-- Does the right operand carry POISON? -/
def Firing.yPoison (f : Firing) : Bool := match f.y with | some (_, c) => cPoison c | none => false

/-- Execute the firing in stage 4 where its opcode belongs to a row: `k` has the effect on accepted types, and other
types are handled under R84. -/
def State.exec4 (s : State) (t p : Nat) (g : Nat → Bool) (k : Firing → State → State) : State :=
  match s.stage4 t p g with
  | some (f, s1) => if f.typeOk then k f s1 else (s1.dueCount t f).exc84 t f.x (sOp f.slot) .type
  | none => s

/-- An integer result of a row, to both destinations (R77, R82). -/
def State.intOp (s : State) (t p : Nat) (g : Nat → Bool) (ty : Firing → Nat) (r : Nat → Firing → Word) : State :=
  s.exec4 t p g (fun f s => s.outBoth t f (r (sOp f.slot) f) (ty f))

/-- An IEEE 754 result with its flags: an exception that TRAP_EN enables and NOTRAP does not suppress is handled under
R84, unless an operand is poisoned (R138). -/
def State.fltOp (s : State) (t p : Nat) (g : Nat → Bool) (ty : Firing → Nat)
    (r : FEnv → Nat → Firing → Nat × Nat) : State :=
  s.exec4 t p g (fun f s =>
    let (v, fl) := r (s.peEnv (tCtx f.x.tag)) (sOp f.slot) f
    let en := fld (s.ctxW (tCtx f.x.tag) 4) 4 0
    if fl &&& en ≠ 0 ∧ !sFlag f.slot 4 ∧ !f.any cPoison then s.exc84 t f.x (sOp f.slot) .ieee fl
    else s.outBoth t f (BitVec.ofNat 64 v) (ty f))

/-! ## Ordered release (R134 to R137, R581) -/

/-- Is a sequencer entry the one of a firing: PE, node, context and colour (R129, R136)? -/
def SeqEntry.isFor (e : SeqEntry) (loop : Bool) (p : Nat) (x : Token) : Bool :=
  e.loop == loop && e.pe == p && e.node == dNode x.dest && e.ctx == tCtx x.tag && e.colour == tColour x.tag

/-- The sequencer entry of a firing. -/
def Tile.seqOf (x : Tile) (loop : Bool) (p : Nat) (tk : Token) : Option SeqEntry :=
  x.seq.find? (fun e => e.isFor loop p tk)

/-- Change the sequencer entry of a firing. -/
def State.updSeq (s : State) (t : Nat) (loop : Bool) (p : Nat) (tk : Token) (g : SeqEntry → SeqEntry) : State :=
  s.updTile t (fun x => { x with seq := replFirst (fun e => e.isFor loop p tk) g x.seq })

/-- Release the sequencer entry of a firing, with the buckets of what it holds. -/
def State.dropSeq (s : State) (t : Nat) (loop : Bool) (p : Nat) (tk : Token) : State :=
  let l := ((s.tile t).seq.filter (fun e => e.isFor loop p tk)).flatMap (fun e => e.heldB.bk)
  (s.updTile t (fun x => { x with seq := x.seq.filter (fun e => !e.isFor loop p tk) })).giveBuckets t l

/-- A firing that comes too late in its order: R84 with cause ORDER_LATE, counted (R136, R137). -/
def State.orderLate (s : State) (t : Nat) (x : Token) (op : Nat) : State :=
  (s.exc84 t x op .orderLate).inc (tp t + R.tileSeqStat) 63 48

/-- A sequencer entry cannot be created: R84 with cause SEQ_FULL, counted (R133). -/
def State.seqFull (s : State) (t : Nat) (x : Token) (op : Nat) : State :=
  (s.exc84 t x op .seqFull).inc (tp t + R.tileSeqStat) 31 16

/-- Hold the item of a firing in its sequencer entry, where it is then counted, or let it wait for a bucket in stage 3 (R75,
R126). -/
def State.seqHold (s : State) (t : Nat) (loop : Bool) (p : Nat) (f : Firing) (e : SeqEntry) (q : QItem) : State :=
  match s.rechain t e.heldB 0 (chainSlots (e.held ++ [q])) with
  | some (c, s1) => (s1.updSeq t loop p f.x (fun e => { e with held := e.held ++ [q], heldB := c })).dueCount t f
  | none => s.waitBucket t p q f.due

/-- The firing in stage 4 stays there; its pass through stage 3 counts. -/
def State.stay4 (s : State) (t p : Nat) (f : Firing) : State :=
  if f.due then (s.updPe t p (fun e => { e with ex := { f with due := false } :: e.ex.drop 1 })).dueCount t f else s

/-- The items of a sequencer entry that `go` selects leave its chain, and `g` changes the entry. Slots freed at the head are
consumed; the items behind others close up (R123, log entry 60). -/
def State.seqRelease (s : State) (t : Nat) (loop : Bool) (p : Nat) (tk : Token) (e : SeqEntry) (go : QItem → Bool)
    (g : SeqEntry → SeqEntry) : State :=
  let stay := e.held.filter (fun q => !go q)
  let (c, s1) := s.unchain t e.heldB (chainSlots (e.held.takeWhile go)).length (chainSlots stay)
  (s1.updSeq t loop p tk (fun e => g { e with held := stay, heldB := c })).release t p (e.held.filter go)

/-- After an ordered side effect: NEXT advances and held firings of the new NEXT return to the PE (R136); after one
with LAST, on x or y (log entry 61), the entry is released and firings still held are late (R137). -/
def State.orderDone (s : State) (t p : Nat) (f : Firing) : State :=
  match (s.tile t).seqOf false p f.x with
  | none => s
  | some e =>
    if f.any cLast then
      e.held.foldl (fun s q => s.orderLate t q.tok (sOp f.slot)) (s.dropSeq t false p f.x)
    else
      let n := (e.n + 1) % 2 ^ 24
      s.seqRelease t false p f.x e (fun q => tIter q.tok.tag == n) (fun e => { e with n := n })

/-- Apply R136 to a firing: `perform` has the side effect, or is none while the firing must wait in stage 4. `s` is the state
before the firing left stage 4 and `s1` the state after. -/
def State.withOrder (s s1 : State) (t p : Nat) (f : Firing) (perform : State → Option State) : State :=
  if s.ordered t f then
    match (s1.tile t).seqOf false p f.x with
    | some e =>
      let d := (tIter f.x.tag + 2 ^ 24 - e.n) % 2 ^ 24
      if d = 0 then
        match perform (s1.dueCount t f) with
        | some s2 => s2.orderDone t p f
        | none => s.stay4 t p f
      else if d < 2 ^ 23 then s1.seqHold t false p f e f.item
      else (s1.dueCount t f).orderLate t f.x (sOp f.slot)
    | none =>
      if 1024 ≤ (s1.tile t).seq.length then (s1.dueCount t f).seqFull t f.x (sOp f.slot)
      else
        let e : SeqEntry := { loop := false, pe := p, node := dNode f.x.dest, ctx := tCtx f.x.tag,
                              colour := tColour f.x.tag, n := 0, k := 0 }
        let s2 := s1.updTile t (fun x => { x with seq := x.seq ++ [e] })
        let d := tIter f.x.tag
        if d = 0 then
          match perform (s2.dueCount t f) with
          | some s3 => s3.orderDone t p f
          | none => s.stay4 t p f
        else if d < 2 ^ 23 then s2.seqHold t false p f e f.item
        else (s2.dueCount t f).orderLate t f.x (sOp f.slot)
  else
    match perform (s1.dueCount t f) with
    | some s2 => s2
    | none => s.stay4 t p f

/-- Execute an ordered-class opcode: types first (R84), then order, then the side effect, which a poisoned operand that
`poisoned` names replaces by R84 with cause POISONED (R139). The order advances for a poisoned turn, and for a STORE whose
address R85 refuses, as for a performed one; a firing refused for its TYPE takes no turn (log entry 13). -/
def State.sideOp (s : State) (t p : Nat) (g : Nat → Bool) (poisoned : Firing → Bool)
    (perform : Firing → State → Option State) : State :=
  match s.stage4 t p g with
  | none => s
  | some (f, s1) =>
    if !f.typeOk then (s1.dueCount t f).exc84 t f.x (sOp f.slot) .type
    else s.withOrder s1 t p f (fun s2 =>
      if poisoned f then some (s2.exc84 t f.x (sOp f.slot) .poisoned) else perform f s2)

/-! ## Loop throttles (R128 to R132) -/

/-- The limit k of a loop (R129): imm[12:0] in 1 to 4,096 and THROTTLE, whichever is less. -/
def State.loopLimit (s : State) (f : Firing) : Nat :=
  let i := sImm f.slot % 2 ^ 13
  let th := fld (s.ctxW (tCtx f.x.tag) 0) 31 19
  if 1 ≤ i ∧ i ≤ 4096 then min i th else th

/-- LOOP_HEAD (Table 4.1). A held token that has been released passes without a change of INFLIGHT. -/
def State.loopHead (s : State) (t p : Nat) (f : Firing) : State :=
  let x := f.x
  let go := s.dueCount t f
  let pass (s : State) : State := s.outBoth t f x.value (cType x.ctl)
  if f.again then pass go
  else if dSide x.dest then
    match (s.tile t).seqOf true p x with
    | some e =>
      if e.n = 0 then (go.divert t x f.flt).inc (tp t + R.tileSeqStat) 47 32
      else match e.held with
        | q :: r =>
          let (c, s1) := go.unchain t e.heldB 1 (chainSlots r)
          (s1.updSeq t true p x (fun e => { e with held := r, heldB := c })).release t p [{ q with again := true }]
        | [] => if e.n = 1 then go.dropSeq t true p x
          else go.updSeq t true p x (fun e => { e with n := e.n - 1 })
    | none => (go.divert t x f.flt).inc (tp t + R.tileSeqStat) 47 32
  else
    match (s.tile t).seqOf true p x with
    | some e =>
      if e.n < e.k then pass (go.updSeq t true p x (fun e => { e with n := e.n + 1 }))
      else s.seqHold t true p f e { f.item with again := false }
    | none =>
      if 1024 ≤ (s.tile t).seq.length then go.seqFull t x (sOp f.slot)
      else
        let k := s.loopLimit f
        let e : SeqEntry := { loop := true, pe := p, node := dNode x.dest, ctx := tCtx x.tag, colour := tColour x.tag,
                              n := 0, k := k }
        let add (s : State) : State := s.updTile t (fun y => { y with seq := y.seq ++ [e] })
        if 0 < k then pass ((add go).updSeq t true p x (fun e => { e with n := 1 }))
        else (add s).seqHold t true p f e { f.item with again := false }

/-! ## Contexts (R49 to R52, R86) -/

/-- Take the head of the free list (R49). -/
def State.takeCtx (s : State) : Option (Nat × State) :=
  if s.ctxNext < 65536 then some (s.ctxNext, { s with ctxNext := s.ctxNext + 1 })
  else match s.ctxTail with
    | c :: r => some (c, { s with ctxTail := r })
    | [] => none

/-- Numbers on the free list (GLB_CTX_FREE.FREE). -/
def State.ctxFree (s : State) : Nat := (65536 - s.ctxNext) + s.ctxTail.length

/-- Allocate context c for a firing and send its number (R50, R86). Reserved fields of the template do not reach the
descriptor (R10). The template is read as memory holds it: what an error response to that read would do is open (log
entry 61). -/
def State.openCtx (s : State) (t : Nat) (f : Firing) (c : Nat) : State :=
  let tm := s.f (tp t + R.tileCtxTmpl) 47 6 * 64 + 64 * (sImm f.slot % 2 ^ 16)
  let w (i : Nat) : Word := s.rd64 (tm + 8 * i)
  let keep (i : Nat) (l : List (Nat × Nat)) : Word := l.foldl (fun v h => setFld v h.1 h.2 (fld (w i) h.1 h.2)) 0
  let w0 := setFld (setFld (keep 0 [(45, 16)]) 1 0 1) 63 48 (tCtx f.x.tag)
  let s1 := s.wrWords (s.ctxAddr c) [w0, keep 1 [(47, 0)], keep 2 [(55, 0)], keep 3 [(47, 0)],
    keep 4 [(4, 0), (10, 8), (63, 28)], keep 5 [(9, 0), (63, 16)], 0xFFFFFF, s.now]
  let s2 := s1.updCtx c (fun _ => { lastAct := s1.now })
  let tag : Tag := setFld f.x.tag 7 0 (fld (w 5) 7 0)
  let ctl := f.outCtl tyUint64 false false
  (s2.outTo t f.slot tag 0 (BitVec.ofNat 64 c) ctl).outTo t f.slot tag 1 (BitVec.ofNat 64 c) ctl

/-- The control byte of x with another TYPE and EXC set, for exception tokens whose value a rule names (R141). -/
def excCtl (x : Token) (ty : Nat) (poison : Bool) : Byte :=
  mkCtl ty (cPoison x.ctl || poison) true (cLast x.ctl) (cOrd x.ctl)

/-- CTX (R50, R51, R86). -/
def State.ctxOp (s : State) (t p : Nat) (f : Firing) : State :=
  if s.f (tp t + R.tileCtxTmpl) 63 48 ≤ sImm f.slot % 2 ^ 16 then s.exc84 t f.x (sOp f.slot) .template
  else match (if s.ctxQueue.isEmpty then s.takeCtx else none) with
    | some (c, s1) => s1.openCtx t f c
    | none =>
      if s.ctxQueue.length < 256 then { s with ctxQueue := s.ctxQueue ++ [⟨t, p, f⟩] }
      else (s.excToken t f.x 0 (excCtl f.x tyUint64 false)).inc (pageAt .glb 0 + R.glbCtxFree) 63 48

/-! ## Teardown (R148 to R151) -/

/-- Items of a context that wait on a tile: WAIT and PENDING entries, and tokens held by loop or order entries (R143); a held
firing with two operands is one item (log entry 61). -/
def Tile.waitingOf (x : Tile) (c : Nat) : Nat :=
  (x.ms.filter (fun e => keyCtx e.key == c && (e.kind == .wait || e.kind == .pending))).length
    + (x.seq.filter (fun e => e.ctx == c)).foldl (fun n e => n + e.held.length) 0

/-- Items of a context that wait on any tile. -/
def State.waitingOf (s : State) (c : Nat) : Nat := s.tiles.foldl (fun n e => n + e.2.waitingOf c) 0

/-- Step 2 of Table 4.7 on one tile: its entries of the context, what they hold, sequencer entries and TWAIT tokens. -/
def State.purge (s : State) (t c : Nat) : State :=
  let s := s.walkCheck t {}
  let x := s.tile t
  let s1 := (x.ms.filter (fun e => keyCtx e.key == c)).foldl (fun s e => s.msRemove t e.key) s
  (s1.updTile t (fun x => { x with seq := x.seq.filter (fun e => e.ctx != c),
                                   twait := x.twait.filter (fun w => tCtx w.f.x.tag != c) })).giveBuckets t
    ((x.seq.filter (fun e => e.ctx == c)).flatMap (fun e => e.heldB.bk))

/-- Step 1 of Table 4.7 on one tile: tokens of the context that wait in stage 3, for a lookup or a bucket, are diverted, those
bound for a fault node apart (R80). -/
def State.expel (s : State) (t c : Nat) : State :=
  let x := s.tile t
  let mine (q : QItem) : Bool := tCtx q.tok.tag == c && !q.flt
  let lost := (x.inflight.flatMap (fun w => w.items)).map (fun w => w.2) ++ x.wait.map (fun w => w.item)
  let s1 := (s.updTile t (fun x => { x with
    inflight := (x.inflight.map (fun w => { w with items := w.items.filter (fun q => !mine q.2) })).filter (fun w => !w.items.isEmpty),
    wait := x.wait.filter (fun w => !mine w.item) })).exhFix t x.exhSince
  (lost.filter mine).foldl (fun s q => s.divert t q.tok q.flt) s1

/-- Begin the teardown of a context (R148, steps 1 and 2). What ABORT_DONE will say was discarded are its waiting items (log
entry 34). -/
def State.beginTeardown (s : State) (c : Nat) (abort : Bool) (reason : Nat) : State :=
  let gone := s.waitingOf c
  let s1 := s.setCtxState c 2
  let s2 := s1.tiles.foldl (fun (s : State) e => (s.purge e.1 c).expel e.1 c) s1
  s2.updCtx c (fun x => { x with teardown := some ⟨abort, reason, s2.flitId, gone⟩ })

/-- FREE of a context by a node of a tile (R52). -/
def State.freeCtx (s : State) (t c : Nat) : State :=
  if c = 0 ∨ s.ctxState c ≠ 1 then (s.inc (tp t + R.tileFabEvt) 31 16).fault (tp t) .config
  else s.beginTeardown c false 0

/-- Abort a context (R150): STATE, the ABORT token, and teardown, whose fence the token precedes. The token comes from the
system node. -/
def State.abortCtx (s : State) (c reason : Nat) : State :=
  let tok : Token := { dest := plainDest (s.excDest c), tag := BitVec.ofNat 48 (s.ctxParent c * 2 ^ 32),
                       value := BitVec.ofNat 64 (8 + c * 2 ^ 32 + reason * 2 ^ 48), ctl := 0x74 }
  ((s.setCtxState c 2).sendFrom (pageNode .glb 0) tok).beginTeardown c true reason

/-! ## Memory requests of a PE (R85) -/

/-- Issue a request on VN1: the packet enters the mesh, and the NI keeps the request until its response returns
(R442, R448). A request for which the NI has no route times out as one that is never answered. -/
def State.request (s : State) (src dst opc line : Nat) (r : MemReq) (c : Client) : State :=
  let id := s.txNext
  let s1 := { s with txNext := (s.txNext + 1) % 4096,
                     outst := s.outst ++ [(⟨src, id, s.now, line, s.niGen src, c⟩ : Outst)] }
  (s1.inject src dst 1 opc 0 (.req { r with node := src, txid := id } opc)).2

/-- LOAD and STORE reach 8-byte-aligned addresses of HBM and the Shepherd store (R85). -/
def peAddrOk (a : Nat) : Bool :=
  decide (a % 8 = 0) && (match region a with | .hbm | .shep => true | _ => false)

/-- The effective address x + imm. -/
def Firing.addr (f : Firing) : Nat := (f.x.value + sImmS f.slot).toNat

/-- The return tag of IFETCH and LOAD, formed at issue from x's value (R85). -/
def State.returnTag (s : State) (f : Firing) : Tag :=
  applyXform (dXform (sDest f.slot 0)) f.x.tag (sImm f.slot) f.x.value (s.ctxParent (tCtx f.x.tag))

/-- Does destination 0 carry a reserved transform code (R46)? -/
def Firing.bad0 (f : Firing) : Bool := dXform (sDest f.slot 0) == 13 || dXform (sDest f.slot 0) == 14

/-- A firing whose only destination carries a reserved code: nothing goes there, x goes to the fault node (R46). -/
def State.badDest (s : State) (t : Nat) (f : Firing) : State :=
  (s.divert t { f.x with dest := plainDest (sDest f.slot 0) } false).fault (tp t) .config

/-- Request body of a PE's access. -/
def peReq (t a : Nat) (data : Word) : MemReq :=
  { node := tileNode t, txid := 0, origin := BitVec.ofNat 16 (0x7000 + tileNode t), addr := BitVec.ofNat 48 a,
    be := 0xFF, data := data }

/-- LOAD (R85). -/
def State.loadOp (s : State) (t : Nat) (f : Firing) : State :=
  if f.none0 then s
  else if cPoison f.x.ctl then s.exc84 t f.x (sOp f.slot) .poisoned
  else if !peAddrOk f.addr then s.exc84 t f.x (sOp f.slot) .address
  else if f.bad0 then s.badDest t f
  else match unitOf f.addr with
    | some u => s.request (tileNode t) (unitNode u) 1 f.addr (peReq t f.addr 0) (.load t f (s.returnTag f))
    | none => s

/-- STORE (R85): the access, without its order. -/
def State.storeOp (s : State) (t : Nat) (f : Firing) : State :=
  if !peAddrOk f.addr then s.exc84 t f.x (sOp f.slot) .address
  else match unitOf f.addr with
    | some u => s.request (tileNode t) (unitNode u) 3 f.addr (peReq t f.addr f.yv) (.store t f)
    | none => s

/-! ## I-structures (R53 to R58, R579) -/

/-- The index i of an I-structure operation. -/
def Firing.idx (f : Firing) : Nat := f.x.value.toNat

/-- Address of data word i of a context's I-structure. -/
def State.isData (s : State) (c i : Nat) : Nat := fld (s.ctxW c 1) 47 0 + 8 * i
/-- Address of state word i. -/
def State.isState (s : State) (c i : Nat) : Nat := fld (s.ctxW c 1) 47 0 + 8 * fld (s.ctxW c 2) 31 0 + 8 * i

/-- The error token of R579 and of a reserved state word: the index, POISON and EXC. -/
def State.isError (s : State) (t : Nat) (f : Firing) : State :=
  s.excToken t f.x f.x.value (excCtl f.x tyUint64 true)

/-- Send an I-fetch or I-store to controller `u` on VN1, opcode 6 or 7, for the data word at `a` (Table 13.7); the NI keeps the
request until its response returns (R448). -/
def State.iRequest (s : State) (t u a : Nat) (r : IReq) : State :=
  let id := s.txNext
  let n := tileNode t
  let s1 := { s with txNext := (s.txNext + 1) % 4096,
                     outst := s.outst ++ [(⟨n, id, s.now, a, s.niGen n, .istruct t r.f⟩ : Outst)] }
  (s1.inject n (unitNode u) 1 (if r.store then 7 else 6) 0 (.istruct { r with txid := id } a)).2

/-- Issue an I-fetch or I-store (R56, R57): an index outside the structure answers at once, a region outside HBM
raises R579's ADDRESS, and other operations go to the controller that owns the data word. -/
def State.isIssue (s : State) (t : Nat) (store : Bool) (f : Firing) : State :=
  let c := tCtx f.x.tag
  if fld (s.ctxW c 2) 31 0 ≤ f.idx then s.excToken t f.x f.x.value (excCtl f.x tyUint64 false)
  else
    let a := s.isData c f.idx
    match region a, region (s.isState c f.idx) with
    | .hbm, .hbm => s.iRequest t (hbmUnit a) a { store := store, tile := t, f := f, rtag := s.returnTag f }
    | _, _ => (s.isError t f).fault (tp t) .config

end Sys2Proof.Machine
end

