-- ==== Sys2Proof/Machine/FabOps.lean ====
section
/-! DEFINITION. The tile controller's work (queues, spill, salt rotation, scrubbing, node-store loads, fencing) and the
quiescence monitor (R51 to R74, R105 to R127, R143 to R154). -/

namespace Sys2Proof.Machine

/-! ## Arrival, queues and queue chains (R40, R41, R120 to R126) -/

/-- Has an earlier token for the same PE reached the tile and not entered yet (R121)? -/
def arrivalBehind (l : List Arrival) (src p : Nat) : Bool :=
  (l.takeWhile (fun b => b.src != src)).any (fun b => dPe b.item.tok.dest == p)

/-- The oldest token from a node in a tile's network interface enters the tile (R40, R41, R120), unless an earlier one for its
PE has yet to enter (R121). A token that may not enter the queue is held, or waits for a bucket (R126). -/
def State.enterTile (s : State) (t src : Nat) : State :=
  let x := s.tile t
  if (SMap.get none s.frst (tp t)).isSome then s
  else match takeFirst (fun a => a.src == src) x.arr with
  | none => s
  | some (a, rest) =>
    if arrivalBehind x.arr src (dPe a.item.tok.dest) then s
    else
      let (q, s1) := if a.seen then (a.item, s) else s.badType t a.item
      let stay (s : State) (g : Arrival → Arrival) : State := s.updTile t (fun x =>
        { x with arr := replFirst (fun b => b.src == src) (fun b => g { b with item := q, seen := true }) x.arr })
      let gone (s : State) : State := s.updTile t (fun x => { x with arr := rest })
      if !q.flt && s1.ctxState (tCtx q.tok.tag) ≠ 1 then ((gone s1).exhFix t x.exhSince).divert t q.tok false
      else match (gone s1).enterPe t q with
        | .entered s2 => s2.exhFix t x.exhSince
        | .full => stay s1 (fun b => { b with since := some (b.since.getD s.now) })
        | .bucket => if a.bucket.isSome then stay s1 id
            else (stay s1 id).starve t (fun n x =>
              { x with arr := replFirst (fun b => b.src == src) (fun b => { b with bucket := some n }) x.arr })

/-- Is this the oldest token for a PE in the network interface, held by a full queue for SPILL_DELAY (R120)? -/
def State.spillDue (s : State) (t : Nat) (a : Arrival) : Bool :=
  a.bucket.isNone && match a.since with
    | some w => decide (16 * s.f (tp t + R.tileQCtl) 15 0 ≤ dur w s.now)
    | none => false

/-- The oldest token that a full queue of a PE holds enters it where it now has room, and goes to the queue chain once it
has been held for SPILL_DELAY (R120), or waits for a bucket (R126); without a spill region it stays with no time limit (R582). -/
def State.spillDelay (s : State) (t p : Nat) : State :=
  let mine (a : Arrival) : Bool := dPe a.item.tok.dest == p
  match takeFirst mine (s.tile t).arr with
  | none => s
  | some (a, rest) =>
    let pe := (s.tile t).pe p
    if pe.chain.isEmpty && decide (pe.queue.length < 256) && (SMap.get none s.frst (tp t)).isNone && a.since.isSome then
      (s.updTile t (fun x => { x with arr := rest })).updPe t p (fun e => { e with queue := e.queue ++ [a.item] })
    else if s.spillOn t && s.spillDue t a then
      match s.chainAppend t p a.item with
      | some s1 => s1.updTile t (fun x => { x with arr := rest })
      | none => s.starve t (fun n x => { x with arr := replFirst mine (fun b => { b with bucket := some n }) x.arr })
    else s

/-- The head of a PE's queue chain moves into the queue as room appears (R121); an emptied bucket returns to the free
chain (R123). -/
def State.refill (s : State) (t p : Nat) : State :=
  let pe := (s.tile t).pe p
  match pe.chain with
  | q :: r =>
    if pe.queue.length < 256 then
      let (c, s1) := s.unchain t pe.chainB 1 (chainSlots r)
      s1.updPe t p (fun e => { e with queue := e.queue ++ [q], chain := r, chainB := c })
    else s
  | [] => s

/-! ## Spill accesses and buckets (R106, R112, R126) -/

/-- Does a token of a key wait in stage 3 for a bucket? -/
def State.keyWaits (s : State) (t : Nat) (k : Word) : Bool :=
  (s.tile t).wait.any (fun w => itemKey w.pe (s.slotOf t w.pe w.item) w.item == k)

/-- Tokens of one key match in order; those behind one that must wait for a bucket stay with the access (R76). -/
def State.matchAll (s : State) (t : Nat) (k : Word) : List (Nat × QItem) → State
  | [] => s
  | pq :: r =>
    let s1 := s.matchDone t pq.1 (s.slotOf t pq.1 pq.2) pq.2
    if s1.keyWaits t k && !r.isEmpty then s1.updTile t (fun x => { x with inflight := x.inflight ++ [⟨k, s.now, r⟩] })
    else s1.matchAll t k r

/-- A spill access of a key completes: its round trip is a sample of SPILL_RTT, in ns (Table 3.11), and the tokens that wait for
it match in the order in which they began (R76, R106). -/
def State.spillDone (s : State) (t : Nat) (k : Word) : State :=
  match takeFirst (fun w => w.key == k) (s.tile t).inflight with
  | none => s
  | some (w, rest) =>
    if s.keyWaits t k then s
    else (((s.updTile t (fun x => { x with inflight := rest })).sampleAt (0x1003 + 8 * t) (dur w.since s.now / 16)).lookCheck t k
      {}).matchAll t k w.items

/-- The number of the token in the network interface that has waited longest for a bucket. -/
def Tile.firstNi (x : Tile) : Option Nat :=
  x.arr.foldl (fun m a => match m, a.bucket with
    | none, b => b
    | some n, some b => some (min n b)
    | some n, none => some n) none

/-- The item of stage 3 whose turn it is goes on: a token matches, a left token of a loop or a firing of an order is held, or
goes on where it need not be held any more, which begins and counts it once more; none where it must still wait. -/
def State.serveWait (s : State) (t : Nat) (w : Waiting) : Option State :=
  let slot := s.slotOf t w.pe w.item
  let q := w.item
  if q.again then
    match (s.tile t).seqOf false w.pe q.tok with
    | some e =>
      let d := (tIter q.tok.tag + 2 ^ 24 - e.n) % 2 ^ 24
      if 0 < d ∧ d < 2 ^ 23 then
        match s.rechain t e.heldB 0 (chainSlots (e.held ++ [q])) with
        | some (c, s1) =>
          let s2 := s1.updSeq t false w.pe q.tok (fun e => { e with held := e.held ++ [q], heldB := c })
          some (if w.due then s2.fired t (tCtx q.tok.tag) else s2)
        | none => none
      else some (s.release t w.pe [q])
    | none => some (s.release t w.pe [q])
  else if sOp slot = 0x502 then
    let s1 := s.loopHead t w.pe { mkFiring slot q.tok none with flt := q.flt }
    if (s1.tile t).waitN = (s.tile t).waitN then some (if w.due then s1.fired t (tCtx q.tok.tag) else s1) else none
  else match s.matchMode t w.pe slot q with
    | .fires s1 f => some (s1.pass3 t w.pe { f with flt := q.flt })
    | .done s1 => some (s1.fired t (tCtx q.tok.tag))
    | .away s1 => some s1
    | .waits => none

/-- The token of the network interface with a number joins its queue chain. -/
def State.niServe (s : State) (t n : Nat) : Option State :=
  match takeFirst (fun a => a.bucket == some n) (s.tile t).arr with
  | some (a, rest) => (s.updTile t (fun x => { x with arr := rest })).chainAppend t (dPe a.item.tok.dest) a.item
  | none => none

/-- The item that has waited longest for a bucket takes one, where it can (R126). While it is its turn, EXHAUSTED does not
keep it from one. -/
def State.bucketGrant (s : State) (t : Nat) : State :=
  let x := s.tile t
  let s0 := s.updTile t (fun x => { x with exhSince := none })
  let served : Option State := match x.firstNi, x.wait with
    | none, [] => none
    | none, w :: r => (s0.updTile t (fun x => { x with wait := r })).serveWait t w
    | some n, ws =>
      match ws with
      | w :: r => if w.n < n then (s0.updTile t (fun x => { x with wait := r })).serveWait t w else s0.niServe t n
      | [] => s0.niServe t n
  match served with
  | some s1 => s1.exhFix t x.exhSince
  | none => s

/-- The fabric-stall fault (R127). -/
def State.fabricStall (s : State) (t : Nat) : State :=
  let lim := us * s.f (tp t + R.tileQCtl) 31 16
  match (s.tile t).exhSince with
  | some a =>
    if lim ≠ 0 ∧ lim ≤ dur a s.now ∧ lim ≤ dur (s.tile t).lastFire s.now ∧ !s.b (tp t + R.tileQStat) 39 then
      (s.putB (tp t + R.tileQStat) 39 true).fault (tp t) .timeout
    else s
  | none => s

/-! ## Salt rotation (R107 to R109) -/

/-- A 10 µs conflict window ends (R107): CONFLICTS and HOT_SET of the window, a sample of CONFLICT, and a trigger above ROT_THRESH. Of sets
with equally many conflicts HOT_SET names the lowest (log entry 14). -/
def State.windowEnd (s : State) (t : Nat) : State :=
  let x := s.tile t
  if 10 * us ≤ dur x.winStart s.now then
    let n := x.conflicts
    let hot := (x.confl.foldl (fun (b : Nat × Nat) e => if b.2 < e.2 then e else b) (0, 0)).1
    let s1 := (((s.rotCheck t).putF (tp t + R.tileMsWin) 47 32 (min n 65535)).putF (tp t + R.tileMsStat) 43 32 hot).sampleAt
      (0x1000 + 8 * t) n
    s1.updTile t (fun x => { x with confl := [], winTrig := false, winStart := x.winStart + BitVec.ofNat 64 (10 * us) })
  else s

/-- Move an old-generation entry to where the new salt places it (R108 step 4); none while it must wait for a bucket. An entry
whose new set is the one that it lies in stays there. -/
def State.sweepEntry (s : State) (t : Nat) (e : MsEntry) : Option State :=
  let n := setIndex e.key (s.saltCur t)
  if e.place = .set n ∨ (s.tile t).setOcc n < 8 then some (s.msMove t e (.set n))
  else match e.place with
    | .ovf w _ => some (s.msMove t e (.ovf w n))
    | _ =>
      match (s.tile t).freeWay with
      | some w => some (s.msMove t e (.ovf w n))
      | none =>
        let p := (msHash e.key (s.reg (tp t + R.tileMsSpillSalt))).toNat
        let len := ((s.tile t).chainOf p).length
        if s.spillOn t && s.bucketsOk t (msNeed (len + 1) - msNeed len) then some (s.msMove t e (.spill p)) else none

/-- The old-generation entries where the sweep stands: of its set, after set 4,095 of the overflow ways. -/
def State.sweepHere (s : State) (t : Nat) : List MsEntry :=
  let x := s.tile t
  let g := s.msGen t
  x.ms.filter (fun e => e.gen != g && (if x.sweep < 4096 then e.place == .set x.sweep else x.sweep == 4096 && e.place.isOvf))

/-- One access of the sweep (R108 step 4): the set or the overflow ways where it stands, and the set where an entry of them is to
go, are read (R113, R114), and one old-generation entry there moves; where none is left the sweep goes on. SWEEP_SET shows the next set, 0 once the overflow
ways are reached. -/
def State.sweepMove (s : State) (t : Nat) (r : MsRead) : State :=
  let k := (s.tile t).sweep
  if !s.b (tp t + R.tileMsStat) 1 || decide (4096 < k) then s else
  let goal : List Nat := match s.sweepHere t with
    | e :: _ => [setIndex e.key (s.saltCur t)]
    | [] => []
  let sets := (if k < 4096 then [k] else []) ++ goal.filter (fun n => n != k)
  let s1 := s.msCheck t sets (fun e => match e.place with | .set n => sets.contains n | _ => decide (k = 4096)) r
  let next (s : State) : State := if (s.sweepHere t).isEmpty then
      (s.updTile t (fun x => { x with sweep := k + 1 })).putF (tp t + R.tileMsStat) 27 16 (if k < 4095 then k + 1 else 0)
    else s
  match s1.sweepHere t with
  | [] => next s1
  | e :: _ => match s1.sweepEntry t e with
    | some s2 => next s2
    | none => s1

/-- The sweep ends (R108 step 5); a held trigger starts a new rotation (R107). -/
def State.sweepDone (s : State) (t : Nat) : State :=
  if s.b (tp t + R.tileMsStat) 1 && (s.tile t).sweep == 4097 then
    let s1 := (s.putB (tp t + R.tileMsStat) 1 false).putF (tp t + R.tileMsStat) 27 16 0
    let s2 := s1.updTile t (fun x => { x with saltOld := 0, sweep := 0 })
    if s.b (tp t + R.tileMsStat) 2 then (s2.putB (tp t + R.tileMsStat) 2 false).rotate t else s2
  else s

/-- Does the scrubber's read of a set or an overflow way meet an entry (R115)? -/
def scrubs (ovf : Bool) (idx : Nat) (e : MsEntry) : Bool :=
  match e.place with
  | .set n => !ovf && n == idx
  | .ovf w _ => ovf && w == idx
  | .spill _ => false

/-- The scrubber reads a set or an overflow way (R114, R115). -/
def State.msScrub (s : State) (t : Nat) (ovf : Bool) (idx : Nat) (r : MsRead) : State :=
  s.msCheck t (if ovf then [] else [idx]) (scrubs ovf idx) r

/-! ## Node-store loads (R70 to R72) -/

/-- The slots of a tile's node stores by PE and node, 4,096 to a PE. -/
def Tile.slots (x : Tile) : SMap (BitVec 128) :=
  x.pes.foldl (fun m e => e.2.nodes.foldl (fun m n => SMap.set 0 m (e.1 * 4096 + n.1) n.2) m) []

/-- GO of TILE_LOAD_CTL (R70, R71). -/
def State.loadGo (s : State) (t : Nat) : State :=
  if (s.tile t).load.busy then s.fault (tp t) .config
  else
    let o := tp t + R.tileLoadCtl
    let n := s.f o 14 0
    let clear (m : SMap PeSt) : SMap PeSt := m.foldl (fun m e => SMap.set {} m e.1 { e.2 with nodes := [] }) []
    let s1 := if s.b o 16 then s.updTile t (fun x => { x with pes := clear x.pes }) else s
    let s2 := s1.updTile t (fun x => { x with load := ⟨decide (n ≠ 0), 0, n, s.f (tp t + R.tileLoadSrc) 47 3 * 8,
                                                       if n = 0 then [] else (s.tile t).slots⟩ })
    s2.setReg (tp t + R.tileLoadStat) (if n = 0 then 2 else 1)

/-- Does a NODES entry hold reserved bits or a reserved transform (R64, R71)? -/
def entryBad (addr rest : Nat) (slot : BitVec 128) : Bool :=
  decide (2 ^ 14 ≤ addr) || rest != 0 || decide (64 ≤ sFlags slot) ||
    (List.range 2).any (fun i => decide ((sDest slot i).toNat % 16 ≠ 0) ||
      dXform (sDest slot i) == 13 || dXform (sDest slot i) == 14)

/-- The load fetches its next entry (R71). -/
def State.loadEntry (s : State) (t : Nat) (ecc : Ecc) : State :=
  let l := (s.tile t).load
  if !l.busy then s else
  let a := l.addr + 24 * l.next
  let s := s.visit a (s.access a 24 false) 24
  let slot : BitVec 128 := BitVec.ofNat 128 (s.rd (a + 8) 16)
  let bad := s.access a 24 false != .ok || ecc == .uncorrectable || entryBad (s.rd a 2) (s.rd (a + 2) 6) slot
  let o := tp t + R.tileLoadStat
  let s1 := if bad then (if s.b o 2 then s else s.putF o 46 32 l.next).putB o 2 true
    else
      let ad := s.rd a 2
      s.updPe t (ad / 4096) (fun e => { e with nodes := SMap.set 0 e.nodes (ad % 4096) slot })
  let s2 := (s1.putF o 30 16 (l.next + 1)).updTile t (fun x => { x with load := { l with next := l.next + 1 } })
  if l.next + 1 = l.count then
    ((s2.updTile t (fun x => { x with load := { x.load with busy := false, old := [] } })).putB o 0 false).putB o 1 (!s2.b o 2)
  else s2

/-! ## Spill region, fencing, exception FIFO (R110, R142, R153, R154) -/

/-- Is a write of TILE_MS_SPILL refused (R110)? -/
def State.spillRefused (s : State) (t : Nat) (old new : Word) : Bool :=
  (bit old 0 && (fld old 47 24 != fld new 47 24 || fld old 12 8 != fld new 12 8)) ||
    decide (fld new 47 24 * 2 ^ 24 % 2 ^ fld new 12 8 ≠ 0) ||
    (bit old 0 && !bit new 0 && decide ((s.tile t).buckets ≠ 0 ∨ (s.tile t).ms.any (fun e => e.place.isSpill)))

/-- Setting EN draws SPILL_SALT and starts the formatting of the region; clearing it ends SPILL_READY (R110). -/
def State.spillSet (s : State) (t : Nat) (old : Word) : State :=
  let en := s.b (tp t + R.tileMsSpill) 0
  if en && !bit old 0 then
    let (w, s1) := s.draw
    (s1.setReg (tp t + R.tileMsSpillSalt) w).updTile t (fun x =>
      { x with readyAt := some s.now, msCh := [], free := [], bump := 0 })
  else if en then s
  else (s.putB (tp t + R.tileMsStat) 3 false).updTile t (fun x => { x with readyAt := none })

/-- Clear `n` bytes of memory from `a`, where they lie in HBM; their lines are poisoned no more and hold no error (R431). -/
def State.clearMem (s : State) (a n : Nat) : State :=
  let hit (b : Nat) : Bool := decide (a ≤ b) && decide (b < a + n)
  if a + n ≤ hbmEnd then
    (List.range 4).foldl (fun s u => s.updHb u (fun h => { h with
      poison := h.poison.filter (fun q =>
        match h.spares[q / 64]? with
        | some pg => !hit (hbmDevice u (pg * 4096 + q % 64 * 64))
        | none => true),
      errs := h.errs.filter (fun e => match s.rawDevice u e.1 with | some b => !hit b | none => true) }))
      { s with mem := s.mem.filter (fun c => !hit c.1) }
  else s

/-- The region is formatted: its head table is cleared (R110). -/
def State.spillReady (s : State) (t : Nat) : State :=
  match (s.tile t).readyAt with
  | some _ => ((s.clearMem (s.spillBase t) (65536 * 64)).putB (tp t + R.tileMsStat) 3 true).updTile t (fun x => { x with readyAt := none })
  | none => s

/-- A fenced tile stops; its node store and matching store are abandoned; its network interface is isolated, and the
tokens held there are handled as R449 gives (R153, R154); the exception FIFO is emptied (log entry 61). A load that runs stops with the node store (log entry 61). -/
def State.fenceTile (s : State) (t : Nat) : State :=
  let arr := (s.tile t).arr
  let s0 := if (s.tile t).load.busy then s.putF (tp t + R.tileLoadStat) 1 0 0 else s
  let s1 := (s0.isolate (tileNode t)).updTile t (fun x => { winStart := x.winStart, lastFire := x.lastFire })
  let lost := s1.failArr.filter (fun e => dTile e.2.dest == t)
  let s2 := { s1 with failArr := s1.failArr.filter (fun e => dTile e.2.dest != t) }.inc
    (pageAt .noc (tileNode t) + R.nocNiEvt) 63 48 lost.length
  arr.foldl (fun s a => s.niDivert (tileNode t) a.item.tok a.item.flt) s2

/-- POP of TILE_EXC_CTL (R142). -/
def State.excPop (s : State) (t : Nat) : State := s.updTile t (fun x => { x with exc := x.exc.drop 1 })

/-- The slots that the rest of a load would write, over those that stand (R71). -/
def State.loadRest (s : State) (t : Nat) : SMap (BitVec 128) :=
  let l := (s.tile t).load
  (List.range (l.count - l.next)).foldl (fun m i =>
    let a := l.addr + 24 * (l.next + i)
    let slot : BitVec 128 := BitVec.ofNat 128 (s.rd (a + 8) 16)
    if s.access a 24 false != .ok || entryBad (s.rd a 2) (s.rd (a + 2) 6) slot then m else SMap.set 0 m (s.rd a 2) slot)
    (s.tile t).slots

/-- A function reset stops a load: each slot that it changes is the old or the new one, which is a free value; slots that it does
not change keep what they hold (R71, log entry 31). -/
def State.loadStop (s : State) (t : Nat) : State :=
  let old := (s.tile t).load.old
  let new := s.loadRest t
  let mix (k : Nat) : BitVec 128 := if Config.freeBit (s.freeCtr + k) then SMap.get 0 new k else SMap.get 0 old k
  let put (m : SMap PeSt) (k : Nat) : SMap PeSt :=
    let e : PeSt := SMap.get {} m (k / 4096)
    SMap.set {} m (k / 4096) { e with nodes := SMap.set 0 e.nodes (k % 4096) (mix k) }
  if (s.tile t).load.busy then
    { s with freeCtr := s.freeCtr + 16384 }.updTile t (fun x => { x with pes := ((old ++ new).map (fun (e : Nat × BitVec 128) => e.1)).foldl put x.pes })
  else s

/-- A function reset of a tile (R119, R582, R71, R158): everything it holds is discarded, tokens that its network interface holds
back and firings that wait for a response or for a context number among it; a load in progress stops; TILE_FENCE and
TILE_EMIT_MAP stay. -/
def State.tileReset (s : State) (t : Nat) : State :=
  let s0 := s.loadStop t
  let pes : SMap PeSt := (s0.tile t).pes.foldl (fun m e => SMap.set {} m e.1 { nodes := e.2.nodes }) []
  let s1 := s0.updTile t (fun x => { pes := pes, winStart := s.now, emitUsed := x.emitUsed })
  let ni := SMap.get [] s1.heldFlits (tileNode t)
  { s1 with ctxQueue := s1.ctxQueue.filter (fun q => q.tile != t), failArr := s1.failArr.filter (fun e => dTile e.2.dest != t),
            heldFlits := SMap.set [] s1.heldFlits (tileNode t) (ni.filter (fun f => f.vn != 0)),
            outst := s1.outst.map (fun (o : Outst) => match o.client with
              | .load u _ _ => if u = t then { o with client := .gone } else o
              | .store u _ => if u = t then { o with client := .gone } else o
              | .istruct u _ => if u = t then { o with client := .gone } else o
              | .gone => o) }.resetRegs (tp t) 0x100 0x200 [R.tileFence, R.tileEmitMap0, R.tileEmitMap1, R.tileEmitMap2]

/-! ## The quiescence monitor (R143 to R152) -/

/-- The quiescence ring. -/
def qmRing : Ring :=
  let p := pageAt .glb 0
  ⟨p, p + R.glbQmRing, p + R.glbQmProd, p + R.glbQmCons, 32, 9⟩

/-- Is a record of a context held (R147)? -/
def State.qmHolds (s : State) (c : Nat) : Bool := s.qmHeld.any (fun ws => match ws with | w :: _ => fld w 15 0 == c | [] => false)

/-- Post a quiescence record, or hold it while the ring is full (R146, R147). -/
def State.qmPost (s : State) (ws : List Word) : State :=
  if s.qmHeld.isEmpty && !s.ringFull qmRing then
    match s.ringPush qmRing ws with
    | (true, s1) => s1.pageInt (pageAt .glb 0) 0
    | (false, s1) => { s1 with qmHeld := s1.qmHeld ++ [ws] }
  else { s with qmHeld := s.qmHeld ++ [ws] }

/-- Post the oldest held record as firmware frees entries (R147). -/
def State.qmDrain (s : State) : State :=
  match s.qmHeld with
  | [] => s
  | ws :: r => match s.ringPush qmRing ws with
    | (true, s1) => { s1 with qmHeld := r }.pageInt (pageAt .glb 0) 0
    | (false, s1) => s1

/-- A quiescence record (Table 4.6). -/
def qmRecord (c kind action tile waiting : Nat) (last now : Word) (fired reason : Nat) : List Word :=
  [BitVec.ofNat 64 (c + kind * 2 ^ 16 + action * 2 ^ 20 + tile * 2 ^ 24 + min waiting (2 ^ 32 - 1) * 2 ^ 32), last, now,
   BitVec.ofNat 64 (fired + reason * 2 ^ 32)]

/-- The flush action on one tile (Table 4.5): its reduce and resident entries of the context fire and are released,
its waiting items are discarded; the number fired. -/
def State.flushTile (s : State) (t c : Nat) : Nat × State :=
  let s := s.walkCheck t {}
  let es := (s.tile t).ms.filter (fun e => keyCtx e.key == c && (e.kind == .reduce || e.kind == .resident))
  let s1 := es.foldl (fun s e =>
    (s.msRemove t e.key).reduceFire t (SMap.get 0 ((s.tile t).pe (keyPe e.key)).nodes (keyNode e.key)) e true) s
  let s2 := ((s1.tile t).ms.filter (fun e => keyCtx e.key == c && (e.kind == .wait || e.kind == .pending))).foldl
    (fun s e => s.msRemove t e.key) s1
  (es.length, (s2.updTile t (fun x =>
    { x with seq := x.seq.map (fun e => if e.ctx = c then { e with held := [], heldB := {} } else e) })).giveBuckets t
      (((s2.tile t).seq.filter (fun e => e.ctx == c)).flatMap (fun e => e.heldB.bk)))

/-- The flush action on every tile. -/
def State.flushCtx (s : State) (c : Nat) : Nat × State :=
  s.tiles.foldl (fun (a : Nat × State) e => let (n, s1) := a.2.flushTile e.1 c; (a.1 + n, s1)) (0, s)

/-- Deadlock interval of a context in pack ticks (R144). -/
def State.dlInterval (s : State) (c : Nat) : Nat :=
  let i := fld (s.ctxW c 5) 31 16
  us * (if i = 0 then 50 else i)

/-- Does the monitor detect a deadlock of a context (R143, R144)? A TWAIT firing that stage 4 keeps while all 256 places are in
use is no token that waits in a TWAIT (log entry 61). Not while it holds a record of the context, since it holds at
most one (R147, log entry 61). -/
def State.deadlocked (s : State) (c : Nat) : Bool :=
  s.b (pageAt .glb 0 + R.glbQmCtl) 0 && s.ctxState c == 1 && decide (0 < s.waitingOf c) &&
    !s.tiles.any (fun e => e.2.twait.any (fun w => tCtx w.f.x.tag == c)) && !(s.ctx c).detected && !s.qmHolds c &&
    decide (s.dlInterval c ≤ dur (s.ctx c).lastAct s.now)

/-- The monitor's detection, action and record (R144, Table 4.5, Table 4.6). An abort of context 0 is refused as R151 gives, and
its record shows no action (log entry 61). -/
def State.deadlock (s : State) (c : Nat) : State :=
  if s.deadlocked c then
    let act := match fld (s.ctxW c 0) 18 16 with | 1 => 1 | 2 => if c = 0 then 0 else 2 | _ => 0
    let last := (s.ctx c).lastAct
    let w := s.waitingOf c
    let tile := match s.tiles.find? (fun e => decide (0 < e.2.waitingOf c)) with | some e => e.1 | none => 0
    let s0 := s.updCtx c (fun x => { x with detected := true })
    let (fired, s1) := if act = 1 then s0.flushCtx c else (0, s0)
    let s2 := if act = 2 then s1.abortCtx c 0
      else if c = 0 ∧ fld (s.ctxW c 0) 18 16 = 2 then s1.fault (pageAt .glb 0) .config else s1
    s2.qmPost (qmRecord c 0 act tile w last s.now fired 0)
  else s

/-- Is a token of before a flit number still in flight on VN0 (step 3 of Table 4.7)? -/
def State.vn0Before (s : State) (upTo : Nat) : Bool :=
  (s.allFlits ++ s.heldFlits.flatMap (fun e => e.2)).any (fun f => f.vn == 0 && decide (f.id < upTo))

/-- Does a PE of a tile still execute a firing of a context? -/
def Tile.executes (x : Tile) (c : Nat) : Bool := x.pes.any (fun e => e.2.ex.any (fun f => tCtx f.x.tag == c && !f.flt))

/-- Steps 3 and 4 of Table 4.7: the fence completes, the number joins the free list, STATE becomes FREE; an abort posts
its ABORT_DONE record (R150). Firings that had passed stage 3 have executed by then, and what they left on a tile is
discarded with the rest of step 2; the record waits while one of the context is held (R147, log entry 61). -/
def State.teardownDone (s : State) (c : Nat) : State :=
  match (s.ctx c).teardown with
  | none => s
  | some td =>
    if s.vn0Before td.upTo || s.tiles.any (fun e => e.2.executes c || e.2.arr.any (fun a => tCtx a.item.tok.tag == c && !a.item.flt))
        || (td.abort && s.qmHolds c) then s
    else
      let s0 := s.tiles.foldl (fun (s : State) e => s.purge e.1 c) s
      let s1 := { s0 with ctxTail := s0.ctxTail ++ [c] }.setCtxState c 0
      let s2 := s1.updCtx c (fun x => { x with teardown := none })
      if td.abort then s2.qmPost (qmRecord c 1 2 0 td.gone (s.ctx c).lastAct s.now 0 td.reason) else s2

end Sys2Proof.Machine
end

