-- ==== Sys2Proof/Machine/SemOps.lean ====
section
/-! DEFINITION. Semaphores (R399 to R411): the windows, the semaphore units, holds and waiters, leases, master resets,
and the priority that a Shepherd core carries. -/

namespace Sys2Proof.Machine

/-! ## Priorities (R406, R408) -/

/-- Kennel's view of a core. -/
def State.kc (s : State) (c : Nat) : KCore := SMap.get {} s.ken.cores c

/-- A kernel thread. -/
def State.thr (s : State) (t : Nat) : KThread := SMap.get {} s.ken.threads t

/-- An accepted item by its number. -/
def State.kitem (s : State) (id : Nat) : Option KItem := s.ken.items.find? (fun i => i.id == id)

/-- PRIO of an item (Table 11.1). -/
def KItem.prio (i : KItem) : Nat := fld i.w0 21 16

/-- A Shepherd core. -/
def State.core (s : State) (c : Nat) : Shep := SMap.get {} s.cores c

/-- Change a Shepherd core. -/
def State.updCore (s : State) (c : Nat) (g : Shep → Shep) : State := { s with cores := SMap.set {} s.cores c (g (s.core c)) }

/-- PRIO of what a core runs. -/
def State.ownPrio (s : State) (c : Nat) : Nat :=
  match (s.kc c).st with
  | 1 => match s.kitem (s.kc c).what with | some i => i.prio | none => 0
  | 2 => (s.thr (s.kc c).what).prio
  | _ => 0

/-- PRIO of a core: the lowest boosted number while a boost stands (R408). -/
def State.corePrio (s : State) (c : Nat) : Nat :=
  match (s.waiters.filter (fun w => w.boost == some c)).map (fun w => w.prio) with
  | [] => s.ownPrio c
  | p :: r => r.foldl min p

/-- The priority that a core's semaphore requests carry (Table 12.5). -/
def State.reqPrio (s : State) (c : Nat) : Nat :=
  if (s.kc c).st ≠ 0 ∧ fld (s.core c).psw 31 28 = 0 then s.corePrio c else 0

/-! ## Words and tables (R402, R404, R407) -/

/-- LEASH of a semaphore word (Table 12.3). -/
def semLeash (w : Word) : Nat := fld w 63 56
/-- COUNT of a semaphore word. -/
def semCount (w : Word) : Nat := fld w 31 0
/-- Is the word tracked? -/
def semTracked (w : Word) : Bool := semLeash w != 255
/-- Is the word a mutex? -/
def semMutex (w : Word) : Bool := semTracked w && fld w 47 32 == 1

/-- The read value of TAKE, TRY and PEEK (Table 12.4): `w` before the operation, COUNT after it. -/
def semValue (w : Word) (count : Nat) (granted full : Bool) : Word :=
  BitVec.ofNat 64 (count + fld w 47 32 * 2 ^ 32 + b2n (bit w 48) * 2 ^ 48 + b2n granted * 2 ^ 49 + b2n full * 2 ^ 50
    + semLeash w * 2 ^ 56)

/-- Holder entries of a unit (Table 12.6). -/
def holdCap (u : Nat) : Nat := if u = 4 then 4096 else 3072
/-- Waiter entries of a unit. -/
def waitCap (u : Nat) : Nat := if u = 4 then 2048 else 1536

/-- Entries in use of a unit's holder table. -/
def State.holdsOf (s : State) (u : Nat) : List Hold := s.holds.filter (fun h => h.unit == u)
/-- Waiters of a unit. -/
def State.waitersOf (s : State) (u : Nat) : List Waiter := s.waiters.filter (fun w => w.unit == u)

/-- Is an entry a live hold of a word? -/
def Hold.liveOn (h : Hold) (u a : Nat) : Bool := h.unit == u && h.addr == a && !h.expired

/-- The lease of a word in pack ticks (R402). -/
def State.lease (s : State) (u : Nat) (w : Word) : Nat :=
  if semLeash w = 0 then us * s.f (pageAt .hbmc u + R.hbmcSemCtl) 15 0 else semLeash w * 100 * us

/-- COUNT raised by one. A COUNT of all ones that a freed or expired hold raises has no result in the spec: a free
value (log entry 15). -/
def State.semRaise (s : State) (a : Nat) (abandoned : Bool) : State :=
  let w := s.rd64 a
  let (n, s1) := if semCount w = 2 ^ 32 - 1 then (let (v, s') := s.draw; (fld v 31 0, s')) else (semCount w + 1, s)
  let w1 := setFld w 31 0 n
  s1.wr64 a (if abandoned then setBit w1 48 true else w1)

/-! ## Grants (R405, R406, R408) -/

/-- The word after one unit is taken: COUNT falls by one and ABANDONED is cleared (R405). -/
def semTaken (w : Word) : Word := setFld (setBit w 48 false) 31 0 (semCount w - 1)

/-- Can a unit of the word be taken now? -/
def State.semFree (s : State) (u a : Nat) : Bool :=
  let w := s.rd64 a
  decide (0 < semCount w) && (!semTracked w || decide ((s.holdsOf u).length < holdCap u))

/-- The core that a waiting TAKE of priority `prio` boosts: the Shepherd core that holds the mutex, where it carries a higher
number (R408). -/
def State.boostOf (s : State) (u a prio : Nat) : Option Nat :=
  match s.holds.find? (fun h => h.liveOn u a && h.origin.toNat / 4096 == 1) with
  | some h => let c := h.origin.toNat % 4096
    if semMutex (s.rd64 a) && decide (prio < s.reqPrio c) then some c else none
  | none => none

/-- A word has a new hold: the TAKEs that wait for it boost its holder (R408). -/
def State.reboost (s : State) (u a : Nat) : State :=
  { s with waiters := s.waiters.map (fun w => if w.unit = u ∧ w.addr = a then { w with boost := s.boostOf u a w.prio } else w) }

/-- A TAKE that succeeds (R405): the read value, the word and the hold; the origin's EXPIRED entries of the word end
(R409). `old` marks a request made before a master reset of its origin. -/
def State.semTakeNow (s : State) (u a : Nat) (o : Origin) (old : Bool := false) : Word × State :=
  let w := s.rd64 a
  let hs := s.holds.filter (fun h => !(h.unit == u && h.addr == a && h.origin == o && h.expired))
  let s1 := s.wr64 a (semTaken w)
  let s2 := { s1 with holds := if semTracked w then
      hs ++ [(⟨u, a, o, s.now + BitVec.ofNat 64 (s.lease u w), false, old⟩ : Hold)] else hs }
  (semValue w (semCount w - 1) true false, s2.reboost u a)

/-- Boosts stand only while their core holds the word (R408). -/
def State.boostDrop (s : State) : State :=
  { s with waiters := s.waiters.map (fun w => { w with boost := match w.boost with
      | some c => if s.holds.any (fun h => h.liveOn w.unit w.addr && h.origin == BitVec.ofNat 16 (0x1000 + c)) then some c
          else none
      | none => none }) }

/-- The boosts that stand. -/
def State.boosts (s : State) : List (Nat × Nat) := s.waiters.filterMap (fun w => w.boost.map (fun c => (c, w.prio)))

/-- Boosts of `s` that no longer stand are withdrawn: Kennel may now preempt the core (R373, R380, R408). -/
def State.unboosted (s t : State) : State := if s.boosts.all (fun b => t.boosts.contains b) then t else t.react .preempt

/-- Source node of a semaphore access on the mesh (Table 13.5). -/
def SemBy.node : SemBy → Nat
  | .mesh n _ => n
  | .core c => pageNode .shep c
  | .sub _ _ => pageNode .ret 0
  | .host _ => pageNode .host 0

/-- The answer of a read that was withheld. That of a TAKE that a route change has marked goes as SEM_GRANT on VN4, by the
unit's route toward the requester (R446). -/
def State.semReply (s : State) (w : Waiter) (v : Word) : State :=
  match w.who with
  | .mesh n t =>
    let data := leBytes 8 v.toNat
    if w.moved then ((s.emit (.resp n t .ok data)).inject (unitNode w.unit) n 4 5 0 (.resp t .ok data)).2
    else s.answer (unitNode w.unit) w.req n t .ok data
  | b => if w.moved then (s.inject (unitNode w.unit) b.node 4 5 0 (.grant b v)).2 else s.react (.sem b v)

/-- The waiter of a unit that is granted next: the lowest priority number, then arrival order (R406). -/
def State.nextWaiter (s : State) (u : Nat) : Option Waiter :=
  (s.waitersOf u).foldl (fun b w => if s.semFree u w.addr then
    (match b with | some v => if w.prio < v.prio then some w else b | none => some w) else b) none

/-- Grant waiters of a unit in turn; `n` bounds the grants. The response of a request that a master reset of its origin has
overtaken is discarded (R410). -/
def State.semGrants (s : State) (u : Nat) : Nat → State
  | 0 => s
  | n + 1 =>
    match s.nextWaiter u with
    | none => s
    | some w =>
      let s1 := { s with waiters := s.waiters.erase w }
      let (v, s2) := s1.semTakeNow u w.addr w.origin w.old
      (if w.old then s2 else s2.semReply w v).semGrants u n

/-- Grant every waiter of a unit that can be granted. -/
def State.semGrant (s : State) (u : Nat) : State := s.unboosted (s.boostDrop.semGrants u (s.waitersOf u).length)

/-! ## The windows (R399, R400) -/

/-- What a window access answers. -/
inductive SemRes | value (w : Word) | waits | given | error (st : Status)
deriving DecidableEq, Repr

/-- A window access that R400 refuses (R423). -/
def State.semBad (s : State) (a : Nat) : SemRes × State := (.error .address, s.badWindow a)

/-- How a master handles an error response from a window: as it handles an isolation response (R400). -/
def winStatus : Status → Status
  | .address => .isolated
  | st => st

/-- TAKE (R405, R406, R408). -/
def State.semTake (s : State) (u a : Nat) (o : Origin) (prio : Nat) (who : SemBy) : SemRes × State :=
  if s.semFree u a then
    let (v, s1) := s.semTakeNow u a o
    (.value v, s1)
  else if (s.waitersOf u).length < waitCap u then
    (.waits, { s with waiters := s.waiters ++ [({ unit := u, addr := a, who := who, origin := o, prio := prio, boost := s.boostOf u a prio, gen := s.niGen who.node } : Waiter)] })
  else
    let w := s.rd64 a
    (.value (semValue w (semCount w) false true), s.inc (pageAt .hbmc u + R.hbmcSemEvt2) 15 0)

/-- TRY (R405). -/
def State.semTry (s : State) (u a : Nat) (o : Origin) : SemRes × State :=
  if s.semFree u a then
    let (v, s1) := s.semTakeNow u a o
    (.value v, s1)
  else
    let w := s.rd64 a
    let full := decide (0 < semCount w)
    (.value (semValue w (semCount w) false full), if full then s.inc (pageAt .hbmc u + R.hbmcSemEvt2) 15 0 else s)

/-- PEEK (R405). -/
def State.semPeek (s : State) (a : Nat) : SemRes := let w := s.rd64 a; .value (semValue w (semCount w) false false)

/-- GIVE (R405). -/
def State.semGive (s : State) (u a : Nat) (o : Origin) : State :=
  let p := pageAt .hbmc u
  let w := s.rd64 a
  match takeFirst (fun h => h.liveOn u a && h.origin == o && !h.old) s.holds with
  | some (_, r) => (({ s with holds := r }).semRaise a false).semGrant u
  | none =>
    match takeFirst (fun h => h.unit == u && h.addr == a && h.origin == o && h.expired && !h.old) s.holds with
    | some (_, r) => { s with holds := r }.inc (p + R.hbmcSemEvt) 47 32
    | none =>
      if semMutex w || semCount w == 2 ^ 32 - 1 then (s.inc (p + R.hbmcSemEvt) 63 48).fault p .config
      else (s.semRaise a false).semGrant u

/-- The operation of window `k` on a word that the unit has read (Table 12.2). -/
def State.semOp (s : State) (k u a : Nat) (o : Origin) (prio : Nat) (who : SemBy) : SemRes × State :=
  match k with
  | 0 => s.semTake u a o prio who
  | 1 => (.given, s.semGive u a o)
  | 2 => s.semTry u a o
  | _ => (s.semPeek a, s)

/-- A window access (R399, R400): what it answers, and the state after it. The unit's checkers see the word that it reads (R522). -/
def State.semAccess (s : State) (addr bytes : Nat) (write : Bool) (o : Origin) (prio : Nat) (who : SemBy) :
    SemRes × State :=
  match region addr with
  | .sem k =>
    let a := semInner addr
    match unitOf a with
    | some u =>
      if a % 8 ≠ 0 ∨ bytes ≠ 8 ∨ write ≠ (k == 1) then s.semBad a
      else match s.engineStatus a 8 false with
        | .ok => ((s.visit a .ok 8).checkMem a 8 false).semOp k u a o prio who
        | st => (.error st, s.refused a 8 false st)
    | none => s.semBad a
  | _ => (.error .address, s)

/-- The TAKE that has just begun to wait keeps the request that came over the mesh. -/
def State.keepReq (s : State) (q : Option InReq) : State :=
  { s with waiters := s.waiters.dropLast ++ (s.waiters.getLast?.toList.map (fun w => { w with req := q, gen := match q with | some q => q.gen | none => w.gen })) }

/-- The unit that a window address reaches first (R400, R424). -/
def semUnit (addr : Nat) : Nat := (unitOf (semInner addr)).getD (hbmUnit (semInner addr))

/-- A mesh request to window `k`: the response, unless it waits (R399, R406); an isolated interface answers it (R449), and one that
has not come over the mesh yet is held where the unit has no power (R450). -/
def State.semReq (s : State) (k : Nat) (r : SemReq) : State :=
  if region r.addr.toNat = .sem k then
    let node := unitNode (semUnit r.addr.toNat)
    let (q, s0) := s.takeReq r.node r.txid
    if s.isolated node then (s0.inc (pageAt .noc node + R.nocNiEvt) 47 32).answer node q r.node r.txid .isolated []
    else match q, s.asleep (semInner r.addr.toNat) with
    | none, some v => s.holdFor v r.node 1 8 (.req ⟨r.node, r.txid, r.origin, r.addr, 255, 0, ⟨[], false⟩⟩ 8)
    | _, _ => match s0.semAccess r.addr.toNat r.bytes r.write r.origin r.prio (.mesh r.node r.txid) with
      | (.value v, s1) => s1.answer node q r.node r.txid .ok (leBytes 8 v.toNat)
      | (.given, s1) => s1.answer node q r.node r.txid .ok []
      | (.error st, s1) => s1.answer node q r.node r.txid st []
      | (.waits, s1) => s1.keepReq q
  else s

/-! ## Leases and resets (R409, R410) -/

/-- The unit expires a hold whose lease has ended, the earliest first (R409). -/
def State.leashExpire (s : State) (u : Nat) : State :=
  let due := (s.holdsOf u).filter (fun h => !h.expired && decide (h.till.toNat ≤ s.now.toNat))
  match due with
  | [] => s
  | d :: r =>
    let h := r.foldl (fun b x => if x.till.toNat < b.till.toNat then x else b) d
    let s1 := { s with holds := replFirst (fun x => x == h) (fun x => { x with expired := true }) s.holds }
    let s2 := (s1.semRaise h.addr true).semGrant u
    (s2.inc (pageAt .hbmc u + R.hbmcSemEvt) 15 0).fault (pageAt .hbmc u) .timeout

/-- Free the live holds of one unit that `g` selects by origin and mark, as R410 does, with their EXPIRED entries and
waiters. -/
def State.semFreeAll (s : State) (u : Nat) (g : Origin → Bool → Bool) : State :=
  let live := (s.holdsOf u).filter (fun h => g h.origin h.old && !h.expired)
  let s1 := { s with holds := s.holds.filter (fun h => !(h.unit == u && g h.origin h.old)),
                     waiters := s.waiters.filter (fun w => !(w.unit == u && g w.origin w.old)) }
  let s2 := live.foldl (fun s h => (s.semRaise h.addr true).inc (pageAt .hbmc u + R.hbmcSemEvt) 31 16) s1
  s.unboosted (s2.semGrant u)

/-- The reset notice of an origin reaches every unit: the holds and waiters of requests made before the reset end (R410). -/
def State.resetNotice (s : State) (o : Origin) : State :=
  if s.notices.contains o then
    (List.range 5).foldl (fun s u => s.semFreeAll u (fun x old => x == o && old)) { s with notices := s.notices.erase o }
  else s

/-- A master reset leaves a reset notice for the units, and marks what its origin holds and waits for: later requests are new
(R410). -/
def State.notice (s : State) (o : Origin) : State :=
  { s with notices := s.notices ++ [o],
           holds := s.holds.map (fun h => if h.origin = o then { h with old := true } else h),
           waiters := s.waiters.map (fun w => if w.origin = o then { w with old := true } else w) }

/-- A plain store to a semaphore word (R403); it is held as an access of a window is. -/
def State.semStore (s : State) (r : MemReq) : State :=
  let a := r.addr.toNat
  let (q, s0) := s.takeReq r.node r.txid
  match unitOf a with
  | some u =>
    if let (none, some v) := (q, s.asleep a) then s.holdFor v r.node 1 3 (.req r 3) else
    let bs := (List.range 8).map (fun i => if r.be.getLsbD i then BitVec.ofNat 8 (fld r.data (8 * i + 7) (8 * i)) else s.byte (a + i))
    match s.engineStatus a (if r.be = 0xFF then 8 else 1) true with
    | .ok => ((((s0.visit a .ok 8).checkMem a (if r.be = 0xFF then 8 else 1) true).wrBytes a bs).semGrant u).respond (unitNode u) q r .ok []
    | st => (s0.refused a (if r.be = 0xFF then 8 else 1) true st).respond (unitNode u) q r st []
  | none => s0.respond (unitNode 4) q r .address []

end Sys2Proof.Machine
end

