-- ==== Sys2Proof/Machine/CoreOps.lean ====
section
/-! DEFINITION. The state of a Shepherd core that other blocks act on: its STATE, its Watchdog's count, and its signal
count (R317, R318, R327, R459). -/

namespace Sys2Proof.Machine

/-- Page of a core. -/
def shp (c : Nat) : Nat := pageAt .shep c

/-- Does the Watchdog of a core count (R327)? It counts while the core runs, sleeps or waits. -/
def State.wdCounts (s : State) (c : Nat) : Bool :=
  let st := (s.core c).st
  s.b (shp c + R.shepWdog) 0 && (st == 1 || st == 3 || (st == 2 && !s.b (shp c + R.shepWdog) 1))

/-- Start or stop the Watchdog's count as the core and SHEP_WDOG now say. -/
def State.wdSync (s : State) (c : Nat) : State :=
  s.updCore c (fun x =>
    if s.wdCounts c then
      match x.wdAt with
      | some _ => x
      | none => { x with wdAt := some (s.now + BitVec.ofNat 64 x.wdLeft) }
    else match x.wdAt with
      | some t => { x with wdAt := none, wdLeft := t.toNat - s.now.toNat }
      | none => x)

/-- Reload the Watchdog (R327): STAGE1 clears (R330). -/
def State.wdReload (s : State) (c : Nat) : State :=
  ((s.updCore c (fun x => { x with wdAt := none, wdLeft := us * s.f (shp c + R.shepWdog) 47 16 })).wdSync c).putB
    (shp c + R.shepWdogStat) 0 false

/-- Pack ticks until the Watchdog's next expiry (SHEP_WDOG_STAT.REMAIN_US). -/
def State.wdRemain (s : State) (c : Nat) : Nat :=
  match (s.core c).wdAt with
  | some t => t.toNat - s.now.toNat
  | none => (s.core c).wdLeft

/-- Set STATE of a core. -/
def State.setSt (s : State) (c st : Nat) : State := (s.updCore c (fun x => { x with st := st })).wdSync c

/-- The instruction at the PC, of `len` bytes, retires (SHEP_PC, PRIV, ICOUNT). -/
def State.retire (s : State) (c len : Nat) : State :=
  let x := s.core c
  ((s.setReg (shp c + R.shepPc) (x.pc.zeroExtend 64)).putB (shp c + R.shepCoreStat) 4 (bit x.psw 25)).updCore c (fun x =>
    { x with pc := x.pc + BitVec.ofNat 48 len, icount := x.icount + 1, held := false, log := [], mid := false })

/-- WAITSIG, which a core sleeps in, completes with a value of SIGCNT and a signal count (R318). -/
def State.sigDone (s : State) (c cnt sig : Nat) : State :=
  ((s.retire c 2).updCore c (fun x => { x with sigcnt := cnt, sig := sig })).setSt c 1

/-- Has a core power: its domain is ON, or still DRAINING (R461)? -/
def State.corePowered (s : State) (c : Nat) : Bool := s.domState (152 + c) == 0 || s.domState (152 + c) == 3

/-- A core asleep in WAITSIG takes its signals (R318). A core in RETAIN wakes first (R459); one whose domain is in between
takes them when it has woken. -/
def State.wakeCore (s : State) (c : Nat) : State :=
  if s.domState (152 + c) = 1 then s.react (.domWake (152 + c))
  else if s.corePowered c ∧ (s.core c).st = 2 then
    s.sigDone c (s.core c).sig 0
  else s

/-- A Bark source with PRIO ≠ 0 becomes pending (R318, R384): WAITSIG completes with SIGCNT 0 and the count stays. -/
def State.wakeBark (s : State) (c : Nat) : State :=
  if s.domState (152 + c) = 1 then s.react (.domWake (152 + c))
  else if s.corePowered c ∧ (s.core c).st = 2 then s.sigDone c 0 (s.core c).sig
  else s

/-- A core's signal count rises by one, saturating at 255 (R317); a core asleep in WAITSIG takes it (R318). A core whose state OFF has
lost has none until it has woken (R458). -/
def State.signal (s : State) (c : Nat) : State :=
  if (s.core c).cold then s else (s.updCore c (fun x => { x with sig := min (x.sig + 1) 255 })).wakeCore c

end Sys2Proof.Machine
end

