-- ==== Sys2Proof/Machine/KenOps.lean ====
section
/-! DEFINITION. Kennel (R359 to R381, R387, R388): doorbells, the item store, dispatch, completion, ordered flows, delay
lists, preemption, threads and the decision trace. -/

namespace Sys2Proof.Machine

/-! ## Registers and rings -/

/-- KEN page [0]. -/
def kp : Nat := pageAt .ken 0

/-- Offset of a work ring's registers (R388). -/
def kr (n : Nat) : Nat := pageAt .ken (1 + n / 32) + R.kenRingCfg + 0x40 * (n % 32)

/-- A work ring as Kennel produces it. -/
def kenRing (n : Nat) : Ring := ⟨pageAt .ken (1 + n / 32), kr n, kr n + 8, kr n + 16, 32, 9⟩

/-- The trace ring (R381). -/
def kenTraceRing : Ring := ⟨kp, kp + R.kenTraceRing, kp + R.kenTraceProd, kp + R.kenTraceCons, 32, 9⟩

/-- Is ring `n` an enabled IN ring? -/
def State.kenIn (s : State) (n : Nat) : Bool := s.b (kr n) 6 && !s.b (kr n) 5
/-- Is ring `n` an enabled OUT ring? -/
def State.kenOut (s : State) (n : Nat) : Bool := s.b (kr n) 6 && s.b (kr n) 5

/-- Change Kennel's state. -/
def State.updKen (s : State) (g : Kennel → Kennel) : State := { s with ken := g s.ken }
/-- Change Kennel's view of a core. -/
def State.updKc (s : State) (c : Nat) (g : KCore → KCore) : State :=
  s.updKen (fun k => { k with cores := SMap.set {} k.cores c (g (s.kc c)) })
/-- Change a thread. -/
def State.updThr (s : State) (t : Nat) (g : KThread → KThread) : State :=
  s.updKen (fun k => { k with threads := SMap.set {} k.threads t (g (s.thr t)) })

/-- FLOW of an item. -/
def KItem.flow (i : KItem) : Nat := fld i.w0 35 24
/-- CRING of an item. -/
def KItem.cring (i : KItem) : Nat := fld i.w0 43 36
/-- SEQ of an item. -/
def KItem.seq (i : KItem) : Nat := fld i.w0 63 48
/-- Does the item belong to its flow (ORDERED)? -/
def KItem.ordered (i : KItem) : Bool := bit i.w0 22
/-- Is a completion record wanted (CPL)? -/
def KItem.cpl (i : KItem) : Bool := bit i.w0 23
/-- Is the item ready? -/
def KItem.isReady (i : KItem) : Bool := match i.st with | .ready => true | _ => false

/-- Free store entries (KEN_STAT.FREE). -/
def State.kenFree (s : State) : Nat := 65536 - s.ken.items.length - s.ken.resv.foldl (fun n e => n + e.2) 0

/-- Records in a ring's stash. -/
def State.stashOf (s : State) (n : Nat) : List (List Word) := SMap.get [] s.ken.stash n
/-- Is a ring stalled (R369)? -/
def State.kenStalled (s : State) (n : Nat) : Bool := decide (64 ≤ (s.stashOf n).length)
/-- Counters of a flow. -/
def State.kflow (s : State) (f : Nat) : KFlow := SMap.get {} s.ken.flows f

/-! ## The decision trace (R381) -/

/-- Address of an entry of the item store (R362). -/
def State.kenStoreAt (s : State) (entry : Nat) : Nat := s.f (kp + R.kenStore) 47 21 * 2 ^ 21 + 32 * entry

/-- An item is copied to its entry of the store (R364). What Kennel schedules is its own state; software must not write the
region (R362). -/
def State.kenCopy (s : State) (i : KItem) : State :=
  s.wrBytes (s.kenStoreAt i.entry) ([i.w0, i.w1, i.w2, i.w3].flatMap (fun w => leBytes 8 w.toNat))

/-- A trace record (Table 11.4), written where TRACE_EN and the event's MASK bit are set; a record that finds no room is
lost. -/
def State.kenTrace (s : State) (ev core ring prio flow seq entry detail : Nat) (arg0 : Word) : State :=
  if s.b (kp + R.kenCtl) 2 ∧ s.b (kp + R.kenTraceCtl) (ev - 1) then
    match s.ringPush kenTraceRing [BitVec.ofNat 64 (ev + core * 2 ^ 8 + ring * 2 ^ 16 + prio * 2 ^ 24 + flow * 2 ^ 32
        + seq * 2 ^ 48), BitVec.ofNat 64 (entry + detail % 2 ^ 32 * 2 ^ 32), arg0, s.now] with
    | (true, s1) => s1
    | (false, s1) => s1.inc (kp + R.kenTraceCtl) 63 32
  else s

/-- Kennel reads `n` words of memory. Of words that an error response does not bring the spec says nothing: they are free values
(log entry 18). -/
def State.kenRead (s : State) (a n : Nat) : List Word × State :=
  match s.memRead a (8 * n) with
  | (.ok, bs, s1) => ((List.range n).map (fun i => BitVec.ofNat 64 (ofLe ((bs.drop (8 * i)).take 8))), s1)
  | (_, _, s1) => (List.range n).foldl (fun (r : List Word × State) _ => let (w, s2) := r.2.draw; (r.1 ++ [w], s2)) ([], s1)

/-- The trace record of a decision about an item. -/
def State.kenTraceItem (s : State) (ev core : Nat) (i : KItem) (ring detail : Nat) : State :=
  s.kenTrace ev core ring i.prio i.flow i.seq i.entry detail i.w1

/-! ## Completion records (R368, R369) -/

/-- Post an item's record to an OUT ring: in the ring, stashed, or dropped where the ring is not an enabled OUT ring. False where
the stash is full and the record must wait (R369). -/
def State.kenPost (s : State) (i : KItem) (n : Nat) (ws : List Word) : Bool × State :=
  if !s.kenOut n then (true, (s.inc (kp + R.kenEvt) 63 32).fault kp .config)
  else
    let st := s.stashOf n
    let (ok, s1) := if st.isEmpty then s.ringPush (kenRing n) ws else (false, s)
    if ok then (true, s1)
    else if 64 ≤ st.length then (false, s1)
    else
      let s2 := s1.updKen (fun k => { k with stash := SMap.set [] k.stash n (st ++ [ws]) })
      if st.length = 63 then (true, (s2.inc (kr n + 24) 63 48).kenTraceItem 13 0 i n 0) else (true, s2)

/-- The completion record of an item with the KIND and words of its core (R368). -/
def KItem.record (i : KItem) (kind : Nat) (w1 w2 w3 : Word) : List Word := [setFld i.w0 15 0 kind, w1, w2, w3]

/-- A flow has room again: rings held for it may be read (R371). -/
def State.kenFlowRoom (s : State) (f : Nat) : State :=
  let l := (s.ken.full.filter (fun e => e.2 == f + 1)).map (fun e => e.1)
  (l.foldl (fun s r => s.putB (kr r + 24) 8 false) s).updKen (fun k => { k with full := k.full.filter (fun e => e.2 != f + 1) })

/-- Try to release a finished item: an ordered one in its turn (R370), its completion posted. None while it must stay in
its entry. -/
def State.kenRelease (s : State) (i : KItem) (kind : Nat) (w1 w2 w3 : Word) : Option State :=
  if i.ordered && i.seq != (s.kflow i.flow).rel then none
  else
    let (ok, s1) := if i.cpl then s.kenPost i i.cring (i.record kind w1 w2 w3) else (true, s)
    if ok then
      let s2 := s1.updKen (fun k => { k with items := k.items.filter (fun j => j.id != i.id) })
      let f := s2.kflow i.flow
      let f1 : KFlow := { f with rel := (f.rel + 1) % 2 ^ 16, out := f.out - 1 }
      let s3 := if i.ordered then (s2.updKen (fun k => { k with flows := SMap.set {} k.flows i.flow f1 })).kenFlowRoom i.flow
        else s2
      some (s3.kenTraceItem 7 0 i i.cring 0)
    else none

/-- The finished items, in the order in which they finished. -/
def State.kenDone (s : State) : List (KItem × Nat × Word × Word × Word) :=
  s.ken.items.filterMap (fun i => match i.st with | .fin k a b c => some (i, k, a, b, c) | _ => none)

/-- Release finished items as far as their turns and rings allow; `n` bounds the releases. -/
def State.kenReleases (s : State) : Nat → State
  | 0 => s
  | n + 1 =>
    match s.kenDone.findSome? (fun d => s.kenRelease d.1 d.2.1 d.2.2.1 d.2.2.2.1 d.2.2.2.2) with
    | some s1 => s1.kenReleases n
    | none => s

/-! ## Acceptance (R362 to R365, R370, R372) -/

/-- Kennel accepts an item into the store: SEQ and the flow's counters (R370), its entry, and its delay (R372). The
number of its entry is a free one that the spec does not choose (log entry 18). `one`: no doorbell has accepted it, and its ACCEPT
record covers it alone (R381). -/
def State.kenAccept (s : State) (ring : Nat) (one : Bool) (w0 w1 w2 w3 : Word) : State :=
  let ord := bit w0 22
  let f := fld w0 35 24
  let fl := s.kflow f
  let (r, s0) := s.draw
  let entry := (((List.range 65536).find? (fun k =>
    !s.ken.items.any (fun i => i.entry == (fld r 15 0 + k) % 65536))).getD 0 + fld r 15 0) % 65536
  let d := fld w3 31 0
  let due := s.now + BitVec.ofNat 64 (d * us)
  let i : KItem := { id := s.ken.nextId, entry := entry, ring := ring,
                     w0 := setFld (setFld w0 63 48 (if ord then fl.next else 0)) 47 44 0, w1 := w1, w2 := w2, w3 := w3,
                     st := if d = 0 then .ready else .delayed due }
  let s1 := (s0.kenCopy i).updKen (fun k => { k with
    items := k.items ++ [i], nextId := k.nextId + 1, ready := if d = 0 then k.ready ++ [i.id] else k.ready,
    flows := if ord then SMap.set {} k.flows f { fl with next := (fl.next + 1) % 2 ^ 16, out := fl.out + 1 }
      else k.flows })
  let s2 := if one then s1.kenTraceItem 1 0 i ring 1 else s1
  if d = 0 then s2 else s2.kenTraceItem 8 0 i ring ((due.toNat + (us - 1)) / us)

/-- Accept a doorbell of `n` items on ring `r` at index `p` (R363). -/
def State.kenDoorAccept (s : State) (r p n : Nat) : State :=
  let s1 := s.putF (kr r + 8) 31 0 p
  let s2 := s1.updKen (fun k => { k with resv := SMap.set 0 k.resv r (SMap.get 0 k.resv r + n) })
  s2.kenTrace 1 0 r 0 0 0 0 n 0

/-- The write response of a withheld doorbell returns: to the mesh master whose request it was, or its core goes on (R310,
R363). -/
def State.unstall (s : State) (d : HeldDb) : State :=
  let o := d.origin
  let s1 := match d.who with
    | some (q, r) => s.respond (ctrlNode r.addr.toNat) q r .ok []
    | none => s
  if o.toNat / 4096 = 1 ∧ !d.gone then s1.updCore (o.toNat % 4096) (fun c => { c with stall := false }) else s1

/-- Accept withheld doorbells in arrival order while the store has room and Kennel accepts doorbells (R363, Table 11.8); `n`
bounds them. -/
def State.kenHeld (s : State) : Nat → State
  | 0 => s
  | n + 1 =>
    match s.ken.heldDb with
    | d :: rest =>
      if d.items ≤ s.kenFree ∧ s.b (kp + R.kenCtl) 0 then
        (((s.updKen (fun x => { x with heldDb := rest })).kenDoorAccept d.ring d.index d.items).unstall d).kenHeld n
      else s
    | [] => s

/-- After store entries have come free. -/
def State.kenRoom (s : State) : State := s.kenHeld s.ken.heldDb.length

/-- A doorbell (R363, R388, R393): true where it takes effect at once or is withheld. -/
def State.kenDoorbell (s : State) (r : Nat) (o : Origin) (v : Nat) : Bool × State :=
  let pg := pageAt .ken (1 + r / 32)
  let pl := SMap.get 0 s.plast (kr r)
  if !s.b (kr r) 6 then (false, (s.inc (kr r + 24) 47 32).fault pg .config)
  else if s.b (kr r) 5 then (false, s)
  else if !doorbellOk (s.f (kr r) 4 0) pl (s.f (kr r + 16) 31 0) v then (false, (s.inc (kr r + 24) 47 32).fault pg .config)
  else
    let n := (v + 2 ^ 32 - pl) % 2 ^ 32
    let keep (s : State) : State := { s with plast := SMap.set 0 s.plast (kr r) v }
    if n = 0 then (true, s)
    else if !s.ken.heldDb.any (fun d => d.ring == r) && decide (n ≤ s.kenFree) && s.b (kp + R.kenCtl) 0 then
      (true, (keep s).kenDoorAccept r v n)
    else if o.toNat / 4096 = 0 ∨ o.toNat / 4096 = 4 then
      (false, (s.inc (kr r + 24) 31 16).kenTrace 2 0 r 0 0 0 0 n 0)
    else
      let s1 := (keep s).updKen (fun k => { k with heldDb := k.heldDb ++ [{ ring := r, origin := o, items := n, index := v }] })
      (true, if o.toNat / 4096 = 1 then s1.updCore (o.toNat % 4096) (fun c => { c with stall := true }) else s1)

/-! ## Dispatch (R366, R367, R377, R380) -/

/-- Is a core an idle work core? A changed DISPATCH or MODE holds from the time the core is idle (R377). -/
def State.workIdle (s : State) (c : Nat) : Bool :=
  (s.kc c).st == 0 && s.b (kp + R.kenCoreCtl + 8 * c) 0 && !s.b (kp + R.kenCoreCtl + 8 * c) 1
/-- Is a core idle in thread mode? -/
def State.thrIdle (s : State) (c : Nat) : Bool :=
  (s.kc c).st == 0 && s.b (kp + R.kenCoreCtl + 8 * c) 0 && s.b (kp + R.kenCoreCtl + 8 * c) 1

/-- The ready items, in the order in which they became ready. -/
def State.readyItems (s : State) : List KItem := s.ken.ready.filterMap s.kitem

/-- First of the least by a key. -/
def firstMin {α : Type} (key : α → Nat) : List α → Option α
  | [] => none
  | a :: r => match firstMin key r with
    | some b => if key b < key a then some b else some a
    | none => some a

/-- The item that Kennel dispatches next (R366, R369). -/
def State.nextItem (s : State) : Option KItem := firstMin KItem.prio (s.readyItems.filter (fun i => !s.kenStalled i.cring))

/-- May a thread run on a core (Table 11.2)? -/
def KThread.mayRun (t : KThread) (c : Nat) : Bool := t.affinity == 0 || t.affinity.testBit c

/-- The READY threads that may run on a core, longest READY first. -/
def State.readyThreads (s : State) (c : Nat) : List Nat := s.ken.thrRdy.filter (fun t => (s.thr t).mayRun c)

/-- Address of a core's mailbox (R367). -/
def State.mbox (s : State) (c : Nat) : Nat := s.f (kp + R.kenMbox) 47 10 * 1024 + 64 * c
/-- Address of a thread's control block (R377). -/
def State.tcb (s : State) (t : Nat) : Nat := s.f (kp + R.kenThr) 47 13 * 8192 + 32 * t

/-- Write the hardware fields of a control block (Table 11.2). -/
def State.tcbWrite (s : State) (t st core line : Nat) : State :=
  let (l, s1) := s.kenRead (s.tcb t) 1
  (s1.memWrite (s.tcb t) (leBytes 8 (setFld (setFld (setFld (l.getD 0 0) 1 0 st) 43 40 core) 49 44 line).toNat)).2

/-- Write words into a core's mailbox and signal it (R367). -/
def State.deliverMbox (s : State) (c : Nat) (ws : List Word) : State :=
  (s.memWrite (s.mbox c) (ws.flatMap (fun w => leBytes 8 w.toNat))).2.signal c

/-- One arrival at a preemption source (R373). -/
def State.preemptCore (s : State) (c : Nat) : State := (s.updKc c (fun k => { k with preempt := true })).bark c

/-- The work core to preempt for priority `p`: the greatest PRIO above it, the most recent dispatch among equals
(R373). -/
def State.victim (s : State) (p : Nat) : Option Nat :=
  (List.range 16).foldl (fun b c =>
    if (s.kc c).st = 1 ∧ !(s.kc c).preempt ∧ p < s.corePrio c then
      match b with
      | some v => if s.corePrio v < s.corePrio c ∨ (s.corePrio v = s.corePrio c ∧ (s.kc v).order < (s.kc c).order) then
          some c else b
      | none => some c
    else b) none

/-- Insert a number before the first larger one. -/
def insNat (n : Nat) : List Nat → List Nat
  | [] => [n]
  | m :: r => if n < m then n :: m :: r else m :: insNat n r

/-- Raise preemptions for ready items: with k of them outstanding, the (k+1)-th most urgent ready item may cause one
more (R373); `n` bounds them. -/
def State.kenPreemptItems (s : State) : Nat → State
  | 0 => s
  | n + 1 =>
    let k := ((List.range 16).filter (fun c => (s.kc c).st == 1 && (s.kc c).preempt)).length
    let ps := (s.readyItems.map KItem.prio).foldl (fun l p => insNat p l) []
    match ps[k]? with
    | some p => match s.victim p with
      | some c =>
        let s1 := s.preemptCore c
        (match s.kitem (s.kc c).what with | some i => s1.kenTraceItem 5 c i i.ring p | none => s1).kenPreemptItems n
      | none => s
    | none => s

/-- A preemption of a core's thread for a READY thread of priority `p`, with its PREEMPT record (R380, R381, log entry 64). -/
def State.preemptThread (s : State) (c p : Nat) : State :=
  let t := (s.kc c).what
  (s.preemptCore c).kenTrace 5 c 0 (s.thr t).prio 0 0 0 p (BitVec.ofNat 64 t)

/-- Raise a preemption of a core's thread for a READY thread of lower PRIO (R380). -/
def State.kenPreemptThread (s : State) (c : Nat) : State :=
  match firstMin (fun t => (s.thr t).prio) (s.readyThreads c) with
  | some t => if (s.kc c).st = 2 ∧ !(s.kc c).preempt ∧ (s.thr t).prio < s.corePrio c then s.preemptThread c (s.thr t).prio else s
  | none => s

/-- Kennel looks for preemptions (R373, R380). -/
def State.kenPreempt (s : State) : State :=
  if s.b (kp + R.kenCtl) 1 then
    let s1 := if (List.range 16).any s.workIdle then s else s.kenPreemptItems 16
    (List.range 16).foldl (fun s c => s.kenPreemptThread c) s1
  else s

/-- DISPATCH to a core: an item to the idle work core of lowest number, or a thread to an idle thread-mode core. -/
def State.dispatchTo (s : State) (c : Nat) : State :=
  if !s.b (kp + R.kenCtl) 0 then s
  else if s.workIdle c && !(List.range c).any s.workIdle then
    match s.nextItem with
    | none => s
    | some i =>
      let s1 := s.updKen (fun k => { k with
        ready := k.ready.filter (fun j => j != i.id), order := k.order + 1,
        items := replFirst (fun j => j.id == i.id) (fun j => { j with st := .running c }) k.items })
      let s2 := s1.updKc c (fun _ => { st := 1, what := i.id, since := s.now, order := s.ken.order + 1 })
      ((s2.deliverMbox c [i.w0, i.w1, i.w2, i.w3]).kenTraceItem 3 c i i.ring 0).kenPreempt
  else if s.thrIdle c then
    match firstMin (fun t => (s.thr t).prio) (s.readyThreads c) with
    | none => s
    | some t =>
      let s1 := s.updKen (fun k => { k with thrRdy := k.thrRdy.filter (fun u => u != t), order := k.order + 1 })
      let s2 := (s1.updThr t (fun x => { x with st := .running c })).tcbWrite t 2 c 0
      let s3 := s2.updKc c (fun _ => { st := 2, what := t, since := s.now, order := s.ken.order + 1 })
      ((s3.deliverMbox c [0xFFFE, BitVec.ofNat 64 t, (s.thr t).context, 0]).kenTrace 10 c 0 (s.thr t).prio 0 0 t 0
        (BitVec.ofNat 64 t)).kenPreempt
  else s

/-- ITEM_FETCH: Kennel reads the next accepted item of a ring (R364), unless its flow is full (R371). -/
def State.itemFetch (s : State) (r : Nat) : State :=
  let c := s.f (kr r + 16) 31 0
  if !s.kenIn r || !s.b (kp + R.kenCtl) 0 || SMap.get 0 s.ken.full r != 0 || c == s.f (kr r + 8) 31 0 ||
      (SMap.get 0 s.ken.resv r == 0 && s.kenFree == 0) then s
  else
    let a := s.ringBase (kenRing r) + 32 * (c % 2 ^ s.f (kr r) 4 0)
    let (l, s0) := s.kenRead a 4
    let w0 := l.getD 0 0
    if bit w0 22 && decide (256 ≤ (s.kflow (fld w0 35 24)).out) then
      (s0.putB (kr r + 24) 8 true).updKen (fun k => { k with full := SMap.set 0 k.full r (fld w0 35 24 + 1) })
    else
      let s1 := ((s0.putB (kr r + 24) 8 false).putF (kr r + 16) 31 0 ((c + 1) % 2 ^ 32)).updKen (fun k =>
        { k with resv := SMap.set 0 k.resv r (SMap.get 0 k.resv r - 1), full := SMap.set 0 k.full r 0 })
      (s1.kenAccept r false w0 (l.getD 1 0) (l.getD 2 0) (l.getD 3 0)).kenPreempt

/-- Insert a delayed item behind those that fall due at the same tick or before it. -/
def insDue (i : KItem × Nat) : List (KItem × Nat) → List (KItem × Nat)
  | [] => [i]
  | j :: r => if i.2 < j.2 then i :: j :: r else j :: insDue i r

/-- DELAY_EXPIRE: items whose tick has come become ready (R372). -/
def State.delayExpire (s : State) : State :=
  let tick (w : Word) : Nat := (w.toNat + (us - 1)) / us
  let due := s.ken.items.filterMap (fun i => match i.st with
    | .delayed d => if tick d * us ≤ s.now.toNat then some (i, tick d) else none
    | _ => none)
  let l := due.foldl (fun l i => insDue i l) []
  (l.foldl (fun s e =>
    (s.updKen (fun k => { k with
      ready := k.ready ++ [e.1.id],
      items := replFirst (fun j => j.id == e.1.id) (fun j => { j with st := .ready }) k.items })).kenTraceItem 9 0 e.1
        e.1.ring 0) s).kenPreempt

/-! ## Completion by a core (R368, R374, R375) -/

/-- A core gives up what it runs; an arrival at its preemption source that Bark has not taken is withdrawn (R375). -/
def State.kenIdle (s : State) (c : Nat) : State :=
  let s1 := s.updKc c (fun _ => {})
  if (s.kc c).preempt && decide (0 < s.f (barkSrcAt c) 23 16) then s1.putF (barkSrcAt c) 23 16 (s.f (barkSrcAt c) 23 16 - 1)
  else s1

/-- An item finishes (R368, R370, R371). -/
def State.kenFinish (s : State) (i : KItem) (kind : Nat) (w1 w2 w3 : Word) : State :=
  let s1 := s.updKen (fun k => { k with
    items := k.items.filter (fun j => j.id != i.id) ++ [{ i with st := .fin kind w1 w2 w3 }] })
  (s1.kenReleases s1.ken.items.length).kenRoom

/-- The item that a core runs. -/
def State.coreItem (s : State) (c : Nat) : Option KItem := if (s.kc c).st = 1 then s.kitem (s.kc c).what else none

/-- KEN_CDONE (R368, R374, R375): true where it takes effect. -/
def State.cdone (s : State) (o : Origin) (status : Nat) : Bool × State :=
  let c := o.toNat % 4096
  let bad : Bool × State := (false, s.fault kp .config)
  if o.toNat / 4096 ≠ 1 then bad
  else match s.coreItem c with
    | none => bad
    | some i =>
      let (l, s0) := s.kenRead (s.mbox c + 32) 4
      let kind := fld (l.getD 0 0) 15 0
      if status = 1 ∧ (s.kc c).preempt then
        let w0 := setFld i.w0 15 0 kind
        let j : KItem := { i with w0 := w0, w1 := l.getD 1 0, w2 := l.getD 2 0, w3 := l.getD 3 0, st := .ready }
        let s1 := ((s0.kenIdle c).kenCopy j).updKen (fun k => { k with
          items := replFirst (fun x => x.id == i.id) (fun _ => j) k.items, ready := i.id :: k.ready })
        (true, (s1.kenTraceItem 6 c j i.ring 0).kenPreempt)
      else
        let s1 := (s0.kenIdle c).kenTraceItem 4 c i i.ring 0
        (true, (s1.kenFinish i kind (l.getD 1 0) (l.getD 2 0) (l.getD 3 0)).kenPreempt)

/-- A master reset of a core (R376). -/
def State.kenCoreReset (s : State) (c : Nat) : State :=
  let k := s.kc c
  let s1 := (s.updKc c (fun _ => {})).putF (barkSrcAt c) 23 16 0
  match k.st with
  | 1 => match s.kitem k.what with
    | some i => ((s1.kenTraceItem 12 c i i.ring 0).kenFinish i 0xFFFF 0 0 0).kenPreempt
    | none => s1
  | 2 => ((s1.updThr k.what (fun t => { t with st := .free })).tcbWrite k.what 0 0 0).kenTrace 12 c 0 (s.thr k.what).prio 0
      0 k.what 0 0
  | _ => s1

/-! ## Threads (R377 to R380) -/

/-- A thread becomes READY, at the head or at the tail of its level. -/
def State.thrReady (s : State) (t : Nat) (head : Bool) : State :=
  ((s.updThr t (fun x => { x with st := .ready })).tcbWrite t 1 0 0).updKen (fun k =>
    { k with thrRdy := if head then t :: k.thrRdy else k.thrRdy ++ [t] })

/-- The thread that the writing core runs. -/
def State.coreThread (s : State) (o : Origin) : Option (Nat × Nat) :=
  let c := o.toNat % 4096
  if o.toNat / 4096 = 1 ∧ (s.kc c).st = 2 then some (c, (s.kc c).what) else none

/-- CREATE (Table 11.3): Kennel reads the firmware fields. -/
def State.thrCreate (s : State) (t : Nat) : Bool × State :=
  if (s.thr t).st != .free then (false, s.fault kp .config)
  else
    let (l, s0) := s.kenRead (s.tcb t) 4
    let w := l.getD 0 0
    let s1 := s0.updThr t (fun x => { x with prio := fld w 7 2, affinity := fld w 23 8, slice := fld w 39 24,
                                             context := l.getD 1 0, wake := l.getD 3 0 })
    (true, (s1.thrReady t false).kenPreempt)

/-- EXIT. -/
def State.thrExit (s : State) (o : Origin) : Bool × State :=
  match s.coreThread o with
  | some (c, t) => (true, ((s.kenIdle c).updThr t (fun x => { x with st := .free })).tcbWrite t 0 0 0)
  | none => (false, s.fault kp .config)

/-- SWITCH. -/
def State.thrSwitch (s : State) (o : Origin) : Bool × State :=
  match s.coreThread o with
  | some (c, t) => (true, ((s.kenIdle c).thrReady t false).kenPreempt)
  | none => (false, s.fault kp .config)

/-- BLOCK_EVENT (R378, R379). -/
def State.thrBlockEvent (s : State) (o : Origin) (line : Nat) : Bool × State :=
  match s.coreThread o with
  | some (c, t) =>
    let s1 := s.kenIdle c
    if bit s.ken.latches line then
      (true, (s1.updKen (fun k => { k with latches := setBit k.latches line false })).thrReady t true |>.kenPreempt)
    else (true, ((s1.updThr t (fun x => { x with st := .onEvent line })).tcbWrite t 3 0 line).kenTrace 11 c 0 (s.thr t).prio
      0 0 t 0 0)
  | none => (false, s.fault kp .config)

/-- BLOCK_TIME. -/
def State.thrBlockTime (s : State) (o : Origin) : Bool × State :=
  match s.coreThread o with
  | some (c, t) =>
    let s1 := s.kenIdle c
    let w := (s.thr t).wake
    if w.toNat ≤ s.now.toNat then (true, (s1.thrReady t true).kenPreempt)
    else (true, ((s1.updThr t (fun x => { x with st := .onTime w })).tcbWrite t 3 0 0).kenTrace 11 c 0 (s.thr t).prio 0 0 t 0 0)
  | none => (false, s.fault kp .config)

/-- WAKE. -/
def State.thrWake (s : State) (t : Nat) : Bool × State :=
  match (s.thr t).st with
  | .onEvent _ | .onTime _ => (true, (s.thrReady t false).kenPreempt)
  | _ => (false, s.fault kp .config)

/-- KEN_THR_CMD (R378, Table 11.3): a reserved OP is a reserved encoding (R12). -/
def State.thrCmd (s : State) (o : Origin) (w : Word) : Bool × State :=
  match fld w 11 8 with
  | 1 => s.thrCreate (fld w 7 0)
  | 2 => s.thrExit o
  | 3 => s.thrSwitch o
  | 4 => s.thrBlockEvent o (fld w 17 12)
  | 5 => s.thrBlockTime o
  | 6 => s.thrWake (fld w 7 0)
  | _ => (false, s.fault kp .config)

/-- THREAD_WAKE_TIME: a thread BLOCKED until a time becomes READY at the next tick (R372, R379). -/
def State.threadWake (s : State) (t : Nat) : State :=
  match (s.thr t).st with
  | .onTime w => if (w.toNat + (us - 1)) / us * us ≤ s.now.toNat then (s.thrReady t false).kenPreempt else s
  | _ => s

/-- THREAD_SLICE_EXPIRE (R380). -/
def State.sliceExpire (s : State) (c : Nat) : State :=
  let k := s.kc c
  let t := s.thr k.what
  if k.st = 2 ∧ !k.preempt ∧ t.slice ≠ 0 ∧ us * t.slice ≤ dur k.since s.now ∧ s.b (kp + R.kenCtl) 1 ∧
      (s.readyThreads c).any (fun u => (s.thr u).prio == s.corePrio c) then s.preemptThread c (s.corePrio c)
  else s

/-- A hardware event line pulse at Kennel (R379). -/
def State.kenPulse (s : State) (line : Nat) : State :=
  match (List.range 256).filter (fun t => (s.thr t).st == .onEvent line) with
  | [] => s.updKen (fun k => { k with latches := setBit k.latches line true })
  | l => (l.foldl (fun s t => s.thrReady t false) s).kenPreempt

/-! ## SEND (R365, R89) -/

/-- A SEND item for ring `r`; none while the SEND must wait. An item whose write fails goes to the ring's stash
(R584). -/
def State.kenSend (s : State) (r : Nat) (w0 w1 w2 : Word) : Option State :=
  if !s.b (kr r) 6 then some ((s.inc (kp + R.kenEvt) 31 0).fault kp .config)
  else if s.b (kr r) 5 then
    if (s.stashOf r).isEmpty && !s.ringFull (kenRing r) then
      match s.ringPush (kenRing r) [w0, w1, w2, 0] with
      | (true, s1) => some s1
      | (false, s1) => some (s1.updKen (fun k => { k with stash := SMap.set [] k.stash r [[w0, w1, w2, 0]] }))
    else none
  else if s.b (kp + R.kenCtl) 0 && decide (0 < s.kenFree) then
    some ((s.kenAccept r true w0 w1 w2 0).kenPreempt)
  else none

/-! ## Rings in use and out of use (R369, R387, R388) -/

/-- STASH_DRAIN of an OUT ring: the oldest stashed record, then finished items that waited for the stash (R369). -/
def State.kenStash (s : State) (r : Nat) : State :=
  match s.stashOf r with
  | [] => s
  | ws :: rest =>
    match s.ringPush (kenRing r) ws with
    | (true, s1) =>
      let s2 := s1.updKen (fun k => { k with stash := SMap.set [] k.stash r rest })
      ((s2.kenReleases s2.ken.items.length).kenRoom).kenPreempt
    | (false, s1) => s1

/-- Clearing EN of a ring (R388). -/
def State.kenRingOff (s : State) (r : Nat) (dirOut : Bool) : State :=
  let mine := s.ken.heldDb.filter (fun d => d.ring == r)
  let s1 := if dirOut then
      (s.updKen (fun k => { k with stash := SMap.set [] k.stash r [] })).inc (kp + R.kenEvt) 63 32 (s.stashOf r).length
    else mine.foldl State.unstall ((s.putB (kr r + 24) 8 false).updKen (fun k => { k with
      resv := SMap.set 0 k.resv r 0, full := SMap.set 0 k.full r 0, heldDb := k.heldDb.filter (fun d => d.ring != r) }))
  (s1.kenReleases s1.ken.items.length).kenRoom

/-- Setting EN of a ring (R388): its indices start at 0. -/
def State.kenRingOn (s : State) (r : Nat) : State :=
  let s1 := (s.putF (kr r + 8) 31 0 0).putF (kr r + 16) 31 0 0
  { s1 with plast := SMap.set 0 s1.plast (kr r) 0, wfail := s1.wfail.filter (fun o => o != kr r) }

/-- Function reset of KEN page [0] (R387): with its flows discarded, no ring is held for room in one (R371). -/
def State.kenReset (s : State) : State :=
  let s0 := s.ken.full.foldl (fun (s : State) e => if e.2 = 0 then s else s.putB (kr e.1 + 24) 8 false) s
  let s1 := s.ken.heldDb.foldl State.unstall s0
  let s2 := s1.updKen (fun k => { stash := k.stash, nextId := k.nextId, order := k.order })
  { s2.resetRegs kp 0x100 0x400 with wfail := s2.wfail.filter (fun o => o != kp + R.kenTraceRing) }

/-- Function reset of a KEN ring page (R388): its 32 rings return to their reset values and their stashes empty. -/
def State.kenPageReset (s : State) (p : Nat) : State :=
  let s1 := (List.range 32).foldl (fun (s : State) i =>
    let r := 32 * (p - 1) + i
    (s.ken.heldDb.filter (fun d => d.ring == r)).foldl State.unstall
      { s.updKen (fun k => { k with
          stash := SMap.set [] k.stash r [], resv := SMap.set 0 k.resv r 0, full := SMap.set 0 k.full r 0,
          heldDb := k.heldDb.filter (fun d => d.ring != r) }) with
        plast := SMap.set 0 s.plast (kr r) 0, wfail := s.wfail.filter (fun o => o != kr r) }) s
  let s2 := s1.resetRegs (pageAt .ken p) 0x800 0x1000
  (s2.kenReleases s2.ken.items.length).kenRoom

end Sys2Proof.Machine
end

