-- ==== Sys2Proof/Machine/DmaOps.lean ====
section
/-! DEFINITION. DMA channels (R412 to R422) and the hardware event lines (R418). -/

namespace Sys2Proof.Machine

/-- Page of a DMA channel. -/
def dp (ch : Nat) : Nat := pageAt .dma ch

/-- A channel's state. -/
def State.dmaCh (s : State) (ch : Nat) : Dma := SMap.get {} s.dma ch
/-- Change a channel's state. -/
def State.updDma (s : State) (ch : Nat) (g : Dma → Dma) : State := { s with dma := SMap.set {} s.dma ch (g (s.dmaCh ch)) }

/-- A channel's descriptor ring. -/
def dmaRing (ch : Nat) : Ring := ⟨dp ch, dp ch + R.dmaRing, dp ch + R.dmaProd, dp ch + R.dmaCons, 32, 9⟩

/-- Is a channel enabled? -/
def State.dmaEn (s : State) (ch : Nat) : Bool := s.b (dp ch + R.dmaCtl) 0

/-- Address of a channel's next descriptor, where its doorbell covers one (R394). -/
def State.dmaNext (s : State) (ch : Nat) : Option Nat :=
  let c := s.f (dp ch + R.dmaCons) 31 0
  if !s.dmaEn ch || s.b (dp ch + R.pgErrLevel) 2 || c == s.f (dp ch + R.dmaProd) 31 0 then none
  else some (s.ringBase (dmaRing ch) + 32 * (c % 2 ^ s.f (dp ch + R.dmaRing) 4 0))

/-- Does a descriptor wait for an event line whose latch is not set (R413)? -/
def Dma.waitsFor (x : Dma) (w0 : Word) : Bool := bit w0 11 && !bit x.latches (fld w0 17 12)

/-- Does the descriptor that the channel has read wait on its event line (DMA_STAT.WAITING)? -/
def State.dmaWaiting (s : State) (ch : Nat) : Bool :=
  match (s.dmaCh ch).held with
  | some d => (s.dmaCh ch).waitsFor d.w0
  | none => false

/-- A doorbell (R393, R420). -/
def State.dmaDoorbell (s : State) (ch v : Nat) : Bool × State :=
  if !s.dmaEn ch then (false, s)
  else if doorbellOk (s.f (dp ch + R.dmaRing) 4 0) (s.f (dp ch + R.dmaProd) 31 0) (s.f (dp ch + R.dmaCons) 31 0) v then
    (true, s.putF (dp ch + R.dmaProd) 31 0 v)
  else (false, (s.inc (dp ch + R.dmaCnt) 15 0).fault (dp ch) .config)

/-- ERR_CODE of a status (Table 12.9). -/
def dmaErr : Status → Nat
  | .ok => 0 | .address => 1 | .isolated => 3 | .data => 4

/-- An error of a descriptor: counted, with its fault (R417); 2 is ALIGN. -/
def State.dmaFault (s : State) (ch code : Nat) : State :=
  let c : Cls := match code with | 1 | 2 => .config | 3 => .timeout | _ => .uncorrectable
  (s.inc (dp ch + R.dmaCnt) 47 32).fault (dp ch) c

/-- The channel reads its next descriptor once, and CONS advances (R394): it holds the descriptor until that can begin. One with
OWN 0 is consumed (R415); one that cannot be read has ended with that error. -/
def State.dmaRead (s : State) (ch : Nat) : State :=
  match s.dmaNext ch with
  | none => s
  | some a =>
    let c := s.f (dp ch + R.dmaCons) 31 0
    let take (s : State) : State := s.putF (dp ch + R.dmaCons) 31 0 ((c + 1) % 2 ^ 32)
    let d (w0 w1 w2 w3 : Word) (fin : Option (Nat × Option Nat)) : DmaDesc :=
      { idx := c, w0 := w0, src := fld w1 47 0, dst := fld w2 47 0, cst := w3, fin := fin }
    match s.memRead a 32 with
    | (.ok, _, s) =>
      let w0 := s.rd64 a
      if !bit w0 2 then ((take s).inc (dp ch + R.dmaCnt) 31 16).fault (dp ch) .config
      else (take s).updDma ch (fun x => { x with held := some (d w0 (s.rd64 (a + 8)) (s.rd64 (a + 16)) (s.rd64 (a + 24)) none) })
    | (st, _, s) => ((take s).updDma ch (fun x => { x with begun := x.begun ++ [d 4 0 0 0 (some (dmaErr st, none))] })).dmaFault ch
        (dmaErr st)

/-- The descriptor that the channel has read begins, unless it must wait for FENCE or its event line, whose latch it consumes
(R413, R415). -/
def State.dmaGo (s : State) (ch : Nat) : State :=
  let x := s.dmaCh ch
  match x.held with
  | none => s
  | some d =>
    if (bit d.w0 3 && !x.begun.isEmpty) || x.waitsFor d.w0 then s
    else s.updDma ch (fun x => { x with
      held := none, begun := x.begun ++ [d],
      latches := if bit d.w0 11 then setBit x.latches (fld d.w0 17 12) false else x.latches })

/-- DMA_DESCRIPTOR_BEGIN: the channel reads a descriptor where it holds none, and begins the one that it holds where it may. -/
def State.dmaBegin (s : State) (ch : Nat) : State :=
  (if (s.dmaCh ch).held.isNone then s.dmaRead ch else s).dmaGo ch

/-- LENGTH of a descriptor. -/
def DmaDesc.len (d : DmaDesc) : Nat := fld d.w0 63 32

/-- May a region take part (R414): wholly in HBM, the Shepherd store or host memory? -/
def dmaRegion (a n : Nat) : Bool :=
  match region a, region (a + n - 1) with
  | .hbm, .hbm | .shep, .shep | .host, .host => true
  | _, _ => false

/-- The error that stops an access before it is made: a region (ERR_CODE ADDRESS), or none. -/
def dmaBadRegion (d : DmaDesc) : Bool :=
  match fld d.w0 1 0 with
  | 1 => !dmaRegion d.dst d.len
  | _ => !dmaRegion d.src d.len || !dmaRegion d.dst d.len

/-- Bytes up to the end of the 64-byte line that holds `a`, at most `n`. -/
def lineRest (a n : Nat) : Nat := min n (64 - a % 64)

/-- Copy `n` bytes line of destination by line, ascending, up to the first error (R417; log entry 20); `fuel` bounds the
lines. -/
def State.dmaMove (s : State) (src dst n : Nat) : Nat → Status × State
  | 0 => (.ok, s)
  | fuel + 1 =>
    if n = 0 then (.ok, s)
    else
      let k := lineRest dst n
      match s.memRead src k with
      | (.ok, bs, s0) => match s0.memWrite dst bs with
        | (.ok, s1) => s1.dmaMove (src + k) (dst + k) (n - k) fuel
        | (st, s1) => (st, s1)
      | (st, _, s0) => (st, s0)

/-- Fill `n` bytes with the constant, line by line. -/
def State.dmaFillMem (s : State) (dst n : Nat) (c : Word) : Nat → Status × State
  | 0 => (.ok, s)
  | fuel + 1 =>
    if n = 0 then (.ok, s)
    else
      let k := lineRest dst n
      match s.memWrite dst ((List.range k).map (fun i => BitVec.ofNat 8 (fld c (8 * (i % 8) + 7) (8 * (i % 8))))) with
      | (.ok, s1) => s1.dmaFillMem (dst + k) (n - k) c fuel
      | (st, s1) => (st, s1)

/-- Overlapping regions leave an unspecified destination (R414): free bytes (log entry 4). -/
def State.dmaFree (s : State) (dst n : Nat) : State :=
  let bs := (List.range n).map (fun i => Config.freeByte (s.freeCtr + i))
  (({ s with freeCtr := s.freeCtr + n }).wrBytes dst bs).stored dst n

/-- Compare two regions in ascending order: the offset of the first difference (R414). An error ends the comparison. -/
def State.dmaCmp (s : State) (a b n off : Nat) : Nat → Status × Option Nat × State
  | 0 => (.ok, none, s)
  | fuel + 1 =>
    if n = 0 then (.ok, none, s)
    else
      let k := min (lineRest a n) (lineRest b n)
      let (st, xs, s1) := s.memRead a k
      let (st2, ys, s2) := s1.memRead b k
      match st, st2 with
      | .ok, .ok =>
        match (List.range k).find? (fun i => xs[i]? != ys[i]?) with
        | some i => (.ok, some (off + i), s2)
        | none => s2.dmaCmp (a + k) (b + k) (n - k) (off + k) fuel
      | .ok, e => (e, none, s2)
      | e, _ => (e, none, s1)

/-- Do two regions of `n` bytes overlap? -/
def overlap (a b n : Nat) : Bool := decide (a < b + n) && decide (b < a + n)

/-- What a begun descriptor does (R414): its end, and the state after it. -/
def State.dmaRun (s : State) (d : DmaDesc) : (Nat × Option Nat) × State :=
  let n := d.len
  if n = 0 then ((0, none), s)
  else match fld d.w0 1 0 with
  | 0 =>
    if dmaBadRegion d then ((1, none), s)
    else
      let (st, s1) := s.dmaMove d.src d.dst n (n / 64 + 2)
      let s2 := if st = .ok ∧ overlap d.src d.dst n then s1.dmaFree d.dst n else s1
      ((dmaErr st, none), s2)
  | 1 =>
    if d.dst % 8 ≠ 0 ∨ n % 8 ≠ 0 then ((2, none), s)
    else if dmaBadRegion d then ((1, none), s)
    else
      let (st, s1) := s.dmaFillMem d.dst n d.cst (n / 64 + 2)
      ((dmaErr st, none), s1)
  | _ =>
    if dmaBadRegion d then ((1, none), s)
    else
      let (st, m, s1) := s.dmaCmp d.src d.dst n 0 (n / 32 + 4)
      ((dmaErr st, m), s1)

/-- The oldest begun descriptor of a channel that has not ended, where it holds operation `op`, does its work. -/
def State.dmaOp (s : State) (ch op : Nat) : State :=
  match (s.dmaCh ch).begun.find? (fun d => d.fin.isNone) with
  | none => s
  | some d =>
    if fld d.w0 1 0 ≠ op ∧ !(fld d.w0 1 0 = 3 ∧ d.len = 0) then s
    else
      let (fin, s1) := s.dmaRun d
      let s2 := s1.updDma ch (fun x => { x with begun := replFirst (fun e => e == d) (fun e => { e with fin := some fin }) x.begun })
      if fin.1 = 0 then s2 else s2.dmaFault ch fin.1

/-- Is the oldest begun descriptor that has not ended one whose OP the spec reserves (log entry 21)? -/
def State.dmaOp3 (s : State) (ch : Nat) : Bool :=
  match (s.dmaCh ch).begun.find? (fun d => d.fin.isNone) with
  | some d => fld d.w0 1 0 == 3 && d.len != 0
  | none => false

/-- The oldest descriptor completes (R416): word 3 for PROOF, then word 0 with OWN 0 and the hardware fields, then its
event. -/
def State.dmaComplete (s : State) (ch : Nat) : State :=
  match (s.dmaCh ch).begun with
  | [] => s
  | d :: r =>
    match d.fin with
    | none => s
    | some (code, mis) =>
      let a := s.ringBase (dmaRing ch) + 32 * (d.idx % 2 ^ s.f (dp ch + R.dmaRing) 4 0)
      let s0 := s.updDma ch (fun x => { x with begun := r })
      let proof := fld d.w0 1 0 == 2
      let s1 := if proof then
          (s0.memWrite (a + 24) (leBytes 8 (match mis with | some o => o | none => 2 ^ 64 - 1))).2 else s0
      let w := setFld (setFld (setFld d.w0 31 18 0) 2 2 0) 20 20 (b2n (proof && mis.isSome))
      let w1 := setFld (setFld w 21 21 (b2n (code != 0))) 24 22 code
      let s2 := (s1.memWrite a (leBytes 8 w1.toNat)).2
      let s3 := if proof && mis.isSome then s2.inc (dp ch + R.dmaCnt) 63 48 else s2
      if bit d.w0 4 then s3.react (.pulse (fld d.w0 10 5)) else s3

/-- `n` free words over a dropped descriptor's memory (R420). -/
def State.freeWords (s : State) (a : Nat) : Nat → State
  | 0 => s
  | n + 1 => let (w, s1) := s.draw; ((s1.memWrite a (leBytes 8 w.toNat)).2).freeWords (a + 8) n

/-- The channel drops every descriptor that it has begun or read (R420): their contents, PROD and CONS are undefined. -/
def State.dmaStop (s : State) (ch : Nat) : State :=
  let base := s.ringBase (dmaRing ch)
  let m := 2 ^ s.f (dp ch + R.dmaRing) 4 0
  let s1 := ((s.dmaCh ch).begun ++ (s.dmaCh ch).held.toList).foldl (fun s d => s.freeWords (base + 32 * (d.idx % m)) 4) s
  let (w, s2) := s1.draw
  let s3 := (s2.putF (dp ch + R.dmaProd) 31 0 (fld w 31 0)).putF (dp ch + R.dmaCons) 31 0 (fld w 63 32)
  s3.updDma ch (fun x => { x with begun := [], held := none })

/-- A function reset of a DMA page, the master reset of its function (R421). -/
def State.dmaReset (s : State) (ch : Nat) : State :=
  let s1 := (if s.dmaEn ch then s.dmaStop ch else s).updDma ch (fun _ => {})
  ({ s1 with wfail := s1.wfail.filter (fun o => o != dp ch + R.dmaRing) }.resetRegs (dp ch) 0x100 0x200).notice
    (BitVec.ofNat 16 (0x3000 + ch))

/-- A hardware event line pulse at the DMA channels (R418). -/
def State.dmaPulse (s : State) (line : Nat) : State :=
  (List.range 32).foldl (fun s ch => s.updDma ch (fun x => { x with latches := setBit x.latches line true })) s

end Sys2Proof.Machine
end

