-- ==== Sys2Proof/Machine/BarkOps.lean ====
section
/-! DEFINITION. Traps of a Shepherd core, interrupts and the return from them (R321 to R326, R384 to R390), the
Watchdog (R327 to R330), reset and start of a core (R331, R332). Taking a trap is one shared operation, `takeTrap`,
and taking an interrupt is built on it. -/

namespace Sys2Proof.Machine

/-! ## Fields of the core -/

/-- PSW.PRIV. -/
def Shep.priv (x : Shep) : Bool := bit x.psw 25
/-- PSW.IM. -/
def Shep.im (x : Shep) : Bool := bit x.psw 24
/-- PSW.ILVL. -/
def Shep.ilvl (x : Shep) : Nat := fld x.psw 31 28
/-- A register by its nibble. -/
def Shep.r (x : Shep) (n : Nat) : Word := SMap.get 0 x.gpr n
/-- Set a register by its nibble. -/
def Shep.setR (x : Shep) (n : Nat) (w : Word) : Shep := { x with gpr := SMap.set 0 x.gpr n w }

/-- Trap vectors (Table 9.9). -/
inductive Vec | illegal | privilege | align | access | data | fp | decimal | trap | break | watchdog | hatch | interrupt
deriving DecidableEq, Repr

/-- Vector number (Table 9.9). -/
def Vec.num : Vec → Nat
  | .illegal => 1 | .privilege => 2 | .align => 3 | .access => 4 | .data => 5 | .fp => 6 | .decimal => 7 | .trap => 8
  | .break => 9 | .watchdog => 10 | .hatch => 11 | .interrupt => 16

/-- What a trap frame reports (Table 9.10). -/
structure TrapInfo where
  vec    : Vec
  sub    : Nat := 0
  opnd   : Nat := 15
  len    : Nat := 0
  source : Nat := 0
  addr   : Word := 0
  insn   : Word := 0
deriving DecidableEq, Repr

/-- Word 2 of a trap frame. -/
def TrapInfo.word2 (i : TrapInfo) : Word :=
  BitVec.ofNat 64 (i.vec.num + i.sub % 256 * 2 ^ 8 + i.opnd * 2 ^ 16 + i.len * 2 ^ 20 + i.source * 2 ^ 24)

/-! ## Taking a trap (R323, R324, R326) -/

/-- The core enters CHECKSTOP (R326). -/
def State.checkstop (s : State) (c : Nat) : State :=
  ((s.setSt c 5).inc (shp c + R.shepCoreStat) 31 16).fault (shp c) .config

/-- The trap frame (Table 9.10) for a return to `pc`. -/
def State.frame (s : State) (c : Nat) (i : TrapInfo) (pc : BitVec 48) : List Word :=
  let x := s.core c
  [pc.zeroExtend 64, x.psw, i.word2, i.addr, x.r 7, x.bk.zeroExtend 64, i.insn, s.now]

/-- Address of the frame: the selected stack less 64 (R323 step 1). -/
def Shep.frameAt (x : Shep) : Word := (if x.priv then x.r 7 else x.ksp) - 64

/-- Write a trap frame (R323 steps 1 to 3): none where the write faults, or the stack is not aligned (R326). -/
def State.pushFrame (s : State) (c : Nat) (i : TrapInfo) (pc : BitVec 48) : Option State :=
  let x := s.core c
  let sp := x.frameAt
  if sp.toNat % 8 ≠ 0 then none
  else match s.memWrite (sp.toNat % 2 ^ 48) ((s.frame c i pc).flatMap (fun w => leBytes 8 w.toNat)) with
    | (.ok, s1) => some (s1.updCore c (fun x => (x.setR 7 sp |> fun y => { y with psw := setBit y.psw 25 true })))
    | _ => none

/-- Go on at the 8-byte handler address held at `a` (R323 step 4). A handler address that cannot be read puts the core in
CHECKSTOP, as a frame that cannot be written does (log entry 22). -/
def State.enterHandler (s : State) (c a : Nat) : State :=
  match s.memRead (a % 2 ^ 48) 8 with
  | (.ok, bs, s1) => (s1.updCore c (fun x => { x with pc := BitVec.ofNat 48 (ofLe bs), held := false, log := [], mid := false })).setSt c 1
  | (_, _, s1) => s1.checkstop c

/-- Take a trap: the one entry of every vector of Table 9.9 but INTERRUPT. -/
def State.takeTrap (s : State) (c : Nat) (i : TrapInfo) (pc : BitVec 48) : State :=
  let s0 := s.inc (shp c + R.shepCoreStat) 63 32
  match s0.pushFrame c i pc with
  | some s1 => s1.enterHandler c ((s1.core c).tbr.toNat + 8 * i.vec.num)
  | none => s0.checkstop c

/-! ## Selection of a source (R384, R385) -/

/-- The sources with arrivals. Only a source whose register differs from its reset value can have any. -/
def State.barkPend (s : State) : List Nat :=
  s.regs.filterMap (fun e =>
    if pageAt .bark 1 ≤ e.1 ∧ e.1 < pageAt .bark 9 ∧ 0x800 ≤ e.1 % 0x1000 ∧ fld e.2 23 16 ≠ 0 then
      some ((e.1 / 0x1000 - pageAt .bark 1 / 0x1000) * 256 + (e.1 % 0x1000 - 0x800) / 8)
    else none)

/-- Is a source eligible on a core against an interrupt level (R384)? -/
def State.eligible (s : State) (c ilvl src : Nat) : Bool :=
  let w := s.reg (barkSrcAt src)
  s.b (pageAt .bark 0 + R.barkCtl) 0 && decide (fld w 23 16 ≠ 0) && !bit w 10 && fld w 7 4 == c &&
    decide (max (s.f (pageAt .bark 0 + R.barkThresh + 8 * c) 3 0) ilvl < fld w 3 0)

/-- The eligible source of highest PRIO, the lowest number among equals (Table 11.6 step 1). -/
def State.selectSource (s : State) (c ilvl : Nat) : Option Nat :=
  (s.barkPend.filter (fun x => s.eligible c ilvl x)).foldl (fun b x => match b with
    | some y => if s.f (barkSrcAt y) 3 0 < s.f (barkSrcAt x) 3 0 ∨
        (s.f (barkSrcAt y) 3 0 = s.f (barkSrcAt x) 3 0 ∧ x < y) then some x else b
    | none => some x) none

/-- Commit a source (Table 11.6 step 3): TAKEN, COUNT, ACTIVE, ILVL, IM, and the handler, which runs on the frame at B7. -/
def State.commitSource (s : State) (c src : Nat) : State :=
  let o := barkSrcAt src
  let lvl := s.f o 3 0
  let cur := BitVec.ofNat 64 (src + lvl * 2 ^ 12 + s.f o 23 16 * 2 ^ 16)
  let s1 := ((s.putF o 23 16 0).putB o 10 true).setReg (pageAt .bark 0 + R.barkCur + 8 * c) cur
  let s2 := s1.updCore c (fun x => { x with
    psw := setBit (setFld x.psw 31 28 lvl) 24 false, hands := (src, (x.r 7).toNat % 2 ^ 48, false) :: x.hands.filter (fun h => h.2.1 != (x.r 7).toNat % 2 ^ 48) })
  s2.enterHandler c (s2.f (pageAt .bark 0 + R.barkVec) 47 14 * 2 ^ 14 + 8 * src)

/-- Is an instruction of a core in progress: held by a read or a doorbell, waiting for the Hatch unit, or yet to complete after
such a wait (R312, R358, R363)? -/
def Shep.inside (x : Shep) : Bool := x.held || x.stall || x.hatchReq.isSome || x.mid

/-- Has the Watchdog of a core expired, its count's end lying before now? A reload at the instant of the end wins (R328). -/
def State.wdDue (s : State) (c : Nat) : Bool :=
  match (s.core c).wdAt with
  | some t => decide (t.toNat < s.now.toNat)
  | none => false

/-- May a core take an interrupt now: at an instruction boundary with IM 0, the Watchdog first (R312, R320, R322)? -/
def State.mayInterrupt (s : State) (c : Nat) : Bool :=
  let x := s.core c
  (x.st == 1 || x.st == 3) && !x.im && !x.inside && !x.wdTrap && !s.wdDue c && s.domOn (152 + c)

/-- Is a source with PRIO ≠ 0 pending for a core (R384)? -/
def State.barkWakes (s : State) (c : Nat) : Bool :=
  s.barkPend.any (fun src => s.f (barkSrcAt src) 3 0 != 0 && s.f (barkSrcAt src) 7 4 == c)

/-- INTERRUPT_ENTRY (Table 11.6). A frame that cannot be written leaves the source pending. -/
def State.interruptEntry (s : State) (c : Nat) : State :=
  if s.mayInterrupt c then
    match s.selectSource c (s.core c).ilvl with
    | none => s
    | some src =>
      let s0 := s.inc (shp c + R.shepCoreStat) 63 32
      match s0.pushFrame c { vec := .interrupt, source := src } (s.core c).pc with
      | some s1 => s1.commitSource c src
      | none => s0.checkstop c
  else s

/-! ## Return from a trap (R325, R386) -/

/-- Restore PSW, BK, B7 and PC from a frame (R325); reserved bits are ignored. -/
def State.restoreFrame (s : State) (c : Nat) (w : Nat → Word) : State :=
  s.updCore c (fun x => { x.setR 7 (w 4) with
    psw := w 1 &&& 0xF301FFFF, bk := BitVec.ofNat 32 (fld (w 5) 31 0), pc := BitVec.ofNat 48 (fld (w 0) 47 0) })

/-- RTE from the frame at `a`, its words already read (R325, Table 11.7). A handler that was running at a reset of Bark returns
without chaining (R389). -/
def State.returnFrame (s : State) (c a : Nat) (w : Nat → Word) : State :=
  if fld (w 2) 7 0 = 16 then
    let src := fld (w 2) 34 24
    let old := (s.core c).hands.any (fun h => h.1 == src && h.2.1 == a && h.2.2)
    let s1 := (s.putB (barkSrcAt src) 10 false).updCore c (fun x => { x with hands := x.hands.filter (fun h => h.2.1 != a) })
    match (if !old && !bit (w 1) 24 then s1.selectSource c (fld (w 1) 31 28) else none) with
    | some n =>
      let s2 := (s1.memWrite (a + 16) (leBytes 8 (setFld (w 2) 34 24 n).toNat)).2
      ((s2.memWrite (a + 56) (leBytes 8 s2.now.toNat)).2).commitSource c n
    | none => s1.restoreFrame c w
  else s.restoreFrame c w

/-! ## Reset, start, Watchdog (R330 to R332, R376, R410) -/

/-- The master reset of a core (R331, Table 9.11): its registers return to the reset column, its workspace is
unspecified, its holds are freed by a notice (R410) and Kennel abandons what it ran (R376); a doorbell of its that is withheld
concerns it no longer. -/
def State.coreReset (s : State) (c : Nat) : State :=
  let s1 := { s with freeCtr := s.freeCtr + 1 }
  let s2 := s1.updCore c (fun _ => { wsSeed := s1.freeCtr })
  let s3 := s2.updKen (fun k => { k with heldDb := k.heldDb.map (fun d => if d.origin.toNat = 0x1000 + c then { d with gone := true } else d) })
  (((s3.wdReload c).kenCoreReset c).notice (BitVec.ofNat 16 (0x1000 + c)))

/-- START of a core (R332): true where it takes effect. A core that level 2 isolates is held in RESET (Table 16.3). -/
def State.coreStart (s : State) (c : Nat) : Bool × State :=
  let x := s.core c
  if (x.st = 0 ∨ x.st = 4) ∧ !s.b (shp c + R.pgErrLevel) 2 ∧ s.domOn (152 + c) then
    (true, (s.updCore c (fun x => { x with pc := BitVec.ofNat 48 (s.f (shp c + R.shepStartPc) 47 0) })).setSt c 1)
  else (false, s.fault (shp c) .config)

/-- The WATCHDOG trap is taken between instructions (R322, R329). -/
def State.wdTrapNow (s : State) (c : Nat) : State :=
  let s1 := s.updCore c (fun x => { x with wdTrap := false })
  s1.takeTrap c { vec := .watchdog } (s1.core c).pc

/-- WATCHDOG_EXPIRY (R327 to R330): it acts once the instant of the count's end is past, so that every reload of that instant
comes first (R328, log entry 63). It wakes a core that has no power, which takes the trap or starts again when it has woken
(R459). -/
def State.watchdog (s : State) (c : Nat) : State :=
  if !s.wdDue c then s
    else if !s.b (shp c + R.shepWdogStat) 0 then
      let s1 := (s.wdReload c).putB (shp c + R.shepWdogStat) 0 true
      if !s1.corePowered c then
        (s1.updCore c (fun x => { x with wdTrap := true })).react (.domWake (152 + c))
      else
        let s2 := s1.wakeBark c
        if (s2.core c).inside then s2.updCore c (fun x => { x with wdTrap := true })
        else s2.wdTrapNow c
    else
      let s1 := (s.inc (shp c + R.shepWdogStat) 63 48).coreReset c
      let again := s.b (shp c + R.shepWdog) 2
      let s2 := if !s1.corePowered c then (s1.updCore c (fun x => { x with restart := again })).react (.domWake (152 + c))
        else if again then (s1.coreStart c).2 else s1
      s2.fault (shp c) .timeout

/-- Function reset of BARK page [0] (R389). -/
def State.barkReset (s : State) : State :=
  let s1 := (List.range s.regs.length).foldl (fun (t : State) i =>
    match s.regs[i]? with
    | some e =>
      if pageAt .bark 1 ≤ e.1 ∧ e.1 < pageAt .bark 9 ∧ 0x800 ≤ e.1 % 0x1000 then
        (t.putF e.1 23 16 0).putB e.1 10 false
      else t
    | none => t) s
  (List.range 16).foldl (fun s c => s.updCore c (fun x => { x with hands := x.hands.map (fun h => (h.1, h.2.1, true)) }))
    (s1.resetRegs (pageAt .bark 0) 0x100 0x300)

end Sys2Proof.Machine
end

