-- ==== Sys2Proof/Machine/MemOps.lean ====
section
/-! DEFINITION. Memory requests at their units: the outer code (R429, R430), line reads and writes, page retirement
(R431 to R436), the Shepherd store, and the domains' wakes (R450, R461 to R464). -/

namespace Sys2Proof.Machine

/-! ## GF(2^8) and the outer code (R429) -/

/-- Multiply by α in GF(2^8) with polynomial 0x11D. -/
def gfX (a : Nat) : Nat := if 128 ≤ a % 256 then (a * 2 % 256) ^^^ 0x1D else a * 2 % 256

/-- Product in GF(2^8). -/
def gfMul (a b : Nat) : Nat :=
  ((List.range 8).foldl (fun (p : Nat × Nat) i => (if b.testBit i then p.1 ^^^ p.2 else p.1, gfX p.2)) (0, a)).1

/-- α to a power. -/
def gfPow (n : Nat) : Nat := (List.range n).foldl (fun x _ => gfX x) 1

/-- Inverse in GF(2^8): the 254th power. -/
def gfInv (a : Nat) : Nat :=
  (List.range 253).foldl (fun x _ => gfMul x a) a

/-- The four check bytes of a line (R429): the remainder of D(x) x^4 by g(x), by long division from the highest
coefficient, which is byte 0. -/
def rsParity (d : List Nat) : List Nat :=
  d.foldl (fun r b =>
    match r with
    | [p0, p1, p2, p3] =>
      let f := b ^^^ p0
      [p1 ^^^ gfMul f 0x0F, p2 ^^^ gfMul f 0x36, p3 ^^^ gfMul f 0x78, gfMul f 0x40]
    | r => r) [0, 0, 0, 0]

/-- Exponent of a code byte: data bytes 0 to 63, then check bytes p0 to p3. -/
def rsExp (i : Nat) : Nat := 67 - i

/-- Syndrome k of an error pattern. -/
def rsSyn (e : List (Nat × Nat)) (k : Nat) : Nat :=
  e.foldl (fun s x => s ^^^ gfMul x.2 (gfPow (k * rsExp x.1 % 255))) 0

/-- The pattern of at most two bytes that the decoder takes for the error, or none where it detects an uncorrectable
one (R429, R430): the only such pattern with the syndromes `s0` to `s3`. -/
def rsDecode (s0 s1 s2 s3 : Nat) : Option (List (Nat × Nat)) :=
  if s0 = 0 ∧ s1 = 0 ∧ s2 = 0 ∧ s3 = 0 then some []
  else
    let x (i : Nat) : Nat := gfPow (rsExp i)
    match (List.range 68).find? (fun i => s0 != 0 && gfMul s0 (x i) == s1 && gfMul s1 (x i) == s2 && gfMul s2 (x i) == s3) with
    | some i => some [(i, s0)]
    | none =>
      (List.range 68).findSome? (fun i => (List.range i).findSome? (fun j =>
        let a := gfMul (s1 ^^^ gfMul s0 (x j)) (gfInv (x i ^^^ x j))
        let b := s0 ^^^ a
        let t (k : Nat) (v p : Nat) : Nat := (List.range k).foldl (fun v _ => gfMul v p) v
        if a ≠ 0 ∧ b ≠ 0 ∧ (t 2 a (x i) ^^^ t 2 b (x j)) = s2 ∧ (t 3 a (x i) ^^^ t 3 b (x j)) = s3 then
          some [(i, a), (j, b)] else none))

/-- The error pattern of a line read, one mask for each code byte that differs. -/
def linePattern (e : LineErr) : SMap Nat :=
  e.flips.foldl (fun m f => if f.1 < 68 then SMap.set 0 m f.1 (SMap.get 0 m f.1 ^^^ f.2.toNat) else m) []

/-- What the decoder makes of a line read (Table 13.4): clean, corrected with the bytes that its correction leaves wrong,
or uncorrectable. -/
inductive LineOut | clean | corrected (wrong : List (Nat × Nat)) | bad
deriving DecidableEq, Repr

/-- Decode an error pattern. Up to two bytes are corrected; of three or more the decoder may miscorrect some. -/
def lineOut (m : SMap Nat) : LineOut :=
  if m.isEmpty then .clean
  else if m.length ≤ 2 then .corrected []
  else match rsDecode (rsSyn m 0) (rsSyn m 1) (rsSyn m 2) (rsSyn m 3) with
    | none => .bad
    | some c => .corrected (c.foldl (fun m x => SMap.set 0 m x.1 (SMap.get 0 m x.1 ^^^ x.2)) m)

/-! ## Page retirement (R433 to R435) -/

/-- Page of an HBMC unit. -/
def hbp (u : Nat) : Nat := pageAt .hbmc u

/-- The next page that waits begins its copy into the next free spare (R434). -/
def State.retireNext (s : State) (u : Nat) : State :=
  let h := s.hb u
  match h.copy, h.queue with
  | none, p :: r =>
    let n := h.spares.length + 1
    let s1 := s.updHb u (fun h => { h with spares := h.spares ++ [p], copy := some (p, 0), queue := r })
    ((s1.putB (hbp u + R.hbmcStat) 2 true).putF (hbp u + R.hbmcStat) 28 16 n).putB (hbp u + R.hbmcStat) 3 (n == 4096)
  | _, _ => s

/-- A page qualifies for retirement (R433, R435). A page already retired or waiting does not qualify again (log entry
23). -/
def State.qualify (s : State) (u p : Nat) : State :=
  let h := s.hb u
  if h.spares.contains p || h.queue.contains p then s
  else if 4096 ≤ h.spares.length + h.queue.length then
    (s.inc (hbp u + R.hbmcRetEntry) 63 48).fault (hbp u) .correctable
  else (s.updHb u (fun h => { h with queue := h.queue ++ [p],
                                     tracker := h.tracker.filter (fun t => t.1 != p) })).retireNext u

/-- An outer-code correction in a page is tracked (R433). -/
def State.trackPage (s : State) (u p : Nat) : State :=
  let h := s.hb u
  let tr := match h.tracker.find? (fun t => t.1 == p) with
    | some t => replFirst (fun t => t.1 == p) (fun _ => (p, t.2.1 + 1, s.now)) h.tracker
    | none =>
      if h.tracker.length < 256 then h.tracker ++ [(p, 1, s.now)]
      else
        let old := h.tracker.foldl (fun (b : Option (Nat × Nat × Word)) t => match b with
          | some x => if t.2.2.toNat < x.2.2.toNat then some t else b
          | none => some t) none
        match old with
        | some o => h.tracker.filter (fun t => t.1 != o.1) ++ [(p, 1, s.now)]
        | none => [(p, 1, s.now)]
  let s1 := s.updHb u (fun h => { h with tracker := tr })
  match tr.find? (fun t => t.1 == p) with
  | some t => if s.b (hbp u + R.hbmcCtl) 1 ∧ s.f (hbp u + R.hbmcRetCtl) 7 0 ≤ t.2.1 then s1.qualify u p else s1
  | none => s1

/-- A tracked page without a correction for AGE_MS is dropped (R433). -/
def State.trackerAge (s : State) (u p : Nat) : State :=
  match (s.hb u).tracker.find? (fun t => t.1 == p) with
  | some t =>
    if us * 1000 * s.f (hbp u + R.hbmcRetCtl) 31 16 ≤ dur t.2.2 s.now then
      s.updHb u (fun h => { h with tracker := h.tracker.filter (fun t => t.1 != p) })
    else s
  | none => s

/-- GO of HBMC_RET_ADD (R433). -/
def State.retireAdd (s : State) (u : Nat) : State := s.qualify u (s.f (hbp u + R.hbmcRetAdd) 34 12)

/-! ## Line reads (R430, R436, Table 13.4) -/

/-- Change the errors that stand in a raw line. -/
def State.setErrs (s : State) (u raw : Nat) (m : SMap Nat) : State :=
  if SMap.get [] (s.hb u).errs raw = m then s else s.updHb u (fun h => { h with errs := SMap.set [] h.errs raw m })

/-- An uncorrectable read of a line is counted and raised, and its page is retired (Table 13.4, R433); `a` is its device address. -/
def State.lineUncorr (s : State) (u : Nat) (last : Word) (page : Option Nat) (inj : Bool) : State :=
  let p := hbp u
  let s1 := ((s.inc (p + R.hbmcEccCnt) 47 32).setReg (p + R.hbmcEccLast) last).fault p .uncorrectable inj
  match page with
  | some g => if s1.b (p + R.hbmcCtl) 1 && !inj then s1.qualify u g else s1
  | none => s1

/-- The outcome of a read of a raw line of a stack (Table 13.4): true where its data can be used. `dev` is the device address that
lies there now; HBMC_ECC_LAST of a line that has none is a free value (log entry 24). -/
def State.rawRead (s : State) (u raw : Nat) (dev : Option Nat) (e : LineErr) : Bool × State :=
  let p := hbp u
  let stands := SMap.get [] (s.hb u).errs raw
  let real := stands.foldl (fun m x => SMap.set 0 m x.1 (SMap.get 0 m x.1 ^^^ x.2)) (linePattern e)
  let b0 := s.f (p + R.pgErrInj) 13 5
  let b1 := s.f (p + R.pgErrInj) 22 14
  let (i, s0) := s.injected p 0
  let flip (m : SMap Nat) (b : Nat) : SMap Nat :=
    let k := 64 + b / 8
    SMap.set 0 m k (SMap.get 0 m k ^^^ 2 ^ (b % 8))
  let m := match i with
    | some two => let m1 := flip real b0; if two then flip m1 b1 else m1
    | none => real
  let (at_, s1) : Word × State := match dev with
    | some a => (BitVec.ofNat 64 a, s0)
    | none => let (w, s1) := s0.draw; (BitVec.ofNat 64 (fld w 47 0), s1)
  match lineOut m with
  | .clean => (true, (if e.inner then s1.inc (p + R.hbmcEccCnt) 15 0 else s1).setErrs u raw [])
  | .corrected wrong =>
    let s2 := (s1.inc (p + R.hbmcEccCnt) 31 16).setReg (p + R.hbmcEccLast) at_
    let s3 := match dev with
      | some a => if i.isSome then s2 else
          (wrong.filter (fun (w : Nat × Nat) => decide (w.1 < 64))).foldl (fun (s : State) (w : Nat × Nat) =>
            s.wrByte (a + w.1) (s.byte (a + w.1) ^^^ BitVec.ofNat 8 w.2)) s2
      | none => s2
    let s4 := s3.fault p .correctable i.isSome
    (true, if i.isSome then s4 else match dev with
      | some a => (s4.setErrs u raw []).trackPage u (hbmLocal a / 4096)
      | none => s4.setErrs u raw [])
  | .bad =>
    (false, (if i.isSome then s1 else s1.setErrs u raw m).lineUncorr u (at_ + BitVec.ofNat 64 (2 ^ 48))
      (dev.map (fun a => hbmLocal a / 4096)) i.isSome)

/-- The outcome of a read of the line of an HBM address: true where its data can be used. -/
def State.lineRead (s : State) (a : Nat) (e : LineErr) : Bool × State :=
  let line := a / 64 * 64
  let u := hbmUnit line
  if s.poisoned line then (false, s.inc (hbp u + R.hbmcEccCnt) 63 48)
  else s.rawRead u ((s.hb u).rawLine (hbmLocal line)) (some line) e

/-- An engine has met the errors that stand in the line of an HBM address (Table 13.4). -/
def State.lineMet (s : State) (a : Nat) : State :=
  if (s.errsAt a).isEmpty then s
  else s.lineUncorr (hbmUnit a) (BitVec.ofNat 64 (a + 2 ^ 48)) (some (hbmLocal a / 4096)) false

/-! ## The raw stack (R426, R429, Table 13.2) -/

/-- Code byte `k` of a raw line as it stands: data bytes 0 to 63, then the check bytes p0 to p3, with their errors (R429). None where
no line of a device address lies. -/
def State.codeByte (s : State) (u raw k : Nat) : Option Nat :=
  (s.rawDevice u raw).map (fun a =>
    let d := (List.range 64).map (fun i => (s.byte (a + i)).toNat)
    ((d ++ rsParity d).getD k 0) ^^^ SMap.get 0 (SMap.get [] (s.hb u).errs raw) k)

/-- The byte at a raw address of a stack (Table 13.2): data, check bytes of the data at 0x5_A000_0000 + 4 × (L >> 6) + j, spare pages,
and their check bytes; none in the reserved range and where no line lies. -/
def State.rawByte (s : State) (u r : Nat) : Option Nat :=
  if r < 0x5A0000000 then s.codeByte u (r / 64) (r % 64)
  else if r < 0x5FA000000 then s.codeByte u ((r - 0x5A0000000) / 4) (64 + r % 4)
  else if r < 0x5FB000000 then s.codeByte u (r / 64) (r % 64)
  else if r < 0x5FB100000 then s.codeByte u (0x5FA000000 / 64 + (r - 0x5FB000000) / 4) (64 + r % 4)
  else none

/-- Bits in error in a word of the Shepherd store: of the flips at byte offsets `lo` to `lo` + 7. -/
def wordFlips (e : LineErr) (lo : Nat) : Nat :=
  e.flips.foldl (fun n f => if lo ≤ f.1 ∧ f.1 < lo + 8 then n + (List.range 8).foldl (fun k i => k + b2n (bit f.2 i)) 0 else n) 0

/-- The SEC-DED outcome of a word (R436): more than two bits in error are taken as a double-bit error (log entry 24). -/
def flipsEcc (n : Nat) : Ecc := if n = 0 then .clean else if n = 1 then .corrected else .uncorrectable

/-- One SEC-DED word of the Shepherd store is read (R436): true where its data can be used. -/
def State.sramWord (s : State) (a : Nat) (e : Ecc) : Bool × State :=
  let p := hbp 4
  let (i, s0) := s.injected p 0
  let (r, inj) := injEcc i e
  match r with
  | .clean => (true, s0)
  | .corrected => (true, (s0.inc (p + R.hbmcEccCnt) 15 0).fault p .correctable inj)
  | .uncorrectable =>
    (false, ((s0.inc (p + R.hbmcEccCnt) 47 32).setReg (p + R.hbmcEccLast) (BitVec.ofNat 64 (a / 8 * 8 + 2 ^ 48))).fault p
      .uncorrectable inj)

/-- Words of the Shepherd store, read one after another. -/
def State.sramWords (s : State) (a : Nat) (e : LineErr) (off : Nat) : Nat → Bool × State
  | 0 => (true, s)
  | n + 1 =>
    let (ok, s1) := s.sramWord (a + off) (flipsEcc (wordFlips e off))
    let (ok2, s2) := s1.sramWords a e (off + 8) n
    (ok && ok2, s2)

/-- A unit reads `n` bytes at `a` (8 or 64): the unit's codes judge the access. -/
def State.unitRead (s : State) (a n : Nat) (e : LineErr) : Bool × State :=
  match region a with
  | .hbm => s.lineRead a e
  | .shep => s.sramWords a e 0 (n / 8)
  | _ => (true, s)

/-! ## Requests (R431, R442) -/

/-- A memory request leaves the inbox of its target, where it came over the mesh. -/
def State.takeInbox (s : State) (r : MemReq) : Option InReq × State := s.takeReq r.node r.txid

/-- May core 0 read the boot ROM (Table 13.1)? -/
def State.romOk (s : State) (o : Origin) : Bool := o == 0x1000 && !s.b (pageAt .glb 0 + R.glbBoot) 12

/-- Where a request goes: its node and address, or the status that turns it away (R423, R449). -/
def State.reqTarget (s : State) (a n : Nat) : Nat × Option Status :=
  match region a, region (a + n - 1) with
  | .hbm, .hbm => (unitNode (hbmUnit a), if s.isolated (unitNode (hbmUnit a)) then some .isolated else none)
  | .shep, .shep => (unitNode 4, if s.isolated (unitNode 4) then some .isolated else none)
  | .host, .host => (adapterOf a, if s.hostOk && !s.isolated (adapterOf a) then none else some .isolated)
  | _, _ => (unitNode 4, some .address)

/-- A request that its target serves with `k`, or that is turned away (R423, R449), or that has not come over the mesh and finds
the controller's domain asleep: it is held, and reaches the controller as a packet when the domain is ON (R450). -/
def State.serve (s : State) (r : MemReq) (a n opc : Nat) (k : Nat → Option InReq → State → State) : State :=
  let (q, s0) := s.takeInbox r
  match s.reqTarget a n with
  | (node, some .isolated) =>
    let s1 := if !s.isolated node then s0 else s0.inc (pageAt .noc node + R.nocNiEvt) 47 32
    s1.respond node q r .isolated []
  | (node, some st) => s0.respond node q r st []
  | (node, none) =>
    match q, s.asleep a with
    | none, some u => s.holdFor u r.node 1 opc (.req r opc)
    | _, _ => k node q (s0.visit a .ok)

/-- READ8 and READ64 (R430). -/
def State.memReadReq (s : State) (r : MemReq) (n : Nat) (e : LineErr) : State :=
  let a := r.addr.toNat / n * n
  if region a = .rom then
    let (q, s0) := s.takeInbox r
    if s.romOk r.origin then s0.respond (unitNode 4) q r .ok ((List.range n).map (fun i => Config.romByte (a % 0x10000 + i)))
    else s0.respond (unitNode 4) q r .address []
  else s.serve r a n (if n = 64 then 2 else 1) (fun node q s =>
    match s.unitRead a n e with
    | (true, s1) => s1.respond node q r .ok (s1.bytes a n)
    | (false, s1) => s1.respond node q r .data [])

/-- A write of 8 bytes of which `be` selects some: of a line of HBM it is partial and merges into the line read (R431); a whole
word of the Shepherd store is written without a read (R436). -/
def State.partialWrite (s : State) (a : Nat) (be : Byte) (data : Word) (e : LineErr) : Bool × State :=
  match if region a = .shep ∧ be = 0xFF then (true, s) else s.unitRead a 8 e with
  | (true, s1) =>
    let bs := (List.range 8).map (fun i =>
      if be.getLsbD i then BitVec.ofNat 8 (fld data (8 * i + 7) (8 * i)) else s1.byte (a + i))
    (true, (s1.wrBytes a bs).stored a 8)
  | (false, s1) => (false, s1)

/-- WRITE8. -/
def State.memWrite8 (s : State) (r : MemReq) (e : LineErr) : State :=
  let a := r.addr.toNat / 8 * 8
  s.serve r a 8 3 (fun node q s =>
    match s.partialWrite a r.be r.data e with
    | (true, s1) => s1.respond node q r .ok []
    | (false, s1) => s1.respond node q r .data [])

/-- A whole-line write applies always, and clears the line's poison (R431). -/
def State.lineWrite (s : State) (a : Nat) (line : List Byte) : State :=
  let bs := (List.range 64).map (fun i => line.getD i 0)
  let s1 := (s.wrBytes a bs).stored a 64
  match region a with
  | .hbm => s1.clearPoison a
  | _ => s1

/-- WRITE64. -/
def State.memWrite64 (s : State) (r : MemReq) (line : List Byte) : State :=
  let a := r.addr.toNat / 64 * 64
  s.serve r a 64 4 (fun node q s => (s.lineWrite a line).respond node q r .ok [])

/-- CAS: the operand of size W or D is compared with the expected value and replaced where they are equal; the response
carries the value read (R311, R442). Only HBM and the Shepherd store take it. -/
def State.memCas (s : State) (r : MemReq) (new : Word) (isD : Bool) : State :=
  let n := if isD then 8 else 4
  let a := r.addr.toNat / n * n
  match unitOf a with
  | none => let (q, s0) := s.takeInbox r; s0.respond (unitNode 4) q r .address []
  | some _ => s.serve r a n 5 (fun node q s =>
      match s.unitRead a 8 r.err with
      | (true, s1) =>
        let v := s1.rd a n
        let s2 := if v = fld r.data (8 * n - 1) 0 then (s1.wr a n (fld new (8 * n - 1) 0)).stored a n else s1
        s2.respond node q r .ok (leBytes 8 v)
      | (false, s1) => s1.respond node q r .data [])

/-- PWRITE8 and PWRITE64: posted writes have no response; one that cannot be applied is lost, and an isolated interface
drops and counts it (R431, R442, R449). One for a controller that sleeps is held at its router (R450). -/
def State.postedWrite (s : State) (r : MemReq) (line : Option (List Byte)) : State :=
  let n := match line with | some _ => 64 | none => 8
  let a := r.addr.toNat / n * n
  match s.reqTarget a n with
  | (node, some .isolated) => if !s.isolated node then s else s.inc (pageAt .noc node + R.nocNiEvt) 63 48
  | (_, some _) => s
  | (_, none) =>
    match s.asleep a, line with
    | some u, _ => s.holdFor u r.node 3 (if line.isSome then 2 else 1) (.posted r line)
    | none, some l => (s.visit a .ok).lineWrite a l
    | none, none => ((s.visit a .ok).partialWrite a r.be r.data r.err).2

/-! ## Scrubbing and copying (R432, R434, R436) -/

/-- HBM_SCRUB: the scrubber reads a data line or, from line 22.5 GiB / 64 on, a line of a spare, in use or not (R432). -/
def State.hbmScrub (s : State) (u line : Nat) (e : LineErr) : State :=
  let raw := if line < 377487360 then line else 0x5FA000000 / 64 + (line - 377487360)
  if !s.b (hbp u + R.hbmcCtl) 0 || decide (377487360 + 262144 ≤ line) then s
  else match s.rawDevice u raw with
    | some a => (s.lineRead a e).2
    | none => (s.rawRead u raw none e).2

/-- SRAM_SCRUB of a word of the Shepherd store (R436). -/
def State.sramScrub (s : State) (a : Nat) (e : Ecc) : State := (s.sramWord (shepBase + a % 0x800000) e).2

/-- RETIRE_COPY_LINE: the next line of the page under copy (R434). -/
def State.retireCopy (s : State) (u : Nat) (e : LineErr) : State :=
  match (s.hb u).copy with
  | none => s
  | some (p, k) =>
    let (ok, s1) := s.lineRead (hbmDevice u (4096 * p + 64 * k)) e
    let i := ((s1.hb u).spares.findIdx? (fun q => q == p)).getD 0
    let s2 := s1.updHb u (fun h => { h with
      poison := if ok then h.poison else h.poison ++ [i * 64 + k],
      copy := if k = 63 then none else some (p, k + 1) })
    if k = 63 then (s2.putB (hbp u + R.hbmcStat) 2 false).retireNext u else s2

/-! ## Function reset of an HBMC page (R411, R456) -/

/-- Its holds are freed as R410 does, its waiters discarded, and its registers return to their reset values; the list of
retired pages stays (R435), and so do the fields that show the stack. -/
def State.hbmcReset (s : State) (u : Nat) : State :=
  let st := s.reg (hbp u + R.hbmcStat)
  let s1 := ({ s with waiters := s.waiters.filter (fun w => w.unit != u) }).semFreeAll u (fun _ _ => true)
  ((s1.resetRegs (hbp u) 0x100 0x140).resetRegs (hbp u) 0x800 0x820).setReg (hbp u + R.hbmcStat) st

end Sys2Proof.Machine
end

