-- ==== Sys2Proof/Machine/StreamOps.lean ====
section
/-! DEFINITION. Pattern streams and Plates (chapter 5): EMIT words, placing and releasing positions, the per-port
transform, prefill, the Burin stage and its credits (chapter 7), underrun, ending and stopping. -/

namespace Sys2Proof.Machine

/-! ## Registers and state -/

/-- Page of a hub. -/
def hp (h : Nat) : Nat := pageAt .hub h
/-- Page of a port. -/
def pp (p : Nat) : Nat := pageAt .port p
/-- Offset of a Plate register of a port (R193). -/
def plt (p o : Nat) : Nat := hp (p / 4) + o + 0x40 * (p % 4)

/-- A stream engine. -/
def State.hub (s : State) (h : Nat) : Hub := SMap.get {} s.hubs h
/-- Change a stream engine. -/
def State.updHub (s : State) (h : Nat) (g : Hub → Hub) : State := { s with hubs := SMap.set {} s.hubs h (g (s.hub h)) }
/-- A Plate. -/
def State.plate (s : State) (p : Nat) : Plate := SMap.get {} s.plates p
/-- Change a Plate. -/
def State.updPlate (s : State) (p : Nat) (g : Plate → Plate) : State :=
  { s with plates := SMap.set {} s.plates p (g (s.plate p)) }

/-- STATE of a stream: 0 IDLE, 1 PREFILL, 2 RUNNING, 3 STOPPED, 4 ENDED. -/
def State.strm (s : State) (h : Nat) : Nat := s.f (hp h + R.hubStrmStat) 2 0
/-- Is the stream in PREFILL or RUNNING? -/
def State.strmLive (s : State) (h : Nat) : Bool := s.strm h == 1 || s.strm h == 2
/-- STATE of a Plate: 0 IDLE, 1 PREFILL, 2 RUNNING, 3 ENDED. -/
def State.pst (s : State) (p : Nat) : Nat := s.f (plt p R.hubPltStat) 18 16
/-- Set STATE of a Plate. -/
def State.setPst (s : State) (p v : Nat) : State := s.putF (plt p R.hubPltStat) 18 16 v
/-- Set the stream's INVALID. -/
def State.invalid (s : State) (h : Nat) : State := s.putB (hp h + R.hubStrmStat) 3 true
/-- COUNT of a stream (R184). -/
def State.strmCount (s : State) (h : Nat) : Nat := (s.reg (hp h + R.hubStrmCount)).toNat
/-- Vector index of the next word of a stream (R174). -/
def State.strmIndex (s : State) (h : Nat) : Nat := (s.reg (hp h + R.hubStrmIndex)).toNat
/-- Has the stream's last position been released? -/
def State.strmAll (s : State) (h : Nat) : Bool := s.strmCount h != 0 && decide (s.strmCount h ≤ s.strmIndex h)
/-- The Plates that take words from a stream now: those that selected it at its RUN and have taken no other since, in
ascending port order (R162). -/
def State.fed (s : State) (h : Nat) : List Nat := (s.hub h).sel.filter (fun p => (s.plate p).feed == some h)
/-- Current run of a port. -/
def State.run (s : State) (p : Nat) : Nat := s.f (pp p + R.portLnkStat) 47 32
/-- Generation of a port. -/
def State.portGen (s : State) (p : Nat) : Nat := s.f (pp p + R.portLnkSwitch) 15 0
/-- Link STATE of a port: 0 DISABLED, 1 TRAIN, 2 READY, 3 GO, 4 UP, 5 LOST. -/
def State.lnk (s : State) (p : Nat) : Nat := s.f (pp p + R.portLnkStat) 2 0
/-- Is a port a Bamior link (R258)? -/
def State.bamior (s : State) (p : Nat) : Bool := s.b (pp p + R.portLnkCtl) 1

/-- BRC_STAT.ROLE: 0 UNBRACED, 1 ACTIVE, 2 STANDBY, 3 SOLO, 4 SYNCING, 5 DEPOSED, 6 TAKING (Table 15.2). -/
def State.brcRole (s : State) : Nat := s.f (pageAt .brc 0 + R.brcStat) 2 0

/-- The ROLE code of a SYNC block: 0 UNBRACED, 1 SOLO, ACTIVE or TAKING, 2 otherwise (R483). -/
def State.syncRole (s : State) : Nat :=
  match s.brcRole with | 0 => 0 | 1 | 3 | 6 => 1 | _ => 2

/-- A control block waits for its block time (R236); an ABORT goes ahead of the others. A twin that does not drive sends
neither READY nor SWITCH (Table 15.2). -/
def State.ctlBlock (s : State) (p : Nat) (b : DBlock) : State :=
  match b with
  | .abort _ => s.updPort p (fun x => { x with ctlq := b :: x.ctlq })
  | .ready _ _ _ | .switch _ =>
    if s.syncRole = 2 ∨ s.brace.fenced then s else s.updPort p (fun x => { x with ctlq := x.ctlq ++ [b] })
  | _ => s.updPort p (fun x => { x with ctlq := x.ctlq ++ [b] })

/-! ## The transform (R160, R166) -/

/-- The LEVEL bits of a vector word. -/
def levels (w : Word) : Nat := (List.range 32).foldl (fun n c => n + b2n (bit w (2 * c)) * 2 ^ c) 0

/-- A vector word with other LEVEL bits. -/
def withLevels (w : Word) (lv : Nat) : Word :=
  (List.range 32).foldl (fun w c => setBit w (2 * c) (lv.testBit c)) w

/-- plate_in (R166). -/
def State.plateIn (s : State) (p : Nat) (w : Word) : Word :=
  let c := s.reg (plt p R.hubPltCtl)
  let c0 := fld c 28 24
  let cw := fld c 35 32
  let lv := BitVec.ofNat 32 (levels w)
  let lv1 := if 0 < cw then
      setFld lv (c0 + cw - 1) c0 (SMap.get 0 (s.plate p).scr (fld lv (c0 + cw - 1) c0))
    else lv
  let bg := s.reg (plt p R.hubPltBg)
  let lv2 := lv1 ^^^ BitVec.ofNat 32 (fld bg 31 0)
  let lv3 := if bit c 6 then lv2 ^^^ BitVec.ofNat 32 (fld bg 63 32) else lv2
  withLevels w lv3.toNat

/-! ## Plates: underrun, running, ending (R180, R184, R188 to R190) -/

/-- Void accounting (R188): VOIDS, UNDERRUN, INVALID, and at the first void of the run UR_IDX, UR_CAUSE and, unless the
device is in the safe state, the HUB fault. -/
def State.void (s : State) (p cause : Nat) (idx : Word) (flt : Bool) : State :=
  let o := plt p R.hubPltStat
  let s1 := (s.tallyUp (0x2001 + 4 * p)).inc o 63 32
  let s2 := match (s.plate p).feed with | some h => s1.invalid h | none => s1
  if s.b o 19 then s2
  else
    let s3 := ((s2.putB o 19 true).putF o 23 20 cause).setReg (plt p R.hubPltUrIdx) idx
    if flt then s3.fault (hp (p / 4)) (if cause = 3 then .uncorrectable else .timeout) else s3

/-- A stream that has finished leaves for ENDED once every Plate of its run has ended (R184, R185). -/
def State.strmEnd (s : State) (h : Nat) : State :=
  if (s.strm h == 3 || (s.strmLive h && s.strmAll h)) && (s.fed h).all (fun p => s.pst p == 0 || s.pst p == 3) then
    s.putF (hp h + R.hubStrmStat) 2 0 4
  else s

/-- A Plate ends: END to the pin slice unless it ends silently (R184, R185, R190). -/
def State.plateEnd (s : State) (p : Nat) (stopped silent : Bool) : State :=
  let x := s.plate p
  let inv := match x.feed with | some h => s.b (hp h + R.hubStrmStat) 3 | none => stopped
  let s1 := if silent then s else s.ctlBlock p (.fin x.idx stopped inv (s.run p))
  let s2 := (s1.setPst p 3).updPlate p (fun x => { x with words := [], ready := false, abort := false, stop := stopped })
  match x.feed with
  | some h => s2.strmEnd h
  | none => s2

/-- Does the device drive its pin slices: not as a STANDBY (R182), nor after a braced level 3 or a fence (R525)? -/
def State.leads (s : State) : Bool := s.syncRole != 2 && !s.brace.fenced

/-- A Plate becomes RUNNING and its port sends READY (R180, R241). -/
def State.plateRun (s : State) (p : Nat) : State :=
  let s1 := (s.setPst p 2).ctlBlock p (.ready 0 (s.run p) (s.portGen p))
  ((s1.setReg (pp p + R.portLnkSent) 0).setReg (pp p + R.portLnkCred) 0)
    |>.updPlate p (fun x => { x with ready := s.leads }) |>.updPort p (fun x => { x with credLog := [] })

/-- STATE of the stream follows its Plates: RUNNING once none of them is in PREFILL. A stream that no Plate selects stays in
PREFILL until it stops (log entry 32). -/
def State.strmUpd (s : State) (h : Nat) : State :=
  if s.strm h == 1 && !(s.fed h).any (fun p => s.pst p == 1) && !(s.fed h).isEmpty then
    s.putF (hp h + R.hubStrmStat) 2 0 2
  else s

/-- Plates in PREFILL that have reached PREFILL words, or whose stream's last position is released, become RUNNING
(R180). -/
def State.prefill (s : State) (h : Nat) : State :=
  ((s.fed h).foldl (fun s p =>
    if s.pst p = 1 ∧ (s.f (plt p R.hubPltCtl) 21 8 ≤ (s.plate p).words.length ∨ s.strmAll h) then s.plateRun p else s) s)
    |>.strmUpd h

/-! ## Placing words (R163, R173 to R175, R178) -/

/-- Room for one more position in every Plate of the stream (R163, R179). -/
def State.strmRoom (s : State) (h n : Nat) : Bool :=
  (s.fed h).all (fun p => s.pst p == 3 || s.pst p == 0 ||
    decide ((s.plate p).words.length + (s.hub h).ahead.length + n ≤ 8192))

/-- Drop the words of a STANDBY's Plate up to a consumed index (R182). -/
def Plate.dropTo (x : Plate) : Nat → Nat → Plate
  | 0, _ => x
  | n + 1, upTo =>
    match x.words with
    | [] => x
    | .mask m :: r => { x with words := r, maskNow := m }.dropTo n upTo
    | .badMask :: r => { x with words := r, maskNow := BitVec.allOnes 32 }.dropTo n upTo
    | _ :: r => if x.idx.toNat < upTo then { x with words := r, idx := x.idx + 1 }.dropTo n upTo else x

/-- Step 3 of Table 7.9: READY from an index, then the mask in force and the words from there. Words before the index
are dropped. -/
def State.resumeAt (s : State) (p : Nat) (index : Word) : State :=
  let s1 := s.updPlate p (fun x => let y := x.dropTo x.words.length index.toNat
    { y with first := true, ready := true, idx := if y.idx.toNat < index.toNat then index else y.idx })
  let s2 := (s1.setReg (pp p + R.portLnkSent) 0).setReg (pp p + R.portLnkCred) 0
  (s2.updPort p (fun x => { x with credLog := [], resumeIdx := none, readied := true })).ctlBlock p (.ready index (s.run p) (s.portGen p))

/-- A port whose RESUME waits for the word at its index resumes once the Plate holds that word (Table 15.3). -/
def State.resumeTry (s : State) (p : Nat) : State :=
  match (s.port p).resumeIdx with
  | none => s
  | some i =>
    let y := (s.plate p).dropTo (s.plate p).words.length i.toNat
    if s.pst p == 2 && (!y.words.isEmpty || (s.plate p).stop || (match (s.plate p).feed with | some h => s.strmAll h | none => true))
    then s.resumeAt p i else s

/-- Put a word into the Plate of a port, in PREFILL or RUNNING. -/
def State.platePush (s : State) (p : Nat) (w : PWord) : State :=
  if s.pst p = 1 ∨ s.pst p = 2 then
    State.resumeTry (p := p) <| s.updPlate p (fun x => { x with words := x.words ++ [match w with
      | .vec v => .vec (s.plateIn p v)
      | .mask m => .mask (m ||| BitVec.ofNat 32 (s.f (plt p R.hubPltCmask) 31 0))
      | w => w] })
  else s

/-- The index token of an EMIT node, and the credit that returns to its tile (R171, R174): in ITERATION mode both at the release of
the position, since R185 and R583 still return the credits of positions placed and not released (log entry 32). -/
def State.emitAnswer (s : State) (h : Nat) (e : EmitWord) (v : Word) (exc : Bool) : State :=
  (s.outTo e.tile e.f.slot e.f.x.tag 0 v (e.f.outCtl tyUint64 false exc)).updHub h
    (fun x => { x with returns := SMap.set 0 x.returns e.tile (SMap.get 0 x.returns e.tile + 1) })

/-- Refuse a word (R175), counted in a field of HUB_STRM_EVT. -/
def State.strmRefuse (s : State) (h : Nat) (e : EmitWord) (hi lo : Nat) (inv : Bool) : State :=
  let s1 := (s.emitAnswer h e (BitVec.allOnes 64) true).inc (hp h + R.hubStrmEvt) hi lo
  if inv then s1.invalid h else s1

/-- The vector count is reached: every word that waits or stands ahead of NEXT is refused (R175). -/
def State.strmFull (s : State) (h : Nat) : State :=
  let x := s.hub h
  (x.ahead.map (fun a => a.2) ++ x.ingress).foldl (fun s e => s.strmRefuse h e 63 48 false)
    (s.updHub h (fun y => { y with ahead := [], ingress := [] }))

/-- Release a position: the word goes to every Plate of the stream and takes its index (R174, R178). With the last position,
the words that wait are refused (R175). -/
def State.strmRelease (s : State) (h : Nat) (e : EmitWord) : State :=
  if s.strmAll h then s.strmRefuse h e 63 48 false else
  let i := s.reg (hp h + R.hubStrmIndex)
  let w : PWord := if e.mask then (if e.void then .badMask else .mask (BitVec.ofNat 32 (fld e.f.x.value 31 0)))
    else if e.void then .void 4 else .vec e.f.x.value
  let s1 := (s.fed h).foldl (fun s p => s.platePush p w) s
  let s2 := if e.mask then s1 else s1.setReg (hp h + R.hubStrmIndex) (i + 1)
  let s3 := (s2.emitAnswer h e i false).prefill h
  if s3.strmAll h then s3.strmFull h else s3

/-- Words ready and not yet sent (R of R173). -/
def State.strmReady (s : State) (h : Nat) : Nat :=
  (s.fed h).foldl (fun n p => max n (s.plate p).words.length) 0

/-- Release the positions that follow NEXT without a hole (R173); `n` bounds them. -/
def State.strmAdvance (s : State) (h : Nat) : Nat → State
  | 0 => s
  | n + 1 =>
    match takeFirst (fun a => a.1 == (s.hub h).next) (s.hub h).ahead with
    | some (a, r) =>
      ((s.updHub h (fun x => { x with ahead := r, next := (x.next + 1) % 2 ^ 24 })).strmRelease h a.2).strmAdvance h n
    | none => s

/-- Is the stream's order ITERATION? -/
def State.iterMode (s : State) (h : Nat) : Bool := s.b (hp h + R.hubStrmCtl) 3

/-- Where a word stands: refused with the field that counts it and whether it invalidates the stream, placed, or
waiting in the ingress buffer (R172, R173, R175). A word of a position already placed ahead is a repeated position. -/
inductive EmitRes | refuse (hi lo : Nat) (inv : Bool) | place | wait
deriving DecidableEq, Repr

/-- Decide on an EMIT word. -/
def State.emitDecide (s : State) (h : Nat) (e : EmitWord) (first : Bool) : EmitRes :=
  let c := hp h
  if !s.strmLive h || s.f (c + R.hubStrmCtl) 2 1 != 0 || s.strmAll h then .refuse 63 48 false
  else if s.b (c + R.hubStrmCtl) 5 && tCtx e.f.x.tag != s.f (c + R.hubStrmCtx) 15 0 then .refuse 47 32 false
  else if s.iterMode h then
    let i := tIter e.f.x.tag
    let d := (i + 2 ^ 24 - (s.hub h).next) % 2 ^ 24
    if 2 ^ 23 ≤ d ∨ (s.hub h).ahead.any (fun a => a.1 == i) then .refuse 15 0 true
    else if 8192 ≤ d then .refuse 31 16 true
    else if s.strmReady h + d < 8192 ∧ s.strmRoom h 1 then .place else .wait
  else if first && s.strmRoom h 1 then .place else .wait

/-- The gauge source ACCEPT counts a position placed (Table 5.6). -/
def State.accepts (s : State) (h : Nat) : State := s.tallyUp (0x2180 + 4 * h)

/-- Place a word that `emitDecide` lets in: the acceptance is an activity of its context (R143, Table 5.6). -/
def State.emitPlace (s : State) (h : Nat) (e : EmitWord) : State :=
  let s := (s.accepts h).touch (tCtx e.f.x.tag)
  if s.iterMode h then
    let s1 := s.updHub h (fun x => { x with ahead := x.ahead ++ [(tIter e.f.x.tag, e)] })
    s1.strmAdvance h (s1.hub h).ahead.length
  else s.strmRelease h e

/-- EMIT_WORD_ARRIVE: the hub takes the oldest word of a tile that has reached it (R172 to R175). -/
def State.emitArrive (s : State) (h t : Nat) : State :=
  match takeFirst (fun e => e.tile == t) (s.hub h).flight with
  | none => s
  | some (e, r) =>
    let s1 := s.updHub h (fun x => { x with flight := r })
    match s1.emitDecide h e (s1.hub h).ingress.isEmpty with
    | .refuse hi lo inv => s1.strmRefuse h e hi lo inv
    | .place => s1.emitPlace h e
    | .wait => s1.updHub h (fun x => { x with ingress := x.ingress ++ [e] })

/-- INGRESS_PLACE: the first word of the ingress buffer that need not wait is placed or refused (R173). -/
def State.ingressPlace (s : State) (h : Nat) : State :=
  match takeFirst (fun e => s.emitDecide h e ((s.hub h).ingress.head? == some e) != .wait) (s.hub h).ingress with
  | none => s
  | some (e, r) =>
    let s1 := s.updHub h (fun x => { x with ingress := r })
    match s.emitDecide h e ((s.hub h).ingress.head? == some e) with
    | .refuse hi lo inv => s1.strmRefuse h e hi lo inv
    | .place => s1.emitPlace h e
    | .wait => s

/-- Is the stream's layout per-port? -/
def State.perPort (s : State) (h : Nat) : Bool := s.b (hp h + R.hubStrmCtl) 4

/-- The Plate of flat position `n` in the per-port layout, the (n mod m)-th of the record's m ports in ascending order, while
it takes the stream's words (R176). -/
def State.portOf (s : State) (h n : Nat) : Option Nat :=
  match (s.hub h).sel[n % (s.hub h).sel.length]? with
  | some p => if (s.plate p).feed == some h then some p else none
  | none => none

/-- One stored word at flat position `n` of the stream: to every Plate, or in the per-port layout to its own (R176, R178). -/
def State.storedWord (s : State) (h n : Nat) (w : PWord) : State :=
  let m := (s.hub h).sel.length
  let s0 := s.updHub h (fun x => { x with fetch := n + 1 })
  if s.perPort h then
    let s1 := match s.portOf h n with | some p => s0.platePush p w | none => s0
    if n % m = m - 1 then (s1.setReg (hp h + R.hubStrmIndex) (BitVec.ofNat 64 (n / m + 1))).accepts h else s1
  else
    (((s.fed h).foldl (fun s p => s.platePush p w) s0).setReg (hp h + R.hubStrmIndex) (BitVec.ofNat 64 (n + 1))).accepts h

/-- Positions of a stored stream in all: in the per-port layout COUNT for each of its ports (R177). -/
def State.storedTotal (s : State) (h : Nat) : Nat :=
  s.strmCount h * (if s.perPort h then (s.hub h).sel.length else 1)

/-- Is there room for the stored word at flat position `n` (R163, R177)? -/
def State.storedRoom (s : State) (h n : Nat) : Bool :=
  if s.perPort h then
    match s.portOf h n with
    | some p => s.pst p == 3 || s.pst p == 0 || decide ((s.plate p).words.length < 8192)
    | none => true
  else s.strmRoom h 1

/-- Does a stored stream place a word now: live, not all fetched, and room for the next word (R163, R177)? -/
def State.storedDue (s : State) (h : Nat) : Bool :=
  s.strmLive h && s.f (hp h + R.hubStrmCtl) 2 1 == 1 && decide ((s.hub h).fetch < s.storedTotal h) &&
    s.storedRoom h (s.hub h).fetch

/-- Address of the line that holds the next word of a stored stream. -/
def State.storedAddr (s : State) (h : Nat) : Nat := s.f (hp h + R.hubStrmSrc) 47 12 * 4096 + 64 * ((s.hub h).fetch / 8)

/-- Place the words of a line at `a` as far as there is room; `n` bounds them. -/
def State.storedWords (s : State) (h a : Nat) (bad : Bool) : Nat → State
  | 0 => s
  | n + 1 =>
    if s.storedDue h then
      let i := (s.hub h).fetch
      (s.storedWord h i (if bad then .void 3 else .vec (s.rd64 (a + 8 * (i % 8))))).storedWords h a bad n
    else s

/-- The status with which the stream exchange answers a line: it is a path outside the mesh, which no isolated interface closes
(R427). -/
def State.exchange (s : State) (a : Nat) : Status :=
  match region a, region (a + 63) with
  | .hbm, .hbm => if s.lineBad a then .data else .ok
  | _, _ => .address

/-- The round trip of a line's fetch, in ns, is a sample of FETCH_RTT (Table 5.6). How long a fetch takes the spec does not say: it is
a free value where a gauge watches the source. -/
def State.fetchRtt (s : State) (h : Nat) : State :=
  if (s.gaugesOn (0x2181 + 4 * h)).isEmpty then s else let (w, s1) := s.draw; s1.sampleAt (0x2181 + 4 * h) (fld w 31 0)

/-- STORED_LINE_RETURN: the next 64-byte line reaches the engine, which places its words as far as its Plates have room;
uncorrectable data or an error response makes each of them a void word (R176 to R178). -/
def State.storedLine (s : State) (h : Nat) (ecc : Ecc) : State :=
  if s.storedDue h then
    let a := s.storedAddr h
    let bad := ecc == .uncorrectable || s.exchange a != .ok
    (((s.visit a (s.exchange a) 64).fetchRtt h).storedWords h a bad (8 - (s.hub h).fetch % 8)).prefill h
  else s

/-! ## RUN and stop (R168, R185, R186) -/

/-- Does level 2 of a port, or of its hub, hold its link as with EN = 0 and its Plate out of streams (Table 16.3)? -/
def State.portHeld (s : State) (p : Nat) : Bool := s.b (pp p + R.pgErrLevel) 2 || s.b (hp (p / 4) + R.pgErrLevel) 2

/-- The ports whose Plates select a stream (R162): a Bamior port has none (R165), and one held at level 2 is left out (Table 16.3,
log entry 32). -/
def State.selecting (s : State) (h : Nat) : List Nat :=
  (List.range 96).filter (fun p => s.b (plt p R.hubPltCtl) 5 && s.f (plt p R.hubPltCtl) 4 0 == h && !s.portHeld p && !s.bamior p)

/-- May RUN = 1 take effect (R186)? -/
def State.runOk (s : State) (h : Nat) : Bool :=
  (s.strm h == 0 || s.strm h == 4) && (s.selecting h).all (fun p => s.pst p == 0 || s.pst p == 3) &&
    !s.b (hp h + R.pgErrLevel) 2

/-- RUN := 1 (R186): the stream and its Plates start afresh in PREFILL; the run number of a port whose link is UP advances: it
counts the runs since link up (Table 7.3). -/
def State.strmRun (s : State) (h : Nat) : State :=
  let sel := s.selecting h
  let s1 := (s.setReg (hp h + R.hubStrmIndex) 0).putF (hp h + R.hubStrmStat) 3 0 1
  let s2 := s1.updHub h (fun x => { x with ingress := [], ahead := [], next := s.f (hp h + R.hubStrmCtx) 47 24,
                                           fetch := 0, sel := sel })
  sel.foldl (fun s p =>
    let o := plt p R.hubPltStat
    let s1 := ((((s.setPst p 1).putB o 19 false).putF o 23 20 0).setReg (plt p R.hubPltUrIdx) (BitVec.allOnes 64)).setReg
      (plt p R.hubPltCons) (BitVec.allOnes 64)
    (if s.lnk p = 4 then s1.putF (pp p + R.portLnkStat) 47 32 (s.run p + 1) else s1).updPlate p (fun x =>
      { scr := x.scr, maskNow := BitVec.ofNat 32 (s.f (plt p R.hubPltCmask) 31 0), first := true, feed := some h })) s2

/-- A Plate of a stopped stream (R185): empty in PREFILL it ends at once without READY, with words it runs, and ends
when it has sent them. -/
def State.plateStop (s : State) (p : Nat) : State :=
  let s1 := s.updPlate p (fun x => { x with stop := true })
  if s.pst p = 1 then (if (s.plate p).words.isEmpty then s1.plateEnd p true false else s1.plateRun p)
  else if s.pst p = 2 ∧ (s.plate p).words.isEmpty then s1.plateEnd p true false
  else s1

/-- A stream takes no more words (R175, R185): those ahead of NEXT are discarded and their credits return; waiting words
are refused. -/
def State.strmHalt (s : State) (h : Nat) : State :=
  let x := s.hub h
  let s1 := (s.putF (hp h + R.hubStrmStat) 2 0 3).invalid h
  let back (m : SMap Nat) : SMap Nat :=
    x.ahead.foldl (fun m a => SMap.set 0 m a.2.tile (SMap.get 0 m a.2.tile + 1)) m
  let s2 := s1.updHub h (fun y => { y with ahead := [], ingress := [], returns := back y.returns })
  x.ingress.foldl (fun s e => s.strmRefuse h e 63 48 false) s2

/-- Stop a stream (R185): it takes no more words and its Plates drain. -/
def State.strmStop (s : State) (h : Nat) : State :=
  if s.strmLive h then ((s.fed h).foldl (fun s p => s.plateStop p) (s.strmHalt h)).strmEnd h else s

/-- SCRAMBLE_WRITE's effect: WRITE stores SCR[INDEX] := DATA and INDEX advances; else only INDEX is set
(Table 5.5). -/
def State.scrWrite (s : State) (p : Nat) (data : Word) : State :=
  let o := plt p R.hubPltScr
  let i := fld data 11 0
  if bit data 31 then
    (s.updPlate p (fun x => { x with scr := SMap.set 0 x.scr i (fld data 27 16) })).setReg o (BitVec.ofNat 64 ((i + 1) % 4096))
  else s.setReg o (BitVec.ofNat 64 i)

/-- Function reset of a HUB page (R583). -/
def State.hubReset (s : State) (h : Nat) : State :=
  let x := s.hub h
  let s1 := (x.ingress ++ x.ahead.map (fun a => a.2)).foldl (fun s e => s.emitAnswer h e (BitVec.allOnes 64) true) s
  let own : List Nat := (List.range 4).map (fun i => 4 * h + i)
  let s2 := (s.fed h).foldl (fun s p => if own.contains p then s else
      (s.updPlate p (fun y => { y with feed := none })).plateStop p) s1
  let s3 := own.foldl (fun s p =>
      let s' := if (s.plate p).ready then s.ctlBlock p (.fin (s.plate p).idx true true (s.run p)) else s
      let f := (s.plate p).feed
      let s'' := (s'.updPlate p (fun _ => {})).setPst p 0
      match f with | some g => if g = h then s'' else s''.strmEnd g | none => s'') s2
  (s3.updHub h (fun y => { flight := y.flight, returns := y.returns, swapAt := y.swapAt, acked := y.acked })).resetRegs (hp h) 0x100 0x240

/-! ## The safe state (R190, R524) -/

/-- Level-3 entry: every Plate's contents are discarded; a RUNNING Plate with a link that is UP goes on with void words,
others end without a word (R190). -/
def State.platesSafe (s : State) : State :=
  s.plates.foldl (fun s e =>
    let p := e.1
    let h := (s.plate p).feed
    let s0 := s.updPlate p (fun x => { x with words := [] })
    let inv (s : State) : State := match h with | some h => s.invalid h | none => s
    if s.pst p = 2 then
      (if s.lnk p = 4 then s0.updPlate p (fun x => { x with abort := true }) else (inv s0).plateEnd p true true)
    else if s.pst p = 1 then (inv s0).plateEnd p true true
    else s0) s

/-! ## The Burin stage (R181, R182, R187, R238) -/

/-- Credits available and not used (R238). -/
def State.avail (s : State) (p : Nat) : Nat := (s.reg (pp p + R.portLnkCred) - s.reg (pp p + R.portLnkSent)).toNat

/-- Has the credit of slot `n` of the run reached its deadline at block time `now` (R238)? -/
def State.slotDue (s : State) (p n now : Nat) : Bool :=
  match (s.port p).credLog.find? (fun e => decide (n ≤ e.1)) with
  | some e => decide (e.2 + s.f (pp p + R.portLnkCtl) 17 8 ≤ now)
  | none => false

/-- The words that a Plate would send next: the first mask slot of a run, then its words (R160). -/
def Plate.line (x : Plate) : List PWord := (if x.first then [.mask x.maskNow] else []) ++ x.words

/-- Is a stream lowered under class 3 (R468)? -/
def State.capped (s : State) (h : Nat) : Bool := s.b (pageAt .pwr 0 + R.pwrCapStat) h

/-- Does a tile feed a stream (PWR_TILE_MAP.STREAMS)? -/
def State.feeds (s : State) (t h : Nat) : Bool := s.b (pageAt .pwr 1 + R.pwrTileMap + 8 * t) h

/-- Does the power cap hold some tile of the stream's placement below 750 mV: one that feeds a stream lowered under class 3
(R189, R468)? -/
def State.capHolds (s : State) (h : Nat) : Bool :=
  (List.range 24).any s.capped && (List.range 128).any (fun t =>
    s.feeds t h && decide (s.f (domAt t) 41 32 < 750) && (List.range 24).any (fun g => s.feeds t g && s.capped g))

/-- Cause of a gap (R189). -/
def State.gapCause (s : State) (p : Nat) : Nat :=
  match (s.plate p).feed with
  | some h =>
    if s.capHolds h then 5
    else if s.iterMode h && !(s.hub h).ahead.isEmpty then 2 else 1
  | none => 1

/-- One slot of a run is sent: the slot's kind and contents, and the state after it. A Plate that has sent its last
word ends (R184, R185). -/
def State.sendSlot (s : State) (p : Nat) : Option ((Nat × Word) × State) :=
  let x := s.plate p
  let sent (s : State) : State := s.setReg (pp p + R.portLnkSent) (s.reg (pp p + R.portLnkSent) + 1)
  let fin (s : State) : State :=
    let y := s.plate p
    match y.feed with
    | some h => if s.strmCount h ≠ 0 ∧ y.idx.toNat = s.strmCount h then s.plateEnd p (s.strm h == 3) false
        else if y.stop ∧ y.words.isEmpty then s.plateEnd p true false else s
    | none => if y.words.isEmpty then s.plateEnd p true false else s
  if x.abort then none
  else if x.first then
    some ((2, x.maskNow.zeroExtend 64), sent (s.updPlate p (fun y => { y with first := false })))
  else match x.words with
    | [] => none
    | w :: r =>
      let s0 := sent (s.updPlate p (fun y => { y with words := r }))
      match w with
      | .vec v => some ((1, v), fin (s0.updPlate p (fun y => { y with idx := y.idx + 1 })))
      | .mask m => some ((2, m.zeroExtend 64), fin (s0.updPlate p (fun y => { y with maskNow := m })))
      | .void c => some ((4, 0), fin ((s0.void p c x.idx true).updPlate p (fun y => { y with idx := y.idx + 1 })))
      | .badMask =>
        some ((2, 0xFFFFFFFF), fin ((s0.void p 4 x.idx true).updPlate p (fun y => { y with maskNow := BitVec.allOnes 32 })))

/-- A GAP slot (R187), or a void of the safe state (R190). -/
def State.sendGap (s : State) (p : Nat) : State :=
  let s1 := s.setReg (pp p + R.portLnkSent) (s.reg (pp p + R.portLnkSent) + 1)
  let x := s.plate p
  if x.abort then s1.void p 1 x.idx false else s1.void p (s.gapCause p) x.idx true

/-- Fill up to `n` slots of a SLOTS block (R238). In the safe state every credit is answered with a void (R190). -/
def State.fillSlots (s : State) (p now : Nat) : Nat → List (Nat × Word) × State
  | 0 => ([], s)
  | n + 1 =>
    if s.pst p ≠ 2 then ([], s) else
    match s.sendSlot p with
    | some (w, s1) => let (r, s2) := s1.fillSlots p now n; (w :: r, s2)
    | none =>
      if (s.plate p).abort || s.slotDue p ((s.reg (pp p + R.portLnkSent)).toNat + 1) now then
        let (r, s2) := (s.sendGap p).fillSlots p now n; ((3, 0) :: r, s2)
      else ([], s)

/-- Send `n` vector words for a DATA block. -/
def State.fillData (s : State) (p : Nat) : Nat → List Word × State
  | 0 => ([], s)
  | n + 1 =>
    match s.sendSlot p with
    | some (w, s1) => let (r, s2) := s1.fillData p n; (w.2 :: r, s2)
    | none => ([], s)

/-- Does a port drive its pin slice: not as a STANDBY (R182), nor after a braced level 3 or a fence (R525)? -/
def State.drives (s : State) (p : Nat) : Bool :=
  s.lnk p == 4 && s.b (pp p + R.portLnkStat) 9 && s.leads

/-- The periodic SYNC block of a port (Table 7.3). -/
def State.syncBlock (s : State) (p : Nat) : DBlock :=
  .sync (s.reg (pp p + R.portLnkSent)) (s.plate p).idx (s.f (pp p + R.portLnkFcred) 31 0) (s.portGen p) (s.run p)
    (s.pst p) (s.plate p).stop s.syncRole

/-- A block as it is when it is sent: END carries the stream's INVALID of that moment (Table 7.3). -/
def State.asSent (s : State) (p : Nat) (b : DBlock) : DBlock :=
  match b, (s.plate p).feed with
  | .fin count stopped inv run, some h =>
    .fin count stopped (if run = s.run p then s.b (hp h + R.hubStrmStat) 3 else inv) run
  | b, _ => b

/-- Lanes of a link: 4 of a port, 8 of a brace link (R229, R479). -/
def lanesOf (l : Nat) : Nat := if l < 96 then 4 else 8

/-- The physical lane that carries logical lane `l` of port `i` of a hub, where it is not on the spare, 16 (R564). -/
def physLane (i l : Nat) : Nat := 4 * i + l

/-- Codewords sent in block mode (20 block times each, R231). -/
def PortSt.codeword (x : PortSt) : Nat := match x.blk with | some n => n / 20 | none => 0

/-- Codewords, modulo 2^32, from now to a codeword count (R253). -/
def PortSt.until (x : PortSt) (at_ : Nat) : Nat := (at_ + 2 ^ 32 - x.codeword % 2 ^ 32) % 2 ^ 32

/-- Has codeword SWAP_AT of an acknowledged live substitution of a hub come, its link still in block mode (R253)? -/
def State.swapDue (s : State) (h : Nat) : Bool :=
  let o := hp h + R.hubLnkSpare
  let x := s.port (s.f o 6 0)
  let n := x.until (s.hub h).swapAt
  s.f o 14 12 == 2 && (s.hub h).acked && x.phase == 4 && (n == 0 || decide (256 < n))

/-- The physical lane of its hub on which a port sends logical lane `l`: the spare, 16, from the codeword at which the lane moves
there; a brace link has no spare (R230, R252, R253, R479). -/
def State.laneOf (s : State) (p l : Nat) : Nat :=
  let o := hp (p / 4) + R.hubLnkSpare
  if 96 ≤ p then l
  else if (s.port p).onSpare = some l ∨ (s.swapDue (p / 4) ∧ s.f o 6 0 = p ∧ s.f o 9 8 = l) then 16
  else physLane (p % 4) l

/-- Count corrected symbols on their logical lanes (R246, Table 7.5): symbol k of a codeword is on lane k mod 4. -/
def State.corrected (s : State) (p : Nat) (ks : List Nat) : State :=
  if p < 96 then ks.foldl (fun s k => s.inc (pp p + R.portLnkCorr) (16 * (k % 4) + 15) (16 * (k % 4))) s else s

/-- One upstream codeword reaches the checker of a port in block mode: while injection is armed it inverts one or two parity bits,
which the decoder corrects (R522, Table 16.5). -/
def State.upCodeword (s : State) (p : Nat) : State :=
  let o := pp p + R.pgErrInj
  if p < 96 ∧ (s.port p).phase = 4 then
    match s.injected (pp p) 0 with
    | (some two, s1) => s1.corrected p (([514 + s.f o 13 5 / 10] ++ if two then [514 + s.f o 22 14 / 10] else []).eraseDups)
    | (none, s1) => s1
  else s

/-- The bits of a block leave: the twentieth block completes a codeword (R230, R231), whose symbols go out on the physical lanes.
A codeword arrives upstream meanwhile. -/
def State.sendBits (s : State) (p : Nat) (b : BitVec 257) : State :=
  let x := s.port p
  let bs := x.txBlks ++ [b]
  if bs.length < 20 then s.updPort p (fun x => { x with txBlks := bs })
  else
    let (cw, r) := rsCodeword x.scram bs
    let s1 := s.upCodeword p
    let lanes := (laneSymbols (lanesOf p) cw).zipIdx.map (fun e => (s.laneOf p e.2, e.1))
    (s1.emit (.codeword p lanes)).updPort p (fun x => { x with txBlks := [], scram := r })

/-- Send a block. -/
def State.sendBlk (s : State) (p : Nat) (b : DBlock) : State :=
  (s.emit (.block p (s.asSent p b))).sendBits p (s.asSent p b).bits

/-- Send a training frame of logical lane `lane`, on its own lane or on the spare (R249); `k` selects the PRBS13 that fills
it. -/
def State.sendFrame (s : State) (p k lane : Nat) (spare : Bool) (state count : Nat) : State :=
  let (l, r) := prbsFill (SMap.get 0 (s.port p).prbs k) 128
  (s.emit (.frame p lane spare (frameHeader lane state count (b2n (decide (96 ≤ p) || s.bamior p)) ++ l))).updPort p
    (fun x => { x with prbs := SMap.set 0 x.prbs k r })

/-- The hub sends TRAIN frames on the spare lane while it is in TRAINING for a port, one in each codeword period (Table 7.8
step 2). -/
def State.spareFrame (s : State) (p : Nat) : State :=
  let o := hp (p / 4) + R.hubLnkSpare
  if s.f o 14 12 = 1 ∧ s.f o 6 0 = p then s.sendFrame p 4 (s.f o 9 8) true 1 0 else s

/-- What a port sends in its next block time (R236, R238); SWITCH is repeated once per SYNC interval (R256). -/
def State.blockTime (s : State) (p : Nat) : State :=
  match (s.port p).blk with
  | none => s
  | some now =>
    let x := s.port p
    let s0 := (if now % 20 = 0 then s.spareFrame p else s).updPort p (fun x => { x with blk := some (now + 1) })
    if now % 256 = 0 then
      let s1 := s0.sendBlk p (s.syncBlock p)
      if x.switching && !x.ctlq.contains (.switch (s.portGen p)) then s1.ctlBlock p (.switch (s.portGen p)) else s1
    else
      let free : Bool := match x.lastCtl with | some k => decide (k + 256 ≤ now) | none => true
      match x.ctlq with
      | b :: r =>
        if free then
          let s1 := s0.updPort p (fun x => { x with ctlq := r, lastCtl := some now })
          let s2 := match b with
            | .sbReq tag _ _ _ _ =>
              let g (l : List SbReq) : List SbReq := replFirst (fun q => q.tag == tag) (fun q => { q with sent := some s.now }) l
              s1.updPort p (fun x => { x with sb := g x.sb })
            | _ => s1
          s2.sendBlk p b
        else slotsOf s0 now
      | [] => slotsOf s0 now
where
  /-- The slot part of R238. -/
  slotsOf (s : State) (now : Nat) : State :=
    let a := s.avail p
    let line := (s.plate p).line
    let isVec (w : PWord) : Bool := match w with | .vec _ => true | _ => false
    let isMask (w : PWord) : Bool := match w with | .mask _ | .badMask => true | _ => false
    let due := decide (0 < a) && s.slotDue p ((s.reg (pp p + R.portLnkSent)).toNat + 1) now
    if !s.drives p || s.pst p != 2 || decide (2 ^ 63 ≤ a) then s.sendBlk p .idle
    else if 4 ≤ a ∧ (line.take 4).length = 4 ∧ (line.take 4).all isVec ∧ !(s.plate p).abort then
      let (ws, s1) := s.fillData p 4
      s1.sendBlk p (.data ws)
    else if due || (decide (1 ≤ a) && (line.head?.any isMask || (s.plate p).abort)) then
      let (l, s1) := s.fillSlots p now (min 3 a)
      s1.sendBlk p (.slots l)
    else s.sendBlk p .idle

/-- CREDIT_DEADLINE: the block time in which the oldest credit is due and the Plate is empty (R187). -/
def State.creditDeadline (s : State) (p : Nat) : State :=
  match (s.port p).blk with
  | none => s
  | some now =>
    if s.pst p = 2 ∧ (s.plate p).line.isEmpty ∧ 0 < s.avail p ∧
        s.slotDue p ((s.reg (pp p + R.portLnkSent)).toNat + 1) now then s.blockTime p
    else s

/-! ## EMIT (R169 to R171, R87) -/

/-- The EMIT_MAP entry of a logical stream: hub and VALID (R194). Logical streams 24 to 31 have no entry and are unmapped (log entry
32). -/
def State.emitMap (s : State) (t l : Nat) : Option Nat :=
  let e := s.f (tp t + R.tileEmitMap0 + 8 * (l / 8)) (6 * (l % 8) + 5) (6 * (l % 8))
  if l < 24 ∧ 32 ≤ e then some (e % 32) else none

/-- Words of one stream that share a flit (R171, log entry 61): the spec gives no number. -/
def emitPack : Nat := 4

/-- A word joins the last packet for its hub, where that has room for it; none where there is no such packet. -/
def emitJoin (h : Nat) (w : EmitWord) (l : List Flit) : Option (List Flit) :=
  match l.reverse.findIdx? (fun f => match f.body with | .emit g _ => g == h | _ => false) with
  | some i =>
    match l[l.length - 1 - i]? with
    | some f => match f.body with
      | .emit _ ws => if ws.length < emitPack then some (l.set (l.length - 1 - i) { f with body := .emit h (ws ++ [w]) }) else none
      | _ => none
    | none => none
  | none => none

/-- The EMIT unit of a tile hands a word to its network interface: it shares the last flit for its hub that is still there, or takes
a new one; none without a route to the hub (R171). -/
def State.emitSend (s : State) (t h : Nat) (w : EmitWord) : Option State :=
  let n := tileNode t
  let held := SMap.get [] s.heldFlits n
  let k := bufKey n 4 3
  match emitJoin h w held, (if held.any (fun f => f.vn == 3) then none else emitJoin h w (s.buf k)) with
  | some l, _ => some { s with heldFlits := SMap.set [] s.heldFlits n l }
  | none, some l => some (s.setBuf k l)
  | none, none => match s.inject n (pageNode .hub h) 3 4 0 (.emit h [w]) with
    | (true, s1) => some s1
    | (false, _) => none

/-- EMIT: refused where the logical stream is not mapped; waits without credit, or without a route to the hub; else the word
leaves for its hub on VN3 (R170, R171, R139). -/
def State.emitOp (s : State) (t p : Nat) (f : Firing) : Option State :=
  let l := sImm f.slot % 32
  match s.emitMap t l with
  | none =>
    some ((s.outTo t f.slot f.x.tag 0 (BitVec.allOnes 64) (f.outCtl tyUint64 false true)).inc (tp t + R.tileEmitMap2) 63 48)
  | some h =>
    let used := SMap.get 0 (s.tile t).emitUsed h
    if 32 ≤ used then none
    else (s.updTile t (fun x => { x with emitUsed := SMap.set 0 x.emitUsed h (used + 1) })).emitSend t h
      ⟨t, p, (sImm f.slot).testBit 5, cPoison f.x.ctl, f⟩

/-- EMIT_CREDIT_RETURN: a credit that a hub returns reaches its tile (R171). -/
def State.emitCredit (s : State) (t h : Nat) : State :=
  let r := SMap.get 0 (s.hub h).returns t
  if 0 < r then
    (s.updHub h (fun x => { x with returns := SMap.set 0 x.returns t (r - 1) })).updTile t
      (fun x => { x with emitUsed := SMap.set 0 x.emitUsed h (SMap.get 0 x.emitUsed h - 1) })
  else s

end Sys2Proof.Machine
end

