-- ==== Sys2Proof/Machine/NocOps.lean ====
section
/-! DEFINITION. Power domains and their wakes (R457 to R464), the routers and network interfaces (R437 to R450), route
changes (R445), and the probes (R451, R452). -/

namespace Sys2Proof.Machine

/-! ## Responses at their requester (R448, R85) -/

/-- The token that the return of a LOAD sends to destination 0, under the tag formed at issue (R85). -/
def State.loadReturn (s : State) (t : Nat) (f : Firing) (rtag : Tag) (v : Word) : State :=
  s.send t { dest := plainDest (sDest f.slot 0), tag := rtag, value := v, ctl := f.outCtl tyBits false false }

/-- An access of an I-structure operation that got an error response (R579). -/
def State.iFail (s : State) (t : Nat) (f : Firing) (st : Status) : State :=
  let s1 := s.isError t f
  match st with
  | .address => s1.fault (tp t) .config
  | .isolated => s1.fault (tp t) .timeout
  | _ => s1

/-- A response completes an outstanding request of a node. -/
def State.complete (s : State) (o : Outst) (st : Status) (data : List Byte) : State :=
  let s1 := ({ s with outst := s.outst.filter (fun p => !(p.node == o.node && p.txid == o.txid)) }).niRelease
    s.heldCount
  match o.client with
  | .load t f rtag => if st = .ok then s1.loadReturn t f rtag (BitVec.ofNat 64 (ofLe (data.take 8)))
      else s1.exc84 t f.x (sOp f.slot) .memory
  | .store t f => if st = .ok then
      s1.outTo t f.slot f.x.tag 0 (BitVec.ofNat 64 f.addr) (f.outCtl tyUint64 false false)
      else s1.exc84 t f.x (sOp f.slot) .memory
  | .istruct t f => if st = .ok then s1 else s1.iFail t f st
  | .gone => s1

/-- MESH_RESPONSE: a response reaches a node; one whose request has timed out is late (R448). -/
def State.response (s : State) (node txid : Nat) (st : Status) (data : List Byte) : State :=
  match s.outst.find? (fun o => o.node == node && o.txid == txid) with
  | some o => s.complete o st data
  | none => s.inc (pageAt .noc node + R.nocNiEvt) 31 16

/-- NI_REQUEST_TIMEOUT: no response for 10 µs; the clocks pause while a packet waits for a wake (R448). -/
def State.niTimeout (s : State) (node txid : Nat) : State :=
  match s.outst.find? (fun o => o.node == node && o.txid == txid) with
  | some o =>
    if s.wakeSince.isNone ∧ 160000 ≤ dur o.since s.now then
      (s.complete o .isolated []).inc (pageAt .noc node + R.nocNiEvt) 15 0
    else s
  | none => s

/-! ## Domains (R450, R457 to R464) -/

/-- Change STATE of a domain; the ledger records it (R461, R528). -/
def State.domPut (s : State) (d st : Nat) (o : Origin) : State :=
  let old := s.reg (domAt d)
  let s1 := s.putF (domAt d) 4 2 st
  s1.record 1 false false true o (domAt d) old (s1.reg (domAt d)) 0

/-- Origin of a transition that hardware starts. -/
def pwrAgent : Origin := agent (pageAt .pwr 0)

/-- Origin of the transition that a domain is in: that of the TARGET write that started it, or the hardware agent. -/
def State.domOrigin (s : State) (d : Nat) : Origin :=
  let o := SMap.get 0 s.domOrg d
  if o = 0 then pwrAgent else BitVec.ofNat 16 (o - 1)

/-- A transition that changes TARGET with STATE: the ledger records both as one change (R461, R528). -/
def State.domMove (s : State) (d tgt st : Nat) (aborts : Bool) (o : Origin) : State :=
  let old := s.reg (domAt d)
  let s1 := (s.putF (domAt d) 1 0 tgt).putF (domAt d) 4 2 st
  let s2 := if aborts then s1.inc (domAt d) 63 48 else s1
  s2.record 1 false false true o (domAt d) old (s2.reg (domAt d)) 0

/-- Start the wake of a domain (R463). -/
def State.domWakeStart (s : State) (d : Nat) (o : Origin) : State :=
  ({ s with domOrg := SMap.set 0 s.domOrg d (o.toNat + 1) }.domMove d 0 5 false o).inc (pageAt .pwr 0 + R.pwrStat) 63 32

/-! ### Voltage of a governed tile (R25, R465, R466) -/

/-- Page of the power controller. -/
def pwp : Nat := pageAt .pwr 0

/-- VNOW_MV of a domain. -/
def State.vnow (s : State) (d : Nat) : Nat := s.f (domAt d) 41 32

/-- Set VNOW_MV of a domain. -/
def State.setV (s : State) (d v : Nat) : State := s.putF (domAt d) 41 32 v

/-- Is a tile's voltage governed now (R465)? -/
def State.governed (s : State) (d : Nat) : Bool := decide (d < 128) && s.b (pwp + R.pwrCtl) 0 && s.b (domAt d) 5

/-- The streams in PREFILL or RUNNING that a tile feeds (R466). -/
def State.tileStreams (s : State) (t : Nat) : List Nat :=
  (List.range 24).filter (fun h => s.feeds t h && s.strmLive h)

/-- Is a tile one of a stream that the cap has lowered under class 3 (R468)? -/
def State.tileCapped (s : State) (t : Nat) : Bool := (s.tileStreams t).any (fun h => s.capped h)

/-- The floor of R466 for one tile. -/
def State.floorTile (s : State) (t : Nat) : State :=
  if !(s.tileStreams t).isEmpty && !s.tileCapped t && decide (s.vnow t < 750) then s.setV t 750 else s

/-- A domain that is not governed is held at VSET_MV, and what the cap has lowered is forgotten; a governed tile of a live stream
takes the floor (R25, R465, R466). -/
def State.vHold (s : State) (d : Nat) : State :=
  if s.governed d then s.floorTile d
  else { s with capFrom := SMap.set 0 s.capFrom d 0 }.setV d (s.f (domAt d) 25 16)

/-- Abort a power-down (R462): the domain is ON again. -/
def State.domAbort (s : State) (d : Nat) (o : Origin) : State :=
  let s1 := s.domMove d 0 0 true o
  if s1.governed d then s1.floorTile d else s1

/-- Something reaches a domain that is not ON: a power-down in DRAINING aborts, a domain in RETAIN or OFF wakes; one in
COMMITTED wakes when its transition completes, and a wake in progress goes on (R462, R463). -/
def State.domWake (s : State) (d : Nat) : State :=
  match s.domState d with
  | 1 | 2 => s.domWakeStart d pwrAgent
  | 3 => s.domAbort d pwrAgent
  | 4 => { s with wakeAsk := if s.wakeAsk.contains d then s.wakeAsk else d :: s.wakeAsk }
  | _ => s

/-- The switched domain behind a node's local output, where it has one (Tables 13.5 and 14.1). -/
def nodeDomain (node : Nat) : Option Nat :=
  if 16 ≤ node ∧ node < 144 then some (node - 16)
  else match (List.range 24).find? (fun h => pageNode .hub h == node) with
    | some h => some (128 + h)
    | none => match (List.range 4).find? (fun u => pageNode .hbmc u == node) with
      | some u => some (168 + u)
      | none => none

/-! ## Network interfaces (R41, R449) -/

/-- Source node, TXID and generation of the request that a packet carries. -/
def Flit.asked (f : Flit) : Option (Nat × Nat) :=
  match f.body with
  | .req r _ => some (r.node, r.txid)
  | .istruct r _ => some (tileNode r.tile, r.txid)
  | _ => none

/-- The ISOLATED response to a request, made at a node, along a route of its own (R447, R449). -/
def State.isolatedFlit (s : State) (node : Nat) (f : Flit) (route txid : Nat) : Flit :=
  { id := s.flitId, route := route, rroute := 0, vn := 2, gen := f.gen, last := true, prio := 0, opc := 1, src := node,
    body := .resp txid .isolated [] }

/-- A response ISOLATED leaves the network interface that a request has reached (R449). -/
def State.answerIsolated (s : State) (node : Nat) (f : Flit) (route : Nat) : State :=
  match f.asked with
  | some (n, t) =>
    let s1 := s.emit (.resp n t .isolated [])
    { s1 with flitId := s1.flitId + 1 }.niSend (s1.isolatedFlit node f route t)
  | none => s

/-- A flit reaches the network interface of its node (R441, R449). -/
def State.deliver (s : State) (node : Nat) (f : Flit) : State :=
  let iso := s.isolated node
  match f.body with
  | .token t flt =>
    if iso then s.niDivert node t flt
    else if 16 ≤ node ∧ node < 144 then s.niHold (node - 16) { src := f.src, item := { tok := t, flt := flt } }
    else s
  | .req r opc =>
    if iso then (s.answerIsolated node f f.rroute).inc (pageAt .noc node + R.nocNiEvt) 47 32
    else { s with inbox := s.inbox ++ [(⟨opc, r, f.rroute, f.gen⟩ : InReq)] }
  | .istruct r _ =>
    if iso then (s.answerIsolated node f f.rroute).inc (pageAt .noc node + R.nocNiEvt) 47 32
    else match (List.range 4).find? (fun u => unitNode u == node) with
      | some u => s.updHb u (fun h => { h with iq := h.iq ++ [{ r with rroute := f.rroute, gen := f.gen }] })
      | none => s
  | .resp txid st data => s.response node txid st data
  | .posted r line => if iso then s.inc (pageAt .noc node + R.nocNiEvt) 63 48 else s.postedWrite r line
  | .event line => if iso then s.inc (pageAt .noc node + R.nocNiEvt) 63 48 else s.react (.pulse line)
  | .emit h ws =>
    if iso then s.inc (pageAt .noc node + R.nocNiEvt) 63 48 else s.updHub h (fun x => { x with flight := x.flight ++ ws })
  | .fails p l =>
    if iso then s.inc (pageAt .noc node + R.nocNiEvt) 63 48
    else { s with failArr := s.failArr ++ l.map (fun d => (p, d)) }
  | .grant who v => s.react (.sem who v)

/-- Flits held for the wake of a node's domain. -/
def State.heldFor (s : State) (node : Nat) : List (Nat × Flit) := SMap.get [] s.wakeFlits node

/-- Time-out clocks run again once nothing waits for a wake, those of requests sent meanwhile from now on (R448). -/
def State.wakeResume (s : State) : State :=
  match s.wakeSince with
  | some w =>
    if s.wakeFlits.isEmpty && s.parked.isEmpty then
      { s with wakeSince := none, outst := s.outst.map (fun o =>
          { o with since := if w.toNat < o.since.toNat then s.now else o.since + (s.now - w) }) }
    else s
  | none => s

/-- Deliver packets that waited for a wake, in the order in which they arrived (R463). -/
def State.deliverAll (s : State) (node : Nat) (l : List (Nat × Flit)) : State := l.foldl (fun s p => s.deliver node p.2) s

/-! ## Probes (R451, R452) -/

/-- The header of the first flit of a packet (Table 13.6). -/
def Flit.header (f : Flit) : Word :=
  BitVec.ofNat 64 (f.route * 2 ^ 16 + f.vn * 2 ^ 13 + b2n f.gen * 2 ^ 12 + b2n f.last * 2 ^ 11 + f.prio * 2 ^ 5 + f.opc)

/-- STATUS codes of a response (Table 13.7). -/
def respStatus : Status → Nat
  | .ok => 0 | .data => 1 | .isolated => 2 | .address => 3

/-- The payload of a READ8 and of the requests laid out like it: ADDR, RROUTE, TXID, byte enables, ORIGIN, DATA0 (Table 13.7). -/
def reqPayload (addr rroute txid be : Nat) (o : Origin) (data : Word) : Nat :=
  addr % 2 ^ 48 + rroute % 2 ^ 48 * 2 ^ 48 + txid % 4096 * 2 ^ 96 + be % 256 * 2 ^ 108 + o.toNat * 2 ^ 128 + data.toNat * 2 ^ 192

/-- The code of a SEM packet's operation, by its window: TAKE, TRY, PEEK or GIVE (Tables 12.2, 13.7). -/
def semCode (a : Nat) : Nat := match region a with | .sem 1 => 3 | .sem 2 => 1 | .sem 3 => 2 | _ => 0

/-- The 512-bit payload of the first flit of a packet, its source node in [511:504] (R438, Table 13.7). Of EMIT and FAIL flits and
event pulses the spec gives no layout; posted writes are laid out as requests (log entry 4). -/
def Flit.payload (f : Flit) : Nat :=
  f.src * 2 ^ 504 + match f.body with
  | .token t _ => ofLe (Token.toBytes t)
  | .req r opc =>
    reqPayload r.addr.toNat f.rroute r.txid r.be.toNat r.origin r.data + (if opc = 8 then semCode r.addr.toNat * 2 ^ 116 else 0)
  | .istruct r a =>
    reqPayload a f.rroute r.txid 255 (BitVec.ofNat 16 (0x7000 + tileNode r.tile)) r.f.yv + (plainDest (sDest r.f.slot 0)).toNat * 2 ^ 320
      + r.rtag.toNat * 2 ^ 360 + (match r.f.y with | some (_, c) => c.toNat | none => 0) * 2 ^ 408
  | .resp txid st data => txid % 4096 + respStatus st * 4096 + ofLe (data.take 8) * 2 ^ 64
  | .posted r _ => reqPayload r.addr.toNat 0 r.txid r.be.toNat r.origin r.data
  | .grant _ v => v.toNat * 2 ^ 64
  | .emit _ _ => (Config.freePayload f.id).toNat
  | .event _ => (Config.freePayload f.id).toNat
  | .fails _ _ => (Config.freePayload f.id).toNat

/-- The second flit of a RESP64: its 64 bytes (Table 13.7). -/
def Flit.second (f : Flit) : Option (List Byte) :=
  match f.body with
  | .resp _ _ data => if f.last then none else some data
  | _ => none

/-- The node one hop away in a direction; none off the mesh. -/
def hopNode (node dir : Nat) : Option Nat :=
  let x := node % 16
  let y := node / 16
  match dir with
  | 0 => if x < 15 then some (node + 1) else none
  | 1 => if 0 < x then some (node - 1) else none
  | 2 => if y < 9 then some (node + 16) else none
  | _ => if 0 < y then some (node - 16) else none

/-- The node at which a route ends, from a node; none where it leaves the mesh. -/
def routeEnd (node : Nat) (r : Nat) : Option Nat :=
  (routeSegs r).foldl (fun (n : Option Nat) g =>
    (List.range (g % 16)).foldl (fun n _ => match n with | some m => hopNode m (g / 16) | none => none) n) (some node)

/-- A probe's trace ring. -/
def prbRing (k : Nat) : Ring :=
  let p := pageAt .noc k
  ⟨p, p + R.nocPrbRing, p + R.nocPrbProd, p + R.nocPrbCons, 32, 9⟩

/-- Function reset of a NOC page: the trace ring of its probe stops and returns to its reset values (R396, R452). -/
def State.probeReset (s : State) (k : Nat) : State :=
  let r := prbRing k
  { s.resetRegs r.page R.nocPrbRing (R.nocPrbCons + 8) with wfail := s.wfail.filter (fun o => o != r.cfg) }

/-- Does a probe match a flit that passes a port of a router in a direction (R451)? Its destination is where its remaining
route ends, which a flit that has left the router goes on from the next node. -/
def State.probeHit (s : State) (k node port dir : Nat) (f : Flit) : Bool :=
  let c := s.reg (pageAt .noc k + R.nocPrbCtl)
  let m := s.reg (pageAt .noc k + R.nocPrbMatch)
  let at_ := if dir = 1 ∧ port < 4 then (hopNode node port).getD node else node
  let dst := (routeEnd at_ f.route).getD 0
  bit c 0 && fld c 9 2 == node && fld c 12 10 == port && fld c 13 13 == dir && (fld c 18 14).testBit f.vn &&
    ((f.src ^^^ fld m 7 0) &&& fld m 15 8) == 0 && ((dst ^^^ fld m 23 16) &&& fld m 31 24) == 0 &&
    ((f.opc ^^^ fld m 36 32) &&& fld m 41 37) == 0

/-- A probe's match: counted, and one in 2^SAMPLE_LOG2 traced (R451, R452). -/
def State.probe (s : State) (k node port dir : Nat) (f : Flit) : State :=
  if s.probeHit k node port dir f then
    let p := pageAt .noc k
    let n := SMap.get 0 s.prbCnt k
    let s1 := { s.inc (p + R.nocPrbCount) 47 0 with prbCnt := SMap.set 0 s.prbCnt k (n + 1) }
    if s.b (p + R.nocPrbCtl) 1 ∧ n % 2 ^ s.f (p + R.nocPrbCtl) 22 19 = 0 then
      match s1.ringPush (prbRing k) [f.header, BitVec.ofNat 64 f.payload, s.now, BitVec.ofNat 64 (node + port * 2 ^ 8 + dir * 2 ^ 11)] with
      | (true, s2) => s2
      | (false, s2) => s2.inc (p + R.nocPrbCount) 63 48
    else s1
  else s

/-- Every probe looks at a passing flit. -/
def State.probes (s : State) (node port dir : Nat) (f : Flit) : State :=
  (List.range 32).foldl (fun s k => s.probe k node port dir f) s

/-! ## Routers (R439, R441, R447, R450) -/

/-- The output that a flit takes at its router: 4 for the local interface. -/
def Flit.outPort (f : Flit) : Nat := if f.route % 16 = 0 then 4 else f.route / 16 % 4

/-- Has the network interface of a node room for a packet of a VN, by the sink rules of R441? Every NI takes VN2 and VN4; an isolated
one takes everything; a tile's NI holds four tokens that have not entered; a target takes a request while its own responses find
room; a tile takes fail deliveries while fewer than four flits of them wait (log entry 65). -/
def State.sinkFree (s : State) (node vn : Nat) : Bool :=
  s.isolated node || match vn with
  | 0 => !(decide (16 ≤ node) && decide (node < 144)) || decide ((s.tile (node - 16)).arr.length < 4)
  | 1 => !(SMap.get [] s.heldFlits node).any (fun f => f.vn == 2)
  | 3 => decide ((s.failArr.filter (fun e => tileNode (dTile e.2.dest) == node)).length < 12)
  | _ => true

/-- Are there free buffers behind an output for the `n` flits of a packet of a VN (R441)? At the local output of a node whose
domain is not ON, four flits of a VN are held for its wake (R450, log entry 65). -/
def State.outFree (s : State) (node out vn n : Nat) : Bool :=
  if out = 4 then
    s.sinkFree node vn && decide (flitCount (((SMap.get [] s.wakeFlits node).map (fun e => e.2)).filter (fun f => f.vn == vn)) + n ≤ 4)
  else match hopNode node out with
    | some m => decide (flitCount (s.buf (bufKey m (out ^^^ 1) vn)) + n ≤ 4)
    | none => true

/-- Has an output a packet of a VN ready, with free buffers downstream? -/
def State.outReady (s : State) (node out vn : Nat) : Bool :=
  (List.range 5).any (fun p =>
    match s.buf (bufKey node p vn) with | f :: _ => f.outPort == out && s.outFree node out vn f.flits | [] => false)

/-- VN0, VN1 and VN3 in the order of their turns, the one that an output served last behind the others (R441). -/
def vnOrder : Nat → List Nat
  | 0 => [1, 3, 0] | 1 => [3, 0, 1] | _ => [0, 1, 3]

/-- May a VN pass now: VN4 first, then VN2, then the others in turn (R441)? -/
def State.vnTurn (s : State) (node out vn : Nat) : Bool :=
  if vn = 4 then true
  else if vn = 2 then !s.outReady node out 4
  else !s.outReady node out 4 && !s.outReady node out 2 &&
    ((vnOrder (SMap.get 3 s.turns (node * 8 + out))).takeWhile (fun v => v != vn)).all (fun v => !s.outReady node out v)

/-- An output has served a VN: the turn of VN0, VN1 and VN3 goes on. -/
def State.served (s : State) (node out vn : Nat) : State :=
  if vn = 0 ∨ vn = 1 ∨ vn = 3 then { s with turns := SMap.set 3 s.turns (node * 8 + out) vn } else s

/-- Count in NOC_RTR_EVT. -/
def State.rtrCount (s : State) (node hi lo : Nat) : State := s.inc (pageAt .noc node + R.nocRtrEvt) hi lo

/-- A packet that a router makes itself goes straight to one of its outputs; where that is disabled too it is dropped as a posted
flit is (R447, log entry 65). -/
def State.rtrSend (s : State) (node : Nat) (f : Flit) : State :=
  let out := f.outPort
  if out = 4 then s.deliver node f
  else if !(s.f (pageAt .noc node + R.nocRtrCtl) 4 0).testBit out then s.rtrCount node 31 16
  else match hopNode node out with
    | some m => let k := bufKey m (out ^^^ 1) f.vn; s.setBuf k (s.buf k ++ [{ f with route := routeHop f.route }])
    | none => s

/-- A router sends a diverted token to its fault destination, by the route of its node, or over the pack links (R37, R447); none
where there is no way. -/
def State.rtrDivert (s : State) (node : Nat) (t : Token) : Option State :=
  if dDev t.dest = s.deviceId then
    let g := s.niGen node
    let w := s.route node (b2n g) (tileNode (dTile t.dest))
    if bit w 48 then
      some ({ s with flitId := s.flitId + 1 }.rtrSend node
        { id := s.flitId, route := fld w 47 0, vn := 0, gen := g, last := true, prio := 0, opc := 1, src := node, body := .token t true })
    else none
  else s.sendPack t

/-- A router absorbs a flit at a port whose enable is clear (R447). -/
def State.absorb (s : State) (node : Nat) (f : Flit) : State :=
  match f.body with
  | .token t flt =>
    let d := s.reg (pageAt .noc node + R.nocRtrFaultDest)
    if flt || !bit d 40 then s.rtrCount node 63 48
    else match s.rtrDivert node (toFault (fld d 39 0) t) with
      | some s1 => s1.rtrCount node 47 32
      | none => s.rtrCount node 63 48
  | _ =>
    match f.asked with
    | some (n, t) =>
      let back := (List.range (routeLen f.route)).foldl (fun r _ => routeHop r) f.rroute
      let s1 := s.emit (.resp n t .isolated [])
      ({ s1 with flitId := s1.flitId + 1 }.rtrSend node (s1.isolatedFlit node f back t)).rtrCount node 15 0
    | none => s.rtrCount node 31 16

/-- ROUTER_FORWARD: the oldest flit of an input buffer goes on, is delivered, held for a wake, or absorbed. -/
def State.routerForward (s : State) (node port vn : Nat) : State :=
  let k := bufKey node port vn
  match s.buf k with
  | [] => s
  | f :: r =>
    let out := f.outPort
    if !s.outFree node out vn f.flits || !s.vnTurn node out vn then s
    else
      let s0 := ((s.setBuf k r).served node out vn).probes node port 0 f
      let en := s.f (pageAt .noc node + R.nocRtrCtl) 4 0
      let s1 :=
        if !en.testBit port || !en.testBit out then s0.absorb node f
        else if out = 4 then
          let s' := s0.probes node 4 1 f
          match nodeDomain node with
          | some d =>
            if s.isolated node then s'.deliver node f
            else match s.domState d with
              | 0 => s'.deliver node f
              | 3 => (s'.domAbort d pwrAgent).deliver node f
              | _ =>
                let s2 := { s' with wakeFlits := SMap.set [] s'.wakeFlits node (s'.heldFor node ++ [(port, f)]),
                                    wakeSince := match s'.wakeSince with | some w => some w | none => some s.now }
                s2.domWake d
          | none => s'.deliver node f
        else
          let g := { f with route := routeHop f.route }
          let s' := s0.probes node out 1 g
          match hopNode node out with
          | some m => let j := bufKey m (out ^^^ 1) vn; s'.setBuf j (s'.buf j ++ [g])
          | none => s'.absorb node f
      s1.niRelease s1.heldCount

/-! ## Route tables and changes (R440, R445, R453, R454) -/

/-- Is a route valid to a node (R440)? -/
def routeValid (src dst r : Nat) : Bool :=
  let all := (List.range 8).map (fun k => r >>> (6 * k) % 64)
  let segs := routeSegs r
  (all.drop segs.length).all (fun g => g % 16 == 0) && routeEnd src r == some dst &&
    !((segs.dropWhile (fun g => g / 16 == 1)).any (fun g => g / 16 == 1))

/-- The route-table entry that NOC_RT_SEL selects. -/
def State.rtSelected (s : State) (node : Nat) : Word :=
  let x := s.reg (pageAt .noc node + R.nocRtSel)
  s.route node (fld x 8 8) (fld x 7 0)

/-- A 64-bit write of NOC_RT_DATA (R453): false where it is refused. Entries 160 to 255 must stay invalid (R444). -/
def State.rtWrite (s : State) (node : Nat) (w : Word) : Bool × State :=
  let x := s.reg (pageAt .noc node + R.nocRtSel)
  let idx := fld x 7 0
  let bank := fld x 8 8
  if bank = b2n (s.niGen node) ∨ (bit w 48 ∧ !routeValid node idx (fld w 47 0)) then
    (false, s.fault (pageAt .noc node) .config)
  else
    let k := routeKey node bank idx
    (true, { s with routes := SMap.set (routeReset k) s.routes k (w &&& 0x1FFFFFFFFFFFF) })

/-- GO of NOC_FENCE (step 3 of Table 13.8): every interface takes generation NEW_GEN, and each semaphore unit marks its waiting
TAKEs of the other (R446). -/
def State.fenceGo (s : State) : State :=
  let o := pageAt .noc 0 + R.nocFence
  let g := s.b o 1
  let s1 := { s with waiters := s.waiters.map (fun w : Waiter => { w with moved := w.moved || w.gen != g }) }
  (List.range 160).foldl (fun s n => s.putB (pageAt .noc n + R.nocNiCtl) 0 g) ((s1.putB o 2 true).putB o 3 false)

/-- Flits of the old generation in buffers (NOC_FENCE_STAT.OLD_FLITS). -/
def State.oldFlits (s : State) : Nat := flitCount (s.allFlits.filter (fun f => f.gen != s.niGen 0))
/-- Requests of the old generation outstanding (OLD_REQS): those of PEs, and those of other masters that stand at their targets;
waiting TAKEs are marked and do not count (R446). -/
def State.oldReqs (s : State) : Nat :=
  (s.outst.filter (fun o => o.gen != s.niGen 0)).length +
    (s.inbox.filter (fun q => decide (q.opc < 64) && q.gen != s.niGen 0 &&
      !s.outst.any (fun o => o.node == q.req.node && o.txid == q.req.txid))).length

/-- ROUTE_FENCE_DONE: nothing of the old generation is left (R445). -/
def State.fenceDone (s : State) : State :=
  let o := pageAt .noc 0 + R.nocFence
  if s.fencing && s.oldFlits == 0 && s.oldReqs == 0 then
    let s1 := (s.putB o 2 false).putB o 3 true
    s1.niRelease s1.heldCount
  else s

end Sys2Proof.Machine
end

