-- ==== Sys2Proof/Machine/PortOps.lean ====
section
/-! DEFINITION. Ports: fail capture (chapter 6) and the Phour link: counts, training, spare lanes, sideband requests and
switch-over (chapter 7). -/

namespace Sys2Proof.Machine

/-! ## Fail records (R196 to R212) -/

/-- Extension of a value modulo 2^n to the congruent value nearest a base, the lower at a tie and never below 0
(R198). -/
def nearest (n v base : Nat) : Nat :=
  let m := 2 ^ n
  let lo := base / m * m + v % m
  let (a, b) := if lo ≤ base then (lo, lo + m) else (lo - m, lo)
  if base < v % m ∧ base < m then v % m
  else if base - a ≤ b - base then a else b

/-- A port's last consumed index, 0 while none is reported (R198). -/
def State.consumed (s : State) (p : Nat) : Nat :=
  let c := s.reg (plt p R.hubPltCons)
  if c = BitVec.allOnes 64 then 0 else c.toNat

/-- Is a fail group enabled? -/
def State.grpEn (s : State) (p g : Nat) : Bool := s.b (pp p + R.portFailGrpMap + 16 * g) 0

/-- The enabled groups of a port, ascending. -/
def State.groups (s : State) (p : Nat) : List Nat := (List.range 8).filter (fun g => s.grpEn p g)

/-- A group's mask bits (R206). -/
def State.grpBits (s : State) (p g mask : Nat) : Nat :=
  let m := s.reg (pp p + R.portFailGrpMap + 16 * g)
  mask / 2 ^ fld m 5 1 % 2 ^ fld m 10 6

/-- Set SAT of the groups that `f` selects among the enabled ones (R199, R200). -/
def State.sat (s : State) (p : Nat) (f : Nat → Bool) : State :=
  (s.groups p).foldl (fun s g => if f g then s.putB (pp p + R.portFailStat) (8 + g) true else s) s

/-- Does a record lie in an enabled window of a mode (R202, R203)? -/
def State.inWindow (s : State) (p : Nat) (excl : Bool) (idx time : Nat) : Bool :=
  (List.range 4).any (fun w =>
    let o := pp p + R.portCwinCtl + 24 * w
    let q := if s.b o 1 then time else idx
    s.b o 0 && s.b o 2 == excl && decide ((s.reg (o + 8)).toNat ≤ q) && decide (q < (s.reg (o + 16)).toNat))

/-- Is a record captured (R202)? -/
def State.captured (s : State) (p idx time : Nat) : Bool :=
  s.b (pp p + R.portFailCtl) 0 &&
    (!(List.range 4).any (fun w => s.b (pp p + R.portCwinCtl + 24 * w) 0 && !s.b (pp p + R.portCwinCtl + 24 * w) 2) ||
      s.inWindow p false idx time) && !s.inWindow p true idx time

/-- The delivery of a record to a group (R206 to R208, Table 6.3). -/
def State.delivery (s : State) (p g mask addr : Nat) : Delivery :=
  let m := s.reg (pp p + R.portFailGrpMap + 16 * g)
  let part (pos w : Nat) : Nat := addr / 2 ^ pos % 2 ^ w
  let bank := part (fld m 33 28) (fld m 36 34)
  let row := part (fld m 42 37) (fld m 47 43)
  let col := part (fld m 53 48) (fld m 57 54)
  let top := s.grpBits p g mask * 2 ^ 48 + fld m 27 19 * 2 ^ 39 + bank * 2 ^ 33
  { dest := BitVec.ofNat 40 (s.f (pp p + R.portFailGrpNode + 16 * g) 39 0), ctx := s.f (pp p + R.portFailCtx) 15 0,
    colour := fld m 18 11, row := BitVec.ofNat 64 (top + row * 2 ^ 12 + col),
    col := BitVec.ofNat 64 (top + 2 ^ 32 + col * 2 ^ 20 + row), rowKey := bank * 2 ^ 18 + row,
    colKey := bank * 2 ^ 18 + col, fin := false }

/-- The end marker for a group (R211). -/
def State.endMark (s : State) (p g : Nat) : Delivery :=
  let v : Word := BitVec.ofNat 64 (7 + p * 2 ^ 32)
  { s.delivery p g 0 0 with row := v, col := v, rowKey := 0, colKey := 0, fin := true }

/-- A port's fail log (R216). -/
def failRing (p : Nat) : Ring := ⟨pp p, pp p + R.portFailLog, pp p + R.portFailLogProd, pp p + R.portFailLogCons, 32, 9⟩

/-- Append an entry to the fail log, or count it lost (R216, R217, Table 6.5). -/
def State.failLog (s : State) (p idx time mask kind groups addr : Nat) : State :=
  if s.b (pp p + R.portFailCtl) 1 then
    match s.ringPush (failRing p) [BitVec.ofNat 64 idx, BitVec.ofNat 64 time,
        BitVec.ofNat 64 (mask + kind * 2 ^ 32 + groups * 2 ^ 40), BitVec.ofNat 64 addr] with
    | (true, s1) => s1
    | (false, s1) => (s1.putB (pp p + R.portFailStat) 1 true).inc (pp p + R.portFailCnt2) 31 0
  else s

/-- FCREDIT rises by `n`, unless the port grants no credit until EN is set (R240). -/
def State.fcredit (s : State) (p n : Nat) : State :=
  let o := pp p + R.portLnkFcred
  if (s.port p).credHold then s else s.putF o 31 0 ((s.f o 31 0 + n) % 2 ^ 32)

/-- A record leaves the ingress buffer: its fail-record credit, where it holds one, is granted anew (R240). -/
def State.failLeaves (s : State) (p : Nat) (cred : Bool) : State := if cred then s.fcredit p 1 else s

/-- A record's deliveries join the ingress buffer; a record with none leaves it at once (R201, R240). -/
def State.failQueue (s : State) (p : Nat) (l : List Delivery) (cred : Bool) : State :=
  if l.isEmpty then s.failLeaves p cred else s.updPort p (fun x => { x with fails := x.fails ++ [⟨l, cred⟩] })

/-- Free places of the ingress buffer of 4,096 records (R201, R240). -/
def State.failRoom (s : State) (p : Nat) : Nat := 4096 - ((s.port p).fails.filter (fun r => r.cred)).length

/-- The groups of a record as the GROUPS field. -/
def grpField (l : List Nat) : Nat := l.foldl (fun n g => n + 2 ^ g) 0

/-- The port acts on an end of capture, received as a record with a credit or inferred without one (R211, R216, Table 7.5): in
the safe state the Plate then sends END with STOPPED and INVALID and ends (Table 16.6). -/
def State.endCapture (s : State) (p idx time mask addr : Nat) (cred : Bool) : State :=
  let s1 := s.putB (pp p + R.portFailStat) 0 true
  let gs := if s.b (pp p + R.portFailCtl) 0 then s.groups p else []
  let s2 := s1.failLog p idx time mask 3 (grpField gs) addr
  let s3 := s2.failQueue p (gs.map (fun g => s.endMark p g)) cred
  let s4 := s3.updPort p (fun x => { x with endRun := some (s.run p) })
  if (s.plate p).abort then s4.plateEnd p true false else s4

/-- A FAIL block reaches the port (R197 to R212). Before the link is UP the block is ignored (log entry 33). -/
def State.failBlock (s : State) (p : Nat) (rec : BitVec 192) : State :=
  if s.lnk p ≠ 4 ∨ s.bamior p then s else
  let kind := fld rec 191 184
  let mask := fld rec 135 104
  let addr := fld rec 103 64
  let idx := nearest 48 (fld rec 183 136) (s.consumed p)
  let time := nearest 56 (fld rec 63 8) s.now.toNat
  let o := pp p + R.portLnkFcred
  let win := (s.f o 31 0 + 2 ^ 33 - s.f o 63 32 - (s.port p).lostF.toNat) % 2 ^ 32
  let s0 := s.putF o 63 32 ((s.f o 63 32 + 1) % 2 ^ 32)
  if win = 0 ∨ 4096 < win then
    ((s0.inc (pp p + R.portFailCnt1) 47 32).sat p (fun _ => true)).fault (pp p) .protocol
  else if kind = 0 ∨ 3 < kind then (s0.fcredit p 1).fault (pp p) .protocol
  else if kind = 3 then s0.endCapture p idx time mask addr true
  else if s.b (pp p + R.portFailStat) 0 then
    ((s0.inc (pp p + R.portFailCnt1) 63 48).fcredit p 1).fault (pp p) .protocol
  else if !s.captured p idx time then (s0.inc (pp p + R.portFailCnt0) 63 32).fcredit p 1
  else
    let hit (g : Nat) : Bool := s.grpBits p g mask != 0
    let gs := (s.groups p).filter hit
    let s1 := s0.inc (pp p + R.portFailCnt0) 31 0
    if kind = 2 then
      (((s1.sat p hit).inc (pp p + R.portFailCnt1) 15 0).failLog p idx time mask 2 0 addr).fcredit p 1
    else
      let s2 := s1.failLog p idx time mask 1 (grpField gs) addr
      let s3 := if gs.isEmpty then s2.inc (pp p + R.portFailCnt1) 31 16 else s2
      s3.failQueue p (gs.map (fun g => s.delivery p g mask addr)) true

/-- The deliveries at the front of a list that go to one tile, up to `n` (R210). -/
def sameTile (t : Nat) : Nat → List Delivery → List Delivery × List Delivery
  | 0, l => ([], l)
  | _ + 1, [] => ([], [])
  | n + 1, d :: r => if dTile d.dest = t then (let (a, b) := sameTile t n r; (d :: a, b)) else ([], d :: r)

/-- The port sends the next deliveries of its oldest record on VN3, up to three to a flit; a record that has made its last
delivery leaves the ingress buffer (R201, R210, R240). Without a route, or while the network interface has no room for the flit,
they wait, and the buffer fills. -/
def State.failSend (s : State) (p : Nat) : State :=
  match (s.port p).fails with
  | [] => s
  | r :: rs =>
    match r.dels with
    | [] => (s.updPort p (fun x => { x with fails := rs })).failLeaves p r.cred
    | d :: _ =>
      let (now, later) := sameTile (dTile d.dest) 3 r.dels
      let n := pageNode .hub (p / 4)
      if 4 ≤ flitCount (s.buf (bufKey n 4 3)) ∨ (SMap.get [] s.heldFlits n).any (fun f => f.vn == 3) then s
      else match s.inject n (tileNode (dTile d.dest)) 3 5 0 (.fails p now) with
      | (false, _) => s
      | (true, s1) =>
        let s2 := (s1.updPort p (fun x => { x with fails := if later.isEmpty then rs else { r with dels := later } :: rs })).inc
          (pp p + R.portFailCnt2) 63 32 now.length
        if later.isEmpty then s2.failLeaves p r.cred else s2

/-- A delivery makes its node fire (R207 to R211). -/
def State.failFire (s : State) (d : Delivery) : State :=
  let t := dTile d.dest
  let slot := SMap.get 0 ((s.tile t).pe (dPe d.dest)).nodes (dNode d.dest)
  let ctl : Byte := if d.fin then 0x72 else 0x60
  let tag (it : Nat) : Tag := BitVec.ofNat 48 (d.ctx * 2 ^ 32 + it % 2 ^ 24 * 256 + d.colour)
  let s1 := s.fired t d.ctx
  if sOp slot = 0x801 ∧ sMode slot = 0 then
    (s1.outTo t slot (tag d.rowKey) 0 d.row ctl).outTo t slot (tag d.colKey) 1 d.col ctl
  else (s1.divert t { dest := plainDest d.dest, tag := tag d.rowKey, value := d.row, ctl := ctl } false).fault
    (tp t) .config

/-- May a delivery that has reached its tile make its node fire now? -/
def State.failReady (s : State) (d : Delivery) : Bool := s.peReady (dTile d.dest) (dPe d.dest)

/-- FAIL_IN: the first delivery of the port that has reached its tile, and whose PE can begin, makes its node fire; with none the
port sends its next deliveries (R207 to R211). -/
def State.failIn (s : State) (p : Nat) : State :=
  match takeFirst (fun e => e.1 == p && s.failReady e.2) s.failArr with
  | some (e, r) => { s with failArr := r }.failFire e.2
  | none => s.failSend p

/-- EN of PORT_FAIL_CTL is set while it was 0 (R205, R240). -/
def State.failEnable (s : State) (p : Nat) : State :=
  let s1 := ((s.putB (pp p + R.portFailStat) 0 false).putB (pp p + R.portFailStat) 1 false).putF (pp p + R.portFailStat) 15 8 0
  if (s.port p).credHold then
    let s2 := s1.updPort p (fun x => { x with credHold := false })
    if s.lnk p = 4 then s2.fcredit p (s.failRoom p) else s2
  else s1

/-! ## Counts of the link (R237, R244, R246) -/

/-- CREDITS of the current run, taken where they rise (R237, R238). -/
def State.credits (s : State) (p : Nat) (c : Word) (run : Nat) : State :=
  if run = s.run p ∧ (s.reg (pp p + R.portLnkCred)).toNat < c.toNat then
    (s.setReg (pp p + R.portLnkCred) c).updPort p (fun x => { x with credLog := x.credLog ++
      [(c.toNat, match x.blk with | some n => n | none => 0)] })
  else s

/-- An upstream SYNC (R244, R246, Table 7.5), brace selection apart. -/
def State.upSync (s : State) (p : Nat) (f : UpSync) : State :=
  let st := pp p + R.portLnkStat
  let s0 := s.updPort p (fun x => { x with lastSync := s.now })
  let s1 := (((s0.putB st 9 f.selected).putB st 10 f.otherUp).putB st 11 f.conflict).putF st 31 16 f.gen.toNat
  let s2 := s1.credits p f.credits f.run.toNat
  let s3 := if f.run.toNat = s.run p then
      let s' := s2.setReg (plt p R.hubPltCons) f.consumed
      if s.syncRole = 2 ∧ f.consumed ≠ BitVec.allOnes 64 then
        s'.updPlate p (fun x => x.dropTo x.words.length (f.consumed.toNat + 1)) else s'
    else s2
  let fc := pp p + R.portLnkFcred
  let lost := (f.failsSent - BitVec.ofNat 32 (s.f fc 63 32) - (s.port p).lostF).toNat
  let s4 := if 0 < lost ∧ lost < 2 ^ 31 then
      ((((s3.inc (pp p + R.portLnkErr) 47 32 lost).sat p (fun _ => true)).updPort p
        (fun x => { x with lostF := x.lostF + BitVec.ofNat 32 lost })).fcredit p lost).fault (pp p) .uncorrectable
    else s3
  let adv := (f.lostSlots - (s.port p).lostSlots).toNat
  let s5 := if adv ≠ 0 then
      let s' := (s4.inc (pp p + R.portLnkErr) 31 16 adv).updPort p (fun x => { x with lostSlots := f.lostSlots })
      (match (s.plate p).feed with | some h => s'.invalid h | none => s').fault (pp p) .uncorrectable
    else s4
  if f.endSent && f.run.toNat == s.run p && (s.port p).endRun != some (s.run p) then
    let s' := (s5.sat p (fun _ => true)).inc (pp p + R.portLnkErr) 47 32
    (s'.endCapture p (s'.consumed p) s.now.toNat 0 0 false).fault (pp p) .uncorrectable
  else s5

/-! ## Training and link states (R247 to R251, R259) -/

/-- Set STATE of a port's link; LOST stays until UP (R247). -/
def State.setLnk (s : State) (p v : Nat) : State :=
  if s.lnk p = 5 ∧ v ≠ 4 ∧ v ≠ 0 then s else s.putF (pp p + R.portLnkStat) 2 0 v

/-- The hub's spare lane carries a lane of this port: it goes back to its default (R252). -/
def State.freeSpare (s : State) (p : Nat) : State :=
  match (s.port p).onSpare with
  | some _ => ((s.putF (hp (p / 4) + R.hubLnkSpare) 14 12 0).putB (pp p + R.portLnkStat) 8 false).updPort p
      (fun x => { x with onSpare := none })
  | none => s

/-- A live substitution that its link's end overtakes does not move the lane: STATE FAILED (R253, log entry 62). -/
def State.swapLost (s : State) (p : Nat) : State :=
  let o := hp (p / 4) + R.hubLnkSpare
  if p < 96 ∧ s.f o 6 0 = p ∧ (s.f o 14 12 = 1 ∨ s.f o 14 12 = 2) then
    (s.putF o 14 12 4).updHub (p / 4) (fun h => { h with acked := false })
  else s

/-- The link leaves block mode: requests not yet sent end at once (R254); a Plate in the safe state ends (R190). -/
def State.linkDown (s0 : State) (p : Nat) : State :=
  let s := s0.swapLost p
  let x := s.port p
  let unsent := x.sb.filter (fun q => q.sent.isNone)
  let s1 := (unsent ++ x.sbWait).foldl (fun s q => (s.inc (pp p + R.portLnkSb) 31 16).react (.sb q 4 0)) s
  let s2 := s1.updPort p (fun x => { x with
    blk := none, lastCtl := none, ctlq := x.ctlq.filter (fun b => match b with | .sbReq _ _ _ _ _ => false | _ => true),
    sb := x.sb.filter (fun q => q.sent.isSome), sbWait := [], switching := false, locks := [], readies := 0,
    frameT := 0, goTx := none, goRx := false, idSeen := false, skews := [], msgq := [], txBlks := [] })
  let s3 := s2.putF (pp p + R.portLnkStat) 7 3 0
  if (s.plate p).abort then
    (match (s.plate p).feed with | some h => s3.invalid h | none => s3).plateEnd p true true else s3

/-- The PRBS13 of a link's lanes start from values that the spec leaves open (log entry 62). -/
def State.seedLanes (s : State) (p : Nat) : State :=
  (List.range (lanesOf p)).foldl (fun s k =>
    let (w, s1) := s.draw
    s1.updPort p (fun x => { x with prbs := SMap.set 0 x.prbs k (w.truncate 13) })) s

/-- Return to step 2 of Table 7.7; `count` counts a RETRAIN. -/
def State.retrain (s : State) (p : Nat) (count : Bool) : State :=
  let s1 := (s.linkDown p).freeSpare p
  let s2 := ((s1.setLnk p 1).seedLanes p).updPort p (fun x => { x with phase := 1, trainAt := s.now })
  if count then s2.inc (pp p + R.portLnkTrain) 15 0 else s2

/-- EN cleared: the lanes idle, the link is DISABLED (R259). -/
def State.linkOff (s : State) (p : Nat) : State :=
  (((s.linkDown p).freeSpare p).putF (pp p + R.portLnkStat) 2 0 0).updPort p (fun x => { x with phase := 0 })

/-- The link is UP (R240, R250, R256): counts restart, the run number among them (Table 7.3), and the port sends SWITCH. -/
def State.linkUp (s : State) (p : Nat) : State :=
  let s1 := (s.setLnk p 4).putF (pp p + R.portLnkTrain) 39 32 0
  let s2 := (s1.setReg (pp p + R.portLnkFcred) 0).updPort p (fun x => { x with lostSlots := 0, lostF := 0, lastSync := s.now })
  if s.bamior p then s2.linkResume p
  else
    let s3 := (s2.putF (pp p + R.portLnkStat) 47 32 0).updPort p (fun x => { x with
      endRun := if x.endRun = some (s.run p) then some 0 else none })
    ((s3.fcredit p (s.failRoom p)).ctlBlock p (.switch (s.portGen p))).updPort p (fun x => { x with switching := true })

/-- Step 5 of Table 7.7 ends: LINKID has been received, and 8 codewords (3,277 pt) have passed without an uncorrectable one. -/
def State.tryUp (s : State) (p : Nat) : State :=
  let x := s.port p
  if x.phase = 4 ∧ s.lnk p ≠ 4 ∧ x.idSeen ∧ 3277 ≤ dur x.badAt s.now then s.linkUp p else s

/-- Both ends have counted down: block mode (step 4 of Table 7.7). -/
def State.blockMode (s : State) (p : Nat) : State :=
  let x := s.port p
  if x.phase = 3 ∧ x.goRx ∧ x.blk.isSome then
    let s1 := s.updPort p (fun x => { x with phase := 4, lastSync := s.now, badAt := s.now })
    if p < 96 then s1.putB (pp p + R.portLnkStat) 3 true else s1
  else s

/-- LINKID of a Bamior link; the spec does not give PORT of a brace link (log entry 62). -/
def State.bamiorId (s : State) (l : Nat) : State :=
  let (w, s1) := if l < 96 then (BitVec.ofNat 64 l, s) else s.draw
  s1.linkRaw l (.linkid s.fuses.serial (BitVec.ofNat 10 s.deviceId) (w.toNat % 128) s.fuses.stepping)

/-- The codeword after the last GO frame is codeword 0 of block mode; LINKID waits for its block time (Table 7.7). -/
def State.txStart (s : State) (p : Nat) : State :=
  let (w, s0) := s.draw
  let s1 := s0.updPort p (fun x => { x with blk := some 0, lastCtl := none, txBlks := [], scram := w.truncate 58 })
  (if decide (96 ≤ p) || s.bamior p then s1.bamiorId p
    else s1.ctlBlock p (.linkid s.fuses.serial s.deviceId p s.fuses.stepping)).blockMode p

/-- The training frames of a port's lanes with a STATE and COUNT; a lane that the spare carries is sent there (R252). -/
def State.sendFrames (s : State) (p state count : Nat) : State :=
  (List.range (lanesOf p)).foldl (fun s l => s.sendFrame p l l ((s.port p).onSpare == some l) state count) s

/-- A block time of a port that trains: one frame on every lane in each codeword period of 20 block times; GO frames count
down from 15 (R249, R250). -/
def State.trainTime (s : State) (p : Nat) : State :=
  let x := s.port p
  let s0 := s.updPort p (fun x => { x with frameT := x.frameT + 1 })
  if x.frameT % 20 ≠ 0 then s0
  else match x.phase, x.goTx with
  | 1, _ => s0.sendFrames p 1 0
  | 2, _ => s0.sendFrames p 2 0
  | _, some c => (s0.sendFrames p 3 c).updPort p (fun x => { x with goTx := if c = 0 then none else some (c - 1) })
  | _, none => s0.txStart p

/-- Does a port send training frames now? -/
def State.training (s : State) (p : Nat) : Bool := decide (1 ≤ (s.port p).phase) && (s.port p).blk.isNone

/-- Frames in a row with marker and lane. -/
def PortSt.lockCount (x : PortSt) (k lane : Nat) (f : TrainFrame) : Nat :=
  if f.marker && f.lane == lane then SMap.get 0 x.locks k + 1 else 0

/-- A frame on the hub's spare during a live substitution (Table 7.8): the lock of the hub's receiver sends LANEMAP. Whether the
pin slice's receiver has locked reaches the hub in no frame (log entry 62). -/
def State.spareLive (s : State) (p : Nat) (f : TrainFrame) : State :=
  let x := s.port p
  let o := hp (p / 4) + R.hubLnkSpare
  let n := x.lockCount 4 (s.f o 9 8) f
  let s1 := s.updPort p (fun x => { x with locks := SMap.set 0 x.locks 4 n })
  if 64 ≤ n then
    let at_ := (x.codeword + 256) % 2 ^ 32
    ((s1.putF o 14 12 2).ctlBlock p (.lanemap (s.f o 9 8) at_)).updHub (p / 4)
      (fun h => { h with swapAt := at_, acked := false })
  else s1

/-- Are the lanes of a link deskewed: do the frames of each come at most 32 symbols behind those of any other (step 3 of Table
7.7)? -/
def PortSt.deskewed (x : PortSt) (n : Nat) : Bool :=
  let l := (List.range n).map (fun k => SMap.get 0 x.skews k)
  l.all (fun a => l.all (fun b => decide (a ≤ b + 32)))

/-- The sixteenth READY frame has come and the lanes are deskewed: GO (Table 7.7). -/
def State.readyFrame (s : State) (p n : Nat) (go : State → State) : State :=
  let s1 := s.updPort p (fun x => { x with readies := min (x.readies + 1) 16 })
  if 16 ≤ (s1.port p).readies ∧ (s1.port p).deskewed n then
    (go s1).updPort p (fun x => { x with phase := 3, frameT := 0, goTx := some 15 })
  else s1

/-- A frame of logical lane `lane` in step 2 of Table 7.7: marker lock after 64 consecutive frames. -/
def State.laneFrame (s : State) (p lane : Nat) (f : TrainFrame) : State :=
  let n := (s.port p).lockCount lane lane f
  let s1 := s.updPort p (fun x => { x with locks := SMap.set 0 x.locks lane n })
  let s2 := s1.putB (pp p + R.portLnkStat) (4 + lane) (decide (64 ≤ n))
  if (List.range 4).all (fun l => decide (64 ≤ SMap.get 0 (s2.port p).locks l)) then
    (s2.setLnk p 2).updPort p (fun x => { x with phase := 2, readies := 0 })
  else s2

/-- TRAINING_FRAME at a port (R250, R252). Lane 4 is the hub's spare: it is heard in a live substitution, and for the lane that
the spare carries, whose own lane is then not heard. -/
def State.trainFrame (s0 : State) (p lane : Nat) (f : TrainFrame) : State :=
  let x := s0.port p
  let s := if f.marker then s0.updPort p (fun x => { x with skews := SMap.set 0 x.skews f.lane f.skew }) else s0
  let o := hp (p / 4) + R.hubLnkSpare
  if lane = 4 ∧ s.f o 14 12 = 1 ∧ s.f o 6 0 = p then s.spareLive p f
  else if x.onSpare = some lane ∨ (lane = 4 ∧ x.onSpare = none) then s
  else match x.phase with
  | 1 => s.laneFrame p (if lane = 4 then x.onSpare.getD 0 else lane) f
  | 2 =>
    if f.marker && f.state == 2 then
      if f.mode ≠ b2n (s.bamior p) then s.inc (pp p + R.portLnkErr) 63 48
      else s.readyFrame p 4 (fun s => s.setLnk p 3)
    else s
  | 3 =>
    if f.marker && f.state == 3 && f.count == 0 then (s.updPort p (fun x => { x with goRx := true })).blockMode p else s
  | _ => s

/-- TRAINING_TIMEOUT: not UP within TIMEOUT_MS of step 2 (R251). -/
def State.trainTimeout (s : State) (p : Nat) : State :=
  let x := s.port p
  if 1 ≤ x.phase ∧ s.lnk p ≠ 4 ∧ 1000 * us * s.f (pp p + R.portLnkCtl) 47 32 ≤ dur x.trainAt s.now then
    let n := s.f (pp p + R.portLnkTrain) 39 32 + 1
    let s1 := (s.retrain p true).putF (pp p + R.portLnkTrain) 39 32 (min n 255)
    if n = 3 then s1.fault (pp p) .timeout else s1
  else s

/-- HEARTBEAT_LOSS of a port's link: no SYNC for three intervals of 327.68 ns (R247). -/
def State.hbLost (s : State) (p : Nat) : State :=
  if (s.port p).phase = 4 ∧ 15729 ≤ dur (s.port p).lastSync s.now then
    let s1 := (s.putF (pp p + R.portLnkStat) 2 0 5).inc (pp p + R.portLnkTrain) 31 16
    (s1.retrain p true).fault (pp p) .timeout
  else s

/-- SPARE_LOCK_TIMEOUT: a lane of the wired port without marker lock within 1 ms moves to the spare (R252). -/
def State.spareLock (s : State) (p lane : Nat) : State :=
  let o := hp (p / 4) + R.hubLnkSpare
  if (s.port p).phase = 1 ∧ lane < 4 ∧ 1000 * us ≤ dur (s.port p).trainAt s.now ∧ SMap.get 0 (s.port p).locks lane < 64 ∧
      s.b o 7 ∧ s.f o 6 0 = p ∧ s.f o 14 12 = 0 then
    (((s.putF o 14 12 3).putF o 17 16 lane).putB (pp p + R.portLnkStat) 8 true).updPort p
      (fun x => { x with onSpare := some lane, locks := SMap.set 0 x.locks lane 0 })
  else s

/-! ## Live spare substitution (R253) -/

/-- GO of HUB_LNK_SPARE, where the wired port is UP (step 1 of Table 7.8). -/
def State.spareGo (s : State) (h : Nat) : State :=
  let o := hp h + R.hubLnkSpare
  let (w, s1) := s.draw
  (s1.putF o 14 12 1).updPort (s.f o 6 0) (fun x => { x with locks := SMap.set 0 x.locks 4 0,
                                                             prbs := SMap.set 0 x.prbs 4 (w.truncate 13) })

/-- LANEMAP_ACK in time (step 3). -/
def State.lanemapAck (s : State) (h : Nat) (swapAt : Nat) : State :=
  let o := hp h + R.hubLnkSpare
  let x := s.hub h
  if s.f o 14 12 = 2 ∧ swapAt = x.swapAt ∧ 64 < (s.port (s.f o 6 0)).until x.swapAt ∧
      (s.port (s.f o 6 0)).until x.swapAt ≤ 256 then
    s.updHub h (fun x => { x with acked := true })
  else s

/-- No LANEMAP_ACK in time: FAILED and a timeout fault. -/
def State.lanemapTimeout (s : State) (h : Nat) : State :=
  let o := hp h + R.hubLnkSpare
  let x := s.hub h
  if s.f o 14 12 = 2 ∧ !x.acked ∧ !(64 < (s.port (s.f o 6 0)).until x.swapAt ∧
      (s.port (s.f o 6 0)).until x.swapAt ≤ 256) then
    (s.putF o 14 12 4).fault (hp h) .timeout
  else s

/-- The lane moves at codeword SWAP_AT (step 4). -/
def State.laneSwap (s : State) (h : Nat) : State :=
  let o := hp h + R.hubLnkSpare
  let p := s.f o 6 0
  if s.swapDue h then
    (((s.putF o 14 12 3).putF o 17 16 (s.f o 9 8)).putB (pp p + R.portLnkStat) 8 true).updPort p
      (fun y => { y with onSpare := some (s.f o 9 8) })
  else s

/-! ## Sideband (R254, R255, R277) -/

/-- Issue waiting requests on free tags; `n` bounds their number. -/
def State.sbPump (s : State) (p : Nat) : Nat → State
  | 0 => s
  | n + 1 =>
    let x := s.port p
    let tag := (List.range 16).find? (fun t => !x.sb.any (fun q => q.tag == t) && !x.sbBlocked.any (fun b => b.1 == t))
    match x.sbWait, tag with
    | q :: r, some t =>
      ((s.updPort p (fun x => { x with sbWait := r, sb := x.sb ++ [{ q with tag := t }] })).ctlBlock p
        (.sbReq t (b2n q.write) q.be q.addr q.data)).sbPump p n
    | _, _ => s

/-- A Retriever subchannel makes a sideband request (R254): at most 16 are outstanding, others wait. A port whose link is
not UP ends it at once. -/
def State.sbIssue (s : State) (p : Nat) (q : SbReq) : State :=
  if s.lnk p ≠ 4 ∨ s.bamior p then (s.inc (pp p + R.portLnkSb) 31 16).react (.sb q 4 0)
  else (s.updPort p (fun x => { x with sbWait := x.sbWait ++ [q] })).sbPump p 16

/-- SB_RSP (R254, R255, R277). A reserved STATUS is taken as ERROR. -/
def State.sbRsp (s : State) (p tag status : Nat) (data : Word) : State :=
  match takeFirst (fun q => q.tag == tag && q.sent.isSome) (s.port p).sb with
  | none => s.inc (pp p + R.portLnkSb) 47 32
  | some (q, r) =>
    let s1 := s.updPort p (fun x => { x with sb := r })
    let s2 := if status = 1 then s1.inc (pp p + R.portLnkSb) 63 48 else s1
    let s3 := if 3 < status then (s2.inc (pp p + R.portLnkErr) 63 48).fault (pp p) .protocol else s2
    (s3.react (.sb q (if 3 < status then 3 else status) data)).react (.sbPump p)

/-- SIDEBAND_TIMEOUT: a request unanswered 10 µs after its block was sent; its tag stays unused for 10 µs more
(R254). -/
def State.sbTimeout (s : State) (p tag : Nat) : State :=
  let due (q : SbReq) : Bool := q.tag == tag && match q.sent with | some a => decide (10 * us ≤ dur a s.now) | none => false
  match takeFirst due (s.port p).sb with
  | none => s
  | some (q, r) =>
    let s1 := s.updPort p (fun x => { x with sb := r, sbBlocked := x.sbBlocked ++ [(tag, s.now + BitVec.ofNat 64 (10 * us))] })
    (s1.inc (pp p + R.portLnkSb) 31 16).react (.sb q 4 0)

/-- SB_TAG_RELEASE: a blocked tag may be used again (R254). -/
def State.sbRelease (s : State) (p tag : Nat) : State :=
  match takeFirst (fun b => b.1 == tag && decide (b.2.toNat ≤ s.now.toNat)) (s.port p).sbBlocked with
  | none => s
  | some (_, r) => (s.updPort p (fun x => { x with sbBlocked := r })).sbPump p 16

/-! ## Switch-over (R256, R257) -/

/-- SWITCH is sent, and repeated until its RESUME (R256). -/
def State.switchSend (s : State) (p : Nat) : State :=
  if s.lnk p = 4 ∧ !s.bamior p then
    (s.ctlBlock p (.switch (s.portGen p))).updPort p (fun x => { x with switching := true })
  else s

/-- The page in which a link reports: its PORT page, or BRC for a brace link (96 and 97). -/
def linkPage (l : Nat) : Nat := if l < 96 then pp l else pageAt .brc 0

/-- UPSTREAM_INVALID_BLOCK: a block that the receiver discards (R233, R480, Table 7.2, Table 15.1). -/
def State.invalidBlock (s : State) (l : Nat) (isData : Bool) (code : Byte) : State :=
  let c := code.toNat
  let all := c == 0 || c == 8 || (0x20 ≤ c && c ≤ 0x2B)
  let ok := if 96 ≤ l then all || (0x30 ≤ c && c ≤ 0x37)
    else if s.bamior l then all else c == 0 || c == 8 || (0x10 ≤ c && c ≤ 0x15)
  if (s.port l).phase = 4 ∧ (isData ∨ !ok) then
    (if l < 96 then s.inc (pp l + R.portLnkErr) 63 48 else s).fault (linkPage l) .protocol
  else s

/-- Function reset of a PORT page (R228, R240, R259). -/
def State.portReset (s : State) (p : Nat) : State :=
  let x := s.port p
  let s1 := (x.sb ++ x.sbWait).foldl (fun s q => s.react (.sb q 4 0)) s
  let s2 := (s1.updPort p (fun y => { y with sb := [], sbWait := [] })).linkOff p
  let s3 := s2.updPort p (fun _ => { credHold := true })
  ({ s3 with wfail := s3.wfail.filter (fun o => o != pp p + R.portFailLog) }.resetRegs (pp p) 0x100 0xA00)

end Sys2Proof.Machine
end

