-- ==== Sys2Proof/Machine/PwrOps.lean ====
section
/-! DEFINITION. Power domains and the slack governor (R457 to R469), pack time (R470 to R473) and gauges (R474 to
R476). -/

namespace Sys2Proof.Machine

/-! ## Power-down (R457, R458, R461, R464) -/

/-- Are a tile's PE queues and queue chains empty, with no firing in progress (Table 14.1)? One that waits in a TWAIT, for a loop
credit or for its turn is in progress. -/
def Tile.atRest (x : Tile) : Bool :=
  x.inflight.isEmpty && x.wait.isEmpty && x.arr.isEmpty && x.twait.isEmpty && x.seq.all (fun e => e.held.isEmpty) &&
    x.pes.all (fun e => e.2.queue.isEmpty && e.2.front.isEmpty && e.2.chain.isEmpty && e.2.ex.isEmpty)

/-- Is a TARGET a reserved encoding for a domain (R457, Table 14.1)? -/
def domReserved (d tgt : Nat) : Bool :=
  decide (2 < tgt) || (decide (168 ≤ d) && decide (d < 172) && tgt == 2) ||
    (decide (172 ≤ d) && decide (d < 174) && tgt != 0) || (decide (174 ≤ d) && tgt == 1)

/-- The conditions of Table 14.1 for RETAIN (1) or OFF (2). -/
def State.domCond (s : State) (d tgt : Nat) : Bool :=
  if d < 128 then
    let x := s.tile d
    s.b (tp d + R.tileFence) 0 || (x.atRest && (tgt == 1 || x.ms.isEmpty))
  else if d < 152 then
    let h := d - 128
    (List.range 4).all (fun i => !s.b (pp (4 * h + i) + R.portLnkCtl) 0 && (s.pst (4 * h + i) == 0 || s.pst (4 * h + i) == 3))
  else if d < 168 then
    let st := (s.core (d - 152)).st
    st == 0 || st == 4 || (tgt == 1 && st == 2)
  else if d < 172 then (s.hb (d - 168)).copy.isNone
  else if d < 174 then false
  else s.f (pageAt .brc 0 + R.brcStat) 5 4 == 0

/-- Apply a TARGET to a domain: false where the conditions of Table 14.1 do not hold, and the write then changes
nothing. Domain 173 follows the host link alone (Table 14.1). A change between RETAIN and OFF of a domain without power goes through COMMITTED, or through a wake
(log entry 25). -/
def State.domTarget (s : State) (o : Origin) (d tgt : Nat) : Bool × State :=
  let old := s.f (domAt d) 1 0
  let hold := fun (s : State) => { s with domHeld := SMap.set 0 s.domHeld d (tgt + 1 + 4 * o.toNat) }
  let own := fun (s : State) => { s with domOrg := SMap.set 0 s.domOrg d (o.toNat + 1) }
  match s.domState d with
  | 4 | 5 => (true, hold s)
  | 3 =>
    if tgt = 0 then (true, (s.putF (domAt d) 1 0 0).domAbort d o)
    else if tgt = old then (true, s)
    else if s.domCond d tgt then (true, own (s.putF (domAt d) 1 0 tgt))
    else (false, s.fault (pageAt .pwr 0) .config)
  | st =>
    if tgt = st ∨ d = 173 then (true, s.putF (domAt d) 1 0 tgt)
    else if tgt = 0 then (true, (s.putF (domAt d) 1 0 0).domWakeStart d o)
    else if st = 2 then (true, hold (s.domWakeStart d o))
    else if !s.domCond d tgt then (false, s.fault (pageAt .pwr 0) .config)
    else if st = 1 then (true, (own (s.putF (domAt d) 1 0 tgt)).domPut d 4 o)
    else (true, (own (s.putF (domAt d) 1 0 tgt)).domPut d 3 o)

/-- Apply the TARGET that was written during COMMITTED or WAKING (R464). -/
def State.domApplyHeld (s : State) (d : Nat) : State :=
  match SMap.get 0 s.domHeld d with
  | 0 => s
  | h => (({ s with domHeld := SMap.set 0 s.domHeld d 0 }).domTarget (BitVec.ofNat 16 (h / 4)) d (h % 4 - 1)).2

/-- Has an HBM controller no request left that has reached it? -/
def State.hbQuiet (s : State) (u : Nat) : Bool :=
  (s.hb u).copy.isNone && (s.hb u).iq.isEmpty && !s.inbox.any (fun q => unitOf q.req.addr.toNat == some u)

/-- DOMAIN_DRAIN_DONE: no request of the domain is outstanding and its work is done; the router closes its output
(steps 2 and 3 of Table 14.2). A core that an event has woken meanwhile has work again. -/
def State.domDrained (s : State) (d : Nat) : State :=
  let quiet := if d < 128 then (s.b (tp d + R.tileFence) 0 || (s.tile d).atRest) && !s.outst.any (fun o => o.node == tileNode d)
    else if d < 152 then (s.hub (d - 128)).flight.isEmpty && (List.range 4).all (fun i => (s.port (4 * (d - 128) + i)).fails.isEmpty)
    else if d < 168 then s.domCond d (s.f (domAt d) 1 0)
    else if d < 172 then s.hbQuiet (d - 168)
    else true
  if s.domState d = 3 ∧ quiet then s.domPut d 4 (s.domOrigin d) else s

/-- What OFF loses (Table 14.1, R458). -/
def State.domLose (s : State) (d : Nat) : State :=
  if d < 128 then
    (s.tileReset d).updTile d (fun x => { x with pes := [] })
  else if d < 152 then
    let h := d - 128
    (List.range 4).foldl (fun s i => (s.portReset (4 * h + i)).updPlate (4 * h + i) (fun _ => {})) (s.hubReset h)
  else if d < 168 then (s.coreReset (d - 152)).updCore (d - 152) (fun x => { x with cold := true })
  else if d < 174 then s
  else (s.updLink (96 + (d - 174)) (fun _ => {})).updPort (96 + (d - 174)) (fun _ => {})

/-- Does something wait for a domain to wake: a held flit, or for a core a signal, a pending source or a Watchdog trap
(R459, R462)? -/
def State.domCalled (s : State) (d : Nat) : Bool :=
  if d < 128 then !(s.heldFor (tileNode d)).isEmpty
  else if d < 152 then !(s.heldFor (pageNode .hub (d - 128))).isEmpty
  else if d < 168 then
    let c := d - 152
    decide (0 < (s.core c).sig) || (s.core c).wdTrap || (s.core c).restart ||
      s.barkPend.any (fun src => s.f (barkSrcAt src) 3 0 != 0 && s.f (barkSrcAt src) 7 4 == c)
  else if d < 172 then !(s.heldFor (unitNode (d - 168))).isEmpty
  else false

/-- DOMAIN_POWER_OFF_DONE: step 4 of Table 14.2. A wake starts at once where a flit is held or an access waits (R462). -/
def State.domPowerOff (s : State) (d : Nat) : State :=
  if s.domState d = 4 then
    let tgt := s.f (domAt d) 1 0
    let s1 := if tgt = 2 then s.domLose d else s
    let s2 := if 168 ≤ d ∧ d < 172 then s1.putB (hbp (d - 168) + R.hbmcStat) 1 true else s1
    let s3 := { s2 with wakeAsk := s2.wakeAsk.filter (fun e => e != d) }.domPut d tgt (s.domOrigin d)
    if s.wakeAsk.contains d ∨ (s3.domCalled d ∧ (tgt = 1 ∨ !(152 ≤ d ∧ d < 168))) then s3.domWakeStart d pwrAgent
    else s3.domApplyHeld d
  else s

/-- The node whose flits wait for a domain. -/
def domNode (d : Nat) : Option Nat :=
  if d < 128 then some (tileNode d) else if d < 152 then some (pageNode .hub (d - 128))
  else if 168 ≤ d ∧ d < 172 then some (unitNode (d - 168)) else none

/-- A core that has woken takes what woke it (R459, R318, R328). -/
def State.coreWoken (s : State) (c : Nat) : State :=
  let x := s.core c
  if x.restart then ((s.updCore c (fun x => { x with restart := false })).coreStart c).2
  else if x.wdTrap then (s.wakeBark c).wdTrapNow c
  else if 0 < x.sig then s.wakeCore c
  else if s.domCalled (152 + c) then s.wakeBark c
  else s

/-- Domains in a state that `f` selects. -/
def State.domCount (s : State) (f : Nat → Bool) : Nat := ((List.range 176).filter (fun d => f (s.domState d))).length

/-- Deep sleep (R460). -/
def State.deep (s : State) : Bool :=
  (List.range 168).all (fun d => s.domState d == 1 || s.domState d == 2) &&
    (List.range 4).all (fun u => s.domState (168 + u) == 1) && s.domState 174 == 2 && s.domState 175 == 2 &&
    s.f (pageAt .host 0 + R.hostLink) 1 0 == 3

/-! ## The slack governor (R465 to R469) -/

/-- The governed tiles that are ON. -/
def State.govTiles (s : State) : List Nat := (List.range 128).filter (fun t => s.governed t && s.domState t == 0)

/-- CRIT of a tile. -/
def State.crit (s : State) (t : Nat) : Nat := s.f (pageAt .pwr 1 + R.pwrTileMap + 8 * t) 27 24

/-- The streams in the order of class 2: highest PRIO number first, then higher stream number (R468). -/
def State.capOrder (s : State) : List Nat :=
  (List.range 64).flatMap (fun k => (List.range 24).reverse.filter (fun h =>
    s.strmLive h && s.f (hp h + R.hubStrmCtl) 13 8 == 63 - k))

/-- The groups of tiles that the cap lowers, in order, each with its limit and the stream that it caps (R468). -/
def State.capGroups (s : State) : List (List Nat × Nat × Option Nat) :=
  let ts := s.govTiles
  let vmin := s.f (pwp + R.pwrVlim) 9 0
  let idle := ts.filter (fun t => (s.tileStreams t).isEmpty)
  let of (h : Nat) : List Nat := ts.filter (fun t => (s.tileStreams t).contains h)
  (List.range 16).map (fun c => (idle.filter (fun t => s.crit t == c), vmin, none)) ++
    s.capOrder.map (fun h => (of h, 750, none)) ++ s.capOrder.map (fun h => (of h, vmin, some h))

/-- The governor's step in mV. -/
def State.stepMv (s : State) : Nat := s.f (pwp + R.pwrGov) 37 32

/-- Move the voltage of one tile down by a step, not below a limit. -/
def State.stepDown (s : State) (t lim : Nat) : State := s.setV t (max (min lim (s.vnow t)) (s.vnow t - s.stepMv))

/-- Move the voltage of one tile up by a step, not above a limit. -/
def State.stepUp (s : State) (t lim : Nat) : State := s.setV t (min (max lim (s.vnow t)) (s.vnow t + s.stepMv))

/-- The voltage from which the cap has lowered a tile; 0 where it has not (log entry 39). -/
def State.capV (s : State) (t : Nat) : Nat := SMap.get 0 s.capFrom t

/-- The cap lowers a tile: the voltage that it had is kept for its return. -/
def State.capTile (s : State) (t lim : Nat) : State :=
  if s.vnow t ≤ lim then s
  else { s with capFrom := SMap.set 0 s.capFrom t (if s.capV t = 0 then s.vnow t else s.capV t) }.stepDown t lim

/-- One interval in which the cap binds: the first group that is not at its limit is lowered (R468). -/
def State.capLower (s : State) : State :=
  match s.capGroups.find? (fun g => g.1.any (fun t => decide (g.2.1 < s.vnow t))) with
  | none => s
  | some g =>
    let s1 := g.1.foldl (fun s t => s.capTile t g.2.1) s
    match g.2.2 with | some h => s1.putB (pwp + R.pwrCapStat) h true | none => s1

/-- A tile returns toward the voltage from which the cap lowered it; there the cap has it no longer (log entry 39). -/
def State.capRaise (s : State) (t : Nat) : State :=
  let s1 := s.stepUp t (s.capV t)
  if s1.capV t ≤ s1.vnow t then { s1 with capFrom := SMap.set 0 s1.capFrom t 0 } else s1

/-- The groups in the order of their restoration, the reverse of that of R468: whole streams of class 3 toward 750 mV, stream tiles
of class 2, then tiles that are not stream tiles, highest CRIT first. -/
def State.capBack (s : State) : List (List Nat × Option Nat) :=
  let ts := s.govTiles
  let of (h : Nat) : List Nat := ts.filter (fun t => (s.tileStreams t).contains h)
  let low (l : List Nat) : List Nat := l.filter (fun t => s.capV t != 0)
  ((s.capOrder.reverse ++ List.range 24).filter s.capped).map (fun h => (of h, some h)) ++
    s.capOrder.reverse.map (fun h => (low (of h), none)) ++
    (List.range 16).reverse.map (fun c => (low (ts.filter (fun t => (s.tileStreams t).isEmpty && s.crit t == c)), none))

/-- One interval of restoration: the group lowered last rises (R468). -/
def State.capRestore (s : State) : State :=
  match s.capBack.find? (fun g => g.2.isSome || !g.1.isEmpty) with
  | none => s
  | some (ts, some h) =>
    let s1 := ts.foldl (fun s t => s.stepUp t 750) s
    if ts.all (fun t => decide (750 ≤ s1.vnow t)) then s1.putB (pwp + R.pwrCapStat) h false else s1
  | some (ts, none) => ts.foldl (fun s t => s.capRaise t) s

/-- The lowest FILL among a stream's Plates. -/
def State.lowFill (s : State) (h : Nat) : Nat := (s.fed h).foldl (fun n p => min n (s.plate p).words.length) 8192

/-- Mean queue occupancy of a tile's PEs, times four (R467). -/
def State.queueOcc (s : State) (t : Nat) : Nat := (List.range 4).foldl (fun n p => n + ((s.tile t).pe p).queue.length) 0

/-- May a stream tile that would rise do so while the cap binds? Of one stream the tiles of the highest CRIT rise first, of those that
the cap has not lowered (R466, log entry 39). -/
def State.critFirst (s : State) (t : Nat) : Bool :=
  (s.tileStreams t).any (fun h =>
    (s.govTiles.filter (fun u => (s.tileStreams u).contains h && s.capV u == 0)).all (fun u => decide (s.crit u ≤ s.crit t)))

/-- One tile in one interval (R466, R467). `warm`: its sensor reads at or above WARN_C; a tile that the cap has lowered returns by
R468 alone. -/
def State.govTile (s : State) (t : Nat) (warm binds : Bool) : State :=
  let hs := s.tileStreams t
  let lim := s.reg (pwp + R.pwrVlim)
  let held := warm || s.capV t != 0
  if hs.isEmpty then
    if s.queueOcc t < 4 * s.f (pwp + R.pwrGov) 48 40 then s.stepDown t (fld lim 9 0)
    else if fld lim 25 16 < s.vnow t then s.stepDown t (fld lim 25 16)
    else if held then s else s.stepUp t (fld lim 25 16)
  else if s.tileCapped t then s
  else if hs.any (fun h => decide (s.lowFill h < s.f (pwp + R.pwrGov) 13 0)) then
    if held || (binds && !s.critFirst t) then s else s.stepUp t 950
  else if hs.all (fun h => decide (s.f (pwp + R.pwrGov) 29 16 < s.lowFill h)) then s.stepDown t 750
  else s

/-- Set LEVEL directly (R518): reason DIRECT, with the class of the fault that the cause raises. -/
def State.direct (s : State) (page lvl cls : Nat) : State :=
  if s.f (page + R.pgErrLevel) 1 0 < lvl then s.setLevel page lvl 3 cls else s

/-- The sensors of one interval (R469), in eighths of a degree. -/
def State.thermal (s : State) (l : List (Nat × Int)) : State :=
  let th := s.reg (pwp + R.pwrTherm)
  let hot := l.foldl (fun (b : Option (Nat × Int)) x => match b with
    | some y => if y.2 < x.2 ∨ (y.2 = x.2 ∧ x.1 < y.1) then some x else b
    | none => some x) none
  match hot with
  | none => s
  | some (n, c) =>
    let s1 := (s.putF (pwp + R.pwrTherm) 27 16 (c + 512).toNat).putF (pwp + R.pwrTherm) 39 32 n
    let s2 := if (8 * fld th 7 0 : Int) ≤ c then s1.pageInt pwp 0 else s1
    let trip : Bool := decide ((8 * fld th 15 8 : Int) ≤ c)
    let s3 := { s2 with tripHot := trip }
    if trip then (s3.fault pwp .timeout).direct pwp 3 3 else s3

/-- The tiles that the cap does not lower in this interval: those whose voltage it leaves. -/
def State.govRest (s0 s : State) (ts : List Nat) : List Nat := ts.filter (fun t => s0.vnow t == s.vnow t)

/-- One interval of the governor's voltages (R465 to R468): the floor, the cap where the package power binds, then every tile that
the cap did not move; below LIMIT_W − 10 W restoration goes on. -/
def State.govern (s : State) (i : GovIn) (binds : Bool) : State :=
  let lim := s.f (pwp + R.pwrCap) 8 0
  let warm (t : Nat) : Bool := i.temps.any (fun e => e.1 == tileNode t && decide ((8 * s.f (pwp + R.pwrTherm) 7 0 : Int) ≤ e.2))
  let s1 := s.govTiles.foldl (fun s t => s.floorTile t) s
  let s2 := if binds then (s1.inc (pwp + R.pwrCapStat) 63 48).capLower
    else if i.watts + 10 < lim ∨ !s.b (pwp + R.pwrCtl) 1 then s1.capRestore else s1
  (s1.govRest s2 s1.govTiles).foldl (fun s t => s.govTile t (warm t) binds) s2

/-- GOVERNOR_INTERVAL (R465 to R469): one interval, 160,000 pt after the last (log entry 58). -/
def State.governor (s : State) (i : GovIn) : State :=
  if dur s.govAt s.now < 10 * us then s
  else
    let s0 := { s with govAt := s.now }
    let s1 := (s0.thermal i.temps).putF (pwp + R.pwrCapStat) 47 32 i.watts
    if s1.b (pwp + R.pwrCtl) 0 then
      let binds := s1.b (pwp + R.pwrCtl) 1 && decide (s1.f (pwp + R.pwrCap) 8 0 < i.watts)
      let s2 := s1.govern i binds
      let bottom := binds && s1.govTiles.all (fun t => decide (s1.vnow t ≤ s1.f (pwp + R.pwrVlim) 9 0))
      let was := s2.b (pwp + R.pwrCapStat) 25
      let s3 := (s2.putB (pwp + R.pwrCapStat) 24 binds).putB (pwp + R.pwrCapStat) 25 bottom
      if bottom && !was then s3.fault pwp .config else s3
    else s1.putB (pwp + R.pwrCapStat) 24 false

/-- RUN of a stream raises its governed tiles to the floor (R466). -/
def State.floorStream (s : State) (h : Nat) : State :=
  (s.govTiles.filter (fun t => (s.tileStreams t).contains h)).foldl (fun s t => s.floorTile t) s

/-- DOMAIN_WAKE_DONE: STATE becomes ON, a governed tile of a live stream takes the floor (R25, R466); what waited is then served
and a held TARGET applied (R463, R464). -/
def State.domWakeDone (s : State) (d : Nat) : State :=
  if s.domState d = 5 then
    let s1 := s.domPut d 0 (s.domOrigin d)
    let s2 := if 168 ≤ d ∧ d < 172 then s1.putB (hbp (d - 168) + R.hbmcStat) 1 false
      else if 152 ≤ d ∧ d < 168 then (s1.updCore (d - 152) (fun x => { x with cold := false })).coreWoken (d - 152)
      else if 174 ≤ d then (s1.updPort (96 + (d - 174)) (fun x => { x with phase := 1, trainAt := s.now })).seedLanes (96 + (d - 174))
      else if d < 128 ∧ s1.governed d then s1.floorTile d
      else s1
    s2.react (.woken d)
  else s

/-! ## Pack time (R470 to R473) -/

/-- Page of the time unit. -/
def tmp : Nat := pageAt .time 0

/-- PACK_SYNC_EDGE (R472). -/
def State.packSync (s : State) : State :=
  if s.b (tmp + R.timeCtl) 2 then
    let s1 := s.putB (tmp + R.timeCtl) 2 false
    let t := s.reg (tmp + R.timeLoad)
    if t.toNat < s.now.toNat then (s1.inc (tmp + R.timeStat) 63 48).fault tmp .config
    else (({ s1 with now := t }).inc (tmp + R.timeStat) 47 32).pageInt tmp 1
  else s

/-- ROLE of the device's pack time: 0 FREE, 1 LEAD, 2 FOLLOWER. -/
def State.timeRole (s : State) : Nat := s.f (tmp + R.timeCtl) 1 0

/-- REF_LOSS: a LEAD device sees no reference edge for 400 ns (R473). -/
def State.refLoss (s : State) : State :=
  if s.timeRole = 1 ∧ !s.b (tmp + R.timeStat) 2 then
    ((s.putF (tmp + R.timeStat) 2 0 4).pageInt tmp 0).fault tmp .timeout
  else s

/-- REFERENCE_RETURN: edges return to a LEAD device; the relock starts (R473). -/
def State.refReturn (s : State) : State :=
  if s.timeRole = 1 ∧ !s.b (tmp + R.timeStat) 0 then s.putF (tmp + R.timeStat) 2 0 1 else s

/-- TIME_LOCK: the phase error of a LEAD has stayed within its bound for 1 ms (R471). -/
def State.timeLock (s : State) : State :=
  if s.timeRole = 1 ∧ s.b (tmp + R.timeStat) 0 then s.putB (tmp + R.timeStat) 1 true else s

/-- A write of TIME_CTL that changes ROLE: the new role has neither phase lock nor measured offsets yet, so LOCKED clears (R471). -/
def State.timeRoleSet (s : State) (old : Nat) : State :=
  if s.timeRole = old then s else { s with timeOffs := [] }.putB (tmp + R.timeStat) 1 false

/-- A measured offset of a FOLLOWER: OFFSET shows the last one, LOCKED is set while the last 16 lie within ±8 pt
(R471). -/
def State.timeOffset (s : State) (x : Int) : State :=
  if s.timeRole = 2 then
    let l := (x :: s.timeOffs).take 16
    (({ s with timeOffs := l }).putF (tmp + R.timeStat) 31 16 (x % 65536).toNat).putB (tmp + R.timeStat) 1
      (decide (l.length = 16) && l.all (fun d => decide (-8 ≤ d) && decide (d ≤ 8)))
  else s

/-! ## Gauges (R474 to R476) -/

/-- Is a source code listed in Tables 3.11, 5.6 and 14.3, or 0 for off (R476)? -/
def gaugeSource (c : Nat) : Bool :=
  c == 0 || (decide (0x1000 ≤ c) && decide (c < 0x1400) && decide (c % 8 < 5)) ||
    (decide (0x2000 ≤ c) && decide (c < 0x2180) && decide (c % 4 < 2)) ||
    (decide (0x2180 ≤ c) && decide (c < 0x21E0) && decide (c % 4 < 3)) ||
    (decide (0x3000 ≤ c) && decide (c < 0x3000 + 128)) || (decide (0x4000 ≤ c) && decide (c < 0x40B0)) ||
    (decide (0x4100 ≤ c) && decide (c < 0x41B0)) || (decide (0x4200 ≤ c) && decide (c < 0x42A0)) || c == 0x4300

/-- Does a gauge source count events between its sample points: FIRE, void words, ACCEPT? -/
def gaugeCounts (c : Nat) : Bool :=
  (decide (0x1000 ≤ c) && decide (c < 0x1400) && c % 8 == 4) || (decide (0x2000 ≤ c) && decide (c < 0x2180) && c % 4 == 1) ||
    (decide (0x2180 ≤ c) && decide (c < 0x21E0) && c % 4 == 0)

/-- Requests queued at pseudo-channel `p` of HBM controller `u` (Table 14.3). -/
def State.queuedAt (s : State) (u p : Nat) : Nat :=
  let hit (a : Nat) : Bool := unitOf a == some u && pseudoChannel (hbmLocal a) == p
  (s.inbox.filter (fun q => hit q.req.addr.toNat)).length +
    ((s.hb u).iq.filter (fun r => hit (s.isData (tCtx r.f.x.tag) r.f.idx))).length

/-- The quantity of a source where the state of the block shows it (Tables 3.11, 5.6, 14.3); none for powers and temperatures. -/
def State.gaugeValue (s : State) (g c : Nat) : Option Nat :=
  if gaugeCounts c then some (SMap.get 0 s.tally c - (s.gauge g).base)
  else if 0x1000 ≤ c ∧ c < 0x1400 then
    let t := (c - 0x1000) / 8
    match c % 8 with
    | 1 => some (s.tile t).ovfOcc
    | 2 => some ((s.tile t).ms.filter (fun e => e.place.isSpill)).length
    | _ => none
  else if 0x2000 ≤ c ∧ c < 0x2180 ∧ c % 4 = 0 then some (s.plate ((c - 0x2000) / 4)).words.length
  else if 0x2180 ≤ c ∧ c < 0x21E0 ∧ c % 4 = 2 then some (s.hub ((c - 0x2180) / 4)).ingress.length
  else if 0x3000 ≤ c ∧ c < 0x3080 then some (s.queuedAt ((c - 0x3000) / 32) (c % 32))
  else if 0x4000 ≤ c ∧ c < 0x40B0 then some (s.f (domAt (c - 0x4000)) 41 32)
  else none

/-- Pack ticks between the sample points of a source that is sampled by time (Tables 3.11, 5.6, 14.3); none for CONFLICT and the
round trips, whose events are their sample points. -/
def gaugePeriod (c : Nat) : Option Nat :=
  if 0x1000 ≤ c ∧ c < 0x1400 then (if c % 8 = 4 then some us else if c % 8 = 1 ∨ c % 8 = 2 then some (10 * us) else none)
  else if 0x2000 ≤ c ∧ c < 0x2180 then some (if c % 4 = 0 then us / 10 else us)
  else if 0x2180 ≤ c ∧ c < 0x21E0 then (if c % 4 = 1 then none else some us)
  else if 0x3000 ≤ c ∧ c < 0x3080 then some us
  else if 0x4000 ≤ c then some (10 * us)
  else none

/-- GAUGE_SAMPLE (R474): where a sample point of the gauge's source has come, its quantity, or `w` where only the outside world
has it, is a sample (log entry 58). -/
def State.sample (s : State) (g : Nat) (w : Word) : State :=
  let c := s.f (gaugeAt g) 15 0
  match gaugePeriod c with
  | some n =>
    if n ≤ dur (s.gauge g).last s.now then
      (s.gaugeAdd g ((s.gaugeValue g c).getD w.toNat)).updGauge g (fun x =>
        { x with base := SMap.get 0 s.tally c, last := x.last + BitVec.ofNat 64 n })
    else s
  | none => s

/-- A write of GAUGE_CFG clears the live statistics (R474). -/
def State.gaugeClear (s : State) (g : Nat) : State :=
  s.updGauge g (fun x => { x with n := 0, lo := 0xFFFFFFFF, hi := 0, bins := [] })

/-- A gauge watches its source from now on. -/
def State.gaugeArm (s : State) (g : Nat) : State :=
  s.updGauge g (fun x => { x with base := SMap.get 0 s.tally (s.f (gaugeAt g) 15 0), last := s.now })

/-- The gauge that GAUGE_SEL selects. -/
def State.gaugeSel (s : State) : Nat := s.f (tmp + R.gaugeSel) 7 0

/-- A read of GAUGE_SNAP takes the snapshot (R475). -/
def State.gaugeTake (s : State) : State :=
  (s.updGauge s.gaugeSel (fun x => { x with sn := x.n, slo := x.lo, shi := x.hi, sbins := x.bins })).gaugeClear s.gaugeSel

end Sys2Proof.Machine
end

