-- ==== Sys2Proof/Machine/FaultOps.lean ====
section
/-! DEFINITION. Reaction timers, acknowledgement, direct levels and injection (R515 to R522), the level-3 flag (R523,
R526) and the draining of the ledger (R531 to R534). -/

namespace Sys2Proof.Machine

/-! ## Persisting causes (R521) -/

/-- PERSIST of a page (Table 16.4). -/
def State.persist (s : State) (page : Nat) : Nat :=
  match pageOf page with
  | some (.tile, t) => if s.b (tp t + R.tileQStat) 39 then 8 else 0
  | some (.port, p) =>
    if s.b (pp p + R.portLnkCtl) 0 && s.lnk p != 4 && (decide (3 ≤ s.f (pp p + R.portLnkTrain) 39 32) || s.lnk p == 5) then 8
    else 0
  | some (.time, _) => if s.b (tmp + R.timeStat) 2 && page == tmp then 8 else 0
  | some (.pwr, n) => if n = 0 then 8 * b2n s.tripHot + 16 * b2n (s.b (pwp + R.pwrCapStat) 25) else 0
  | some (.hbmc, u) => if u < 4 ∧ s.b (hbp u + R.hbmcStat) 3 then 1 else 0
  | _ => 0

/-! ## Escalation (R516 to R520) -/

/-- CLASS of PG_ERR_FIRST. -/
def State.firstClass (s : State) (page : Nat) : Nat := s.f (page + R.pgErrFirst) 2 0

/-- REACTION_TIMER_EXPIRE (R517): it acts from the instant of its expiry on. An acknowledgement or a second fault of that same
instant comes first (R517, R520): it stands before this command in the queue (log entry 63). -/
def State.timerExpire (s : State) (page : Nat) : State :=
  match s.timer page with
  | none => s
  | some t =>
    if s.now.toNat < t.toNat then s
    else
      let lvl := s.f (page + R.pgErrLevel) 1 0
      let s1 := s.setTimer page none
      if s.liveClasses page ≠ 0 ∧ lvl < s.f (page + R.pgErrEn) 9 8 then s1.setLevel page (lvl + 1) 2 (s.firstClass page)
      else s1

/-- A write of PG_ERR_STAT with `d` in bits [4:0] (R520): false where a persisting class keeps its bit. -/
def State.errAck (s : State) (page d : Nat) : Bool × State :=
  let o := page + R.pgErrStat
  let cls := s.f o 4 0
  let keep := cls &&& d &&& s.persist page
  let left := (cls &&& (31 - d % 32)) ||| keep
  let s1 := s.putF o 4 0 left
  (keep == 0, if left = 0 then
      (if s.f (page + R.pgErrLevel) 1 0 = 0 then s1.setTimer page none
       else s1.setLevel page 0 5 (s.firstClass page))
    else s1)

/-- What follows a write of PG_ERR_EN whose EN was `old` (R516, R517). -/
def State.errEn (s : State) (page old : Nat) : State :=
  let fresh := s.f (page + R.pgErrEn) 4 0 &&& (31 - old) &&& s.f (page + R.pgErrStat) 4 0
  let lvl := s.f (page + R.pgErrLevel) 1 0
  let s1 := if s.f (page + R.pgErrEn) 9 8 ≤ lvl then s.setTimer page none else s
  if lvl = 0 then
    match (List.range 5).find? (fun k => fresh.testBit k) with
    | some k => s1.setLevel page 1 0 k
    | none => s1
  else if fresh &&& 30 ≠ 0 ∧ (s1.timer page).isNone then s1.startTimer page
  else s1

/-- A RAISE write (R518). -/
def State.errRaise (s : State) (page n : Nat) : State :=
  if s.f (page + R.pgErrLevel) 1 0 < n then s.setLevel page n 4 0 else s

/-! ## Injection (R522) -/

/-- The number of check bits of a checker of a page (Table 16.5); 0 where the page has no such checker. -/
def checkerBits (page k : Nat) : Nat :=
  match pageOf page with
  | some (.tile, _) => if k = 0 ∨ k = 2 then 9 else if k = 1 then 16 else 0
  | some (.hbmc, u) => if k ≠ 0 then 0 else if u < 4 then 32 else if u = 4 then 8 else 0
  | some (.port, _) => if k = 0 then 300 else 0
  | _ => 0

/-- Is the arming part of a PG_ERR_INJ value a reserved encoding (R522)? -/
def injReserved (page : Nat) (w : Word) : Bool :=
  let n := checkerBits page (fld w 3 0)
  fld w 47 32 != 0 && (n == 0 || decide (n ≤ fld w 13 5) || decide (n ≤ fld w 22 14) || (bit w 4 && fld w 13 5 == fld w 22 14))

/-- FORCE: a fault of each class whose bit is set, in ascending order, marked INJ. -/
def State.errForce (s : State) (page bits : Nat) : State :=
  [Cls.correctable, .uncorrectable, .protocol, .timeout, .config].foldl
    (fun s c => if bits.testBit c.idx then s.fault page c true else s) s

/-! ## Level 3 (R523, R526) -/

/-- Has any page LEVEL 3? -/
def State.anyLevel3 (s : State) : Bool :=
  s.regs.any (fun e => e.1 % 0x1000 == R.pgErrLevel && fld e.2 1 0 == 3 &&
    (match pageOf e.1 with | some (b, n) => hasHeader b n | none => false))

/-- Is the device at level 3? -/
def State.level3 (s : State) : Bool := s.b (pageAt .glb 0 + R.glbSafe) 16

/-- FENCE_N is driven low while PORST_N is low and at level 3 (R526). -/
def State.fenceNLow (s : State) : Bool := s.porst || s.level3

/-! ## The ledger's ring (R531 to R534) -/

/-- The LEDG page. -/
def lgp : Nat := pageAt .ledg 0

/-- Records on die not yet drained. -/
def State.undrained (s : State) : Nat := min 4096 (s.ledger.next - s.ledger.drain).toNat

/-- The next record to drain. -/
def State.drainAt (s : State) (n : Nat) : State := { s with ledger := { s.ledger with drain := BitVec.ofNat 32 n } }

/-- SEQ of the oldest record still on die. -/
def State.oldestSeq (s : State) : Nat :=
  if s.ledger.next.toNat < 4096 ∧ SMap.get ({} : LRec) s.ledger.recs 4095 = {} then 0 else (s.ledger.next - 4096).toNat

/-- Word `i` of a record (Table 16.8). -/
def LRec.word (r : LRec) (i : Nat) : Word := (r.words ++ [r.digest, 0]).getD i 0

/-- The record at a slot. -/
def State.ledgerSlot (s : State) (n : Nat) : LRec := SMap.get {} s.ledger.recs n

/-- LEDGER_DRAIN: the oldest undrained record goes to its ring slot (R531, R532). -/
def State.ledgerDrain (s : State) : State :=
  let lg := s.f (lgp + R.ledgRing) 4 0
  let p := s.ledger.drain.toNat
  if s.b (lgp + R.ledgRing) 5 && decide (0 < s.undrained) && !s.wfail.contains (lgp + R.ledgRing) then
    let a := s.f (lgp + R.ledgRing) 47 20 * 2 ^ 20 + 64 * (p % 2 ^ lg)
    let r := s.ledgerSlot (p % 4096)
    match s.memWrite a ((List.range 8).flatMap (fun i => leBytes 8 (r.word i).toNat)) with
    | (.ok, s1) =>
      let c := s.f (lgp + R.ledgCons) 31 0
      let p1 := (p + 1) % 2 ^ 32
      let s2 := if 2 ^ lg ≤ (p + 2 ^ 32 - c) % 2 ^ 32 then
          (s1.putF (lgp + R.ledgCons) 31 0 ((c + 1) % 2 ^ 32)).inc (lgp + R.ledgCnt) 31 0
        else s1
      (s2.drainAt p1).ledgProdTo p1
    | (st, s1) => ({ s1 with wfail := (lgp + R.ledgRing) :: s1.wfail }).fault lgp (statusCls st)
  else s

/-- A write of LEDG_RING with the register's value `w` after it, `full` for a 64-bit access, `clear` where it writes 0 to EN
(R534): false where it is refused. A write of 0 to EN changes the other fields where EN was 0, also as a 32-bit write of the lower
half (log entry 63). -/
def State.ledgRingSet (s : State) (w : Word) (full clear : Bool) : Bool × State :=
  let o := lgp + R.ledgRing
  if clear && s.b o 5 then (true, s.putB o 5 false)
  else if (!full && !clear) || s.b o 5 || !ringAligned w 20 64 then (false, s.fault lgp .config)
  else
    let s1 := { (s.setReg o w) with wfail := s.wfail.filter (fun r => r != o) }
    (true, if bit w 5 then ((s1.drainAt s.oldestSeq).putF (lgp + R.ledgProd) 31 0 s.oldestSeq).putF (lgp + R.ledgCons) 31 0 s.oldestSeq
      else s1)

/-- A write of LEDG_CONS (R532): behind CONS it is stale, past PROD it is invalid (R395). -/
def State.ledgConsSet (s : State) (c : Nat) : Bool × State :=
  let o := lgp + R.ledgCons
  let old := s.f o 31 0
  let d := (c + 2 ^ 32 - old) % 2 ^ 32
  if d ≤ (s.f (lgp + R.ledgProd) 31 0 + 2 ^ 32 - old) % 2 ^ 32 then (true, s.putF o 31 0 c)
  else if 2 ^ 31 ≤ d then (false, s.inc (lgp + R.ledgCnt) 63 48)
  else (false, s.fault lgp .config)

end Sys2Proof.Machine
end

