-- ==== Sys2Proof/Machine/RetOps.lean ====
section
/-! DEFINITION. The Retriever (chapter 8): start rings, CCWs, units and their buses, waits, decisions, suspending, status
records, emergency programs, and the STANDBY's unit steps (R492). -/

namespace Sys2Proof.Machine

/-! ## Registers and state -/

/-- RET page of a subchannel. -/
def rtp (n : Nat) : Nat := pageAt .ret n
/-- Offset of RET_EMERG_CTL. -/
def emc : Nat := rtp 0 + R.retEmergCtl
/-- A subchannel. -/
def State.sub (s : State) (n : Nat) : SubCh := SMap.get {} s.ret.subs n
/-- Change a subchannel. -/
def State.updSub (s : State) (n : Nat) (g : SubCh → SubCh) : State :=
  { s with ret := { s.ret with subs := SMap.set {} s.ret.subs n (g (s.sub n)) } }
/-- STATE of a subchannel: 0 IDLE, 1 ACTIVE, 2 WAIT, 3 SUSPENDED; STALLED is shown while the stash is full. -/
def State.subSt (s : State) (n : Nat) : Nat := s.f (rtp n + R.retScStat) 2 0
/-- Set STATE of a subchannel. -/
def State.setSub (s : State) (n v : Nat) : State := s.putF (rtp n + R.retScStat) 2 0 v
/-- Does the emergency chain run on a subchannel (R295)? It stays where it began, whatever SC says meanwhile. -/
def State.emergency (s : State) (n : Nat) : Bool := s.b emc 9 && s.ret.emergSub == n
/-- Is a subchannel stalled by a full stash (R292)? -/
def State.subStalled (s : State) (n : Nat) : Bool := decide (64 ≤ (s.sub n).stash.length) && !s.emergency n
/-- The origin of a subchannel (Table 16.9). -/
def retOrigin (n : Nat) : Origin := BitVec.ofNat 16 (0x2000 + n)
/-- The priority of a subchannel's semaphore requests (Table 12.5). -/
def State.retPrio (s : State) (n : Nat) : Nat := if s.emergency n then 0 else 32
/-- TMO of a subchannel. -/
def State.tmo (s : State) (n : Nat) : Bool := s.b (rtp n + R.retScStat) 4
/-- Set TMO. -/
def State.setTmo (s : State) (n : Nat) (v : Bool) : State := s.putB (rtp n + R.retScStat) 4 v
/-- Address of the current or last CCW. -/
def State.ccwAddr (s : State) (n : Nat) : Nat := s.f (rtp n + R.retScCcw) 47 0
/-- The completion ring. -/
def retRing (n : Nat) : Ring :=
  ⟨rtp n, rtp n + R.retScCring, rtp n + R.retScCprod, rtp n + R.retScCcons, 32, 9⟩

/-! ## CCW fields (Tables 8.1 and 8.2) -/

/-- Command code. -/
def cCmd (w : BitVec 128) : Nat := fld w 127 120
/-- A bit of the flags byte. -/
def cFlag (w : BitVec 128) (i : Nat) : Bool := bit w (112 + i)
/-- SUSP. -/
def cSusp (w : BitVec 128) : Bool := cFlag w 7
/-- MARK. -/
def cMark (w : BitVec 128) : Bool := cFlag w 6
/-- IND. -/
def cInd (w : BitVec 128) : Bool := cFlag w 5
/-- DISCARD. -/
def cDiscard (w : BitVec 128) : Bool := cFlag w 4
/-- CONT: 0 END, 1 NEXT, 2 DATA. -/
def cCont (w : BitVec 128) : Nat := fld w 115 114
/-- Count. -/
def cCount (w : BitVec 128) : Nat := fld w 111 96
/-- Unit. -/
def cUnit (w : BitVec 128) : Nat := fld w 95 80
/-- Unit kind (Table 8.4). -/
def cKind (w : BitVec 128) : Nat := fld w 95 92
/-- Data address. -/
def cAddr (w : BitVec 128) : Nat := fld w 79 32
/-- Parameter. -/
def cParam (w : BitVec 128) : Nat := fld w 31 0

/-- Check codes (Table 8.8): END and CHECK. -/
inductive Chk | command | flags | count | align | unit | list | loop | fetch | data | address | condition | fenced
  | timeout | notSelected | noReg | error | nack | link | refused
deriving DecidableEq, Repr

/-- END of a check: 1 PROGRAM_CHECK, 2 UNIT_CHECK. -/
def Chk.fin : Chk → Nat
  | .timeout | .notSelected | .noReg | .error | .nack | .link | .refused => 2
  | _ => 1

/-- CHECK of a check. -/
def Chk.code : Chk → Nat
  | .command => 1 | .flags => 2 | .count => 3 | .align => 4 | .unit => 5 | .list => 6 | .loop => 7 | .fetch => 8
  | .data => 9 | .address => 10 | .condition => 11 | .fenced => 12 | .timeout => 1 | .notSelected => 2 | .noReg => 3
  | .error => 4 | .nack => 5 | .link => 6 | .refused => 7

/-- Every check. -/
def Chk.all : List Chk := [.command, .flags, .count, .align, .unit, .list, .loop, .fetch, .data, .address, .condition,
  .fenced, .timeout, .notSelected, .noReg, .error, .nack, .link, .refused]

/-- The fault class of a check. -/
def Chk.cls : Chk → Option Cls
  | .fetch => some .timeout
  | .data => some .uncorrectable
  | .fenced => none
  | c => if c.fin = 1 then some .config else none

/-- The check that an error status of a memory access gives (R272, R291). -/
def statusChk : Status → Chk
  | .address => .address | .data => .data | _ => .fetch

/-- Is an address one that a data address may name (R272)? -/
def dataAddrOk (a : Nat) : Bool :=
  match region a with | .hbm | .shep | .sem _ | .host => true | _ => false

/-! ## Status records (R288, R292) -/

/-- A record that the completion ring has not taken goes into the stash (R292). One that finds the stash full is dropped for the
running emergency subchannel; of another it waits for room in the stash (R397, log entry 65). Whether it has been accepted. -/
def State.retKeep (s : State) (n : Nat) (ws : List Word) : Bool × State :=
  if (s.sub n).stash.length < 64 then
    let s1 := s.updSub n (fun y => { y with stash := y.stash ++ [ws] })
    (true, if s1.subStalled n then s1.inc (rtp n + R.retScCnt) 31 16 else s1)
  else if s.emergency n then (false, s.inc emc 47 32)
  else (true, s.updSub n (fun y => { y with late := y.late ++ [ws] }))

/-- Put a record into the completion ring, which posts it (R288), or keep it: whether it has been accepted. -/
def State.retPost (s : State) (n : Nat) (ws : List Word) : Bool × State :=
  if (s.sub n).stash.isEmpty then
    match s.ringPush (retRing n) ws with
    | (true, s1) => (true, s1.pageInt (rtp n) 0)
    | (false, s1) => s1.retKeep n ws
  else s.retKeep n ws

/-- Form and post a record (Table 8.7): `mid` stands in bits [47:16]. Whether it has been accepted into the ring or the stash. -/
def State.retRecordOk (s : State) (n kind mid : Nat) : Bool × State :=
  let x := s.sub n
  let unit := match x.op with | some w => cUnit w | none => match x.ccw with
    | some w => if 1 ≤ cCmd w ∧ cCmd w ≤ 4 then cUnit w else 0
    | none => 0
  let w0 := n + kind * 2 ^ 8 + b2n (s.tmo n) * 2 ^ 11 + mid * 2 ^ 16 + x.seq * 2 ^ 48
  (s.updSub n (fun y => { y with seq := (y.seq + 1) % 65536 })).retPost n
    [BitVec.ofNat 64 w0, BitVec.ofNat 64 (s.ccwAddr n + unit * 2 ^ 48), x.user, s.now]

/-- Form and post a record. -/
def State.retRecord (s : State) (n kind mid : Nat) : State := (s.retRecordOk n kind mid).2

/-- STASH_DRAIN of a completion ring: the oldest stashed record goes to the ring. -/
def State.retStash (s : State) (n : Nat) : State :=
  match (s.sub n).stash with
  | [] => s
  | ws :: r =>
    match s.ringPush (retRing n) ws with
    | (true, s1) => (s1.updSub n (fun y => { y with stash := r ++ y.late.take 1, late := y.late.drop 1 })).pageInt (rtp n) 0
    | (false, s1) => s1

/-! ## Buses (R276) -/

/-- The queue of a bus. -/
def State.busQ (s : State) (b : Nat) : List Nat := SMap.get [] s.ret.buses b
/-- Replace the queue of a bus. -/
def State.setBusQ (s : State) (b : Nat) (l : List Nat) : State :=
  { s with ret := { s.ret with buses := SMap.set [] s.ret.buses b l } }

/-- The bus of a unit: I3C buses 0 to 3, SPI buses 4 to 7. -/
def unitBus (u : Nat) : Option Nat :=
  if u / 4096 = 2 then some (u / 256 % 4) else if u / 4096 = 3 then some (4 + u / 256 % 4) else none

/-- The bytes of segments. -/
def segBytes (l : List Seg) : Nat := l.foldl (fun n e => n + e.2) 0

/-- The transfer of a bus's owner goes onto the bus. -/
def State.busGo (s : State) (b : Nat) : State :=
  match s.busQ b with
  | [] => s
  | n :: _ =>
    let x := s.sub n
    match x.op, x.ccw with
    | some o, some _ => s.emit (.bus b (cUnit o) (cCmd o) (cParam o) (x.got.map (fun e => BitVec.ofNat 8 e.2.toNat)) x.want)
    | _, _ => s

/-- A subchannel asks for a bus: it goes on where it owns the bus, waits in arrival order otherwise; the emergency
subchannel goes first (R276). -/
def State.busAsk (s : State) (n b : Nat) : State :=
  let s0 := s.updSub n (fun x => { x with onBus := some b })
  match s.busQ b with
  | [] => (s0.setBusQ b [n]).busGo b
  | m :: r =>
    if m = n then s0.busGo b
    else if s.emergency n then s0.setBusQ b (m :: n :: r) else s0.setBusQ b (m :: r ++ [n])

/-- A subchannel leaves its bus: STOP or chip select deasserted where it owns it; the next transfer begins. -/
def State.busLeave (s : State) (n : Nat) : State :=
  match (s.sub n).onBus with
  | none => s.updSub n (fun x => { x with frame := none })
  | some b =>
    let q := s.busQ b
    let s1 := (s.setBusQ b (q.filter (fun m => m != n))).updSub n (fun x => { x with onBus := none, frame := none })
    if q.head? = some n then (s1.emit (.busStop b)).busGo b else s1

/-! ## Ending and continuing a chain (R269, R288 to R290, R492) -/

/-- Does a unit field name SPI bus 0, which a STANDBY drives itself (R492)? -/
def spi0 (u : Nat) : Bool := u / 4096 == 3 && u / 256 % 4 == 0

/-- Is the device the STANDBY of a brace (R279)? -/
def State.standby (s : State) : Bool := s.brcRole == 2

/-- The brace link that carries messages to the twin: the lowest that is UP. -/
def State.braceLink (s : State) : Option Nat :=
  if s.b (pageAt .brc 0 + R.brcStat) 4 then some 96 else if s.b (pageAt .brc 0 + R.brcStat) 5 then some 97 else none

/-- Is the device ACTIVE with a STANDBY twin (R485)? -/
def State.braced (s : State) : Bool := s.brcRole == 1 && s.brace.twinRole == 2

/-- An ACTIVE sends the result of a unit step to its twin (R492). -/
def State.unitResult (s : State) (n unit fin check residual : Nat) (data : List Byte) : State :=
  if s.brcRole == 1 && !spi0 unit then
    match s.braceLink with
    | some l => s.linkSend l (.unitres { subch := n, opnum := BitVec.ofNat 16 (s.sub n).opnum, endc := fin, check := check,
                                         residual := residual, unit := BitVec.ofNat 16 unit, data := data })
    | none => s
  else s

/-- The end of a chain (R289): the FINAL record, the fault and the counts of a check, RUN, and the emergency flags
(R295); an emergency subchannel that ends with its stash full is stalled from then on (R292). -/
def State.subEnd (s : State) (n : Nat) (c : Option Chk) (residual : Nat) : State :=
  let fin := match c with | some k => k.fin | none => 0
  let code := match c with | some k => k.code | none => 0
  let s1 := (s.retRecord n 0 (fin + code * 2 ^ 8 + residual % 65536 * 2 ^ 16)).busLeave n
  let s2 := (s1.setSub n 0).updSub n (fun x =>
    { user := x.user, seq := x.seq, stash := x.stash, late := x.late, loops := x.loops, epoch := x.epoch + 1 })
  let s3 := if fin = 1 then s2.inc (rtp n + R.retScCnt) 47 32 else if fin = 2 then s2.inc (rtp n + R.retScCnt) 63 48 else s2
  let s4 := if fin = 1 ∧ s.b (rtp n + R.retScCtl) 1 then s3.putB (rtp n + R.retScCtl) 0 false else s3
  let s5 := match c with
    | some k => match k.cls with | some f => s4.fault (rtp n) f | none => s4
    | none => s4
  if s.emergency n then
    let s6 := ((s5.putB emc 9 false).putB emc 10 true).putB emc 11 c.isSome
    if s6.subStalled n then s6.inc (rtp n + R.retScCnt) 31 16 else s6
  else s5

/-- A CCW has completed (R269): MARK where the chain continues, then the next CCW or the end. -/
def State.subNext (s : State) (n : Nat) (w : BitVec 128) (residual : Nat) : State :=
  if cCont w = 0 then s.subEnd n none residual
  else
    let s1 := if cMark w then s.retRecord n 1 (residual % 65536 * 2 ^ 16) else s
    let keep := cCont w == 2
    let x := s1.sub n
    let s2 := if keep ∨ x.frame.isSome then s1 else s1.busLeave n
    let s3 := (s2.putF (rtp n + R.retScCcw) 47 0 ((s.ccwAddr n + 16) % 2 ^ 48)).setSub n 1
    s3.updSub n (fun y => { y with
      ccw := none, op := if keep then y.op else none, busy := false, till := none, segs := [], want := 0, after := false, todo := [], outs := [], got := [], fail := none, remote := none, unitWait := false, log := [],
      semWait := false, epoch := y.epoch + 1 })

/-- A unit step ends (R290, R492): normally, with the check that the CCW's list ends it with, or with a check. -/
def State.unitEnd (s : State) (n : Nat) (w : BitVec 128) (c : Option Chk) (residual : Nat) (data : List Byte) : State :=
  let unit := match (s.sub n).op with | some o => cUnit o | none => 0
  let fin := match c with | some k => k.fin | none => 0
  let code := match c with | some k => k.code | none => 0
  let s1 := s.unitResult n unit fin code residual data
  let s2 := s1.updSub n (fun x => { x with loops := 0, opnum := (x.opnum + 1) % 65536 })
  match c with
  | some k => s2.subEnd n (some k) residual
  | none => s2.subNext n w residual

/-- The armed emergency chain begins on its subchannel once no chain is being halted any more, as from a start entry with
USER 0 (R293, R295): an address that is not aligned ends it with ALIGN (R268). -/
def State.emergGo (s : State) : State :=
  if !s.ret.emergDue || s.ret.subs.any (fun e => e.2.halting) then s
  else
    let n := s.f emc 5 0
    let a := s.f (rtp 0 + R.retEmergChain) 47 0
    let s1 := { s with ret := { s.ret with emergDue := false, emergSub := n } }
    let s2 := (((s1.putB emc 9 true).putB emc 10 false).putB emc 11 false).setSub n 1
    let s3 := (s2.putF (rtp n + R.retScCcw) 47 0 a).updSub n
      (fun x => { seq := x.seq, stash := x.stash, late := x.late, loops := x.loops, epoch := x.epoch + 1 })
    if a % 16 = 0 then s3 else s3.subEnd n (some .align) 0

/-! ## Memory accesses of a subchannel -/

/-- What a read of a subchannel gives. -/
inductive RdRes | data (l : List Byte) | bad (c : Chk) | waits
deriving DecidableEq, Repr

/-- Read `len` bytes: a read in a semaphore window acts on its semaphore, once for one CCW (R265); `k` counts the window
reads of the CCW so far. -/
def State.subRead (s : State) (n a len k : Nat) : RdRes × Nat × State :=
  match region a with
  | .sem _ =>
    match (s.sub n).log[k]? with
    | some v => (.data (leBytes 8 v.toNat), k + 1, s)
    | none =>
      match s.semAccess a len false (retOrigin n) (s.retPrio n) (.sub n (s.sub n).epoch) with
      | (.value v, s1) => (.data (leBytes 8 v.toNat), k + 1, s1.updSub n (fun x => { x with log := x.log ++ [v] }))
      | (.waits, s1) => (.waits, k, s1.updSub n (fun x => { x with semWait := true }))
      | (.error st, s1) => (.bad (statusChk (winStatus st)), k, s1)
      | (.given, s1) => (.bad .fetch, k, s1)
  | _ =>
    match s.memRead a len with
    | (.ok, l, s1) => (.data l, k, s1)
    | (st, _, s1) => (.bad (statusChk st), k, s1)

/-- Read segments in order. -/
def State.subReads (s : State) (n : Nat) : List Seg → Nat → RdRes × State
  | [], _ => (.data [], s)
  | g :: r, k =>
    match s.subRead n g.1 g.2 k with
    | (.data l, k1, s1) =>
      match s1.subReads n r k1 with
      | (.data m, s2) => (.data (l ++ m), s2)
      | (e, s2) => (e, s2)
    | (e, _, s1) => (e, s1)

/-- Store bytes into segments in order: none where every write is answered OK, else the check (R291) and the bytes of this call
that were not stored, those of the segment that failed among them (R289). A write in a semaphore window acts on its semaphore. -/
def State.subWrites (s : State) (n : Nat) : List Seg → List Byte → Option (Chk × Nat) × State
  | [], _ => (none, s)
  | g :: r, l =>
    let m := min g.2 l.length
    if m = 0 then (none, s) else
    let res : Status × State := match region g.1 with
      | .sem _ => match s.semAccess g.1 m true (retOrigin n) (s.retPrio n) (.sub n (s.sub n).epoch) with
        | (.error st, s1) => (winStatus st, s1)
        | (_, s1) => (.ok, s1)
      | _ => s.memWrite g.1 (l.take m)
    match res with
    | (.ok, s1) => s1.subWrites n r (l.drop m)
    | (st, s1) => (some (statusChk st, l.length), s1)

/-- Walk an indirect list (R271) for `want` bytes; `fuel` bounds the entries: the segments used, the check that ends them,
and whether that check comes after their bytes have been transferred (LIST) or before any (the others). -/
def State.segWalk (s : State) (n list want : Nat) : Nat → List Seg × Option Chk × State
  | 0 => ([], none, s)
  | fuel + 1 =>
    if want = 0 then ([], none, s) else
    match s.subRead n list 16 0 with
    | (.data l, _, s1) =>
      let a := ofLe (l.take 6)
      let len := ofLe ((l.drop 8).take 2)
      if len = 0 then ([], some .list, s1)
      else if !dataAddrOk a then ([], some .address, s1)
      else
        let m := min len want
        let (r, c, s2) := s1.segWalk n (list + 16) (want - m) fuel
        ((a, m) :: r, c, s2)
    | (.bad c, _, s1) => ([], some c, s1)
    | (.waits, _, s1) => ([], some .fetch, s1)

/-- The segments of a CCW's data (R271, R272). -/
def State.ccwSegs (s : State) (n : Nat) (w : BitVec 128) : List Seg × Option Chk × State :=
  if cInd w then
    if cAddr w % 16 ≠ 0 then ([], some .align, s)
    else if !dataAddrOk (cAddr w) then ([], some .address, s)
    else s.segWalk n (cAddr w) (cCount w) (cCount w)
  else if cCount w = 0 then ([], none, s)
  else if dataAddrOk (cAddr w) then ([(cAddr w, cCount w)], none, s)
  else ([], some .address, s)

/-! ## Checks before execution (R267, R270, R273, R274) -/

/-- The flags that a command allows: the mask of flag bits [7:2] and the CONT values (Table 8.3). -/
def flagsOk (cmd : Nat) (w : BitVec 128) : Bool :=
  let ind := cmd == 1 || cmd == 2 || cmd == 3
  fld w 113 112 == 0 && (!cInd w || ind) && (!cDiscard w || cmd == 2) && (!cMark w || (cmd != 8 && cmd != 12)) &&
    (match cCont w with | 0 => true | 1 => cmd != 8 | 2 => cmd == 1 || cmd == 2 | _ => false)

/-- Is a command code listed (Table 8.3)? -/
def cmdOk (cmd : Nat) : Bool := [1, 2, 3, 4, 8, 9, 10, 11, 12, 15].contains cmd

/-- The check that a unit field or its command meets (R273, R274, R278), if it does. -/
def State.unitCheck (s : State) (w : BitVec 128) : Option Chk :=
  let u := cUnit w
  let cmd := cCmd w
  let op := u / 256 % 16
  match cKind w with
  | 1 => if u / 128 % 32 ≠ 0 ∨ 95 < u % 128 then some .unit else if cmd = 3 then some .command else none
  | 2 => if u / 1024 % 4 ≠ 0 then some .unit else none
  | 3 =>
    if u / 8 % 32 ≠ 0 ∨ u / 1024 % 4 ≠ 0 ∨ (op % 4 = 0 ∧ !s.b (rtp 0 + R.retEngCtl) 0) then some .unit
    else if cmd = 3 then some .command else none
  | 4 =>
    if u / 4 % 64 ≠ 0 ∨ 7 < op ∨ (op ≠ 5 ∧ u % 4 ≠ 0) ∨ (op = 5 ∧ u % 4 = 0) ∨ (cmd = 4 ∧ op ≠ 0) then some .unit
    else if cmd = 1 ∨ (cmd = 3 ∧ op = 7) ∨ (cmd = 2 ∧ op ≠ 7) then some .command else none
  | 5 =>
    if u / 1024 % 4 ≠ 0 ∨ u % 1024 = s.deviceId then some .unit else if cmd ≠ 1 then some .command else none
  | _ => some .unit

/-- The check that a CCW's Count meets (Table 8.3, R273, R278). -/
def countCheck (cmd kind : Nat) (w : BitVec 128) : Option Chk :=
  let c := cCount w
  match cmd with
  | 1 => if c = 0 ∨ (kind = 5 ∧ c ≠ 16) then some .count else none
  | 2 => if c = 0 ∨ (kind = 4 ∧ c % 16 ≠ 0) then some .count else none
  | 3 => if kind = 4 ∧ c ≠ 0 then some .count else none
  | 4 => if c ≠ 8 then some .count else none
  | 11 => if c = 0 then some .count else none
  | 12 => if 128 ≤ c then some .count else none
  | _ => none

/-! ## Unit operations (R274, Table 8.5) -/

/-- Issue PINSLICE requests: at most four outstanding, none once one has failed (R277); `k` bounds their number. -/
def State.sbNext (s : State) (n p : Nat) (write : Bool) : Nat → State
  | 0 => s
  | k + 1 =>
    let x := s.sub n
    match x.todo with
    | (a, be, d) :: r =>
      if x.outs.length < 4 ∧ x.fail.isNone then
        ((s.updSub n (fun y => { y with todo := r, outs := y.outs ++ [a] })).sbIssue p
          { tag := 0, subch := n, write := write, addr := a, be := be, data := d, epoch := x.epoch }).sbNext n p write k
      else s
    | [] => s

/-- The 8-byte words that `len` bytes from configuration address `a` cover, with byte enables and data. -/
def pinWords (a len : Nat) (data : List Byte) : List (Nat × Nat × Word) :=
  (List.range ((a + len + 7) / 8 - a / 8)).map (fun i =>
    let base := (a / 8 + i) * 8
    let inside (j : Nat) : Bool := decide (a ≤ base + j) && decide (base + j < a + len)
    let be := (List.range 8).foldl (fun m j => if inside j then m + 2 ^ j else m) 0
    let d := (List.range 8).map (fun j => if inside j then data.getD (base + j - a) 0 else 0)
    (base, be, BitVec.ofNat 64 (ofLe d)))

/-- Store the data of a READ or SENSE and end the unit step with `c` (R270, R277, R291). -/
def State.unitStoreAs (s : State) (n : Nat) (w : BitVec 128) (c : Option Chk) (data : List Byte) (residual : Nat) : State :=
  if cDiscard w ∧ cCmd w ≠ 4 then s.unitEnd n w c residual data
  else
    match s.subWrites n (s.sub n).segs data with
    | (none, s1) => s1.unitEnd n w c residual data
    | (some (e, k), s1) => s1.unitEnd n w (some e) (cCount w - (data.length - k)) data

/-- Store the data of a READ or SENSE that its unit has ended normally. -/
def State.unitStore (s : State) (n : Nat) (w : BitVec 128) (data : List Byte) (residual : Nat) : State :=
  s.unitStoreAs n w (if (s.sub n).after then some Chk.list else none) data residual

/-- The sense word of a unit (Table 8.5), and the state after it. -/
def State.senseWord (s : State) (u : Nat) : Word × State :=
  match u / 4096 with
  | 1 => (s.reg (pp (u % 128) + R.portLnkStat), s)
  | 2 =>
    let b := u / 256 % 4
    let i := SMap.get ({} : Ibi) s.ret.ibis b
    (BitVec.ofNat 64 (i.addr + b2n i.seen * 2 ^ 7 + i.mdb.toNat * 2 ^ 8),
      { s with ret := { s.ret with ibis := SMap.set {} s.ret.ibis b { i with seen := false } } })
  | 3 => (BitVec.ofNat 64 (b2n (!(s.busQ (4 + u / 256 % 4)).isEmpty)), s)
  | _ =>
    let lv := (s.ret.gin &&& ~~~ s.ret.gdir) ||| (s.ret.gout &&& s.ret.gdir)
    (BitVec.ofNat 64 (lv.toNat + s.ret.gdir.toNat * 2 ^ 32), s)

/-- A GPIO operation (Table 8.5). -/
def State.gpioOp (s : State) (op edge mask : Nat) : State :=
  let m := BitVec.ofNat 32 mask
  let r := s.ret
  let arm (e : Nat) : SMap Nat := (List.range 32).foldl (fun a p => if mask.testBit p then SMap.set 0 a p e else a) r.garm
  let r1 := match op with
    | 0 => { r with gout := r.gout ||| m }
    | 1 => { r with gout := r.gout &&& ~~~ m }
    | 2 => { r with gout := r.gout ^^^ m }
    | 3 => { r with gdir := r.gdir ||| m }
    | 4 => { r with gdir := r.gdir &&& ~~~ m }
    | 5 => { r with garm := arm edge }
    | _ => { r with garm := arm 0 }
  let s1 := { s with ret := r1 }
  if op < 5 then s1.emit (.gpio r1.gout r1.gdir) else s1

/-- A capture record (R275). -/
def Capture.words (c : Capture) : List Word := [c.time, BitVec.ofNat 64 (c.pin + b2n c.rise * 32 + b2n c.ovf * 64)]

/-- The operation of a unit step begins, its checks passed: `o` is the CCW that began the transfer, `w` the present one,
`g` its segments, `chained` whether it is data-chained. A list whose first entry has length 0 ends the chain with nothing
transferred, and so does a list that gives out before the start entry of a REMOTE WRITE is whole (R271, log entry 65). -/
def State.unitGo (s : State) (n : Nat) (o w : BitVec 128) (g : List Seg) (after : Bool) (chained : Bool) : State :=
  let cmd := cCmd o
  let u := cUnit o
  let kind := cKind o
  let code := if after then some Chk.list else none
  let want := if cmd = 2 ∧ cDiscard w then cCount w else segBytes g
  if after ∧ (want = 0 ∨ kind = 5) then (s.updSub n (fun x => { x with op := some o })).unitEnd n w code (cCount w) [] else
  let payload : RdRes × State := if cmd = 1 ∨ cmd = 3 then s.subReads n g 0 else (.data [], s)
  match payload with
  | (.waits, s1) => s1
  | (.bad c, s1) => s1.unitEnd n w (some c) (cCount w) []
  | (.data l, s1) =>
    let s2 := s1.updSub n (fun x => { x with op := some o, segs := g, want := want, after := after,
                                             got := l.zipIdx.map (fun e => (e.2, BitVec.ofNat 64 e.1.toNat)) })
    let res := cCount w - want
    match kind, cmd with
    | _, 4 =>
      let (v, s3) := s2.senseWord u
      (s3.updSub n (fun x => { x with frame := none })).unitStore n w (leBytes 8 v.toNat) 0
    | 1, _ =>
      let p := u % 128
      let a := if chained then (s1.sub n).pos else cParam o
      if s1.lnk p ≠ 4 ∨ s1.bamior p then s2.unitEnd n w (some .link) (cCount w) []
      else
        let ws := (pinWords a want l).map (fun e => if cmd = 2 then (e.1, 255, (0 : Word)) else e)
        (s2.updSub n (fun x => { x with busy := true, todo := ws, got := [], pos := a + want })).sbNext n p (cmd == 1) 4
    | 4, 2 =>
      let k := min (cCount w / 16) s2.ret.fifo.length
      let recs := s2.ret.fifo.take k
      let s3 := { s2 with ret := { s2.ret with fifo := s2.ret.fifo.drop k } }
      let data := recs.flatMap (fun c => c.words.flatMap (fun v => leBytes 8 v.toNat))
      s3.unitStore n w data (cCount w - min (16 * k) want)
    | 4, _ => (s2.gpioOp (u / 256 % 16) (u % 4) (cParam o)).unitEnd n w code res []
    | 5, _ =>
      match s2.packPort (u % 1024) with
      | none => s2.unitEnd n w (some .link) (cCount w) []
      | some p =>
        let entry := [BitVec.ofNat 64 (ofLe (l.take 8)), BitVec.ofNat 64 (ofLe (l.drop 8))]
        let s3 := (s2.linkSend p (.rstart s2.deviceId (u % 1024) 15 (cParam o % 64) entry)).updSub n
          (fun x => { x with busy := true, remote := some (u % 1024, cParam o % 64, s2.now) })
        { s3 with ret := { s3.ret with remotes := s3.ret.remotes ++ [(u % 1024, cParam o % 64, n, (s3.sub n).epoch)] } }
    | _, _ =>
      match unitBus u with
      | some b => (s2.updSub n (fun x => { x with busy := true })).busAsk n b
      | none => s2.unitEnd n w code res []

/-- A UNITRES that completes a STANDBY's unit step (R492): its data is stored as the CCW directs, and its check taken. -/
def State.takeResult (s : State) (n : Nat) (w : BitVec 128) (f : UnitResF) : State :=
  let s0 := { s with ret := { s.ret with results := s.ret.results.erase f } }
  let op := (s0.sub n).op
  let unit := match op with | some o => cUnit o | none => 0
  let s1 := s0.updSub n (fun x =>
    { x with unitWait := false, loops := if op.isSome then 0 else x.loops, opnum := (x.opnum + 1) % 65536 })
  let takes := match op with | some o => (cCmd o == 2 && !cDiscard w) || cCmd o == 4 | none => false
  if f.unit.toNat ≠ unit then (s1.subEnd n (some .unit) (cCount w)).fault (pageAt .brc 0) .uncorrectable
  else match Chk.all.find? (fun c => c.fin == f.endc && c.code == f.check) with
    | some c =>
      if f.endc = 0 then s1
      else (if takes then (s1.subWrites n (s1.sub n).segs f.data).2 else s1).subEnd n (some c) f.residual
    | none =>
      match op with
      | none =>
        let (b, s2) := s1.drawBit
        (s2.setTmo n b).subNext n w f.residual
      | some _ =>
        if takes then
          match s1.subWrites n (s1.sub n).segs f.data with
          | (none, s2) => s2.subNext n w f.residual
          | (some (c, k), s2) => s2.subEnd n (some c) (cCount w - (f.data.length - k))
        else s1.subNext n w f.residual

/-- A STANDBY's subchannel waits for the result of its unit step. -/
def State.awaitResult (s : State) (n : Nat) (w : BitVec 128) : State :=
  let s1 := s.updSub n (fun x => { x with unitWait := true })
  match s.ret.results.find? (fun f => f.subch == n && f.opnum.toNat == (s.sub n).opnum) with
  | some f => s1.takeResult n w f
  | none => s1

/-- UNITRES reaches a STANDBY (R492). -/
def State.unitRes (s : State) (f : UnitResF) : State :=
  let s1 := { s with ret := { s.ret with results := s.ret.results ++ [f] } }
  let x := s.sub f.subch
  match x.ccw with
  | some w => if x.unitWait ∧ x.opnum = f.opnum.toNat then s1.takeResult f.subch w f else s1
  | none => s1

/-- A unit command executes: the checks of the CCW, then its operation or, on a STANDBY, the wait for its result. -/
def State.unitCmd (s : State) (n : Nat) (w : BitVec 128) : State :=
  let x := s.sub n
  let chained := x.op.isSome
  let o := x.op.getD w
  let cmd := cCmd o
  let s0 := match x.frame with
    | some u => if chained || (decide (1 ≤ cmd ∧ cmd ≤ 4) && cUnit o == u) then s else s.busLeave n
    | none => s
  let chk := (if chained then none else s0.unitCheck o) <|> countCheck cmd (cKind o) w
  match chk with
  | some c => s0.subEnd n (some c) (cCount w)
  | none =>
    if !chained ∧ cKind o = 1 ∧ cmd ≠ 4 ∧ cParam o % 8 ≠ 0 then s0.subEnd n (some .align) (cCount w)
    else
      let (g, c, s1) := if cmd = 2 ∧ cDiscard w then ([], none, s0) else s0.ccwSegs n w
      match c with
      | some .list => go s1 o chained g true
      | some c => s1.subEnd n (some c) (cCount w)
      | none => go s1 o chained g false
where
  /-- The operation, or the wait of a STANDBY. -/
  go (s : State) (o : BitVec 128) (chained : Bool) (g : List Seg) (c : Bool) : State :=
    if s.standby && !spi0 (cUnit o) then (s.updSub n (fun x => { x with op := some o, segs := g, after := c })).awaitResult n w
    else s.unitGo n o w g c chained

/-! ## Start entries and CCWs (R262 to R265, R284 to R286) -/

/-- START_ENTRY_TAKE (R263). -/
def State.startTake (s : State) (n : Nat) : State :=
  let o := rtp n
  let c := s.f (o + R.retScScons) 31 0
  if s.subSt n = 0 ∧ s.b (o + R.retScCtl) 0 ∧ c ≠ s.f (o + R.retScSprod) 31 0 ∧ !s.subStalled n ∧
      !s.b (o + R.pgErrLevel) 2 then
    let lg := s.f (o + R.retScSring) 4 0
    let a := s.f (o + R.retScSring) 47 8 * 256 + 16 * (c % 2 ^ lg)
    let (st, l, s0) := s.memRead a 16
    let s1 := s0.putF (o + R.retScScons) 31 0 ((c + 1) % 2 ^ 32)
    let chain := ofLe (l.take 6)
    let s2 := (s1.setSub n 1).updSub n (fun x => { seq := x.seq, stash := x.stash, late := x.late, loops := x.loops,
                                                   epoch := x.epoch + 1, user := if st = .ok then BitVec.ofNat 64 (ofLe (l.drop 8)) else 0 })
    let s3 := s2.putF (o + R.retScCcw) 47 0 (if st = .ok then chain else 0)
    if st ≠ .ok then s3.subEnd n (some (statusChk st)) 0
    else if chain % 16 ≠ 0 then s3.subEnd n (some .align) 0
    else s3
  else s

/-- A subchannel suspends (R284): it holds no bus and no chip select. -/
def State.suspend (s : State) (n : Nat) : State :=
  let a := s.ccwAddr n
  let s1 := (s.busLeave n).setSub n 3
  if s.b (rtp n + R.retScCtl) 2 ∧ (s.sub n).suspAt ≠ some a then
    (s1.retRecord n 3 0).updSub n (fun x => { x with suspAt := some a })
  else s1.updSub n (fun x => { x with suspAt := some a })

/-- CCW_FETCH: the read of the next CCW returns (R265, R267, R284, R286). -/
def State.ccwFetch (s : State) (n : Nat) : State :=
  let x := s.sub n
  if s.subSt n = 1 ∧ x.ccw.isNone ∧ !s.subStalled n then
    let (st, l, s0) := s.memRead (s.ccwAddr n) 16
    let w : BitVec 128 := BitVec.ofNat 128 (ofLe l)
    if st ≠ .ok then s0.subEnd n (some (statusChk st)) 0
    else if x.op.isSome ∧ cSusp w then s0.subEnd n (some .flags) (cCount w)
    else if cSusp w ∧ s.b (rtp n + R.retScStat) 3 then s0.putB (rtp n + R.retScStat) 3 false
    else if cSusp w then s0.suspend n
    else
      let cmd := match x.op with | some o => cCmd o | none => cCmd w
      let s1 := s0.updSub n (fun y => { y with ccw := some w, busy := false, suspAt := none })
      let res := if 1 ≤ cmd ∧ cmd ≤ 4 then cCount w else 0
      if !cmdOk cmd then s1.subEnd n (some .command) 0
      else if !flagsOk cmd w then s1.subEnd n (some .flags) res
      else s1
  else s

/-- Level 2 and level 3 apart, the resume doorbell (R285, R286). -/
def State.retResume (s : State) (n : Nat) : State :=
  if s.subSt n = 3 then s.setSub n 1 else s.putB (rtp n + R.retScStat) 3 true

/-! ## Execution of the CCW that has been read -/

/-- Is a CCW a unit step on this device (R492)? -/
def unitStep (cmd : Nat) (w : BitVec 128) : Bool := (1 ≤ cmd && cmd ≤ 4) || (cmd == 9 && bit w 6)

/-- The CCW that a subchannel may execute now: read, not begun, no answer awaited; a swap starts no new unit step
(R502). -/
def State.execCcw (s : State) (n : Nat) (k : Nat → BitVec 128 → Bool) (run : BitVec 128 → State → State) : State :=
  let x := s.sub n
  match x.ccw with
  | some w =>
    let cmd := match x.op with | some o => cCmd o | none => cCmd w
    if s.subSt n = 1 ∧ !x.busy ∧ !x.unitWait ∧ !x.semWait ∧ k cmd (x.op.getD w) ∧ !(s.brace.swapping ∧ unitStep cmd w) then
      run w s
    else s
  | none => s

/-- CCW_WRITE, CCW_READ, CCW_CONTROL, CCW_SENSE and the GPIO commands. -/
def State.ccwUnit (s : State) (n : Nat) (k : Nat → BitVec 128 → Bool) : State := s.execCcw n k (fun w s => s.unitCmd n w)

/-- A GPIO CONTROL of an operation. -/
def gpioIs (op : Nat) (cmd : Nat) (w : BitVec 128) : Bool := cmd == 3 && cKind w == 4 && cUnit w / 256 % 16 == op

/-- A GPIO READ of operation 7. -/
def captureIs (cmd : Nat) (w : BitVec 128) : Bool := cmd == 2 && cKind w == 4 && cUnit w / 256 % 16 == 7

/-- Commands without a unit: a held SPI frame ends (R276). -/
def State.plain (s : State) (n cmd : Nat) (run : BitVec 128 → State → State) : State :=
  s.execCcw n (fun c _ => c == cmd) (fun w s => run w (if (s.sub n).frame.isSome then s.busLeave n else s))

/-- JUMP (R268, R272, R290). -/
def State.ccwJump (s : State) (n : Nat) : State :=
  s.plain n 8 (fun w s =>
    let a := cAddr w
    let lim := s.f (rtp n + R.retScCtl) 48 32
    let loops := (s.sub n).loops + 1
    if a % 16 ≠ 0 then s.subEnd n (some .align) 0
    else if !dataAddrOk a then s.subEnd n (some .address) 0
    else if lim ≠ 0 ∧ lim ≤ loops then s.subEnd n (some .loop) 0
    else (s.putF (rtp n + R.retScCcw) 47 0 a).updSub n (fun x => { x with loops := loops, ccw := none, epoch := x.epoch + 1 }))

/-- A pending latch: hardware lines 0 to 63, local events as 64 + p (R280). -/
def State.latched (s : State) (n e : Nat) : Bool :=
  if e < 64 then s.b (rtp n + R.retScEvpend) e else s.b (rtp n + R.retScLevpend) (e - 64)

/-- Set or clear a pending latch. -/
def State.setLatch (s : State) (n e : Nat) (v : Bool) : State :=
  if e < 64 then s.putB (rtp n + R.retScEvpend) e v else s.putB (rtp n + R.retScLevpend) (e - 64) v

/-- The latch that a WAIT_EVENT names. -/
def waitLatch (w : BitVec 128) : Nat := if bit w 6 then 64 + fld w 5 0 else fld w 5 0

/-- A WAIT_EVENT completes, by its latch or by its time-out; a local one is a unit step (R492). -/
def State.waitDone (s : State) (n : Nat) (w : BitVec 128) (tmo : Bool) : State :=
  let s1 := if tmo then s.setTmo n true else s.setLatch n (waitLatch w) false
  if bit w 6 then
    ((s1.unitResult n 0 0 0 0 []).updSub n (fun x => { x with opnum := (x.opnum + 1) % 65536 })).subNext n w 0
  else s1.subNext n w 0

/-- WAIT_EVENT (R281). -/
def State.ccwWaitEvent (s : State) (n : Nat) : State :=
  s.plain n 9 (fun w s =>
    if bit w 6 ∧ 35 < fld w 5 0 then s.subEnd n (some .condition) 0
    else
      let s1 := s.setTmo n false
      let s2 := if bit w 7 then s1.setLatch n (waitLatch w) false else s1
      if s.standby ∧ bit w 6 then (s2.updSub n (fun x => { x with op := none })).awaitResult n w
      else if s2.latched n (waitLatch w) then s2.waitDone n w false
      else
        let t := if cCount w = 0 then none else some (s.now + BitVec.ofNat 64 (us * cCount w))
        (s2.setSub n 2).updSub n (fun x => { x with till := t }))

/-- The WAIT_EVENT in which a subchannel waits. -/
def State.waiting (s : State) (n : Nat) : Option (BitVec 128) :=
  if s.subSt n = 2 then match (s.sub n).ccw with | some w => if cCmd w = 9 then some w else none | none => none else none

/-- WAIT_EVENT_TIMEOUT (R281). -/
def State.waitTimeout (s : State) (n : Nat) : State :=
  match s.waiting n, (s.sub n).till with
  | some w, some t => if t.toNat ≤ s.now.toNat then s.waitDone n w true else s
  | _, _ => s

/-- A pulse of a line or of a local event reaches a subchannel's latch; a wait for it completes (R280, R281). -/
def State.subPulse (s : State) (n e : Nat) : State :=
  let s1 := s.setLatch n e true
  match s.waiting n with
  | some w => if waitLatch w = e then s1.waitDone n w false else s1
  | none => s1

/-- A pulse reaches every subchannel. -/
def State.retPulse (s : State) (e : Nat) : State := (List.range 64).foldl (fun s n => s.subPulse n e) s

/-- WAIT_TIME (R282). -/
def State.ccwWaitTime (s : State) (n : Nat) : State :=
  s.plain n 10 (fun w s =>
    let p := cParam w
    let s1 := s.setTmo n false
    let wait (t : Word) (s : State) : State :=
      if t.toNat ≤ s.now.toNat then s.subNext n w 0
      else (s.setSub n 2).updSub n (fun x => { x with till := some t })
    if 2 ^ 31 ≤ p then wait (s.now + BitVec.ofNat 64 (16 * (p % 2 ^ 31))) s1
    else if p ≠ 0 then s1.subEnd n (some .condition) 0
    else if cAddr w % 8 ≠ 0 then s1.subEnd n (some .align) 0
    else if !dataAddrOk (cAddr w) then s1.subEnd n (some .address) 0
    else match s1.subRead n (cAddr w) 8 0 with
      | (.data l, _, s2) => wait (BitVec.ofNat 64 (ofLe l)) s2
      | (.bad c, _, s2) => s2.subEnd n (some c) 0
      | (.waits, _, s2) => s2)

/-- WAIT_TIME_EXPIRE (R282). -/
def State.waitExpire (s : State) (n : Nat) : State :=
  match s.subSt n, (s.sub n).ccw, (s.sub n).till with
  | 2, some w, some t => if cCmd w = 10 ∧ t.toNat ≤ s.now.toNat then s.subNext n w 0 else s
  | _, _, _ => s

/-- Does the condition of a SKIP_IF hold for a test word (R283)? -/
def skipHolds (cond v f : Nat) (tmo : Bool) : Bool :=
  match cond with
  | 0 => true
  | 1 => tmo
  | 2 => !tmo
  | 3 => f == v
  | 4 => f != v
  | 5 => decide (f < v)
  | 6 => decide (v ≤ f)
  | 7 => (f &&& v) != 0
  | _ => (f &&& v) == 0

/-- SKIP_IF (R283). -/
def State.ccwSkipIf (s : State) (n : Nat) : State :=
  s.plain n 11 (fun w s =>
    let cond := fld w 3 0
    let go (f : Nat) (s : State) : State :=
      if skipHolds cond (fld w 31 16) f (s.tmo n) ∧ cCont w = 1 then
        let a := s.ccwAddr n + 16 * cCount w
        (s.putF (rtp n + R.retScCcw) 47 0 (a % 2 ^ 48))|> fun s' => markAt s' n w (s.ccwAddr n)
      else s.subNext n w 0
    if cCount w = 0 then s.subEnd n (some .count) 0
    else if 8 < cond then s.subEnd n (some .condition) 0
    else if cond < 3 then go 0 s
    else if cAddr w % 8 ≠ 0 then s.subEnd n (some .align) 0
    else if !dataAddrOk (cAddr w) then s.subEnd n (some .address) 0
    else match s.subRead n (cAddr w) 8 0 with
      | (.data l, _, s1) => go (ofLe l / 2 ^ fld w 9 4 % 2 ^ (fld w 15 10 + 1)) s1
      | (.bad c, _, s1) => s1.subEnd n (some c) 0
      | (.waits, _, s1) => s1)
where
  /-- A skipping SKIP_IF completes: its MARK names its own address, then the chain goes on past the skipped CCWs. -/
  markAt (s : State) (n : Nat) (w : BitVec 128) (own : Nat) : State :=
    let past := s.ccwAddr n
    ((s.putF (rtp n + R.retScCcw) 47 0 own).subNext n w 0).putF (rtp n + R.retScCcw) 47 0 ((past + 16) % 2 ^ 48)

/-- POST (R288): the record, then, once that is accepted into the ring or the stash, the pulse. -/
def State.ccwPost (s : State) (n : Nat) : State :=
  s.plain n 12 (fun w s =>
    if 128 ≤ cCount w then s.subEnd n (some .count) 0
    else
      let (ok, s1) := s.retRecordOk n 2 (cParam w)
      let s2 := if bit w 102 ∧ ok then s1.react (.pulse (cCount w % 64)) else s1
      s2.subNext n w 0)

/-- NOP. -/
def State.ccwNop (s : State) (n : Nat) : State := s.plain n 15 (fun w s => s.subNext n w 0)

/-! ## Completions of units -/

/-- BUS_TRANSFER_COMPLETE: the transfer of a bus's owner ends (R270, R276, R278). -/
def State.busDone (s : State) (n : Nat) (r : BusResult) : State :=
  let x := s.sub n
  match x.ccw, x.op, x.onBus with
  | some w, some o, some b =>
    if x.busy ∧ (s.busQ b).head? = some n then
      let spi := decide (4 ≤ b)
      if r.nack ∧ !spi then s.unitEnd n w (some .nack) (cCount w - min r.done (cCount w)) []
      else if cCmd o = 2 ∧ r.data.length < x.want then s
      else
        let hold := spi && bit o 0 && cCont w == 1
        let s1 := s.updSub n (fun y => { y with frame := if hold then some (cUnit o) else none })
        if cCmd o = 2 then s1.unitStore n w (r.data.take x.want) (cCount w - x.want)
        else s1.unitEnd n w (if x.after then some Chk.list else none) (cCount w - x.want) []
    else s
  | _, _, _ => s

/-- Requests of a subchannel's CCW that wait at a port for a tag are not sent (R277, R293, R296): they go back to what is left to
issue. -/
def State.sbUnissued (s : State) (n p : Nat) : State :=
  let mine (q : SbReq) : Bool := q.subch == n && q.epoch == (s.sub n).epoch
  let l := (s.port p).sbWait.filter mine
  (s.updPort p (fun x => { x with sbWait := x.sbWait.filter (fun q => !mine q) })).updSub n (fun x => { x with
    outs := x.outs.filter (fun a => !l.any (fun q => q.addr == a)),
    todo := l.map (fun q => (q.addr, q.be, q.data)) ++ x.todo })

/-- Bytes of a PINSLICE CCW from the first address that has not been transferred to its end: of a request that failed, or that was
not issued (R277). -/
def SubCh.pinResidual (x : SubCh) (count : Nat) : Nat :=
  let first := x.pos - x.want
  match x.outs ++ x.todo.map (fun e => e.1) ++ (x.fail.map (fun f => f.1)).toList with
  | [] => 0
  | a :: l => count - (max (l.foldl min a) first - first)

/-- Byte `i` of the data that a PINSLICE READ has got. -/
def SubCh.pinByte (x : SubCh) (i : Nat) : Byte :=
  let a := x.pos - x.want + i
  match x.got.find? (fun e => e.1 == a / 8 * 8) with
  | some e => BitVec.ofNat 8 (fld e.2 (8 * (a % 8) + 7) (8 * (a % 8)))
  | none => 0

/-- An answer to a sideband request of a subchannel (R277): status 4 stands for a time-out. A chain that is being halted ends
once its last request is answered (R293). -/
def State.subSb (s : State) (q : SbReq) (status : Nat) (data : Word) : State :=
  let n := q.subch
  let x := s.sub n
  match x.ccw, x.op with
  | some w, some o =>
    if x.epoch = q.epoch ∧ x.outs.contains q.addr then
      let fail := if status = 0 then x.fail else match x.fail with
        | some f => if q.addr < f.1 then some (q.addr, status) else some f
        | none => some (q.addr, status)
      let got := if status = 0 ∧ !q.write then x.got ++ [(q.addr, data)] else x.got
      let s0 := s.updSub n (fun y => { y with outs := y.outs.erase q.addr, fail := fail, got := got })
      let s1 := if status = 0 then s0 else s0.sbUnissued n (cUnit o % 128)
      let y := s1.sub n
      if y.halting then (if y.outs.isEmpty then (s1.subEnd n (some .fenced) (y.pinResidual (cCount w))).emergGo else s1)
      else if !y.outs.isEmpty ∨ (fail.isNone ∧ !y.todo.isEmpty) then s1.sbNext n (cUnit o % 128) (cCmd o == 1) 4
      else match fail with
        | some (a, st) =>
          let c : Chk := match st with | 1 => .notSelected | 2 => .noReg | 3 => .error | _ => .timeout
          let k := max a (y.pos - x.want) - (y.pos - x.want)
          s1.unitStoreAs n w (some c) (if cCmd o = 2 then (List.range k).map y.pinByte else []) (cCount w - k)
        | none =>
          if cCmd o = 2 then s1.unitStore n w ((List.range x.want).map y.pinByte) (cCount w - x.want)
          else s1.unitEnd n w (if x.after then some Chk.list else none) (cCount w - x.want) []
    else s
  | _, _ => s

/-- A RSTART_ACK from a device for one of its subchannels (R278): links keep order (R505), so it answers the entry sent there first
that has had no answer. Of an entry whose CCW no longer waits, a time-out having ended it, the spec does not say whether this is the
late answer or none ever comes: a free value decides (log entry 65). `k` bounds the entries looked at. -/
def State.remoteAckN (s : State) (dev rsub : Nat) (refused : Bool) : Nat → State
  | 0 => s
  | k + 1 =>
    match takeFirst (fun e => e.1 == dev && e.2.1 == rsub) s.ret.remotes with
    | none => s
    | some ((_, _, n, epoch), r) =>
      let s1 := { s with ret := { s.ret with remotes := r } }
      match (s.sub n).ccw, decide ((s.sub n).remote.isSome ∧ (s.sub n).epoch = epoch) with
      | some w, true => s1.unitEnd n w (if refused then some .refused else none) (if refused then cCount w else 0) []
      | _, _ => let (late, s2) := s1.drawBit; if late then s2 else s2.remoteAckN dev rsub refused k

/-- A RSTART_ACK. -/
def State.remoteAck (s : State) (dev rsub : Nat) (refused : Bool) : State :=
  s.remoteAckN dev rsub refused s.ret.remotes.length

/-- REMOTE_TIMEOUT: no acknowledgement within 100 µs (R278). -/
def State.remoteTimeout (s : State) (n : Nat) : State :=
  match (s.sub n).remote, (s.sub n).ccw with
  | some (_, _, t), some w => if 100 * us ≤ dur t s.now then s.unitEnd n w (some .timeout) (cCount w) [] else s
  | _, _ => s

/-- A start entry from a REMOTE unit (R278): false where it is refused. -/
def State.remoteStart (s : State) (n : Nat) (entry : List Word) : Bool × State :=
  let o := rtp n
  let lg := s.f (o + R.retScSring) 4 0
  let p := s.f (o + R.retScSprod) 31 0
  let fill := (p + 2 ^ 32 - s.f (o + R.retScScons) 31 0) % 2 ^ 32
  if !s.b (o + R.retScCtl) 4 ∨ 2 ^ lg ≤ fill then (false, s)
  else
    match s.memWrite (s.f (o + R.retScSring) 47 8 * 256 + 16 * (p % 2 ^ lg)) (entry.flatMap (fun w => leBytes 8 w.toNat)) with
    | (.ok, s1) => (true, s1.putF (o + R.retScSprod) 31 0 ((p + 1) % 2 ^ 32))
    | (st, s1) => (false, s1.fault o (statusCls st))

/-- The answer of a semaphore access that was withheld: the CCW executes again with it; it is discarded where that CCW has ended
meanwhile. -/
def State.subSem (s : State) (n epoch : Nat) (v : Word) : State :=
  if (s.sub n).semWait ∧ (s.sub n).epoch = epoch then
    let s1 := s.updSub n (fun x => { x with semWait := false, log := x.log ++ [v] })
    (((s1.ccwUnit n (fun c _ => decide (1 ≤ c) && decide (c ≤ 4))).ccwWaitTime n).ccwSkipIf n)
  else s

/-- GPIO_EDGE: an edge at a pin (R275, R280). -/
def State.gpioEdge (s : State) (pin : Nat) (rise : Bool) : State :=
  if 32 ≤ pin then s else
  let r := s.ret
  let e := SMap.get 0 r.garm pin
  let s1 := { s with ret := { r with gin := setBit r.gin pin rise } }
  if e.testBit (if rise then 0 else 1) then
    let r1 := s1.ret
    let r2 := if r1.fifo.length < 256 then { r1 with fifo := r1.fifo ++ [⟨s.now, pin, rise, r1.lost⟩], lost := false }
      else { r1 with lost := true }
    ({ s1 with ret := r2 }).retPulse (64 + pin)
  else s1

/-- I3C_IBI: an in-band interrupt is accepted on a bus (R280, Table 8.5). -/
def State.i3cIbi (s : State) (b : Nat) (addr : BitVec 7) (mdb : Byte) : State :=
  if 4 ≤ b then s else
  ({ s with ret := { s.ret with ibis := SMap.set {} s.ret.ibis b { addr := addr.toNat, seen := true, mdb := mdb } } }).retPulse
    (96 + b)

/-! ## Doorbells, halting, emergency (R264, R293 to R296) -/

/-- A start-ring doorbell (R278, R393): false where it is ignored. -/
def State.retDoorbell (s : State) (n v : Nat) : Bool × State :=
  let o := rtp n
  if s.b (o + R.retScCtl) 4 then (false, s.fault o .config)
  else if doorbellOk (s.f (o + R.retScSring) 4 0) (s.f (o + R.retScSprod) 31 0) (s.f (o + R.retScScons) 31 0) v then
    (true, s.putF (o + R.retScSprod) 31 0 v)
  else (false, (s.inc (o + R.retScCnt) 15 0).fault o .config)

/-- The bytes that the CCW in progress has not transferred when a chain is halted: of a bus transfer some number that the
spec does not state. -/
def State.haltResidual (s : State) (n : Nat) : Nat × State :=
  let x := s.sub n
  match x.ccw with
  | none => (0, s)
  | some w =>
    let cmd := match x.op with | some o => cCmd o | none => cCmd w
    if !(1 ≤ cmd && cmd ≤ 4) then (0, s)
    else if x.busy && x.onBus.any (fun b => (s.busQ b).head? == some n) then
      let (v, s1) := s.draw
      (v.toNat % (cCount w + 1), s1)
    else if x.todo.isEmpty then (cCount w, s)
    else (x.pinResidual (cCount w), s)

/-- Steps 2 and 3 of R293 for one subchannel: outstanding sideband requests are answered or time out first. A TAKE for which it
waits stays at its unit (R406). -/
def State.halt (s : State) (n : Nat) : State :=
  if s.subSt n = 0 ∨ (s.sub n).halting then s
  else
    let p := match (s.sub n).op with | some o => cUnit o % 128 | none => 0
    let s1 := if (s.sub n).outs.isEmpty then s else s.sbUnissued n p
    if (s1.sub n).outs.isEmpty then
      let (r, s2) := s1.haltResidual n
      s2.subEnd n (some .fenced) r
    else s1.updSub n (fun x => { x with halting := true })

/-- Level-3 entry at the Retriever of an unbraced device (R293): the armed emergency chain begins when every chain has ended. -/
def State.retSafe (s : State) : State :=
  let s1 := (List.range 64).foldl (fun s n => (s.putB (rtp n + R.retScCtl) 0 false).halt n) s
  { s1 with ret := { s1.ret with emergDue := s1.b emc 8 } }.emergGo

/-- A write of RET_EMERG_CTL with SC and ARMED in `w` (R294): false where it is ignored. -/
def State.emergArm (s : State) (w : Word) : Bool × State :=
  let a := s.f (rtp 0 + R.retEmergChain) 47 0
  let bad := !(shepBase ≤ a && a < shepBase + 0x800000) || a % 16 != 0 || s.b emc 9
  if bit w 8 ∧ bad then (false, s.fault (rtp 0) .config)
  else
    let s1 := if s.b emc 8 then s else s.putF emc 5 0 (fld w 5 0)
    (true, s1.putB emc 8 (bit w 8))

/-- Function reset of a RET page (R296, R410): requests that wait for a tag are not sent. -/
def State.retReset (s : State) (n : Nat) : State :=
  let s0 := match (s.sub n).op with | some o => s.sbUnissued n (cUnit o % 128) | none => s
  let s1 := (s0.busLeave n).updSub n (fun x => { epoch := x.epoch + 1 })
  let s2 := s1.resetRegs (rtp n) 0x100 0x160
  let s3 := if s.emergency n then s2.putB emc 9 false else s2
  { s3 with wfail := s3.wfail.filter (fun o => o != rtp n + R.retScCring) }.notice (retOrigin n) |>.emergGo

end Sys2Proof.Machine
end

