-- ==== Sys2Proof/Machine/LinkOps.lean ====
section
/-! DEFINITION. Bamior links (R479 to R482), brace roles, digests and takeover (R483 to R499), and the pack: routes, tree,
lead, barriers and messages (R504 to R511). What needs the control window stands in PackOps. -/

namespace Sys2Proof.Machine

/-! ## Links (R479 to R482) -/

/-- BRC page. -/
def bp : Nat := pageAt .brc 0
/-- PACK page. -/
def kpk : Nat := pageAt .pack 0

/-- Is `g` newer than `cur` in the sense of R256? -/
def newer (g cur : Nat) : Bool :=
  let d := (g % 65536 + 65536 - cur % 65536) % 65536
  decide (1 ≤ d) && decide (d ≤ 32767)

/-- NAK with the LSEQ that the device expects (R481). -/
def State.nakOut (s : State) (l : Nat) : State :=
  ((s.updLink l (fun b => { b with naked := true })).linkRaw l (.nak (s.link l).recvSeq)).inc (kpk + R.packEvt) 47 32

/-- A message with an LSEQ reaches a link: it is accepted in LSEQ order; a gap sends one NAK and messages are discarded
until the expected one arrives (R481). -/
def State.accept (s : State) (l : Nat) (lseq : BitVec 16) (k : State → State) : State :=
  if !s.linkIsUp l then s
  else
    let b := s.link l
    if lseq = b.recvSeq then k (s.updLink l (fun b => { b with recvSeq := b.recvSeq + 1, naked := false }))
    else if newer lseq.toNat b.recvSeq.toNat && !b.naked then s.nakOut l
    else s

/-- An uncorrectable codeword on a Bamior link sends NAK, each time: it may have hit what is sent again (R481). -/
def State.linkUncorr (s : State) (l : Nat) : State := if s.linkIsUp l then s.nakOut l else s

/-- Drop the unacknowledged messages up to an LSEQ, that one not included. -/
def BLink.ackTo (b : BLink) (q : BitVec 16) : BLink :=
  { b with unacked := b.unacked.filter (fun e => decide ((e.1 - q).toNat < 2 ^ 15)) }

/-- NAK: the messages from EXPECT on are sent again in order (R481). The codeword that made the peer send it may have held
this device's own NAK: a device that still discards sends that again (log entry 62). -/
def State.onNak (s : State) (l : Nat) (q : BitVec 16) : State :=
  if s.linkIsUp l then
    let s0 := if (s.link l).naked then s.nakOut l else s
    let s1 := s0.updLink l (fun b => b.ackTo q)
    ((s1.link l).unacked.foldl (fun s e => s.sendMsg l e.1 e.2) s1).linkPump l (s1.link l).waitq.length
  else s

/-- The link toward the lead, in the tree that is in use (R507, R508); a STANDBY pack's lead follows its brace link. -/
def State.parentLink (s : State) : Nat :=
  let t := s.reg (kpk + R.packTree)
  let p := if s.pack.alt then fld t 14 8 else fld t 6 0
  if p = 0x7F ∧ s.standby then s.braceLink.getD 0x7F else p

/-- BSYNC (R481, R482, R507). -/
def State.onBsync (s : State) (l : Nat) (f : BSyncF) : State :=
  let s0 := s.updPort l (fun x => { x with lastSync := s.now })
  if s.linkIsUp l then
    let s1 := s0.updLink l (fun b => { b.ackTo (f.ack + 1) with tcredit := f.tcredit, peerTx := f.txTime, peerRx := f.rxTime })
    let s2 := s1.linkPump l (s1.link l).waitq.length
    if s.parentLink = l then
      s2.timeOffset ((((f.peerRx - f.peerTx).toInt) - ((f.rxTime - f.txTime).toInt)) / 2)
    else s2
  else s0

/-- The BSYNC that a Bamior link sends at a SYNC time. -/
def State.bsyncOut (s : State) (l : Nat) : Bmsg :=
  let b := s.link l
  .bsync { txTime := s.now, peerTx := b.peerTx, peerRx := b.peerRx, rxTime := 0, ack := b.recvSeq - 1,
           tcredit := b.taken + 1024 }

/-- A block time of a Bamior link in block mode: BSYNC at SYNC times, else LANEMAP of a substitution, but not between a header
and its DATA blocks, the next block of the messages that are leaving, or IDLE (R236, R253, R480). -/
def State.bamiorBlock (s : State) (l : Nat) : State :=
  match (s.port l).blk with
  | none => s
  | some n =>
    let x := s.port l
    let s1 := (if n % 20 = 0 ∧ l < 96 then s.spareFrame l else s).updPort l (fun x => { x with blk := some (n + 1) })
    if n % 256 = 0 then
      let m := s1.bsyncOut l
      (s1.emit (.bamior l 0 m)).sendBits l ((m.blocks 0).headD 0)
    else
      let msg (b : BitVec 257) (r : List (BitVec 257)) : State := (s1.updPort l (fun x => { x with msgq := r })).sendBits l b
      match x.ctlq, x.msgq with
      | c :: k, b :: r => if b.getLsbD 256 then msg b r else (s1.updPort l (fun x => { x with ctlq := k })).sendBlk l c
      | c :: k, [] => (s1.updPort l (fun x => { x with ctlq := k })).sendBlk l c
      | [], b :: r => msg b r
      | [], [] => s1.sendBits l DBlock.idle.bits

/-- DOWNSTREAM_BLOCK_TIME of a port: training frames, then blocks (R236, R238, R249, R480). -/
def State.portTime (s : State) (p : Nat) : State :=
  if s.training p then s.trainTime p
  else
    let s1 := s.tryUp p
    if s1.bamior p then s1.bamiorBlock p else s1.blockTime p

/-! ## Training of the brace links (R249 to R251, R479) -/

/-- A brace link returns to step 2 of Table 7.7. -/
def State.braceRetrain (s : State) (l : Nat) : State :=
  (s.putB (bp + R.brcStat) (4 + (l - 96)) false).updPort l (fun x => { misses := x.misses, phase := 1, trainAt := s.now })
    |>.seedLanes l

/-- Is the PHY of a brace link powered? -/
def State.bracePhy (s : State) (l : Nat) : Bool := s.domOn (174 + (l - 96))

/-- A brace link whose PHY is powered and that has not begun to train begins (step 2 of Table 7.7). -/
def State.braceBegin (s : State) (l : Nat) : State :=
  if s.bracePhy l ∧ (s.port l).phase = 0 then s.braceRetrain l else s

/-- TRAINING_FRAME of a brace link: eight lanes, no spare. -/
def State.braceFrame (s0 : State) (l lane : Nat) (f : TrainFrame) : State :=
  let s1 := s0.braceBegin l
  let x := s1.port l
  let s := if f.marker then s1.updPort l (fun x => { x with skews := SMap.set 0 x.skews f.lane f.skew }) else s1
  if !s.bracePhy l ∨ 8 ≤ lane then s
  else match x.phase with
  | 1 =>
    let locks := SMap.set 0 x.locks lane (x.lockCount lane lane f)
    if (List.range 8).all (fun i => decide (64 ≤ SMap.get 0 locks i)) then
      s.updPort l (fun x => { x with locks := locks, phase := 2, readies := 0 })
    else s.updPort l (fun x => { x with locks := locks })
  | 2 =>
    if f.marker && f.state == 2 && f.mode == 1 then s.readyFrame l 8 id else s
  | 3 =>
    if f.marker && f.state == 3 && f.count == 0 then (s.updPort l (fun x => { x with goRx := true })).blockMode l else s
  | _ => s

/-- TRAINING_TIMEOUT of a brace link: 10 ms, the reset value of a port's TIMEOUT_MS. -/
def State.braceTimeout (s : State) (l : Nat) : State :=
  let x := s.port l
  if 1 ≤ x.phase ∧ !s.linkIsUp l ∧ 10 * 1000 * us ≤ dur x.trainAt s.now then
    let s1 := (s.braceRetrain l).updPort l (fun y => { y with misses := x.misses + 1 })
    if x.misses + 1 = 3 then s1.fault bp .timeout else s1
  else s

/-- HEARTBEAT_LOSS of a brace link: three SYNC intervals, at twice a port's rate (R236, R247, R479, log entry 62). -/
def State.braceLost (s : State) (l : Nat) : State :=
  if (s.port l).phase = 4 ∧ 7865 ≤ dur (s.port l).lastSync s.now then (s.braceRetrain l).fault bp .timeout else s

/-! ## Roles (R483 to R485) -/

/-- Is a block one that a twin which does not drive never sends (Table 15.2)? -/
def isSwitch : DBlock → Bool
  | .ready _ _ _ | .switch _ => true
  | _ => false

/-- The ports give up READY and SWITCH: none waits, and none is repeated (R483, R485, R499). -/
def State.hush (s : State) : State :=
  (List.range 96).foldl (fun s p =>
    let x := s.port p
    if x.switching || x.resumeIdx.isSome || x.ctlq.any isSwitch then
      s.updPort p (fun x => { x with switching := false, resumeIdx := none, ctlq := x.ctlq.filter (fun b => !isSwitch b) })
    else s) s

/-- Set ROLE. A device that does not drive any more sends neither READY nor SWITCH, also none that waits (Table 15.2). -/
def State.setRole (s : State) (r : Nat) : State :=
  let s1 := s.putF (bp + R.brcStat) 2 0 r
  if r = 2 ∨ r = 4 ∨ r = 5 then s1.hush else s1

/-- BRC_STAT.GEN. -/
def State.brcGen (s : State) : Nat := s.f (bp + R.brcStat) 31 16

/-- Fix the roles when a brace link is UP and EN is 1 (R484). -/
def State.fixRoles (s : State) : State :=
  let r := s.brcRole
  let run := r == 1 || r == 3
  let pref := s.b (bp + R.brcCtl) 1
  let win := if run != s.brace.twinRun then run
    else if pref != s.brace.twinPref then pref
    else decide (s.fuses.serial.toNat < s.brace.twinSerial.toNat)
  if r = 6 then s
  else if win then { (s.setRole 1) with brace := { s.brace with twinRole := 4 }, ledger := { s.ledger with sent := s.ledger.next } }
  else { (s.setRole 4) with brace := { s.brace with twinRole := 1 } }

/-- Step 5 of Table 7.7 ends for a brace link: LINKID has been received, and 8 codewords (1,639 pt at twice a port's rate)
have passed without an uncorrectable one. The first link that comes up fixes the roles (R484). -/
def State.braceTry (s : State) (k : Nat) : State :=
  let x := s.port (96 + k)
  if x.phase = 4 ∧ !s.linkIsUp (96 + k) ∧ x.idSeen ∧ 1639 ≤ dur x.badAt s.now then
    let s1 := { s.putB (bp + R.brcStat) (4 + k) true with brace := { s.brace with misses := 0, hbEnd := s.now } }
    let s2 := s1.updPort (96 + k) (fun x => { x with misses := 0 })
    let s3 := if s.braceLink.isNone && s2.b (bp + R.brcCtl) 0 then s2.fixRoles else s2
    s3.linkResume (96 + k)
  else s

/-- BRACE_LINK_UP: the LINKID of a brace link that has trained (R2, R484, R504). A device that the fuses do not name as the
twin keeps the link down. -/
def State.braceUp (s : State) (k : Nat) (serial : Word) (run pref : Bool) : State :=
  if k < 2 ∧ (s.port (96 + k)).phase = 4 ∧ !s.linkIsUp (96 + k) then
    if s.fuses.twin = 0 ∨ serial ≠ s.fuses.twin then
      ((s.putB (bp + R.brcStat) 3 false).braceRetrain (96 + k)).fault bp .config
    else
      let s1 := { s.putB (bp + R.brcStat) 3 true with
        brace := { s.brace with twinSerial := serial, twinRun := run, twinPref := pref } }
      (s1.updPort (96 + k) (fun x => { x with idSeen := true })).braceTry k
  else s

/-- What follows a write of BRC_CTL that changed EN (R484): EN has its new value. -/
def State.brcEn (s : State) : State :=
  if s.b (bp + R.brcCtl) 0 then
    if s.brcRole ≠ 0 then s else if s.braceLink.isSome then s.fixRoles else s.setRole 3
  else s.setRole 0

/-- DOWNSTREAM_BLOCK_TIME of a brace link: training frames, then blocks (R249, R479, R480). -/
def State.braceTime (s : State) (l : Nat) : State :=
  let s1 := s.braceBegin l
  if !s1.bracePhy l then s1
  else if s1.training l then s1.trainTime l
  else (s1.braceTry (l - 96)).bamiorBlock l

/-- Send on both brace links that are UP. -/
def State.bothLinks (s : State) (m : Bmsg) : State :=
  [96, 97].foldl (fun s l => if s.linkIsUp l then s.linkSend l m else s) s

/-- Send on the brace link in use. -/
def State.toTwin (s : State) (m : Bmsg) : State :=
  match s.braceLink with | some l => s.linkSend l m | none => s

/-- The highest LEVEL of any page. -/
def State.maxLevel (s : State) : Nat :=
  s.regs.foldl (fun n e => if e.1 % 0x1000 = R.pgErrLevel then
    (match pageOf e.1 with | some (b, k) => if hasHeader b k then max n (fld e.2 1 0) else n | none => n) else n) 0

/-- The HB that the device sends (Table 15.1). -/
def State.hbOut (s : State) : Bmsg :=
  .hb { role := s.brcRole, gen := BitVec.ofNat 16 s.brcGen, level := s.maxLevel, seq := s.ledger.next - 1 }

/-- HB_INTERVAL: HB_US have passed: an interval without HB is counted, and an HB goes out on both links (R497, Table
15.2). -/
def State.hbInterval (s : State) : State :=
  let iv := us * s.f (bp + R.brcEpoch) 10 8
  if s.brcRole ≠ 0 ∧ iv ≤ dur s.brace.hbEnd s.now then
    let seen := s.brace.hbSeen
    let s1 := { s with brace := { s.brace with hbEnd := s.now, hbSeen := false, misses := if seen then 0 else s.brace.misses + 1 } }
    let s2 := (if seen then s1 else s1.inc (bp + R.brcEvt) 15 0).putB (bp + R.brcStat) 6 seen
    s2.bothLinks s2.hbOut
  else s

/-! ## Takeover (R497, R498) -/

/-- The newest of several generations (R256). -/
def newest (l : List Nat) (g : Nat) : Nat := l.foldl (fun m x => if newer x m then x else m) g

/-- A Phour port that is UP. -/
def State.phourUp (s : State) : List Nat := (List.range 96).filter (fun p => s.lnk p == 4 && !s.bamior p)

/-- The trigger of a takeover (rows 0 and 1 µs of Table 15.3). -/
def State.takeover (s : State) : State :=
  let g := (newest (s.brace.twinGen.toNat :: s.phourUp.map (fun p => s.f (pp p + R.portLnkStat) 31 16)) s.brcGen + 1) % 65536
  let s1 := ((s.setRole 6).setReg (bp + R.brcTakeTime) s.now).inc (bp + R.brcEvt) 31 16
  let s2 := { s1.putF (bp + R.brcStat) 31 16 g with brace := { s1.brace with hbAfter := false } }
  let s3 := ((List.range 96).filter (fun p => !s.bamior p)).foldl (fun s p => s.putF (pp p + R.portLnkSwitch) 15 0 g) s2
  let s4 := s3.phourUp.foldl (fun s p => s.switchSend p) ((List.range 96).foldl (fun s p =>
    if (s.port p).readied then s.updPort p (fun x => { x with readied := false }) else s) s3)
  (List.range 64).foldl (fun s n =>
    let x := s.sub n
    match x.ccw with
    | some w => if x.unitWait then (s.updSub n (fun x => { x with unitWait := false })).subEnd n (some .timeout) (cCount w) else s
    | none => s) { s4 with ret := { s4.ret with results := [] } }

/-- The ports with a RUNNING Plate that have not sent READY since the trigger, those that are not UP among them. -/
def State.notResumed (s : State) : List Nat :=
  (List.range 96).filter (fun p => s.pst p == 2 && !s.bamior p && !(s.port p).readied)

/-- TAKEOVER_DEADLINE: the last row of Table 15.3, when every RUNNING Plate's port has sent READY, or at 30 µs. -/
def State.takeoverEnd (s : State) : State :=
  if s.brcRole = 6 ∧ (s.notResumed.isEmpty ∨ 30 * us ≤ dur (s.reg (bp + R.brcTakeTime)) s.now) then
    let s1 := s.notResumed.foldl (fun s p =>
      (match (s.plate p).feed with | some h => s.invalid h | none => s).fault (pp p) .timeout) s
    let s2 := s1.setRole (if s.brace.hbAfter then 1 else 3)
    ({ s2 with ledger := { s2.ledger with sent := s2.ledger.next } }).pageInt bp 0
  else s

/-- The ACTIVE loses its twin: it becomes SOLO. -/
def State.solo (s : State) : State := if s.brcRole = 1 then { (s.setRole 3) with brace := { s.brace with swapping := false } } else s

/-- HB_LOSS: three intervals in a row without HB (R497). -/
def State.hbLoss (s : State) : State :=
  if s.brace.misses < 3 then s
  else if s.brcRole = 2 ∧ s.b (bp + R.brcCtl) 2 then s.takeover
  else s.solo

/-- HB from the twin (R484, R485, R498, R518): its ROLE says whether it is running. A SOLO device that hears of a SYNCING twin is
ACTIVE again: that twin fixed its role while the link was UP (log entry 62). -/
def State.onHb (s : State) (f : HbF) : State :=
  let run := f.role == 1 || f.role == 3 || f.role == 6
  let s1 := { s with brace := { s.brace with
    twinRole := f.role, twinGen := f.gen, twinRun := run, hbSeen := true, misses := 0, hbAfter := true } }
  let s2 := s1.putB (bp + R.brcStat) 6 true
  let s3 := if newer f.gen.toNat s.brcGen then s2.putF (bp + R.brcStat) 31 16 f.gen.toNat else s2
  let s4 := if f.level = 3 then s3.direct bp 1 0 else s3
  if s.brcRole = 1 ∧ (f.role = 0 ∨ (f.level = 3 ∧ (f.role = 2 ∨ f.role = 4 ∨ f.role = 5))) then s4.solo
  else if s.brcRole = 2 ∧ f.role = 3 then s4.setRole 4
  else if s.brcRole = 3 ∧ f.role = 4 ∧ f.level ≠ 3 then
    { s4.setRole 1 with ledger := { s4.ledger with sent := s4.ledger.next } }
  else s4

/-- FENCE from the twin (R485, R497). -/
def State.onFence (s : State) : State := if s.brcRole = 2 then s.takeover else s.solo

/-- SWAP from the twin (R502). -/
def State.onSwap (s : State) : State := if s.brcRole = 2 then s.takeover else s

/-- SYNC_DONE (R501). -/
def State.onSyncDone (s : State) : State := if s.brcRole = 4 then s.setRole 2 else s

/-- Is a subchannel in a unit step (R502)? -/
def State.inUnitStep (s : State) (n : Nat) : Bool :=
  let x := s.sub n
  match x.ccw with
  | some w => (x.busy && s.subSt n == 1) || (x.semWait && unitStep (cCmd w) w) || (s.subSt n == 2 && cCmd w == 9 && bit w 6)
  | none => false

/-- A role swap that waits takes place once no subchannel is in a unit step (R502); one that waits on a device that is no ACTIVE
with a STANDBY any more is dropped. -/
def State.swapNow (s : State) : State :=
  if s.brace.swapping ∧ !s.braced then { s with brace := { s.brace with swapping := false } }
  else if s.brace.swapping ∧ !(List.range 64).any (fun n => s.inUnitStep n) then
    let s1 := s.toTwin (.swap (BitVec.ofNat 16 s.brcGen))
    { (s1.setRole 2) with brace := { s1.brace with swapping := false, twinRole := 6 } }
  else s

/-- BRC_CMD.OP = SWAP (R502): false where it is ignored. -/
def State.brcSwap (s : State) : Bool × State :=
  if s.braced then (true, ({ s with brace := { s.brace with swapping := true } }).swapNow) else (false, s.fault bp .config)

/-- BRC_CMD.OP = TAKEOVER (R497). A device that is not STANDBY never takes over. -/
def State.brcTakeover (s : State) : Bool × State :=
  if s.brcRole = 2 then (true, s.takeover) else (false, s.fault bp .config)

/-- A device leaves the brace: it is UNBRACED (R501). -/
def State.unbrace (s : State) : State := (s.setRole 0).putB (bp + R.brcCtl) 0 false

/-- BRC_CMD.OP = DETACH (R501): a STANDBY, SYNCING or DEPOSED device becomes UNBRACED, its twin SOLO. Written there, its last
HB tells the twin; written on the ACTIVE, the REPLAY of that write's own record does (log entry 62). -/
def State.brcDetach (s : State) : Bool × State :=
  match s.brcRole with
  | 2 | 4 | 5 =>
    let s1 := s.unbrace
    (true, s1.bothLinks s1.hbOut)
  | 1 => (true, (s.toTwin (.replay (s.ledgerSlot ((s.ledger.next - 1).toNat % 4096)))).solo)
  | _ => (false, s.fault bp .config)

/-- A port's upstream SYNC shows a newer generation selected elsewhere (R499). -/
def State.deposed (s : State) (p : Nat) (f : UpSync) : State :=
  if (s.brcRole = 1 ∨ s.brcRole = 3) ∧ !f.selected ∧ newer f.gen.toNat s.brcGen ∧ !s.bamior p then
    (s.setRole 5).fault bp .config
  else s

/-! ## Seals and digests (R495, R496) -/

/-- The outcome of a comparison (R496). -/
def State.compareSeal (s : State) (o : Seal) (e : DigestF × Nat) : State :=
  let t := e.1
  let same := if o.ovf || t.ovf then o.value == t.value else o.a == t.a && o.n == t.n && o.value == t.value
  let s1 := { s with brace := { s.brace with own := s.brace.own.erase o, theirs := s.brace.theirs.erase e } }
  if same then s1.inc (bp + R.brcDigStat) 31 16
  else (diverge s1 o.seq.toNat false).fault bp .uncorrectable
where
  /-- Count a divergence and record the first (R496). -/
  diverge (s : State) (seq : Nat) (unmatched : Bool) : State :=
    let s1 := s.inc (bp + R.brcDigStat) 47 32
    if s1.b (bp + R.brcDiv) 63 then s1
    else ((s1.putF (bp + R.brcDiv) 31 0 seq).putB (bp + R.brcDiv) 32 unmatched).putB (bp + R.brcDiv) 63 true

/-- Compare what can be compared: own seals that have been sent with the twin's of the same SEQ; `n` bounds them. -/
def State.matchSeals (s : State) : Nat → State
  | 0 => s
  | n + 1 =>
    let pair := s.brace.own.findSome? (fun o => if o.sent then
      (s.brace.theirs.find? (fun t => t.1.seq == o.seq)).map (fun t => (o, t)) else none)
    match pair with
    | some (o, t) => (s.compareSeal o t).matchSeals n
    | none => s

/-- DIGEST from the twin. -/
def State.onDigest (s : State) (f : DigestF) : State :=
  let s1 := { s with brace := { s.brace with theirs := s.brace.theirs ++ [(f, 0)] } }
  s1.matchSeals s1.brace.own.length

/-- EPOCH_BOUNDARY (R496): own seals since the last boundary are sent; older ones, and seals of the twin that this device has not
made, age. -/
def State.epochBoundary (s : State) : State :=
  let iv := us * s.f (bp + R.brcEpoch) 5 0
  if s.now.toNat / iv ≤ s.brace.epochEnd.toNat / iv then s
  else
    let aged := s.brace.own.map (fun o => if o.sent then { o with age := o.age + 1 } else o)
    let m := s.f (bp + R.brcCtl) 11 8
    let alone := (s.brace.theirs.map (fun e => (e.1, e.2 + 1))).partition (fun e =>
      decide (m ≤ e.2) && !(s.brace.own.any (fun o => o.seq == e.1.seq)))
    let (late, own) := aged.partition (fun o => decide (m ≤ o.age))
    let s1 := { s with brace := { s.brace with epochEnd := s.now, own := own, theirs := alone.2 } }
    let s2 := (late.map (fun o => o.seq) ++ alone.1.map (fun e => e.1.seq)).foldl (fun s q =>
      (State.compareSeal.diverge s q.toNat true).fault bp .timeout) s1
    if (s.brcRole = 1 ∨ s.brcRole = 2) ∧ s.braceLink.isSome then
      let new := s2.brace.own.filter (fun o => !o.sent)
      let s3 := new.foldl (fun s o => s.toTwin (.digest { seq := o.seq, a := o.a, n := o.n, value := o.value, ovf := o.ovf })) s2
      let told := s3.brace.own.map (fun o => { o with sent := true })
      let s4 := { s3 with brace := { s3.brace with own := told } }
      s4.matchSeals s4.brace.own.length
    else s2

/-- A seal (R495): false where it is ignored. -/
def State.seal (s : State) (w : Word) : Bool × State :=
  if !bit w 63 then (true, s)
  else if 1024 ≤ s.brace.own.length then (false, s.fault bp .config)
  else
    let c := fld w 15 0
    let k := fld w 23 16
    let (a, n) := match s.brace.accs.find? (fun x => x.ctx == c && x.colour == k) with | some x => (x.a, x.n) | none => (0, 0)
    let o : Seal := { seq := BitVec.ofNat 32 (fld w 55 24), a := a, n := n, value := s.reg (bp + R.brcSealVal),
                      ovf := s.brace.ovf.contains (c, k) }
    let b := s.brace
    (true, { s with brace := { b with own := b.own ++ [o], accs := b.accs.filter (fun x => !(x.ctx == c && x.colour == k)),
                                      ovf := b.ovf.filter (fun x => x != (c, k)) } })

/-! ## Routes between devices (R505, R506) -/

/-- Where a message for a device goes: none for the local device, else the port, or a drop counted in PACK_EVT. -/
def State.packNext (s : State) (dst hops : Nat) : Option (Option Nat) × State :=
  if dst = s.deviceId then (none, s)
  else if hops = 0 then (some none, s.inc (kpk + R.packEvt) 31 16)
  else match s.packPort dst with
    | some p => (some (some p), s)
    | none => (some none, s.inc (kpk + R.packEvt) 15 0)

/-- TOKEN (R505, R506): taken out of the buffer; a local one enters the mesh at the receiving port's hub. -/
def State.onToken (s : State) (l : Nat) (t : Token) (hops : Nat) : State :=
  let s1 := s.updLink l (fun b => { b with taken := b.taken + 1 })
  match s1.packNext (dDev t.dest) hops with
  | (none, s2) => s2.sendFrom (if l < 96 then pageNode .hub (l / 4) else pageNode .brc 0) t
  | (some (some p), s2) => s2.linkSend p (.token t (hops - 1))
  | (some none, s2) => s2

/-! ## Messages (R511, R278) -/

/-- An item from another device enters the ring IN_RING, as a SEND item does (R365): none while the store is full; refused
where the ring is not an enabled IN ring. -/
def State.msgItem (s : State) (item : List Word) : Option (Bool × State) :=
  let r := s.f (kpk + R.packCtl) 23 16
  let w (i : Nat) : Word := item.getD i 0
  if !s.kenIn r then some (false, s)
  else if s.b (kp + R.kenCtl) 0 && decide (0 < s.kenFree) then
    some (true, (s.kenAccept r true (w 0) (w 1) (w 2) (w 3)).kenPreempt)
  else none

/-- Answer a MSG from a device: its acknowledgement goes back by the route table; to itself it is taken at once. -/
def State.msgReply (s : State) (src : Nat) (refused : Bool) : State :=
  if src = s.deviceId then
    (s.putB (kpk + R.packMsgCtl) 17 false).putB (kpk + R.packMsgCtl) 18 refused
  else match s.packPort src with
    | some p => s.linkSend p (.msgAck src s.deviceId 15 refused)
    | none => s.inc (kpk + R.packEvt) 15 0

/-- An item for this device: it enters the ring, or waits for a free store entry. -/
def State.msgTake (s : State) (l src : Nat) (item : List Word) : State :=
  match s.msgItem item with
  | some (ok, s1) => s1.msgReply src (!ok)
  | none => { s with pack := { s.pack with msgs := s.pack.msgs ++ [(l, src, item)] } }

/-- Items that wait enter the ring as entries come free; `n` bounds them. -/
def State.msgPump (s : State) : Nat → State
  | 0 => s
  | n + 1 =>
    match s.pack.msgs with
    | [] => s
    | (_, src, item) :: r =>
      match s.msgItem item with
      | some (ok, s1) => (({ s1 with pack := { s1.pack with msgs := r } }).msgReply src (!ok)).msgPump n
      | none => s

/-- MSG (R505, R511). -/
def State.onMsg (s : State) (l src dst hops : Nat) (item : List Word) : State :=
  match s.packNext dst hops with
  | (none, s1) => s1.msgTake l src item
  | (some (some p), s1) => s1.linkSend p (.msg src dst (hops - 1) item)
  | (some none, s1) => match s1.packPort src with
    | some p => s1.linkSend p (.msgAck src dst 15 true)
    | none => s1.inc (kpk + R.packEvt) 15 0

/-- MSG_ACK: source and destination are those of the MSG, of which at most one is under way (R511). -/
def State.onMsgAck (s : State) (src dst hops : Nat) (refused : Bool) : State :=
  match s.packNext src hops with
  | (none, s1) =>
    if s1.b (kpk + R.packMsgCtl) 17 then
      (s1.putB (kpk + R.packMsgCtl) 17 false).putB (kpk + R.packMsgCtl) 18 refused
    else s1
  | (some (some p), s1) => s1.linkSend p (.msgAck src dst (hops - 1) refused)
  | (some none, s1) => s1

/-- GO of PACK_MSG_CTL (R511). -/
def State.msgGo (s : State) : State :=
  if s.b (kpk + R.packMsgCtl) 17 then s
  else
    let d := s.f (kpk + R.packMsgCtl) 9 0
    let item := (List.range 4).map (fun i => s.reg (kpk + R.packMsgW + 8 * i))
    let s1 := (s.putB (kpk + R.packMsgCtl) 17 true).putB (kpk + R.packMsgCtl) 18 false
    if d = s.deviceId then s1.msgTake 0 d item
    else match s1.packPort d with
      | some p => s1.linkSend p (.msg s.deviceId d 15 item)
      | none => ((s1.putB (kpk + R.packMsgCtl) 17 false).putB (kpk + R.packMsgCtl) 18 true).inc (kpk + R.packEvt) 15 0

/-- RSTART (R278, R505). -/
def State.onRstart (s : State) (src dst hops subch : Nat) (entry : List Word) : State :=
  let ack (s : State) (refused : Bool) : State := match s.packPort src with
    | some p => s.linkSend p (.rstartAck src dst 15 subch refused)
    | none => s.inc (kpk + R.packEvt) 15 0
  match s.packNext dst hops with
  | (none, s1) => let (ok, s2) := s1.remoteStart (subch % 64) entry; ack s2 (!ok)
  | (some (some p), s1) => s1.linkSend p (.rstart src dst (hops - 1) subch entry)
  | (some none, s1) => ack s1 true

/-- RSTART_ACK. -/
def State.onRstartAck (s : State) (src dst hops subch : Nat) (refused : Bool) : State :=
  match s.packNext src hops with
  | (none, s1) => s1.remoteAck dst subch refused
  | (some (some p), s1) => s1.linkSend p (.rstartAck src dst (hops - 1) subch refused)
  | (some none, s1) => s1

/-! ## The tree: lead, barriers, broadcast (R507 to R510) -/

/-- The child ports. -/
def State.children (s : State) : List Nat :=
  (List.range 96).filter (fun p => if p < 64 then s.b (kpk + R.packChildLo) p else s.b (kpk + R.packChildHi) (p - 64))

/-- Is the device the lead of its pack? -/
def State.isLead (s : State) : Bool := s.f (kpk + R.packCtl) 11 10 == 1

/-- EPOCH of the lead (R508). -/
def State.leadEpoch (s : State) : Nat := s.f (kpk + R.packLead) 31 16

/-- Send to every child. -/
def State.toKids (s : State) (m : Bmsg) : State := s.children.foldl (fun s p => s.linkSend p m) s

/-- Offset of PACK_BAR of a barrier. -/
def barAt (b : Nat) : Nat := kpk + R.packBar + 8 * b

/-- A barrier. -/
def State.bar (s : State) (b : Nat) : BarSt := SMap.get {} s.pack.bars b

/-- Change a barrier. -/
def State.updBar (s : State) (b : Nat) (g : BarSt → BarSt) : State :=
  { s with pack := { s.pack with bars := SMap.set {} s.pack.bars b (g (s.bar b)) } }

/-- Once the device and every child have arrived: RELEASE from the lead, ARRIVE to the parent from others (R510). -/
def State.barTry (s : State) (b : Nat) : State :=
  let x := s.bar b
  if s.b (barAt b) 8 ∧ s.children.all (fun p => x.kids.contains p) ∧ x.till.isNone then
    if s.isLead then
      let t := s.now + BitVec.ofNat 64 (16 * s.f (kpk + R.packBarSkew) 15 0)
      (s.toKids (.release b (BitVec.ofNat 16 s.leadEpoch) t)).updBar b (fun x => { x with till := some t, kids := [] })
    else if x.sent then s
    else
      let p := s.parentLink
      let s1 := s.updBar b (fun x => { x with sent := true })
      if p = 0x7F then s1 else s1.linkSend p (.arrive b (BitVec.ofNat 16 s.leadEpoch))
  else s

/-- ARRIVE written to PACK_BARb (R510): false where it is ignored. -/
def State.barArrive (s : State) (b : Nat) : Bool × State :=
  if s.b (barAt b) 8 then (false, s.fault kpk .config)
  else if !s.b (barAt b) 6 then (true, s)
  else (true, (s.putB (barAt b) 8 true).barTry b)

/-- ARRIVE from a child (R508, R510). -/
def State.onArrive (s : State) (l b : Nat) (epoch : BitVec 16) : State :=
  if 16 ≤ b ∨ newer s.leadEpoch epoch.toNat then s
  else (s.updBar b (fun x => { x with kids := if x.kids.contains l then x.kids else x.kids ++ [l] })).barTry b

/-- A barrier is released (R510). -/
def State.barRelease (s : State) (b : Nat) : State :=
  let s1 := (s.putB (barAt b) 8 false).putF (barAt b) 23 16 ((s.f (barAt b) 23 16 + 1) % 256)
  (s1.updBar b (fun x => { x with till := none, sent := false })).react (.pulse (s.f (barAt b) 5 0))

/-- RELEASE from the parent (R508, R510). -/
def State.onRelease (s : State) (b : Nat) (epoch : BitVec 16) (t : Word) : State :=
  if 16 ≤ b ∨ newer s.leadEpoch epoch.toNat then s
  else
    let s1 := s.toKids (.release b epoch t)
    if t.toNat < s.now.toNat then (((s1.updBar b (fun x => { x with kids := [] })).inc (kpk + R.packEvt) 63 48).barRelease b)
    else s1.updBar b (fun x => { x with till := some t, kids := [] })

/-- BARRIER_RELEASE_TIME: time T of a barrier has come (R510). -/
def State.barTime (s : State) (b : Nat) : State :=
  match (s.bar b).till with
  | some t => if t.toNat ≤ s.now.toNat then s.barRelease b else s
  | none => s

/-- Every pending arrival is sent again to a new lead (R508). -/
def State.barAgain (s : State) : State :=
  (List.range 16).foldl (fun s b => (s.updBar b (fun x => { x with sent := false })).barTry b) s

/-- A broadcast ends (R509). -/
def State.bcEnd (s : State) (err : Bool) : State :=
  let s1 := { s with pack := { s.pack with bcOn := false, bcKids := [] } }
  match s.pack.bcUp with
  | some (l, id) => s1.linkSend l (.cfgAck id err)
  | none => ((s1.putB (kpk + R.packBcastCtl) 1 false).putB (kpk + R.packBcastCtl) 2 true).putB (kpk + R.packBcastCtl) 3 err

/-- A broadcast with no child left to answer ends. -/
def State.bcTry (s : State) : State := if s.pack.bcOn ∧ s.pack.bcKids.isEmpty then s.bcEnd s.pack.bcErr else s

/-- GO of PACK_BCAST_CTL (R509): false where it is ignored. The lead's own write is applied at the end of the command. -/
def State.bcastGo (s : State) : Bool × State :=
  if !s.isLead ∨ s.b (kpk + R.packBcastCtl) 1 then (false, s.fault kpk .config)
  else
    let off := s.f (kpk + R.packBcastAddr) 23 0
    let data := s.reg (kpk + R.packBcastData)
    let id := s.pack.bcId
    let s1 := { (s.putF (kpk + R.packBcastCtl) 3 1 1) with
      pack := { s.pack with bcOn := true, bcKids := s.children, bcUp := none, bcErr := false, bcId := id + 1 } }
    (true, (s1.toKids (.cfg (BitVec.ofNat 24 off) id data)).react (.cfg off data))

/-- CFG_ACK from a child (R509). -/
def State.onCfgAck (s : State) (l : Nat) (id : BitVec 16) (err : Bool) : State :=
  let cur := match s.pack.bcUp with | some (_, i) => i | none => s.pack.bcId - 1
  if s.pack.bcOn ∧ id = cur ∧ s.pack.bcKids.contains l then
    ({ s with pack := { s.pack with bcKids := s.pack.bcKids.erase l, bcErr := s.pack.bcErr || err } }).bcTry
  else s

/-- LEADHB from a lead (R508). -/
def State.onLeadhb (s : State) (lead : BitVec 10) (epoch : BitVec 16) : State :=
  let old := s.leadEpoch
  if newer old epoch.toNat then s
  else
    let s1 := { s with pack := { s.pack with leadAt := s.now, miss := 0 } }
    let s2 := (s1.putF (kpk + R.packLead) 9 0 lead.toNat).putF (kpk + R.packLead) 31 16 epoch.toNat
    if newer epoch.toNat old then
      let s3 := { s2 with pack := { s2.pack with alt := true } }
      let s4 := if s3.pack.bcOn ∧ s3.pack.bcUp.isNone then s3.bcEnd true else s3
      (s4.toKids (.leadhb lead epoch)).barAgain
    else s2.toKids (.leadhb lead epoch)

/-- LEADHB_INTERVAL: 10 µs have passed: the lead sends LEADHB, a member counts a missed one, and, while DEPUTY_EN is 1, how many
have passed in a row (R508). -/
def State.leadhbInterval (s : State) : State :=
  if dur s.pack.leadAt s.now < 10 * us then s
  else
    let s1 := { s with pack := { s.pack with leadAt := s.now } }
    if s.isLead then
      (s1.putF (kpk + R.packLead) 9 0 s.deviceId).toKids (.leadhb (BitVec.ofNat 10 s.deviceId) (BitVec.ofNat 16 s.leadEpoch))
    else ({ s1 with pack := { s1.pack with miss := if s1.b (kpk + R.packCtl) 36 then s1.pack.miss + 1 else 0 } }).inc (kpk + R.packLead) 47 32

/-- DEPUTY_TAKEOVER: three intervals in a row without LEADHB on the deputy (R508). -/
def State.deputy (s : State) : State :=
  let c := s.reg (kpk + R.packCtl)
  if bit c 36 ∧ fld c 35 26 = s.deviceId ∧ !s.isLead ∧ 3 ≤ s.pack.miss then
    let e := (s.leadEpoch + 1) % 65536
    let s1 := ((s.putF (kpk + R.packLead) 31 16 e).putF (kpk + R.packLead) 9 0 s.deviceId).putF (tmp + R.timeCtl) 1 0 1
    let s2 := { (s1.putF (kpk + R.packCtl) 11 10 1) with pack := { s1.pack with leadAt := s.now, miss := 0, alt := true } }
    (s2.toKids (.leadhb (BitVec.ofNat 10 s.deviceId) (BitVec.ofNat 16 e))).barAgain
  else s

end Sys2Proof.Machine
end

