-- ==== Sys2Proof/Machine/Views.lean ====
section
/-! DEFINITION. What a read of a control-window register shows: the stored register, with the fields that show the
state of a block (the RO fields of the chapters' register tables). -/

namespace Sys2Proof.Machine

/-- Whole µs until a time, rounded up. -/
def usLeft (n : Nat) : Nat := (n + (us - 1)) / us

/-- Is JTAG's access closed (R556)? -/
def State.jtagClosed (s : State) : Bool :=
  let o := pageAt .glb 0 + R.glbBoot
  !s.b o 12 || s.fuses.debugLock || s.b o 14

/-- The common header (Table 17.11): stepping, FRST_BUSY, PERSIST, REMAIN_US, the domain's STATE. -/
def State.viewHdr (s : State) (b : PKind) (p page o : Nat) (w : Word) : Word :=
  if o = R.pgId then setFld w 39 32 s.fuses.stepping
  else if o = R.pgStat then BitVec.ofNat 64 (b2n (SMap.get none s.frst page).isSome)
  else if o = R.pgErrStat then setFld w 12 8 (s.persist page)
  else if o = R.pgErrTimer then
    match s.timer page with
    | some t => setFld w 63 32 (usLeft (dur s.now t))
    | none => w
  else if o = R.pgPwr then
    if pageDomain b p < 176 then setFld w 10 8 (s.domState (pageDomain b p)) else w
  else w

/-- TILE pages (Tables 3.12, 4.10). -/
def State.viewTile (s : State) (t o : Nat) (w : Word) : Word :=
  let x := s.tile t
  if o = R.tileMsOcc then
    setFld (setFld (setFld w 15 0 ((x.ms.filter (fun e => e.place.onDie && !e.place.isOvf)).length)) 26 16 x.ovfOcc) 57 32 x.spillOcc
  else if o = R.tileQStat then
    let w1 := (List.range 4).foldl (fun w i => setFld w (9 * i + 8) (9 * i) (x.pe i).queue.length) w
    let w2 := setFld w1 36 36 (b2n (x.pes.any (fun e => !e.2.chain.isEmpty)))
    let w3 := setFld w2 37 37 (b2n (s.spillOn t && decide (s.freeBuckets t < s.f (tp t + R.tileQCtl) 55 32)))
    setFld w3 38 38 (b2n x.exhSince.isSome)
  else if o = R.tileQSpill then setFld (setFld w 25 0 x.chainTokens) 55 32 (if s.spillOn t then s.freeBuckets t else 0)
  else if o = R.tileSeqStat then setFld w 10 0 x.seq.length
  else if o = R.tileExcRecLo then (x.exc.head?.getD (0, 0)).1
  else if o = R.tileExcRecHi then (x.exc.head?.getD (0, 0)).2
  else if o = R.tileExcCtl then setFld w 12 8 x.exc.length
  else w

/-- The GLB page (Tables 4.11, 17.12). -/
def State.viewGlb (s : State) (o : Nat) (w : Word) : Word :=
  if o = R.glbCtxFree then setFld (setFld w 16 0 s.ctxFree) 40 32 s.ctxQueue.length
  else if o = R.glbQmStat then setFld (setFld w 0 0 (b2n !s.qmHeld.isEmpty)) 32 16 s.qmHeld.length
  else if o = R.glbSerial then s.fuses.serial
  else if o = R.glbBoot then setFld (setFld w 11 10 s.fuses.bootsel) 13 13 (b2n s.jtagClosed)
  else if o = R.glbFuse then
    BitVec.ofNat 64 (s.fuses.svnFloor + s.fuses.keyValid * 2 ^ 8 + s.fuses.keyRevoked * 2 ^ 12 + b2n s.fuses.debugLock * 2 ^ 16)
  else w

/-- HUB pages (Table 5.5). -/
def State.viewHub (s : State) (h o : Nat) (w : Word) : Word :=
  if o = R.hubStrmStat then setFld w 20 8 (s.hub h).ingress.length
  else if 0x140 ≤ o ∧ o < 0x240 then
    let p := 4 * h + (o - 0x140) / 0x40
    if (o - 0x140) % 0x40 = 0x18 then setFld w 27 16 (SMap.get 0 (s.plate p).scr (fld w 11 0))
    else if (o - 0x140) % 0x40 = 0x20 then setFld w 13 0 (s.plate p).words.length
    else w
  else w

/-- PORT pages (Tables 6.11, 7.10). -/
def State.viewPort (s : State) (p o : Nat) (w : Word) : Word :=
  if o = R.portFailStat then setFld w 28 16 ((s.port p).fails.filter (·.cred)).length
  else if o = R.portLnkSb then setFld w 4 0 (s.port p).sb.length
  else w

/-- RET pages (Table 8.9). -/
def State.viewRet (s : State) (n o : Nat) (w : Word) : Word :=
  if o = R.retScStat then
    let w1 := setFld w 14 8 (s.sub n).stash.length
    if s.subStalled n then setFld (setFld w1 2 0 4) 5 5 1 else w1
  else w

/-- SHEP pages (Table 9.12). -/
def State.viewShep (s : State) (c o : Nat) (w : Word) : Word :=
  let x := s.core c
  if o = R.shepCoreStat then setFld (setFld w 2 0 x.st) 3 3 (b2n x.hatch)
  else if o = R.shepWdogStat then setFld w 47 16 (usLeft (s.wdRemain c))
  else w

/-- KEN pages (Tables 11.8, 11.9). -/
def State.viewKen (s : State) (p o : Nat) (w : Word) : Word :=
  if p = 0 then
    if o = R.kenStat then
      setFld (setFld w 16 0 s.kenFree) 48 32
        (s.ken.items.filter (fun i => match i.st with | .delayed _ => true | _ => false)).length
    else if o = R.kenFlowStat then
      let f := s.kflow (s.f (kp + R.kenFlowSel) 11 0)
      setFld (setFld (setFld w 15 0 f.next) 31 16 f.rel) 40 32 f.out
    else if 0x200 ≤ o ∧ o < 0x280 then
      let c := (o - 0x200) / 8
      let k := s.kc c
      let w1 := setFld w 1 0 (if k.preempt then 3 else k.st)
      match s.coreItem c with
      | some i => setFld (setFld w1 7 2 (s.corePrio c)) 31 16 i.entry
      | none => if k.st = 2 then setFld (setFld w1 7 2 (s.corePrio c)) 15 8 k.what else w1
    else w
  else if 0x800 ≤ o ∧ o % 0x40 = 0x18 then
    let r := 32 * (p - 1) + (o - 0x800) / 0x40
    setFld (setFld w 6 0 (s.stashOf r).length) 7 7 (b2n (s.kenStalled r))
  else w

/-- HBMC pages (Tables 12.8, 13.12). -/
def State.viewHbmc (s : State) (u o : Nat) (w : Word) : Word :=
  if o = R.hbmcSemStat then
    setFld (setFld (setFld w 12 0 ((s.holdsOf u).filter (fun h => !h.expired)).length)
      28 16 ((s.holdsOf u).filter (fun h => h.expired)).length) 43 32 (s.waitersOf u).length
  else if o = R.hbmcRetEntry ∧ u < 4 then
    let i := s.f (hbp u + R.hbmcRetIdx) 11 0
    match (s.hb u).spares[i]? with
    | some p => setFld (setFld (setFld w 0 0 1) 1 1 (b2n ((s.hb u).poison.any (fun q => q / 64 == i)))) 34 12 p
    | none => w
  else w

/-- DMA pages (Table 12.10). -/
def State.viewDma (s : State) (ch o : Nat) (w : Word) : Word :=
  if o = R.dmaStat then setFld (setFld w 0 0 (b2n !(s.dmaCh ch).begun.isEmpty)) 1 1 (b2n (s.dmaWaiting ch))
  else if o = R.dmaEvpend then (s.dmaCh ch).latches
  else w

/-- NOC pages (Tables 13.9, 13.10). -/
def State.viewNoc (s : State) (n o : Nat) (w : Word) : Word :=
  if o = R.nocRtData then s.rtSelected n
  else if o = R.nocFenceStat ∧ n = 0 then setFld (setFld w 15 0 (min s.oldFlits 65535)) 31 16 (min s.oldReqs 65535)
  else w

/-- PWR pages (Table 14.4). -/
def State.viewPwr (s : State) (p o : Nat) (w : Word) : Word :=
  if p = 0 ∧ o = R.pwrStat then
    setFld (setFld (setFld w 0 0 (b2n s.deep)) 15 8 (s.domCount (fun x => decide (2 < x)))) 31 16
      (min 65535 (flitCount (s.wakeFlits.flatMap (fun e => e.2.map (fun p => p.2))) + s.parked.length))
  else w

/-- TIME pages (Tables 14.6, 14.7). -/
def State.viewTime (s : State) (p o : Nat) (w : Word) : Word :=
  if p ≠ 0 then w
  else if o = R.timeNow then s.now
  else
    let g := s.gauge s.gaugeSel
    if o = R.gaugeSnap then BitVec.ofNat 64 (g.sn % 2 ^ 48)
    else if o = R.gaugeSnapMinmax then BitVec.ofNat 64 (g.slo % 2 ^ 32 + g.shi % 2 ^ 32 * 2 ^ 32)
    else if R.gaugeSnapHist ≤ o ∧ o < R.gaugeSnapHist + 0x80 then
      let k := (o - R.gaugeSnapHist) / 8
      BitVec.ofNat 64 (SMap.get 0 g.sbins (2 * k) % 2 ^ 32 + SMap.get 0 g.sbins (2 * k + 1) % 2 ^ 32 * 2 ^ 32)
    else w

/-- The LEDG page (Table 16.10). -/
def State.viewLedg (s : State) (o : Nat) (w : Word) : Word :=
  if o = R.ledgStat then
    setFld (setFld (setFld w 12 0 s.undrained) 28 16
      (if s.brcRole = 1 then min 4096 (s.ledger.next - s.ledger.sent).toNat else 0)) 63 32 s.ledger.next.toNat
  else if o = R.ledgDigest then s.ledger.digest
  else if R.ledgBufData ≤ o ∧ o < R.ledgBufData + 0x40 then
    (s.ledgerSlot (s.f (lgp + R.ledgBufSel) 11 0)).word ((o - R.ledgBufData) / 8)
  else w

/-- The BRC page (Table 15.4). -/
def State.viewBrc (s : State) (o : Nat) (w : Word) : Word :=
  if o = R.brcTwin then s.fuses.twin
  else if o = R.brcDigStat then setFld w 10 0 s.brace.own.length
  else w

/-- The PACK page (Table 15.5). -/
def State.viewPack (s : State) (o : Nat) (w : Word) : Word :=
  if o = R.packRtData then BitVec.ofNat 64 (SMap.get 0 s.packRt (s.f (kpk + R.packRtSel) 9 0)) else w

/-- The value of the register at an offset. -/
def State.view (s : State) (off : Nat) : Word :=
  let o := off % 0x1000
  let w := s.reg off
  match pageOf off with
  | none => 0
  | some (b, p) =>
    if o < 0x100 && hasHeader b p then s.viewHdr b p (pageAt b p) o w
    else match b with
      | .tile => s.viewTile p o w
      | .glb => s.viewGlb o w
      | .hub => s.viewHub p o w
      | .port => s.viewPort p o w
      | .ret => s.viewRet p o w
      | .shep => s.viewShep p o w
      | .ken => s.viewKen p o w
      | .bark => if 0x800 ≤ o then setFld w 9 9 (b2n (fld w 23 16 != 0)) else w
      | .hbmc => s.viewHbmc p o w
      | .dma => s.viewDma p o w
      | .noc => s.viewNoc p o w
      | .pwr => s.viewPwr p o w
      | .time => s.viewTime p o w
      | .ledg => s.viewLedg o w
      | .brc => s.viewBrc o w
      | .pack => s.viewPack o w
      | .host => w
      | .hdr => w

end Sys2Proof.Machine
end

