-- ==== Sys2Proof/Machine/Window.lean ====
section
/-! DEFINITION. The control window (R12 to R16, R528, R529, R557 to R559, R578): a write applies its fields under the access
codes, is recorded by the ledger, and has the effect that its register ties to it; a read returns the register and clears
its RC fields. -/

namespace Sys2Proof.Machine

/-- A write as the register that it addresses sees it: page, offset, origin, whether it is a 64-bit access, the bits that it
addresses, the data in their places, the stored value before, and that value with the data's fields applied. -/
structure Wr where
  page   : Nat
  off    : Nat
  origin : Origin
  full   : Bool
  mask   : Word
  data   : Word
  old    : Word
  new    : Word
deriving DecidableEq, Repr

/-- What a register does with a write beyond the access codes: bits that this instance has read-only; whether it refuses the
whole write, whatever the write addresses, with a configuration-class fault; the bits whose fields hold a reserved encoding
and keep their values; whether a write that meets no field acts too; and its effect, false where it ignores the write. -/
structure Hook where
  ro   : Word := 0
  bar  : Wr → State → Bool := fun _ _ => false
  keep : Wr → State → Word := fun _ _ => 0
  any  : Bool := false
  run : Wr → State → Bool × State := fun w s =>
    (true, s.setReg w.off ((s.reg w.off &&& ~~~ (w.old ^^^ w.new)) ||| (w.new &&& (w.old ^^^ w.new))))

/-- The register takes its new value: the bits that the write changes. -/
def Wr.set (w : Wr) (s : State) : State :=
  let m := w.old ^^^ w.new
  s.setReg w.off ((s.reg w.off &&& ~~~ m) ||| (w.new &&& m))
/-- The write is ignored and raises a configuration-class fault. -/
def Wr.no (w : Wr) (s : State) : Bool × State := (false, s.fault w.page .config)
/-- A field of the data. -/
def Wr.d (w : Wr) (hi lo : Nat) : Nat := fld w.data hi lo
/-- Does the write address a bit? -/
def Wr.has (w : Wr) (i : Nat) : Bool := bit w.mask i

/-! ## Access codes (R12, R13, R15) -/

/-- Is a value of a field a reserved encoding? -/
def FieldDef.bad (f : FieldDef) (v : Nat) : Bool :=
  f.vmax != 0 && (decide (v < f.vmin) || decide (f.vmax < v) || (v - f.vmin) % f.step != 0)

/-- One field of a write: the value after it, whether the field met a reserved encoding, and whether any field took
effect. -/
def FieldDef.put (data mask : Word) (a : Word × Bool × Bool) (f : FieldDef) : Word × Bool × Bool :=
  let m := mask &&& fmask 64 f.hi f.lo
  if m = 0 then a
  else match f.acc with
    | .ro | .rc => a
    | .rw =>
      let v := fld ((a.1 &&& ~~~ m) ||| (data &&& m)) f.hi f.lo
      if f.bad v then (a.1, true, a.2.2) else (setFld a.1 f.hi f.lo v, a.2.1, true)
    | .w1c => (a.1 &&& ~~~ (data &&& m), a.2.1, true)
    | .w1s => (a.1 ||| (data &&& m), a.2.1, true)
    | .wo => if f.bad (fld (data &&& m) f.hi f.lo) then (a.1, true, a.2.2) else (a.1, a.2.1, true)

/-- The fields of a write under the access codes. -/
def putFields (fs : List FieldDef) (old data mask : Word) : Word × Bool × Bool :=
  fs.foldl (FieldDef.put data mask) (old, false, false)

/-- The ledger's NEW (Table 16.8): what a read showed, with the fields that the write set, and each WO field as written. -/
def imageAfter (fs : List FieldDef) (shown new data mask : Word) : Word :=
  fs.foldl (fun w f => match f.acc with
    | .ro | .rc => w
    | .wo => setFld w f.hi f.lo (fld (data &&& mask) f.hi f.lo)
    | _ => setFld w f.hi f.lo (fld new f.hi f.lo)) shown

/-- The bits that an access addresses (R13). -/
def sizeMask : AccSize → Word
  | .d64 => BitVec.allOnes 64
  | .lo32 => 0xFFFFFFFF
  | .hi32 => 0xFFFFFFFF00000000

/-- The data of a write in its place. -/
def placed (w : RegW) : Word :=
  match w.size with
  | .d64 => w.data
  | .lo32 => w.data &&& 0xFFFFFFFF
  | .hi32 => w.data <<< 32

/-! ## Which writes reach a register (R489, R551, R556, R559) -/

/-- Class of an origin (Table 16.9). -/
def orgClass (o : Origin) : Nat := o.toNat / 4096

/-- Does a host write on a STANDBY, SYNCING or DEPOSED device fall under R489? -/
def State.hostRefused (s : State) (o : Origin) (b : PKind) (off : Nat) : Bool :=
  orgClass o == 0 && [2, 4, 5].contains s.brcRole && b != .brc && b != .host &&
    !(off % 0x1000 == R.pgErrStat || off % 0x1000 == R.pgIntStat)

/-- Is a page's function reset in progress (R559)? -/
def State.frstBusy (s : State) (page : Nat) : Bool := (SMap.get none s.frst page).isSome

/-- Does an access of an origin wait for a domain to wake (R450, R559)? Its domain. A closed JTAG port's access reaches nothing (R556). -/
def State.parks (s : State) (o : Origin) (b : PKind) (p off : Nat) : Option Nat :=
  let d := pageDomain b p
  if (off < 0x100 && hasHeader b p) || decide (176 ≤ d) || (orgClass o == 4 && s.jtagClosed) then none
  else if s.domState d = 0 then none else some d

/-- An access waits for its domain to wake, at the router that leads there; time-out clocks pause meanwhile (R448, R450). -/
def State.park (s : State) (e : Parked) : State :=
  let n := match domNode e.dom with | some n => (s.heldFor n).length | none => 0
  { s with parked := s.parked ++ [{ e with behind := n }] }.askWake e.dom

/-- Is a write made by an instruction that core 0 has fetched from the boot ROM (R551)? -/
def State.fromRom (s : State) (o : Origin) : Bool :=
  o == 0x1000 && !s.b (pageAt .glb 0 + R.glbBoot) 12 && region (s.core 0).pc.toNat == .rom

/-- Does RUN of a subchannel stay clear, because the device is at level 3 and has taken the safe state (R293, R295)? -/
def State.runHeld (s : State) (off : Nat) : Bool :=
  s.b (pageAt .glb 0 + R.glbSafe) 16 && !s.brace.fenced && off % 0x1000 == R.retScCtl &&
    (match pageOf off with | some (.ret, _) => true | _ => false)

/-- Is a clear of BRC_CTL.EN ignored: on a device that is not UNBRACED, SOLO or DEPOSED (R484)? -/
def State.enHeld (s : State) (off : Nat) : Bool := off == bp + R.brcCtl && !([0, 3, 5].contains s.brcRole)

/-- The fields of the register at an offset, as a write meets them: RUN cannot be set at level 3; BRC_CTL.EN is cleared in some roles alone; for instructions of the boot ROM the fields of GLB_BOOT
that are marked RO act as RW, and for others all but a 1 for DBG_DISABLE as RO (R551); a write that clears LEDG_RING.EN where it was 1 writes that
field alone (R534). -/
def State.fieldsFor (s : State) (off : Nat) (w : RegW) : List FieldDef :=
  match regAt off with
  | none => []
  | some (r, _) =>
    if off = pageAt .glb 0 + R.glbBoot ∧ s.fromRom w.origin then
      r.fields.map (fun f => if f.acc = .ro then { f with acc := .rw } else f)
    else if off = pageAt .glb 0 + R.glbBoot ∧ !bit (placed w) 14 then r.fields.filter (fun f => f.acc = .ro)
    else if off = lgp + R.ledgRing ∧ bit (s.reg off) 5 ∧ bit (sizeMask w.size) 5 ∧ !bit (placed w) 5 then
      r.fields.filter (fun f => f.lo == 5)
    else if (s.runHeld off ∧ bit (placed w) 0) ∨ (s.enHeld off ∧ !bit (placed w) 0) then r.fields.filter (fun f => f.lo != 0)
    else r.fields

/-- One write at a page (R12, R15, R528): `b`, `p` is its page. -/
def State.regApply (s : State) (b : PKind) (p off : Nat) (w : RegW) (h : Hook) : State :=
  let page := pageAt b p
  let o := off % 0x1000
  let data := placed w
  let mask0 := sizeMask w.size &&& ~~~ h.ro
  let fs := s.fieldsFor off w
  let old := s.reg off
  let (new0, res, _) := putFields fs old data mask0
  let kept := mask0 &&& h.keep ⟨page, off, w.origin, w.size == .d64, mask0, data, old, new0⟩ s
  let mask := mask0 &&& ~~~ kept
  let (new1, _, took) := putFields fs old data mask
  let r : Wr := ⟨page, off, w.origin, w.size == .d64, mask, data, old, new1⟩
  let refused := s.hostRefused w.origin b off
  let barred := refused || (orgClass w.origin == 4 && s.jtagClosed) || (decide (0x100 ≤ o) && s.frstBusy page)
  let bar := h.bar r s
  let applied := !barred && !bar && took && (h.run r s).1
  let shown := s.view off
  let s1 := s.record 0 (w.size != .d64) (w.size == .hi32) applied w.origin off shown
    (if applied then imageAfter fs shown new1 data mask
     else if o = R.pgErrStat ∧ !barred ∧ took then (h.run r s).2.view off else shown) data
  let s2 := if hasHeader b p then s1.setReg (page + R.pgLedgSeq) (BitVec.ofNat 64 s.ledger.next.toNat) else s1
  let s3 := if refused then s2.inc (bp + R.brcEvt) 47 32 else s2
  if barred then s3
  else if bar then s3.fault page .config
  else
    let s4 := if (res || kept != 0) && (applied || !took) then s3.fault page .config else s3
    if took || h.any then (h.run r s4).2 else s4

/-- A write at a control-window offset: its status, and the state after it. A write at a page of a domain that is not ON
waits for the wake. -/
def State.regWrite (s : State) (off : Nat) (w : RegW) (h : Hook) : Status × State :=
  match pageOf off with
  | none => (.address, s)
  | some (b, p) =>
    if off % 8 ≠ 0 then (.address, s)
    else match s.parks w.origin b p (off % 0x1000) with
      | some d => (.ok, s.park { dom := d, off := off, origin := w.origin, size := w.size, data := some w.data })
      | none => (.ok, s.regApply b p off w h)

/-! ## Hooks: one for each register whose write does more than set fields -/

/-- A register that acts only on a 64-bit write. -/
def hookFull : Hook := { bar := fun w _ => !w.full }

/-- A register that acts only on a 64-bit write while a condition holds. -/
def hookFullIf (c : State → Bool) : Hook := { bar := fun w s => !w.full || !c s }

/-- A ring that an engine produces or consumes takes a configuration (R585): its indices and its last doorbell become 0. -/
def State.ringStart (s : State) (cfg : Nat) (idx : List Nat) : State :=
  idx.foldl (fun s o => s.putF o 31 0 0)
    { s with plast := SMap.set 0 s.plast cfg 0, wfail := s.wfail.filter (fun o => o != cfg) }

/-- A ring configuration register (R585): 64-bit writes only where `full`, while `c` holds, BASE in [47:lo], entries of `e`
bytes, index registers `idx` at page offsets. -/
def hookRing (full : Bool) (c : State → Bool) (lo e : Nat) (idx : List Nat) : Hook :=
  { bar := fun w s => (full && !w.full) || !c s || !ringAligned w.new lo e
    run := fun w s => (true, (w.set s).ringStart w.off (idx.map (fun o => w.page + o))) }

/-- A consumer index of a ring that an engine produces (R395); `cnt` counts an invalid one. -/
def hookCons (r : Ring) (cnt : State → State) : Hook :=
  { run := fun w s => if s.consOk r (w.d 31 0) then (true, w.set s) else (false, (cnt s).fault w.page .config) }

/-- TILE_LOAD_CTL (R70). -/
def hookLoadCtl (t : Nat) : Hook :=
  { run := fun w s => (true, if bit w.data 17 then (w.set s).loadGo t else w.set s) }

/-- TILE_MS_CTL (R107). -/
def hookMsCtl (t : Nat) : Hook :=
  { run := fun w s => (true, if bit w.data 2 then (w.set s).rotTrigger t else w.set s) }

/-- TILE_MS_SPILL (R110, R119). -/
def hookMsSpill (t : Nat) : Hook :=
  { bar := fun w s => !w.full || s.spillRefused t w.old w.new
    run := fun w s => (true, (w.set s).spillSet t w.old) }

/-- TILE_EXC_CTL (R142). -/
def hookExcCtl (t : Nat) : Hook := { run := fun w s => (true, if bit w.data 0 then s.excPop t else s) }

/-- TILE_FENCE (R153). -/
def hookFence (t : Nat) : Hook :=
  { run := fun w s => (true, if bit w.new 0 && !bit w.old 0 then (w.set s).fenceTile t else w.set s) }

/-- The hooks of a TILE page. -/
def hookTile (t o : Nat) : Hook :=
  if o = R.tileLoadCtl then hookLoadCtl t
  else if o = R.tileMsCtl then hookMsCtl t
  else if o = R.tileMsSaltNext then hookFull
  else if o = R.tileMsSpill then hookMsSpill t
  else if o = R.tileExcCtl then hookExcCtl t
  else if o = R.tileFence then hookFence t
  else {}

/-- GLB_QM_RING (R157, R585). -/
def hookQmRing : Hook := hookRing true (fun _ => true) 9 32 [R.glbQmProd, R.glbQmCons]

/-- GLB_QM_ABORT (R150, R157): context 0 and a context that is not ACTIVE are refused. -/
def hookQmAbort : Hook :=
  { bar := fun w s => !w.full || w.d 15 0 == 0 || s.ctxState (w.d 15 0) != 1
    run := fun w s => (true, s.abortCtx (w.d 15 0) (w.d 31 16)) }

/-- GLB_RST (R550): the reset itself begins at the end of the command. -/
def hookGlbRst : Hook :=
  { run := fun w s =>
      if bit w.data 0 && w.d 31 16 != 0x0A5A then w.no s
      else (true, if bit w.data 0 then { s with devReset := some s.now } else s) }

/-- The hooks of the GLB page. -/
def hookGlb (o : Nat) : Hook :=
  if o = R.glbQmRing then hookQmRing
  else if o = R.glbQmCons then hookCons qmRing id
  else if o = R.glbQmAbort then hookQmAbort
  else if o = R.glbRst then hookGlbRst
  else if o = R.glbCtxTable then hookFullIf (fun s => !s.b (pageAt .glb 0 + R.glbFabric) 0)
  else {}

/-- HUB_STRM_CTL (R184 to R186): RUN = 1 starts the stream, or is ignored; RUN = 0 stops it. -/
def hookStrmCtl (h : Nat) : Hook :=
  { keep := fun w s => if fld w.new 2 1 = 1 ∧ s.strmCount h = 0 then fmask 64 2 1 else 0
    run := fun w s =>
      if w.has 0 && bit w.new 0 then
        if s.runOk h then (true, ((w.set s).strmRun h).floorStream h) else w.no s
      else if !bit w.new 0 && bit w.old 0 then (true, (w.set s).strmStop h)
      else (true, w.set s) }

/-- HUB_STRM_COUNT (R184, R193): COUNT 0 with KIND STORED is reserved. -/
def hookStrmCount (h : Nat) : Hook :=
  { bar := fun w s => !w.full || (w.new == 0 && s.f (hp h + R.hubStrmCtl) 2 1 == 1) }

/-- May a Plate's registers be written: is it IDLE or ENDED? -/
def State.pltOpen (s : State) (p : Nat) : Bool := s.pst p == 0 || s.pst p == 3

/-- HUB_PLT_CTL (R165, R167): of a Plate that is IDLE or ENDED; EN = 1 is refused for a Bamior port, and SCR_C0 + SCR_W above
32 is a reserved encoding. -/
def hookPltCtl (p : Nat) : Hook :=
  { keep := fun w _ =>
      if 32 < fld w.new 28 24 + fld w.new 35 32 then fmask 64 28 24 ||| fmask 64 35 32 else 0
    bar := fun w s => !s.pltOpen p || (bit w.new 5 && s.bamior p) }

/-- HUB_PLT_BG and HUB_PLT_CMASK. -/
def hookPlt (p : Nat) : Hook := { bar := fun _ s => !s.pltOpen p }

/-- HUB_PLT_SCR. -/
def hookScr (p : Nat) : Hook :=
  { bar := fun _ s => !s.pltOpen p
    run := fun w s => (true, s.scrWrite p w.data) }

/-- HUB_LNK_SPARE (R253, R260): a write that addresses AUTO addresses PORT too, whatever PORT's encoding. -/
def hookSpare (h : Nat) : Hook :=
  { keep := fun w _ => if fld w.new 6 0 ≠ 0x7F ∧ fld w.new 6 0 / 4 ≠ h then fmask 64 6 0 else 0
    run := fun w s =>
      let st := fld w.old 14 12
      let p := fld w.new 6 0
      if w.has 7 && !(st == 0 || st == 4) then w.no s
      else if bit w.data 10 then
        if p / 4 == h && s.lnk p == 4 then (true, (w.set s).spareGo h) else w.no s
      else (true, w.set s) }

/-- The hooks of a HUB page. -/
def hookHub (h o : Nat) : Hook :=
  if o = R.hubStrmCtl then hookStrmCtl h
  else if o = R.hubStrmCount then hookStrmCount h
  else if o = R.hubLnkSpare then hookSpare h
  else if 0x140 ≤ o ∧ o < 0x240 then
    let p := 4 * h + (o - 0x140) / 0x40
    match (o - 0x140) % 0x40 with
    | 0x00 => hookPltCtl p
    | 0x08 => hookPlt p
    | 0x10 => hookPlt p
    | 0x18 => hookScr p
    | _ => {}
  else {}

/-- PORT_LNK_CTL (R251, R258, R259). A port of a hub that level 2 isolates, or that is isolated itself, keeps its link
down (Table 16.3). -/
def hookLnkCtl (p : Nat) : Hook :=
  { keep := fun w _ => if bit w.old 0 && bit w.new 1 != bit w.old 1 then fmask 64 1 1 else 0
    run := fun w s =>
      let s1 := w.set s
      if !bit w.new 0 then (true, if bit w.old 0 then s1.linkOff p else s1)
      else if s.portHeld p then (true, s1)
      else if !bit w.old 0 then (true, s1.retrain p false)
      else (true, if bit w.data 3 then s1.retrain p true else s1) }

/-- PORT_LNK_SWITCH (R256). -/
def hookSwitch (p : Nat) : Hook :=
  { run := fun w s => (true, if bit w.data 16 then (w.set s).switchSend p else w.set s) }

/-- PORT_FAIL_CTL (R205, R240). -/
def hookFailCtl (p : Nat) : Hook :=
  { run := fun w s => (true, if bit w.new 0 && !bit w.old 0 then (w.set s).failEnable p else w.set s) }

/-- Is capture off (R228)? -/
def State.failOff (s : State) (p : Nat) : Bool := !s.b (pp p + R.portFailCtl) 0

/-- The fields of PORT_FAIL_GRPn_MAP whose values are reserved (Table 6.11); EN too where BITS is 0 and stays 0. -/
def grpKeep (old new : Word) : Word :=
  let pair (ph pl wh wl : Nat) : Word :=
    if 40 < fld new ph pl + fld new wh wl then fmask 64 ph pl ||| fmask 64 wh wl else 0
  (if 32 < fld new 5 1 + fld new 10 6 ∨ (bit new 0 ∧ fld new 10 6 = 0) then
      fmask 64 5 1 ||| fmask 64 10 6 ||| (if fld old 10 6 = 0 then fmask 64 0 0 else 0)
    else 0) ||| pair 33 28 36 34 ||| pair 42 37 47 43 ||| pair 53 48 57 54

/-- PORT_FAIL_GRPn_MAP (R228). -/
def hookGrpMap (p : Nat) : Hook :=
  { keep := fun w _ => grpKeep w.old w.new
    bar := fun w s => !w.full || !s.failOff p }

/-- PORT_FAIL_GRPn_NODE (R228): its device must be the local one. -/
def hookGrpNode (p : Nat) : Hook :=
  { keep := fun w s => if fld w.new 39 30 ≠ s.deviceId then BitVec.allOnes 64 else 0
    bar := fun w s => !w.full || !s.failOff p }

/-- PORT_FAIL_LOG (R228, R585). -/
def hookFailLog (p : Nat) : Hook :=
  hookRing true (fun s => s.failOff p) 9 32 [R.portFailLogProd, R.portFailLogCons]

/-- The hooks of a PORT page. -/
def hookPort (p o : Nat) : Hook :=
  if o = R.portLnkCtl then hookLnkCtl p
  else if o = R.portLnkSwitch then hookSwitch p
  else if o = R.portFailCtl then hookFailCtl p
  else if o = R.portFailLog then hookFailLog p
  else if o = R.portFailLogCons then hookCons (failRing p) id
  else if 0x880 ≤ o ∧ o < 0x900 then (if o % 16 = 0 then hookGrpMap p else hookGrpNode p)
  else if 0x900 ≤ o ∧ o < 0x960 then (if (o - 0x900) % 24 = 0 then {} else hookFull)
  else {}

/-- RET_SC_CTL (R264, R285). -/
def hookScCtl (n : Nat) : Hook :=
  { run := fun w s => (true, if bit w.data 3 then (w.set s).retResume n else w.set s) }

/-- RET_SC_SRING and RET_SC_CRING (R297, R585). -/
def hookSring (n : Nat) : Hook := hookRing true (fun s => s.subSt n == 0 && !s.subStalled n) 8 16 [R.retScSprod, R.retScScons]
/-- RET_SC_CRING. -/
def hookCring (n : Nat) : Hook := hookRing true (fun s => s.subSt n == 0 && !s.subStalled n) 9 32 [R.retScCprod, R.retScCcons]

/-- RET_SC_SPROD (R278, R393). -/
def hookSprod (n : Nat) : Hook := { run := fun w s => s.retDoorbell n (w.d 31 0) }

/-- RET_EMERG_CTL (R294). -/
def hookEmerg : Hook := { run := fun w s => s.emergArm w.new }

/-- The hooks of a RET page. -/
def hookRet (n o : Nat) : Hook :=
  if o = R.retScCtl then hookScCtl n
  else if o = R.retScSring then hookSring n
  else if o = R.retScCring then hookCring n
  else if o = R.retScSprod then hookSprod n
  else if o = R.retScCcons then hookCons (retRing n) (fun s => s.inc (rtp n + R.retScCnt) 15 0)
  else if o = R.retEmergChain then hookFull
  else if o = R.retEmergCtl then hookEmerg
  else {}

/-- SHEP_CORE_CTL (R332). -/
def hookCoreCtl (c : Nat) : Hook := { run := fun w s => if bit w.data 0 then s.coreStart c else (true, s) }
/-- SHEP_WDOG (R327): any write of it reloads the Watchdog. -/
def hookWdog (c : Nat) : Hook := { any := true, run := fun w s => (true, (w.set s).wdReload c) }

/-- The hooks of a SHEP page. -/
def hookShep (c o : Nat) : Hook :=
  if o = R.shepCoreCtl then hookCoreCtl c
  else if o = R.shepStartPc then hookFull
  else if o = R.shepWdog then hookWdog c
  else {}

/-- Is Kennel disabled (R387)? -/
def State.kenOff (s : State) : Bool := !s.b (kp + R.kenCtl) 0

/-- KEN_CTL: setting EN lets withheld doorbells and ready work go on. -/
def hookKenCtl : Hook := { run := fun w s => (true, ((w.set s).kenRoom).kenPreempt) }
/-- KEN_CDONE (R368). -/
def hookCdone : Hook := { run := fun w s => s.cdone w.origin (w.d 1 0) }
/-- KEN_THR_CMD (R378). -/
def hookThrCmd : Hook := { run := fun w s => s.thrCmd w.origin w.data }
/-- KEN_CORE_CTL (R366): a core that becomes usable may take work. -/
def hookKenCore : Hook := { run := fun w s => (true, (w.set s).kenPreempt) }

/-- KEN_RING_CFG (R388, R585). -/
def hookKenCfg (r : Nat) : Hook :=
  { bar := fun w _ =>
      if bit w.old 6 || !w.full then w.full || !w.has 6 || bit w.data 6 else !ringAligned w.new 9 32
    run := fun w s =>
      if !w.full then (true, if bit w.old 6 then (s.putB w.off 6 false).kenRingOff r (bit w.old 5) else s)
      else
        let s1 := { w.set s with wfail := s.wfail.filter (fun o => o != w.off) }
        (true, if bit w.new 6 then (s1.kenRingOn r).kenRoom else s1) }

/-- KEN_RING_PROD (R363, R388): a doorbell of an IN ring; Kennel's index of an OUT ring. -/
def hookKenProd (r : Nat) : Hook := { run := fun w s => s.kenDoorbell r w.origin (w.d 31 0) }

/-- KEN_RING_CONS (R388): the consumer index of an OUT ring; Kennel's index of an IN ring. -/
def hookKenCons (r : Nat) : Hook :=
  { run := fun w s =>
      let bad (s : State) : Bool × State := (false, (s.inc (kr r + 24) 47 32).fault w.page .config)
      if !s.b (kr r) 6 then bad s
      else if !s.b (kr r) 5 then (false, s)
      else if s.consOk (kenRing r) (w.d 31 0) then (true, w.set s)
      else bad s }

/-- The hooks of a KEN page. -/
def hookKen (p o : Nat) : Hook :=
  if p = 0 then
    if o = R.kenCtl then hookKenCtl
    else if o = R.kenStore ∨ o = R.kenMbox ∨ o = R.kenThr then hookFullIf State.kenOff
    else if o = R.kenCdone then hookCdone
    else if o = R.kenThrCmd then hookThrCmd
    else if o = R.kenTraceRing then hookRing false (fun _ => true) 9 32 [R.kenTraceProd, R.kenTraceCons]
    else if o = R.kenTraceCons then hookCons kenTraceRing id
    else if 0x180 ≤ o ∧ o < 0x200 then hookKenCore
    else {}
  else if 0x800 ≤ o then
    let r := 32 * (p - 1) + (o - 0x800) / 0x40
    match o % 0x40 with
    | 0x00 => hookKenCfg r
    | 0x08 => hookKenProd r
    | 0x10 => hookKenCons r
    | _ => {}
  else {}

/-- BARK_SWSET. -/
def hookSwset : Hook := { run := fun w s => (true, s.bark (1216 + w.d 5 0)) }

/-- BARK_SRC (R384, R390): PRIO and TARGET of sources 0 to 15 are read-only, and PRIO 1 is reserved elsewhere; DISCARD sets
COUNT to 0; a pending source wakes its target. -/
def hookSrc (src : Nat) : Hook :=
  { ro := if src < 16 then fmask 64 7 0 else 0
    keep := fun w _ => if 16 ≤ src ∧ fld w.new 3 0 = 1 then fmask 64 3 0 else 0
    run := fun w s =>
      let s1 := if bit w.data 24 then (w.set s).putF w.off 23 16 0 else w.set s
      (true, if s1.f w.off 23 16 ≠ 0 ∧ s1.f w.off 3 0 ≠ 0 then s1.react (.wake (s1.f w.off 7 4)) else s1) }

/-- The hooks of a BARK page. -/
def hookBark (p o : Nat) : Hook :=
  if p = 0 then (if o = R.barkSwset then hookSwset else {})
  else if 0x800 ≤ o then hookSrc (256 * (p - 1) + (o - 0x800) / 8)
  else {}

/-- HBMC_RET_ADD (R433, R456). -/
def hookRetAdd (u : Nat) : Hook :=
  { bar := fun w _ => !w.full
    run := fun w s => (true, if bit w.data 0 then (w.set s).retireAdd u else w.set s) }

/-- The hooks of an HBMC page. -/
def hookHbmc (u o : Nat) : Hook := if o = R.hbmcRetAdd ∧ u < 4 then hookRetAdd u else {}

/-- DMA_CTL (R420). -/
def hookDmaCtl (ch : Nat) : Hook :=
  { run := fun w s => (true, if bit w.old 0 && !bit w.new 0 then (w.set s).dmaStop ch else w.set s) }
/-- DMA_RING (R422, R585). -/
def hookDmaRing (ch : Nat) : Hook :=
  hookRing true (fun s => !s.dmaEn ch && (s.dmaCh ch).begun.isEmpty) 9 32 [R.dmaProd, R.dmaCons]
/-- DMA_PROD (R393, R420). -/
def hookDmaProd (ch : Nat) : Hook := { run := fun w s => s.dmaDoorbell ch (w.d 31 0) }

/-- The hooks of a DMA page. -/
def hookDma (ch o : Nat) : Hook :=
  if o = R.dmaCtl then hookDmaCtl ch
  else if o = R.dmaRing then hookDmaRing ch
  else if o = R.dmaProd then hookDmaProd ch
  else {}

/-- NOC_RTR_CTL (R447): bits of absent ports are read-only 0; a port is not cleared while NOC_FENCE.BUSY is 1. -/
def hookRtrCtl (n : Nat) : Hook :=
  { ro := fmask 64 4 0 &&& ~~~ BitVec.ofNat 64 (portsThatExist n)
    bar := fun w s => s.b (pageAt .noc 0 + R.nocFence) 2 && fld w.old 4 0 &&& (31 - fld w.new 4 0) != 0 }
/-- NOC_NI_CTL (R449). -/
def hookNiCtl (n : Nat) : Hook :=
  { run := fun w s => (true, if bit w.new 1 && !bit w.old 1 then s.isolate n else s) }
/-- NOC_RT_DATA (R453). -/
def hookRtData (n : Nat) : Hook := { bar := fun w _ => !w.full, run := fun w s => s.rtWrite n w.data }
/-- NOC_FENCE (R454). -/
def hookNocFence : Hook :=
  { run := fun w s =>
      if bit w.data 0 then (if bit w.old 2 then w.no s else (true, (w.set s).fenceGo))
      else (true, w.set s) }
/-- NOC_PRB_CTL (R451): enabling a probe starts its sampling. -/
def hookPrbCtl (k : Nat) : Hook :=
  { run := fun w s => (true, if bit w.new 0 && !bit w.old 0 then { w.set s with prbCnt := SMap.set 0 s.prbCnt k 0 } else w.set s) }
/-- NOC_PRB_RING (R455, R585). -/
def hookPrbRing (k : Nat) : Hook :=
  hookRing true (fun s => !s.b (pageAt .noc k + R.nocPrbCtl) 0) 9 32 [R.nocPrbProd, R.nocPrbCons]

/-- The hooks of a NOC page. -/
def hookNoc (n o : Nat) : Hook :=
  if o = R.nocRtrCtl then hookRtrCtl n
  else if o = R.nocNiCtl then hookNiCtl n
  else if o = R.nocRtData then hookRtData n
  else if o = R.nocFence ∧ n = 0 then hookNocFence
  else if o = R.nocPrbCtl ∧ n < 32 then hookPrbCtl n
  else if o = R.nocPrbRing ∧ n < 32 then hookPrbRing n
  else if o = R.nocPrbCons ∧ n < 32 then hookCons (prbRing n) id
  else {}

/-- PWR_CTL (R465): tiles that are no longer governed are held at VSET_MV. -/
def hookPwrCtl : Hook := { run := fun w s => (true, (List.range 128).foldl (fun s d => s.vHold d) (w.set s)) }

/-- PWR_DOMd (R457, R464, R465): a TARGET that the domain does not take is a reserved encoding; one whose conditions do not
hold makes the whole write change nothing. -/
def hookDom (d : Nat) : Hook :=
  { ro := if d < 128 then 0 else fmask 64 5 5
    keep := fun w _ => if domReserved d (fld w.data 1 0) then fmask 64 1 0 else 0
    run := fun w s =>
      if w.has 0 then
        let (ok, s1) := s.domTarget w.origin d (fld w.new 1 0)
        (ok, if ok then (((s1.putF w.off 5 5 (fld w.new 5 5)).putF w.off 25 16 (fld w.new 25 16))).vHold d else s1)
      else (true, (w.set s).vHold d) }

/-- The hooks of a PWR page. -/
def hookPwr (p o : Nat) : Hook :=
  if p = 0 then
    if o = R.pwrCtl then hookPwrCtl
    else if 0x800 ≤ o then hookDom ((o - 0x800) / 8)
    else {}
  else {}

/-- GAUGE_CFG (R474, R476). A 32-bit write of the half whose bits are all reserved writes no field and leaves the live statistics: the
model's choice (log entry 58). -/
def hookGauge (g : Nat) : Hook :=
  { keep := fun w _ => if gaugeSource (fld w.new 15 0) then 0 else fmask 64 15 0
    run := fun w s => (true, ((w.set s).gaugeClear g).gaugeArm g) }

/-- The hooks of a TIME page. -/
def hookTime (p o : Nat) : Hook :=
  if p = 0 then
    if o = R.timeLoad then hookFull
    else if o = R.timeCtl then { run := fun w s => (true, (w.set s).timeRoleSet (fld w.old 1 0)) }
    else {}
  else if 0x800 ≤ o then hookGauge (128 * (p - 1) + (o - 0x800) / 8)
  else {}

/-- LEDG_RING (R534). -/
def hookLedgRing : Hook := { run := fun w s => s.ledgRingSet w.new w.full (w.has 5 && !bit w.data 5) }
/-- LEDG_CONS (R532). -/
def hookLedgCons : Hook := { run := fun w s => s.ledgConsSet (w.d 31 0) }

/-- The hooks of the LEDG page. -/
def hookLedg (o : Nat) : Hook :=
  if o = R.ledgRing then hookLedgRing else if o = R.ledgCons then hookLedgCons else {}

/-- BRC_CTL (R484). -/
def hookBrcCtl : Hook :=
  { run := fun w s => (true, if bit w.old 0 != bit w.new 0 then (w.set s).brcEn else w.set s) }

/-- BRC_MIRn (R488, R512): a region lies in HBM. -/
def hookBrcMir : Hook :=
  { bar := fun w s =>
      let sum := (List.range 8).foldl (fun n i =>
        let o := bp + R.brcMir + 8 * i
        n + (if o = w.off then fld w.new 11 0 else s.f o 11 0)) 0
      !w.full || !([0, 3, 4].contains s.brcRole) || decide (4096 < sum) ||
        (fld w.new 11 0 != 0 && decide (hbmEnd < (fld w.new 47 20 + fld w.new 11 0) * 2 ^ 20)) }

/-- BRC_SEAL (R495, R512). -/
def hookBrcSeal : Hook := { bar := fun w _ => !w.full, run := fun w s => s.seal w.data }

/-- GO of PACK_BCAST_CTL (R509). -/
def hookBcast : Hook := { run := fun w s => if bit w.data 0 then s.bcastGo else (true, s) }
/-- PACK_CTL (R504): DEVICE_ID is written only while no Bamior port is enabled. -/
def hookPackCtl : Hook :=
  { keep := fun w s =>
      if fld w.new 9 0 ≠ fld w.old 9 0 ∧ (List.range 96).any (fun p => s.b (pp p + R.portLnkCtl) 0 && s.bamior p) then
        fmask 64 9 0
      else 0 }
/-- PACK_RT_DATA (R505, R513). -/
def hookPackRt : Hook :=
  { bar := fun w _ => !w.full
    run := fun w s => (true, { s with packRt := SMap.set 0 s.packRt (s.f (kpk + R.packRtSel) 9 0) (w.d 7 0) }) }
/-- PACK_MSG_CTL (R511). -/
def hookPackMsg : Hook :=
  { run := fun w s => if bit w.old 17 && bit w.data 16 then (false, s) else
      (true, if bit w.data 16 then (w.set s).msgGo else w.set s) }
/-- PACK_BARb (R510). -/
def hookPackBar (b : Nat) : Hook :=
  { run := fun w s => if bit w.data 7 && bit w.old 8 then w.no s
      else if bit w.data 7 then (w.set s).barArrive b else (true, w.set s) }

/-- The hooks of the PACK page. -/
def hookPack (o : Nat) : Hook :=
  if o = R.packCtl then hookPackCtl
  else if o = R.packRtData then hookPackRt
  else if o = R.packBcastData ∨ (R.packMsgW ≤ o ∧ o < R.packMsgW + 0x20) then hookFull
  else if o = R.packBcastCtl then hookBcast
  else if o = R.packMsgCtl then hookPackMsg
  else if R.packBar ≤ o ∧ o < R.packBar + 0x80 then hookPackBar ((o - R.packBar) / 8)
  else {}

/-- PG_ERR_STAT (R520). -/
def hookErrStat : Hook := { run := fun w s => if w.has 0 then s.errAck w.page (w.d 4 0) else (true, s) }
/-- PG_ERR_EN (R516, R517). -/
def hookErrEn : Hook := { run := fun w s => (true, (w.set s).errEn w.page (fld w.old 4 0)) }
/-- PG_ERR_INJ (R522): a reserved arming keeps the arming fields; FORCE acts in any case. -/
def hookErrInj : Hook :=
  { keep := fun w _ => if injReserved w.page w.new then ~~~ fmask 64 52 48 else 0
    run := fun w s => (true, (w.set s).errForce w.page (w.d 52 48)) }
/-- PG_ERR_LEVEL (R518). -/
def hookErrLevel : Hook := { run := fun w s => (true, s.errRaise w.page (w.d 5 4)) }

end Sys2Proof.Machine
end

