-- ==== Sys2Proof/Machine/Access.lean ====
section
/-! DEFINITION. Function resets (R549, R559), the hook of every register, and control-window accesses whole: the write and the
read of any offset, and the accesses that wait for a domain to wake. -/

namespace Sys2Proof.Machine

/-! ## Function resets -/

/-- Function reset of the LEDG page (R534): the on-die records, SEQ and DIGEST stay. -/
def State.ledgReset (s : State) : State :=
  { s.resetRegs lgp 0x100 0x180 with wfail := s.wfail.filter (fun o => o != lgp + R.ledgRing) }

/-- Function reset of the BRC page (R512): ROLE and GEN stay, and so does what BRC_STAT shows of the links; digests that wait
for their pair are dropped (BRC_DIG_STAT.PENDING). -/
def State.brcReset (s : State) : State :=
  { s.resetRegs bp 0x100 0x200 [R.brcStat] with brace := { s.brace with own := [], theirs := [] } }

/-- What the function reset of a page does (R549, Table 17.5): as the page's chapter gives; a page whose chapter gives
nothing keeps its state. -/
def State.blockReset (s : State) (b : PKind) (p : Nat) : State :=
  match b with
  | .tile => s.tileReset p
  | .hub => s.hubReset p
  | .port => s.portReset p
  | .ret => s.retReset p
  | .shep => s.coreReset p
  | .dma => s.dmaReset p
  | .ken => if p = 0 then s.kenReset else s.kenPageReset p
  | .bark => if p = 0 then s.barkReset else s
  | .hbmc => s.hbmcReset p
  | .ledg => s.ledgReset
  | .brc => s.brcReset
  | .noc => if p < 32 then s.probeReset p else s
  | _ => s

/-- The links of a hub whose level-2 action has ended train again where EN is 1 (Table 16.3). -/
def State.portsBack (s : State) (h : Nat) : State :=
  (List.range 4).foldl (fun s i =>
    let p := 4 * h + i
    if s.b (pp p + R.portLnkCtl) 0 && !s.portHeld p then s.retrain p false else s) s

/-- A function reset starts (R519, R559): FRST_BUSY is 1; ISOLATED clears where LEVEL is below 2. -/
def State.functionReset (s : State) (b : PKind) (p : Nat) : State :=
  let page := pageAt b p
  let s1 := { s with frst := SMap.set none s.frst page (some s.now) }
  let s2 := if s1.f (page + R.pgErrLevel) 1 0 < 2 then s1.putB (page + R.pgErrLevel) 2 false else s1
  let s3 := s2.blockReset b p
  if b == .hub && s1.b (page + R.pgErrLevel) 2 && !s2.b (page + R.pgErrLevel) 2 then s3.portsBack p else s3

/-- FUNCTION_RESET_DONE: FRST_BUSY clears. -/
def State.functionResetDone (s : State) (page : Nat) : State := { s with frst := SMap.set none s.frst page none }

/-- Pages in which FRST is ignored (R559). -/
def noFrst (b : PKind) : Bool := b == .glb || b == .pwr || b == .time || b == .host

/-- PG_CTL (R559). -/
def hookPgCtl (b : PKind) (p : Nat) : Hook :=
  { run := fun w s =>
      if !bit w.data 0 then (true, s)
      else if noFrst b || s.frstBusy w.page then (false, s)
      else (true, s.functionReset b p) }

/-! ## The host mailbox and MSI-X (R544, R546 to R548) -/

/-- The HOST page. -/
def hop : Nat := pageAt .host 0

/-- A mailbox write that is ignored: counted in REFUSED, with a configuration-class fault (R548). -/
def State.mbxRefuse (s : State) : Bool × State := (false, (s.inc (hop + R.hostMbx) 31 16).fault hop .config)

/-- HOST_MBX (R547, R548): each of POST and DONE acts, or is refused, on its own. -/
def hookMbx : Hook :=
  { run := fun w s =>
      let host := orgClass w.origin == 0
      let o := hop + R.hostMbx
      let s0 := w.set s
      let step (a : Bool × State) (i : Nat) (ok : State → Bool) (act : State → State) : Bool × State :=
        if bit w.data i then (if ok a.2 then (true, act a.2) else (a.1, a.2.mbxRefuse.2)) else a
      let a0 : Bool × State := (w.has 8 && w.d 5 0 == 0, s0)
      let a1 := step a0 1 (fun s => host && !s.b o 0) (fun s => (s.putB o 0 true).pageInt hop 0)
      let a2 := step a1 2 (fun _ => !host) (fun s => s.putB o 0 false)
      let a3 := step a2 4 (fun s => !host && !s.b o 3) (fun s => (s.putB o 3 true).bark (1216 + s.f o 13 8))
      let a4 := step a3 5 (fun _ => host) (fun s => (s.putB o 3 false).pageInt hop 1)
      (a4.1 || (w.has 8 && fld w.new 13 8 != fld w.old 13 8), a4.2) }

/-- HOST_H2D_MSG: written by the host while the direction is not full. -/
def hookH2d : Hook :=
  { run := fun w s => if orgClass w.origin == 0 && !s.b (hop + R.hostMbx) 0 then (true, w.set s) else s.mbxRefuse }

/-- HOST_D2H_MSG: written by origins other than the host while the direction is not full. -/
def hookD2h : Hook :=
  { run := fun w s => if orgClass w.origin != 0 && !s.b (hop + R.hostMbx) 3 then (true, w.set s) else s.mbxRefuse }

/-- Send the message of a vector whose PBA bit is set, where nothing masks it any longer (R544). -/
def State.msixPending (s : State) (v : Nat) : State :=
  if s.b (pbaAt v) (v % 64) ∧ s.host.msixEn ∧ !s.host.funcMask ∧ !s.host.d3hot ∧ !s.b (msixAt v + 8) 32 then
    (s.putB (pbaAt v) (v % 64) false).msix v
  else s

/-- Every vector whose PBA bit is set. -/
def State.msixAll (s : State) : State :=
  (s.regs.filter (fun e => decide (pageAt .host 9 ≤ e.1) && decide (e.1 < pageAt .host 9 + 0x100))).foldl (fun s e =>
    (List.range 64).foldl (fun s i => if bit e.2 i then s.msixPending ((e.1 - pageAt .host 9) / 8 * 64 + i) else s) s) s

/-- The data word of an MSI-X table entry: clearing its mask sends the pending message. -/
def hookMsix (v : Nat) : Hook :=
  { run := fun w s => (true, if bit w.old 32 && !bit w.new 32 then (w.set s).msixPending v else w.set s) }

/-- The hooks of a HOST page. -/
def hookHost (p o : Nat) : Hook :=
  if p = 0 then
    if o = R.hostMbx then hookMbx
    else if R.hostH2dMsg ≤ o ∧ o < R.hostH2dMsg + 0x40 then hookH2d
    else if R.hostD2hMsg ≤ o ∧ o < R.hostD2hMsg + 0x40 then hookD2h
    else {}
  else if p < 9 ∧ o % 16 = 8 then hookMsix (256 * (p - 1) + o / 16)
  else {}

/-- BRC_CMD (R498, R501, R502); RESYNC goes on at the end of the command. -/
def hookBrcCmd : Hook :=
  { run := fun w s =>
      if !w.has 0 then (true, s)
      else match w.d 2 0 with
        | 1 => s.brcTakeover
        | 2 => s.brcSwap
        | 3 => s.brcDetach
        | 4 =>
          if s.brcRole = 1 ∧ s.brace.twinRole = 4 ∧ (List.range 24).all (fun h => !s.strmLive h) ∧
              (List.range 64).all (fun n => s.subSt n == 0) ∧
              s.ctxFree + (s.ctxs.filter (fun e => e.2.teardown.isSome)).length == 65535 then
            (true, s.react .resync)
          else w.no s
        | _ => (false, s) }

/-- The hooks of the BRC page. -/
def hookBrc (o : Nat) : Hook :=
  if o = R.brcCtl then hookBrcCtl
  else if o = R.brcCmd then hookBrcCmd
  else if R.brcMir ≤ o ∧ o < R.brcMir + 0x40 then hookBrcMir
  else if o = R.brcSeal then hookBrcSeal
  else {}

/-- The hooks of the common header. -/
def hookHdr (b : PKind) (p o : Nat) : Hook :=
  if o = R.pgCtl then hookPgCtl b p
  else if o = R.pgErrStat then hookErrStat
  else if o = R.pgErrEn then hookErrEn
  else if o = R.pgErrInj then hookErrInj
  else if o = R.pgErrLevel then hookErrLevel
  else {}

/-- The hook of the register at a page offset. -/
def hookOf (b : PKind) (p o : Nat) : Hook :=
  if o < 0x100 && hasHeader b p then hookHdr b p o
  else match b with
    | .tile => hookTile p o
    | .glb => hookGlb o
    | .hub => hookHub p o
    | .port => hookPort p o
    | .noc => hookNoc p o
    | .hbmc => hookHbmc p o
    | .shep => hookShep p o
    | .ken => hookKen p o
    | .bark => hookBark p o
    | .ret => hookRet p o
    | .dma => hookDma p o
    | .pwr => hookPwr p o
    | .time => hookTime p o
    | .ledg => hookLedg o
    | .brc => hookBrc o
    | .pack => hookPack o
    | .host => hookHost p o
    | .hdr => {}

/-! ## Whole accesses -/

/-- The hook at an offset. -/
def hookAt (off : Nat) : Hook :=
  match pageOf off with | some (b, p) => hookOf b p (off % 0x1000) | none => {}

/-- A control-window write. -/
def State.controlWrite (s : State) (off : Nat) (w : RegW) : Status × State := s.regWrite off w (hookAt off)

/-- The RC fields that a read of the addressed bits clears, each whole (R578). -/
def clearRc (fs : List FieldDef) (mask : Word) (w : Word) : Word :=
  fs.foldl (fun w f => if f.acc = .rc ∧ mask &&& fmask 64 f.hi f.lo ≠ 0 then setFld w f.hi f.lo 0 else w) w

/-- The half of a register that a read returns. -/
def halfOf (sz : AccSize) (w : Word) : Word :=
  match sz with | .d64 => w | .lo32 => w &&& 0xFFFFFFFF | .hi32 => w >>> 32

/-- What a read brings about before its value is taken: GAUGE_SNAP takes a snapshot (R475). -/
def State.beforeRead (s : State) (off : Nat) : State :=
  if off = tmp + R.gaugeSnap then s.gaugeTake else s

/-- One read at a page (R15, R578, R559): the data and the state after it. -/
def State.readReg (s : State) (off : Nat) (r : RegR) : Word × State :=
  let page := off / 0x1000 * 0x1000
  if (orgClass r.origin == 4 && s.jtagClosed) || (decide (0x100 ≤ off % 0x1000) && s.frstBusy page) then (0, s)
  else
    let mask := sizeMask r.size
    let s1 := s.beforeRead off
    let v := s1.view off
    let fs := match regAt off with | some (d, _) => d.fields | none => []
    let w := s1.reg off
    (halfOf r.size v, if off = tmp + R.gaugeSnap then s1 else s1.setReg off (clearRc fs mask w))

/-- A control-window read: its status, its data where it is answered at once, and the state after it. -/
def State.controlRead (s : State) (off : Nat) (r : RegR) : Status × Option Word × State :=
  match pageOf off with
  | none => (.address, some 0, s)
  | some (b, p) =>
    if off % 8 ≠ 0 then (.address, some 0, s)
    else match s.parks r.origin b p (off % 0x1000) with
      | some d => (.ok, none, s.park { dom := d, off := off, origin := r.origin, size := r.size, data := none })
      | none => let (v, s1) := s.readReg off r; (.ok, some v, s1)

/-- Does PORST_N hold the device in reset? Nothing then answers (R17, R571). -/
def State.writeRow (s : State) (off : Nat) (w : RegW) (h : Hook) : State :=
  if s.porst then s
  else
    let (st, s1) := s.regWrite off w h
    s1.emit (.reg w.origin st 0)

/-- A write command for a register of page `p` of a block. -/
def State.pageRow (s : State) (b : PKind) (p o : Nat) (w : RegW) (h : Hook) : State :=
  if p < blkPages b then s.writeRow (pageAt b p + o) w h else s

/-- A read command. -/
def State.readRow (s : State) (off : Nat) (r : RegR) : State :=
  if s.porst then s
  else match s.controlRead off r with
    | (st, some v, s1) => s1.emit (.reg r.origin st v)
    | (_, none, s1) => s1

/-- The access that has just begun to wait is of `who`, who gets its response (R450). -/
def State.parkedBy (s : State) (who : ParkBy) : State :=
  { s with parked := s.parked.dropLast ++ (s.parked.getLast?.toList.map (fun e => { e with who := who })) }

/-- The data of a half-register access in its byte lanes. -/
def laneData (sz : AccSize) (v : Word) : Word := match sz with | .hi32 => v <<< 32 | _ => v

/-- Bytes of a BAR0 access. -/
def accBytes : AccSize → Nat | .d64 => 8 | _ => 4

/-- The response to an access that has waited, with a read's value. -/
def State.parkAnswer (s : State) (e : Parked) (v : Option Word) : State :=
  match e.who, v with
  | .row, some v => s.emit (.reg e.origin .ok v)
  | .host off, some v => s.emit (.hostData 0 off .successful (leBytes (accBytes e.size) v.toNat))
  | .mesh q r, some v => s.respond (ctrlNode r.addr.toNat) q r .ok (leBytes 8 (laneData e.size v).toNat)
  | .mesh q r, none => s.respond (ctrlNode r.addr.toNat) q r .ok []
  | _, none => s

/-- The accesses that wait for a domain, which has woken, in the order in which they came. -/
def State.unparkOne (s : State) (e : Parked) : State :=
  match pageOf e.off, e.data with
  | some (b, p), some data => (s.regApply b p e.off ⟨e.origin, e.size, data⟩ (hookOf b p (e.off % 0x1000))).parkAnswer e none
  | some _, none => let (v, s1) := s.readReg e.off ⟨e.origin, e.size⟩; s1.parkAnswer e (some v)
  | none, _ => s

/-- Serve the waiting accesses of every domain that is ON. -/
def State.unpark (s : State) : State :=
  let due := s.parked.filter (fun e => s.domState e.dom == 0)
  (due.foldl State.unparkOne { s with parked := s.parked.filter (fun e => s.domState e.dom != 0) }).wakeResume

/-- The packets and accesses that waited for a domain, which has woken, in the order in which they came; `l` are the packets that its
router held, of which `k` have been delivered. -/
def State.releaseAll (s : State) (node : Nat) (l : List (Nat × Flit)) (k : Nat) : List Parked → State
  | [] => s.deliverAll node (l.drop k)
  | e :: r => ((s.deliverAll node ((l.take e.behind).drop k)).unparkOne e).releaseAll node l (max k e.behind) r

/-- What waited for a domain is served in order, and a TARGET written meanwhile is applied (R463, R464). -/
def State.woken (s : State) (d : Nat) : State :=
  let s1 := { s with parked := s.parked.filter (fun e => e.dom != d) }
  let mine := s.parked.filter (fun e => e.dom == d)
  let s2 := match domNode d with
    | some n => { s1 with wakeFlits := SMap.set [] s1.wakeFlits n [] }.releaseAll n (s.heldFor n) 0 mine
    | none => s1.releaseAll 0 [] 0 mine
  s2.wakeResume.domApplyHeld d

end Sys2Proof.Machine
end

