-- ==== Sys2Proof/Machine/Boot.lean ====
section
/-! DEFINITION. The check of a firmware image (R553, Table 17.7): SHA-384 (FIPS 180-4) and the ECDSA P-384 verification of
FIPS 186-5, which the spec cites. -/

namespace Sys2Proof.Machine

/-! ## SHA-384 -/

/-- Round constants (FIPS 180-4), in four parts. -/
def shaK0 : List Word := [
  0x428A2F98D728AE22, 0x7137449123EF65CD, 0xB5C0FBCFEC4D3B2F, 0xE9B5DBA58189DBBC,
  0x3956C25BF348B538, 0x59F111F1B605D019, 0x923F82A4AF194F9B, 0xAB1C5ED5DA6D8118,
  0xD807AA98A3030242, 0x12835B0145706FBE, 0x243185BE4EE4B28C, 0x550C7DC3D5FFB4E2,
  0x72BE5D74F27B896F, 0x80DEB1FE3B1696B1, 0x9BDC06A725C71235, 0xC19BF174CF692694,
  0xE49B69C19EF14AD2, 0xEFBE4786384F25E3, 0x0FC19DC68B8CD5B5, 0x240CA1CC77AC9C65]
/-- Round constants, continued. -/
def shaK1 : List Word := [
  0x2DE92C6F592B0275, 0x4A7484AA6EA6E483, 0x5CB0A9DCBD41FBD4, 0x76F988DA831153B5,
  0x983E5152EE66DFAB, 0xA831C66D2DB43210, 0xB00327C898FB213F, 0xBF597FC7BEEF0EE4,
  0xC6E00BF33DA88FC2, 0xD5A79147930AA725, 0x06CA6351E003826F, 0x142929670A0E6E70,
  0x27B70A8546D22FFC, 0x2E1B21385C26C926, 0x4D2C6DFC5AC42AED, 0x53380D139D95B3DF,
  0x650A73548BAF63DE, 0x766A0ABB3C77B2A8, 0x81C2C92E47EDAEE6, 0x92722C851482353B]
/-- Round constants, continued. -/
def shaK2 : List Word := [
  0xA2BFE8A14CF10364, 0xA81A664BBC423001, 0xC24B8B70D0F89791, 0xC76C51A30654BE30,
  0xD192E819D6EF5218, 0xD69906245565A910, 0xF40E35855771202A, 0x106AA07032BBD1B8,
  0x19A4C116B8D2D0C8, 0x1E376C085141AB53, 0x2748774CDF8EEB99, 0x34B0BCB5E19B48A8,
  0x391C0CB3C5C95A63, 0x4ED8AA4AE3418ACB, 0x5B9CCA4F7763E373, 0x682E6FF3D6B2B8A3,
  0x748F82EE5DEFB2FC, 0x78A5636F43172F60, 0x84C87814A1F0AB72, 0x8CC702081A6439EC]
/-- Round constants, continued. -/
def shaK3 : List Word := [
  0x90BEFFFA23631E28, 0xA4506CEBDE82BDE9, 0xBEF9A3F7B2C67915, 0xC67178F2E372532B,
  0xCA273ECEEA26619C, 0xD186B8C721C0C207, 0xEADA7DD6CDE0EB1E, 0xF57D4F7FEE6ED178,
  0x06F067AA72176FBA, 0x0A637DC5A2C898A6, 0x113F9804BEF90DAE, 0x1B710B35131C471B,
  0x28DB77F523047D84, 0x32CAAB7B40C72493, 0x3C9EBE0A15C9BEBC, 0x431D67C49C100D4C,
  0x4CC5D4BECB3E42B6, 0x597F299CFC657E2A, 0x5FCB6FAB3AD6FAEC, 0x6C44198C4A475817]

/-- Initial hash value of SHA-384. -/
def shaH : List Word := [
  0xCBBB9D5DC1059ED8, 0x629A292A367CD507, 0x9159015A3070DD17, 0x152FECD8F70E5939,
  0x67332667FFC00B31, 0x8EB44A8768581511, 0xDB0C2E0D64F98FA7, 0x47B5481DBEFA4FA4]

/-- The eighty round constants. -/
def shaK : List Word := shaK0 ++ shaK1 ++ shaK2 ++ shaK3

/-- Big-endian bytes of a number. -/
def beBytes (n v : Nat) : List Byte := (leBytes n v).reverse

/-- The number that big-endian bytes hold. -/
def ofBe (l : List Byte) : Nat := ofLe l.reverse

/-- The message schedule: the last sixteen words, newest first, extended `n` times. -/
def shaSched : Nat → List Word → List Word
  | 0, w => w
  | n + 1, w =>
    let g (i : Nat) : Word := w.getD i 0
    let a := g 14
    let b := g 1
    let s0 := a.rotateRight 1 ^^^ a.rotateRight 8 ^^^ (a >>> 7)
    let s1 := b.rotateRight 19 ^^^ b.rotateRight 61 ^^^ (b >>> 6)
    shaSched n ((g 15 + s0 + g 6 + s1) :: w)

/-- One round on the working variables a to h. -/
def shaRound (v : List Word) (k w : Word) : List Word :=
  match v with
  | [a, b, c, d, e, f, g, h] =>
    let t1 := h + (e.rotateRight 14 ^^^ e.rotateRight 18 ^^^ e.rotateRight 41) + ((e &&& f) ^^^ (~~~ e &&& g)) + k + w
    let t2 := (a.rotateRight 28 ^^^ a.rotateRight 34 ^^^ a.rotateRight 39) + ((a &&& b) ^^^ (a &&& c) ^^^ (b &&& c))
    [t1 + t2, a, b, c, d + t1, e, f, g]
  | _ => v

/-- One block of 128 bytes. -/
def shaBlock (h : List Word) (blk : List Byte) : List Word :=
  let w0 := (List.range 16).map (fun i => BitVec.ofNat 64 (ofBe ((blk.drop (8 * i)).take 8)))
  let ws := (shaSched 64 w0.reverse).reverse
  let v := (shaK.zip ws).foldl (fun v e => shaRound v e.1 e.2) h
  List.zipWith (fun a b => a + b) h v

/-- The blocks of a padded message. -/
def shaBlocks : Nat → List Word → List Byte → List Word
  | 0, h, _ => h
  | n + 1, h, m => shaBlocks n (shaBlock h (m.take 128)) (m.drop 128)

/-- SHA-384 of a message: 48 bytes. -/
def sha384 (m : List Byte) : List Byte :=
  let full := m ++ [0x80] ++ List.replicate ((239 - m.length % 128) % 128) 0 ++ beBytes 16 (8 * m.length)
  ((shaBlocks (full.length / 128) shaH full).take 6).flatMap (fun w => beBytes 8 w.toNat)

/-! ## ECDSA on P-384 -/

/-- The prime of P-384. -/
def p384 : Nat := 2 ^ 384 - 2 ^ 128 - 2 ^ 96 + 2 ^ 32 - 1
/-- The order of its base point. -/
def n384 : Nat := 0xFFFFFFFFFFFFFFFFFFFFFFFFFFFFFFFFFFFFFFFFFFFFFFFFC7634D81F4372DDF581A0DB248B0A77AECEC196ACCC52973
/-- Coefficient b. -/
def b384 : Nat := 0xB3312FA7E23EE7E4988E056BE3F82D19181D9C6EFE8141120314088F5013875AC656398D8A2ED19D2A85C8EDD3EC2AEF
/-- The base point. -/
def g384 : Nat × Nat :=
  (0xAA87CA22BE8B05378EB1C71EF320AD746E1D3B628BA79B9859F741E082542A385502F25DBF55296C3A545E3872760AB7,
   0x3617DE4A96262C6F5D9E98BF9292DC29F8F41DBD289A147CE9DA3113B5F0B8C00A60B1CE1D7E819D7A431D7C90EA0E5F)

/-- A power modulo `m`, by the bits of the exponent from the highest. -/
def powMod (b e m : Nat) : Nat :=
  (List.range 384).foldl (fun r i => let q := r * r % m; if e.testBit (383 - i) then q * b % m else q) 1

/-- Inverse modulo a prime. -/
def invMod (a m : Nat) : Nat := powMod (a % m) (m - 2) m

/-- Addition of points; none is the point at infinity. -/
def ecAdd (x y : Option (Nat × Nat)) : Option (Nat × Nat) :=
  match x, y with
  | none, q => q
  | q, none => q
  | some (x1, y1), some (x2, y2) =>
    if x1 = x2 ∧ (y1 + y2) % p384 = 0 then none
    else
      let l := if x1 = x2 then (3 * x1 * x1 + (p384 - 3)) * invMod (2 * y1) p384 % p384
        else (y2 + (p384 - y1)) * invMod (x2 + (p384 - x1)) p384 % p384
      let x3 := (l * l + (p384 - x1) + (p384 - x2)) % p384
      some (x3, (l * (x1 + (p384 - x3)) + (p384 - y1)) % p384)

/-- A multiple of a point. -/
def ecMul (k : Nat) (q : Nat × Nat) : Option (Nat × Nat) :=
  (List.range 384).foldl (fun r i => let d := ecAdd r r; if k.testBit (383 - i) then ecAdd d (some q) else d) none

/-- ECDSA verification of a signature (r, s) over a hash `e` under the public key `q` (FIPS 186-5). -/
def ecdsaOk (q : Nat × Nat) (e r s : Nat) : Bool :=
  decide (q.1 < p384) && decide (q.2 < p384) &&
  decide (q.2 * q.2 % p384 = (q.1 * q.1 * q.1 + (p384 - 3) * q.1 + b384) % p384) &&
  decide (0 < r) && decide (r < n384) && decide (0 < s) && decide (s < n384) &&
    (let w := invMod s n384
     match ecAdd (ecMul (e * w % n384) g384) (ecMul (r * w % n384) q) with
     | some (x, _) => x % n384 == r
     | none => false)

/-! ## The image (R553, Table 17.7) -/

/-- An image as the ROM reads it: its byte at an offset. -/
abbrev Image := Nat → Byte

/-- A little-endian number in an image. -/
def imgNum (g : Image) (a n : Nat) : Nat := ofLe ((List.range n).map (fun i => g (a + i)))
/-- Bytes of an image. -/
def imgBytes (g : Image) (a n : Nat) : List Byte := (List.range n).map (fun i => g (a + i))

/-- PAYLOAD_SIZE. -/
def imgSize (g : Image) : Nat := imgNum g 0x008 4
/-- ENTRY. -/
def imgEntry (g : Image) : Nat := imgNum g 0x00C 4
/-- SVN. -/
def imgSvn (g : Image) : Nat := imgNum g 0x010 4
/-- KEY_SLOT. -/
def imgSlot (g : Image) : Nat := imgNum g 0x014 1

/-- Does an image fail the check HEADER (R553)? -/
def imgHeadBad (g : Image) : Bool :=
  imgNum g 0 4 != 0x4D494651 || imgNum g 4 2 != 1 || imgNum g 6 2 != 512 || imgSize g % 16 != 0 || decide (0x700000 < 512 + imgSize g) ||
    decide (imgSize g ≤ imgEntry g) || imgNum g 0x016 2 != 0 || (imgBytes g 0x110 240).any (fun b => b != 0)

/-- The checks of R553 in order: the code of Table 17.9, 0 where the image passes. A device with no valid key slot skips
checks 3 and 4. -/
def imgCheck (f : Fuses) (g : Image) : Nat :=
  if imgHeadBad g then 2
  else if f.stepping < imgNum g 0x015 1 then 3
  else if f.keyValid ≠ 0 ∧ (3 < imgSlot g ∨ !f.keyValid.testBit (imgSlot g) ∨
      ofLe (sha384 (imgBytes g 0x050 96)) ≠ SMap.get 0 f.keyHash (imgSlot g)) then 4
  else if f.keyValid ≠ 0 ∧ f.keyRevoked.testBit (imgSlot g) then 5
  else if imgSvn g < f.svnFloor then 6
  else if sha384 (imgBytes g 512 (imgSize g)) ≠ imgBytes g 0x020 48 then 7
  else if !ecdsaOk (ofBe (imgBytes g 0x050 48), ofBe (imgBytes g 0x080 48)) (ofBe (sha384 (imgBytes g 0 0xB0)))
      (ofBe (imgBytes g 0x0B0 48)) (ofBe (imgBytes g 0x0E0 48)) then 8
  else 0

end Sys2Proof.Machine
end

