-- ==== Sys2Proof/Machine/HostOps.lean ====
section
/-! DEFINITION. The host attachment (R535 to R548), the resets of the device (R549, R550) and boot (R551 to R556); the rails
(R572) and the stacks' temperature (R576). -/

namespace Sys2Proof.Machine

/-! ## The stream to the twin (R486, R488, R533) -/

/-- Does the device send its records and its host's writes to its twin (R486, R501)? -/
def State.replaying (s : State) : Bool := s.brcRole == 1 && (s.brace.twinRole == 2 || s.brace.twinRole == 4)

/-- Bytes of messages that the brace holds unsent on a link: those that wait, and the blocks that have not left (R488). -/
def State.braceHolds (s : State) (l : Nat) : Nat :=
  32 * (s.port l).msgq.length + (s.link l).waitq.foldl (fun n m => n + 32 * (m.blocks 0).length) 0

/-- Can the brace take `n` more messages of 96 bytes (REPLAY, MIRROR): it holds up to 64 KiB unsent (R488)? -/
def State.braceRoom (s : State) (n : Nat) : Bool := s.braceLink.any (fun l => decide (s.braceHolds l + 96 * n ≤ 65536))

/-- Records of the ledger not yet sent to the twin (LEDG_STAT.UNSENT). -/
def State.unsent (s : State) : Nat := (s.ledger.next - s.ledger.sent).toNat

/-- The ACTIVE sends its unsent records, as far as the brace takes them (R486, R533). -/
def State.sendRecords (s : State) : Nat → State
  | 0 => s
  | n + 1 =>
    let q := s.ledger.sent
    if q = s.ledger.next || !s.braceRoom 1 then s
    else
      let s1 := s.toTwin (.replay (s.ledgerSlot (q.toNat % 4096)))
      { s1 with ledger := { s1.ledger with sent := q + 1 } }.sendRecords n

/-- Records go to the twin at the end of a command, and before a MIRROR; one that has been overwritten unsent makes the device
SOLO (R533). -/
def State.ledgerToTwin (s : State) : State :=
  if !s.replaying then s
  else if s.unsent ≤ 4096 then s.sendRecords s.unsent
  else (s.fault bp .uncorrectable).solo

/-! ## Host requests (R539 to R543) -/

/-- The identity in the function's configuration header (R538). -/
structure PcieId where
  vendor    : Nat := 0x1F5A
  device    : Nat := 0x0096
  revision  : Nat
  classCode : Nat := 0x120000
  subVendor : Nat := 0x0000
  subsystem : Nat := 0x0000
deriving DecidableEq, Repr

/-- The values of its capabilities (Table 17.2); the offsets are those in BAR0. -/
structure PcieCaps where
  maxPayload : Nat := 512
  tagBits    : Nat := 10
  flr        : Bool := true
  d3hot      : Bool := true
  pme        : Bool := false
  vectors    : Nat := 2048
  tableOff   : Nat := 0x3F1000
  pbaOff     : Nat := 0x3F9000
  serial     : Word
deriving DecidableEq, Repr

/-- The function's identity: the Revision ID is the stepping mark. -/
def State.pcieId (s : State) : PcieId := { revision := s.fuses.stepping }

/-- The function's capabilities: the Device Serial Number is GLB_SERIAL. -/
def State.pcieCaps (s : State) : PcieCaps := { serial := s.fuses.serial }

/-- The UCIe data rates, in GT/s: each is taken when training fails at the higher one (Table 17.1). -/
def ucieRates : List Nat := [32, 24, 16, 12, 8, 4]

/-- STATE of the link. -/
def State.hostState (s : State) : Nat := s.f (hop + R.hostLink) 1 0

/-- Change STATE of the link: each change sets LINK_CHANGE (R561); a link that is ACTIVE sends what has waited (R537). -/
def State.setHostState (s : State) (n : Nat) : State :=
  if s.hostState = n then s
  else
    let s1 := (s.putF (hop + R.hostLink) 1 0 n).pageInt hop 2
    if n = 2 then s1.host.waits.foldl (fun s o => s.emit o) { s1 with host := { s1.host with waits := [] } } else s1

/-- Where an offset of a BAR leads (Table 17.3). -/
def barAddr (bar o : Nat) : Option Nat :=
  match bar with
  | 0 => if o < 0x1000000 then some (ctrlBase + o) else none
  | 2 => if o < hbmEnd then some o
    else if 0x1FFF800000 ≤ o ∧ o < 0x2000000000 then some (shepBase + (o % 0x800000)) else none
  | 4 => if o < 0x10000000000 then some (0x4000000000 + o) else none
  | _ => none

/-- A completer error is reported through Advanced Error Reporting (R541): 0 Unsupported Request, 1 Completer Abort,
2 Poisoned completion, 3 a write rejected. The register's own layout is not the spec's (log entry 47). -/
def State.aerReport (s : State) (k : Nat) : State := { s with host := { s.host with aer := s.host.aer ||| BitVec.ofNat 4 (2 ^ k) } }

/-- A host write is dropped (R541). -/
def State.dropWrite (s : State) : State := (s.inc (hop + R.hostErr) 63 48).aerReport 3

/-- The access size of a BAR0 access (R13, R540). -/
def ctlSize (off n : Nat) : Option AccSize :=
  if n = 8 ∧ off % 8 = 0 then some .d64
  else if n = 4 ∧ off % 8 = 0 then some .lo32
  else if n = 4 ∧ off % 8 = 4 then some .hi32
  else none

/-- Does an address lie in a mirrored region (R488)? -/
def State.mirrored (s : State) (a : Nat) : Bool :=
  (List.range 8).any (fun i =>
    let o := bp + R.brcMir + 8 * i
    let n := s.f o 11 0 * 2 ^ 20
    let b := s.f o 47 20 * 2 ^ 20
    decide (b ≤ a) && decide (a < b + n))

/-- A MIRROR of the line at `line`, with the bytes from `a` to `a + n` enabled. -/
def State.mirrorLine (s : State) (a n line : Nat) : State :=
  let be := (List.range 64).foldl (fun m i => if a ≤ line + i ∧ line + i < a + n then m + 2 ^ i else m) 0
  s.toTwin (.mirror (BitVec.ofNat 48 line) (BitVec.ofNat 64 be) (s.bytes line 64))

/-- Send the host's write of `n` bytes at `a` to the twin, as far as it lies in mirrored regions (R486, R488). -/
def State.mirrorOut (s : State) (a n : Nat) : State :=
  if s.replaying then
    (List.range ((a + n - 1) / 64 - a / 64 + 1)).foldl (fun s k =>
      let line := (a / 64 + k) * 64
      if s.mirrored line then s.mirrorLine a n line else s) s.ledgerToTwin
  else s

/-- A host write of the device's memory. -/
def State.hostStore (s : State) (a : Nat) (bytes : List Byte) : State :=
  let n := bytes.length
  if region a ≠ region (a + n - 1) then s.dropWrite
  else if [2, 4, 5].contains s.brcRole ∧ (s.mirrored a ∨ s.mirrored (a + n - 1)) then s.inc (bp + R.brcEvt) 47 32
  else match s.memWrite a bytes with
    | (.ok, s1) => s1.mirrorOut a n
    | (_, s1) => s1.dropWrite

/-- Serve one host write (R540 to R542). -/
def State.hostWriteNow (s : State) (bar off : Nat) (bytes : List Byte) : State :=
  let n := bytes.length
  match barAddr bar off, barAddr bar (off + n - 1) with
  | some a, some _ =>
    match region a with
    | .control =>
      match ctlSize off n with
      | none => s.dropWrite
      | some sz =>
        match s.controlWrite (off / 8 * 8) ⟨0, sz, BitVec.ofNat 64 (ofLe bytes)⟩ with
        | (.ok, s1) => if s.parked.length < s1.parked.length then s1.parkedBy (.host off) else s1
        | (_, s1) => s1.dropWrite
    | .sem _ =>
      match s.semAccess a n true 0 16 (.host off) with
      | (.error _, s1) => s1.dropWrite
      | (_, s1) => s1
    | _ => s.hostStore a bytes
  | _, _ => s.dropWrite

/-- Must a host write of `n` bytes into a mirrored region wait for the brace (R488)? The unsent records go before its MIRROR
messages (R486). -/
def State.mirrorWaits (s : State) (bar off n : Nat) : Bool :=
  bar == 2 && s.replaying && s.braceLink.isSome && !s.braceRoom (s.unsent + n / 64 + 2) &&
    ((barAddr bar off).any s.mirrored || (barAddr bar (off + n - 1)).any s.mirrored)

/-- Has a write of the host not had its response yet, as it waits for a domain to wake (R542)? -/
def State.hostParked (s : State) : Bool :=
  s.parked.any (fun e => e.data.isSome && match e.who with | .host _ => true | _ => false)

/-- Must a host write wait: for the brace (R488), where the unsent records would reach 4,096 (R533), or, to BAR0, for the response
to an earlier write (R542)? -/
def State.hostMustWait (s : State) (bar off n : Nat) : Bool :=
  s.mirrorWaits bar off n || (bar == 0 && ((s.replaying && decide (4095 ≤ s.unsent)) || s.hostParked))

/-- The first request that the adapter holds is, if `m`, a write held for the brace, which counts once (Table 15.4). -/
def State.mirHeld (s : State) (m : Bool) : State :=
  if m && !s.host.mirHeld then { s.inc (bp + R.brcEvt) 63 48 with host := { s.host with mirHeld := true } } else s

/-- The adapter holds a request of the host. -/
def State.hostHold (s : State) (q : HostReq) : State := { s with host := { s.host with held := s.host.held ++ [q] } }

/-- HOST_WRITE: writes are served in order. -/
def State.hostWrite (s : State) (bar off : Nat) (bytes : List Byte) : State :=
  if s.porst ∨ s.hostState < 2 ∨ bytes = [] ∨ s.pcieCaps.maxPayload < bytes.length then s
  else if s.host.d3hot then s.dropWrite
  else if !s.host.held.isEmpty then s.hostHold (.wr bar off bytes)
  else if s.hostMustWait bar off bytes.length then
    (s.hostHold (.wr bar off bytes)).mirHeld (s.mirrorWaits bar off bytes.length)
  else s.hostWriteNow bar off bytes

/-- Complete a host read (R541). -/
def State.hostDone (s : State) (bar off : Nat) (st : Status) (data : List Byte) : State :=
  match st with
  | .ok => s.emit (.hostData bar off .successful data)
  | .address => ((s.inc (hop + R.hostErr) 15 0).aerReport 0).emit (.hostData bar off .unsupportedRequest [])
  | .isolated => ((s.inc (hop + R.hostErr) 31 16).aerReport 1).emit (.hostData bar off .completerAbort [])
  | .data => ((s.inc (hop + R.hostErr) 47 32).aerReport 2).emit (.hostData bar off .poisoned data)

/-- Serve one host read: completions are split at 64-byte boundaries (R540, R541). -/
def State.hostReadNow (s : State) (bar off len : Nat) : State :=
  match barAddr bar off, barAddr bar (off + len - 1) with
    | some a, some _ =>
      match region a with
      | .control =>
        match ctlSize off len with
        | none => s.hostDone bar off .address []
        | some sz =>
          match s.controlRead (off / 8 * 8) ⟨0, sz⟩ with
          | (st, some v, s1) => s1.hostDone bar off st (leBytes len v.toNat)
          | (_, none, s1) => s1.parkedBy (.host off)
      | .sem _ =>
        match s.semAccess a len false 0 16 (.host off) with
        | (.value v, s1) => s1.hostDone bar off .ok (leBytes 8 v.toNat)
        | (.error st, s1) => s1.hostDone bar off (winStatus st) []
        | (_, s1) => s1
      | _ =>
        (List.range ((a + len - 1) / 64 - a / 64 + 1)).foldl (fun s k =>
          let lo := max a ((a / 64 + k) * 64)
          let hi := min (a + len) ((a / 64 + k + 1) * 64)
          let (st, d, s1) := s.memRead lo (hi - lo)
          s1.hostDone bar (off + (lo - a)) st d) s
    | _, _ => s.hostDone bar off .address []

/-- HOST_READ: served after every earlier write has received its response (R542). -/
def State.hostRead (s : State) (bar off len : Nat) : State :=
  if s.porst ∨ s.hostState < 2 ∨ len = 0 ∨ 4096 < len then s
  else if s.host.d3hot then s.hostDone bar off .address []
  else if !s.host.held.isEmpty || s.hostParked then s.hostHold (.rd bar off len)
  else s.hostReadNow bar off len

/-- Held requests of the host that may go on. -/
def State.hostGo (s : State) : Nat → State
  | 0 => s
  | n + 1 =>
    match s.host.held with
    | .wr bar off bytes :: r =>
      if s.hostMustWait bar off bytes.length then s.mirHeld (s.mirrorWaits bar off bytes.length)
      else ({ s with host := { s.host with held := r, mirHeld := false } }.hostWriteNow bar off bytes).hostGo n
    | .rd bar off len :: r =>
      if s.hostParked then s
      else ({ s with host := { s.host with held := r } }.hostReadNow bar off len).hostGo n
    | [] => s

/-- A Q96 read of host memory is sent on the link and awaits its completion (R543); the adapter's interface answers it while it is
isolated (R449). -/
def State.hostMemRead (s : State) (r : MemReq) (n : Nat) : State :=
  let a := r.addr.toNat / n * n
  if !s.hostOk || s.isolated (adapterOf a) then
    let (q, s1) := s.takeInbox r
    (if s.isolated (adapterOf a) then s1.inc (pageAt .noc (adapterOf a) + R.nocNiEvt) 47 32 else s1).respond (adapterOf a) q r .isolated []
  else
    let s1 := s.toHost (.hostRead r.node r.txid (a % 0x800000000000) n)
    if s1.inbox.any (fun q => q.req.node == r.node && q.req.txid == r.txid) then s1
    else { s1 with inbox := s1.inbox ++ [⟨64 + n, r, 0, false⟩] }

/-- Is a waiting request a read of host memory? An opcode of 64 and more marks one of as many bytes less 64 that came over no
mesh. -/
def InReq.ofHost (q : InReq) : Bool := region q.req.addr.toNat == .host && (decide (q.opc ≤ 2) || decide (64 ≤ q.opc))

/-- Answer a read of host memory that waits. -/
def State.hostAnswer (s : State) (q : InReq) (st : Status) (data : List Byte) : State :=
  s.respond (adapterOf q.req.addr.toNat) (if 64 ≤ q.opc then none else some q) q.req st data

/-- HOST_COMPLETION. What an unsuccessful completion becomes is open: DATA or ISOLATED. -/
def State.hostCompletion (s : State) (txid : Nat) (data : List Byte) (ok : Bool) : State :=
  match takeFirst (fun q => q.req.txid == txid && q.ofHost) s.inbox with
  | some (q, l) =>
    let n := if q.opc = 2 ∨ q.opc = 128 then 64 else 8
    let s1 := { s with inbox := l }
    if ok then s1.hostAnswer q .ok ((List.range n).map (fun i => data.getD i 0))
    else
      let (b, s2) := s1.drawBit
      s2.hostAnswer q (if b then .data else .isolated) []
  | none => s

/-- HOST_CONFIG_WRITE (R538, R543, R544). -/
def State.hostConfig (s : State) (bm d3 en fm : Bool) : State :=
  { s with host := { s.host with busMaster := bm, d3hot := d3, msixEn := en, funcMask := fm } }.msixAll

/-- MSIX_UNMASK: the mask of a vector clears. -/
def State.msixUnmask (s : State) (v : Nat) : State :=
  if v < 2048 then (s.putB (msixAt v + 8) 32 false).msixPending v else s

/-- Out of L1 domain 173 is ON (R537). -/
def State.leaveL1 (s : State) : State := { s.domPut 173 0 pwrAgent with host := { s.host with l1At := none } }

/-- HOST_LINK_TRAIN (R535, R536): the link trains on the modules that pass, at the highest data rate that does not fail; from a link
that was up, it is a retrain. STATE goes through TRAINING (R561). -/
def State.hostTrain (s : State) (m0 m1 : Bool) (r : UcieReport) : State :=
  if s.porst then s
  else
    let o := hop + R.hostLink
    let s1 := if 2 ≤ s.hostState then s.inc o 31 16 else s
    let s2 := (((s1.putF o 3 2 (b2n m0 + 2 * b2n m1)).putB o 4 (m0 != m1)).putF o 47 32 r.repaired).inc o 63 48 r.retries
    let s3 := if s.hostState = 3 then s2.leaveL1 else s2
    let s4 := { s3 with host := { s3.host with rate := ucieRates.getD r.failed 0 } }
    (s4.setHostState 1).setHostState (if (m0 || m1) && decide (r.failed < 6) then 2 else 0)

/-- L1_ENTRY (R537): domain 173 is RETAIN. -/
def State.l1Entry (s : State) : State :=
  if s.hostState = 2 then ((s.setHostState 3).domPut 173 1 pwrAgent) else s

/-- L1_EXIT (R537): an exit that has been started ends; domain 173 is ON. -/
def State.l1Exit (s : State) : State :=
  if s.hostState = 3 ∧ s.host.l1At.isSome then
    (s.setHostState 2).leaveL1
  else s

/-- Function Level Reset (R545). Emptying the mailbox clears H2D_FULL and D2H_FULL; the message words keep their values (the
model's choice, log entry 61). -/
def State.flr (s : State) : State :=
  let regs := s.regs.filter (fun e => !(decide (pageAt .host 1 ≤ e.1) && decide (e.1 < pageAt .host 9 + 0x100)))
  let s1 := { s with
    regs := regs
    host := { s.host with busMaster := false, d3hot := false, msixEn := false, funcMask := false, l1At := s.host.l1At }
    parked := s.parked.filter (fun e => e.origin != 0 || e.data.isSome) }
  let s2 := (s1.putB (hop + R.hostMbx) 0 false).putB (hop + R.hostMbx) 3 false
  let mine := s2.inbox.filter InReq.ofHost
  let s3 : State := { s2 with inbox := s2.inbox.filter (fun q => !q.ofHost) }
  (mine.foldl (fun (s : State) q => s.hostAnswer q .isolated []) s3).notice 0

/-! ## Boot (R551 to R556) -/

/-- The origin of core 0. -/
def core0 : Origin := 0x1000

/-- A control-window write of the boot ROM. -/
def State.romWrite (s : State) (off : Nat) (d : Word) : State := (s.controlWrite off ⟨core0, .d64, d⟩).2

/-- Is core 0 in the boot ROM? -/
def State.inRom (s : State) : Bool := !s.porst && (s.core 0).st == 1 && s.fromRom core0

/-- Offset of GLB_BOOT. -/
def bootAt : Nat := pageAt .glb 0 + R.glbBoot

/-- The ROM posts a D2H message (steps 4 of Table 17.4). -/
def State.romPost (s : State) (ws : List Word) : State :=
  ((ws.zipIdx).foldl (fun s e => s.romWrite (hop + R.hostD2hMsg + 8 * e.2) e.1) s).romWrite (hop + R.hostMbx)
    (BitVec.ofNat 64 (16 + s.f (hop + R.hostMbx) 13 8 * 256))

/-- The ROM waits in the mailbox (step 2 of Table 17.6, R555). -/
def State.romWait (s : State) : State :=
  let s1 := s.romWrite (barkSrcAt 1216) (setBit (s.reg (barkSrcAt 1216)) 8 true)
  s1.romPost [1, s1.view bootAt, s1.view (pageAt .glb 0 + R.glbFuse)]

/-- The ROM records a failed check. -/
def State.romFail (s : State) (code : Nat) : State := s.romWrite bootAt (setFld (s.view bootAt) 7 4 code)

/-- Hand-off to the image in the Shepherd store (step 4 of Table 17.6). -/
def State.handOff (s : State) (source : Nat) (g : Image) : State :=
  let prov := s.fuses.keyValid != 0
  let b : Word := setFld (setFld (setFld (setFld (setFld (s.view bootAt) 1 0 source) 2 2 (b2n prov)) 7 4 0) 9 8
    (imgSlot g % 4)) 47 16 (imgSvn g)
  let s1 := (s.romWrite bootAt b).romWrite bootAt (setBit b 12 true)
  s1.updCore 0 (fun x => { x with
    gpr := SMap.set 0 (SMap.set 0 [] 0 (BitVec.ofNat 64 shepBase)) 1 (s1.view bootAt)
    pc := BitVec.ofNat 48 (shepBase + 512 + imgEntry g)
    psw := 0x3000000 })

/-- The image whose header the ROM has read. -/
def flashImage (l : List Byte) : Image := fun i => l.getD i 0

/-- The image that lies in the Shepherd store. -/
def State.storeImage (s : State) : Image := fun i => s.byte (shepBase + i)

/-- Flash offset of a slot (Table 17.6). -/
def slotAt (k : Nat) : Nat := if k = 0 then 0x000000 else 0x800000

/-- The ROM reads `n` bytes of the flash on SPI0: fast read 0x0B, a 3-byte address, one dummy byte (Table 17.6). -/
def State.flashRead (s : State) (a n : Nat) : State := s.emit (.bus 4 0x3000 2 0 (0x0B :: beBytes 3 a ++ [0]) n)

/-- Bytes of a slot's image: its header and payload. -/
def romSize (h : List Byte) : Nat := 512 + imgSize (flashImage h)

/-- What a slot's header alone says: NO_IMAGE where the flash is erased there (log entry 7), HEADER where it fails that check. -/
def slotCode (h : List Byte) : Nat :=
  if h.all (fun b => b == 0xFF) then 1 else if imgHeadBad (flashImage h) then 2 else 0

/-- The ROM tries the next of the slots that are left: it records one whose header fails and copies one whose header passes;
without one it waits in the mailbox (R552). `n` bounds the slots. -/
def State.romTry (s : State) (hs : List (List Byte)) : Nat → List Nat → State
  | 0, _ => { s with rom := none }.romWait
  | _, [] => { s with rom := none }.romWait
  | n + 1, k :: r =>
    let h := hs.getD k []
    match slotCode h with
    | 0 => ({ s with rom := some { hdrs := hs, todo := k :: r } }).flashRead (slotAt k) (romSize h)
    | e => (s.romFail e).romTry hs n r

/-- The order in which the ROM tries the slots: the higher SVN first, slot A when they are equal (R554). -/
def slotOrder (hs : List (List Byte)) : List Nat :=
  if imgSvn (flashImage (hs.getD 0 [])) < imgSvn (flashImage (hs.getD 1 [])) ∧ slotCode (hs.getD 1 []) = 0 then [1, 0] else [0, 1]

/-- A read of the flash ends (Table 17.6): a header, or an image, which goes to the Shepherd store and is checked there (R553). -/
def State.romBus (s : State) (r : BusResult) : State :=
  match s.rom with
  | none => s
  | some x =>
    match x.todo with
    | [] =>
      if r.data.length < 512 then s
      else
        let hs := x.hdrs ++ [r.data.take 512]
        if hs.length < 2 then ({ s with rom := some { hdrs := hs } }).flashRead (slotAt 1) 512
        else s.romTry hs 2 (slotOrder hs)
    | k :: rest =>
      let n := romSize (x.hdrs.getD k [])
      if r.data.length < n then s
      else
        let s1 := s.wrBytes shepBase (r.data.take n)
        match imgCheck s.fuses s1.storeImage with
        | 0 => ({ s1 with rom := none }).handOff k s1.storeImage
        | e => (s1.romFail e).romTry x.hdrs 2 rest

/-- The ROM's first steps (Table 17.6): from SPI it reads the header of slot A; where BOOTSEL says so, it waits in the mailbox. -/
def State.boot (s : State) : State :=
  if s.fuses.bootsel = 1 then s.romWait else ({ s with rom := some {} }).flashRead (slotAt 0) 512

/-- Core 0 starts at the ROM, and its steps follow; every core's workspace is unspecified (Table 9.11). -/
def State.startBoot (s : State) : State :=
  let s1 := (List.range 16).foldl (fun s c =>
    (s.updCore c (fun x => { x with wsSeed := s.freeCtr })) |> fun s => { s with freeCtr := s.freeCtr + 1 }) s
  ((s1.updCore 0 (fun x => { x with pc := BitVec.ofNat 48 romBase })).setSt 0 1).boot

/-! ## Resets of the device (R17, R549, R550) -/

/-- The signals of buses and GPIO return to the states of R574: chip selects high, SCLK and MOSI low, I3C high-impedance, every GPIO
an input. -/
def State.pinsIdle (s : State) : State := ((List.range 8).foldl (fun s b => s.emit (.busIdle b)) s).emit (.gpio 0 0)

/-- Power-on reset: the whole device at its power-on state; what came from outside stays. PORST_N is low, or a rail (R571, R572). -/
def State.powerOn (s : State) (pin brown : Bool) : State :=
  { (({} : State)) with pending := s.pending, out := s.out, freeCtr := s.freeCtr, fuses := s.fuses, pinLow := pin,
                        brown := brown }.pinsIdle

/-- BOOTSEL is sampled, at each power-on and device reset (R551). -/
def State.sampleBoot (s : State) : State := { s with fuses := { s.fuses with bootsel := s.fuses.strap } }

/-- Neither PORST_N nor a rail holds the device any more: pack time starts at 0 and core 0 boots (R571, R572). -/
def State.release0 (s : State) : State := { s with porst := false, now := 0 }.sampleBoot.startBoot

/-- PORST_N_RELEASE, with the levels at BOOTSEL. The device stays in reset through a brown-out. -/
def State.porstRelease (s : State) (bootsel : Nat) : State :=
  if s.porst ∧ s.pinLow then
    let s1 := { s with pinLow := false, fuses := { s.fuses with strap := bootsel } }
    if s.brown then s1 else s1.release0
  else s

/-- BROWN_OUT_RELEASE: 1 ms has passed since the rails are back. The device stays in reset while PORST_N is low. -/
def State.brownRelease (s : State) : State :=
  if s.porst ∧ s.brown then
    let s1 := { s with brown := false }
    if s.pinLow then s1 else s1.release0
  else s

/-- Is a register kept through device reset (Table 17.5): the link, its errors, the MSI-X table? -/
def devKeeps (off : Nat) : Bool :=
  off == hop + R.hostLink || off == hop + R.hostErr || (decide (pageAt .host 1 ≤ off) && decide (off < pageAt .host 9 + 0x100))

/-- Device reset (R549, R550): memory, pack time, fuses, the host attachment and the ledger stay; so does RETAIN of domain 173
while the link is in L1 (R537). -/
def State.deviceReset (s : State) : State :=
  let dbg := s.b bootAt 14
  let s1 : State := { (({} : State)) with
    pending := s.pending, out := s.out, freeCtr := s.freeCtr, fuses := s.fuses, mem := s.mem, now := s.now, porst := false, pinLow := false,
    ledger := { s.ledger with sent := s.ledger.next }, host := s.host, regs := s.regs.filter (fun e => devKeeps e.1) }
  let s2 := if dbg then s1.putB bootAt 14 true else s1
  (if s.hostState = 3 then s2.putF (domAt 173) 4 2 1 else s2).pinsIdle.sampleBoot.startBoot

/-! ## ROM commands (R555, Table 17.8) -/

/-- The word of the H2D message. -/
def State.h2d (s : State) (i : Nat) : Word := s.reg (hop + R.hostH2dMsg + 8 * i)

/-- A message waits for the ROM, and the last response has been taken. -/
def State.romReady (s : State) : Bool := s.inRom && s.rom.isNone && s.b (hop + R.hostMbx) 0 && !s.b (hop + R.hostMbx) 3

/-- Answer the H2D message with a status and further words: H2D_DONE, then the response. -/
def State.romAnswer (s : State) (status : Nat) (ws : List Word) : State :=
  let w := BitVec.ofNat 64 (fld (s.h2d 0) 31 0 + status * 2 ^ 32)
  (s.romWrite (hop + R.hostMbx) (BitVec.ofNat 64 (4 + s.f (hop + R.hostMbx) 13 8 * 256))).romPost (w :: ws)

/-- Is the message a command of the ROM? -/
def romKnows (c : Nat) : Bool := c == 2 || c == 0x10 || c == 0x11 || c == 0x12

/-- ROM_LOAD: LOAD checks the image in the Shepherd store; a CMD that the ROM does not know is answered COMMAND. -/
def State.romLoad (s : State) : State :=
  let c := fld (s.h2d 0) 15 0
  if !s.romReady then s
  else if c = 2 then
    let g := s.storeImage
    match imgCheck s.fuses g with
    | 0 => (s.romAnswer 0 [BitVec.ofNat 64 (imgSvn g)]).handOff 2 g
    | e => (s.romFail e).romAnswer e []
  else if romKnows c then s
  else s.romAnswer 10 []

/-- ROM_PROGRAM_KEY. -/
def State.romKey (s : State) : State :=
  if s.romReady ∧ fld (s.h2d 0) 15 0 = 0x10 then
    let k := fld (s.h2d 1) 1 0
    if s.fuses.keyValid.testBit k then s.romAnswer 9 []
    else
      let hash := (List.range 6).foldl (fun n i => n + (s.h2d (2 + i)).toNat * 2 ^ (64 * i)) 0
      { s with fuses := { s.fuses with keyValid := s.fuses.keyValid + 2 ^ k,
                                       keyHash := SMap.set 0 s.fuses.keyHash k hash } }.romAnswer 0 []
  else s

/-- ROM_REVOKE_KEY. -/
def State.romRevoke (s : State) : State :=
  if s.romReady ∧ fld (s.h2d 0) 15 0 = 0x11 then
    let k := fld (s.h2d 1) 1 0
    let live := (List.range 4).filter (fun i => s.fuses.keyValid.testBit i && !s.fuses.keyRevoked.testBit i)
    if !s.fuses.keyValid.testBit k ∨ live = [k] then s.romAnswer 9 []
    else { s with fuses := { s.fuses with keyRevoked := s.fuses.keyRevoked ||| 2 ^ k } }.romAnswer 0 []
  else s

/-- ROM_SET_SVN. -/
def State.romSvn (s : State) : State :=
  if s.romReady ∧ fld (s.h2d 0) 15 0 = 0x12 then
    let n := fld (s.h2d 1) 6 0
    if n < s.fuses.svnFloor ∨ 64 < n then s.romAnswer 9 []
    else { s with fuses := { s.fuses with svnFloor := n } }.romAnswer 0 []
  else s

/-! ## Rails, stacks (R572, R576) -/

/-- RAIL_EXCURSION (R572). -/
def State.railExcursion (s : State) : State := if s.porst then s else (s.fault pwp .timeout).direct pwp 3 3

/-- HBM_OVERTEMP (R576). -/
def State.hbmHot (s : State) (u : Nat) : State := if u < 4 then s.fault (hbp u) .timeout else s

/-- HBM_STACK_TRAINED (R549). -/
def State.stackTrained (s : State) (u : Nat) : State := if u < 4 then s.putB (hbp u + R.hbmcStat) 0 true else s

end Sys2Proof.Machine
end

