-- ==== Sys2Proof/Machine/PackOps.lean ====
section
/-! DEFINITION. What crosses the brace and the pack into the control window and memory: CFG (R509), REPLAY and MIRROR (R486,
R487), and the resync (R501). -/

namespace Sys2Proof.Machine

/-! ## Broadcast (R509) -/

/-- Does an offset lie in the PACK page? -/
def inPack (off : Nat) : Bool := match pageOf off with | some (.pack, _) => true | _ => false

/-- A device's own part of a broadcast: the 64-bit write with the pack-lead origin, and its ERROR. -/
def State.cfgApply (s : State) (off : Nat) (data : Word) : Bool × State :=
  if inPack off then (true, s)
  else match s.controlWrite off ⟨BitVec.ofNat 16 (0x6000 + s.f (kpk + R.packLead) 9 0), .d64, data⟩ with
    | (.ok, s1) => (false, s1)
    | (_, s1) => (true, s1)

/-- CFG from the parent. -/
def State.onCfg (s : State) (l off : Nat) (id : BitVec 16) (data : Word) : State :=
  let (err, s1) := s.cfgApply off data
  let s2 := s1.toKids (.cfg (BitVec.ofNat 24 off) id data)
  { s2 with pack := { s2.pack with bcOn := true, bcKids := s2.children, bcUp := some (l, id), bcErr := err } }.bcTry

/-- The lead applies its own broadcast to itself. -/
def State.cfgOwn (s : State) (off : Nat) (data : Word) : State :=
  let (err, s1) := s.cfgApply off data
  { s1 with pack := { s1.pack with bcErr := s1.pack.bcErr || err } }.bcTry

/-! ## Replay and mirror (R486, R487) -/

/-- Does a STANDBY apply a record of the register at an offset (R487)? -/
def replays (off : Nat) : Bool :=
  match pageOf off with
  | none => false
  | some (b, p) =>
    let o := off % 0x1000
    !(b == .brc || b == .pack || b == .time || b == .ledg || b == .host) &&
      !(hasHeader b p && decide (R.pgErrStat ≤ o) && decide (o ≤ R.pgIntEn)) &&
      !(b == .noc && decide (R.nocPrbCtl ≤ o))

/-- REPLAY on a STANDBY or SYNCING device. The copy of a resync has the brace-twin origin. The record of a DETACH on the ACTIVE
says that this device leaves the brace (R501, log entry 62). -/
def State.onReplay (s : State) (f : ReplayF) : State :=
  let c := orgClass f.origin
  if f.offset.toNat = bp + R.brcCmd ∧ fld f.new 2 0 = 3 ∧ (s.brcRole = 2 ∨ s.brcRole = 4 ∨ s.brcRole = 5) then s.unbrace else
  let live := c == 0 || c == 4 || c == 6
  if (s.brcRole = 2 ∨ s.brcRole = 4) ∧ (live ∨ (c = 5 ∧ s.brcRole = 4)) ∧ replays f.offset.toNat then
    (s.controlWrite f.offset.toNat ⟨0x5000, .d64, f.new⟩).2
  else s

/-- The enabled bytes of a line. -/
def State.wrEnabled (s : State) (a : Nat) (be : Word) : List Byte → Nat → State
  | [], _ => s
  | b :: r, i => (if bit be i then s.wrByte (a + i) b else s).wrEnabled a be r (i + 1)

/-- MIRROR on a STANDBY or SYNCING device: a write of a whole line or of the enabled bytes (R431). -/
def State.onMirror (s : State) (addr : BitVec 48) (be : Word) (line : List Byte) : State :=
  let a := addr.toNat / 64 * 64
  let whole := be == BitVec.allOnes 64
  if (s.brcRole = 2 ∨ s.brcRole = 4) ∧ region a = .hbm then
    if !whole && s.lineBad a then s.visit a .data
    else
      let s1 := ((s.wrEnabled a be (line.take 64) 0).stored a 64).visit a .ok
      if whole then s1.clearLines a 64 else s1
  else s

/-! ## Resync (R501) -/

/-- The offsets of the registers that a resync copies: those that R487 would replay and that a write sets. -/
def resyncOffs : List Nat :=
  blocks.flatMap (fun b => (List.range (blkPages b)).flatMap (fun p =>
    ((List.range 512).map (fun i => pageAt b p + 8 * i)).filter (fun off => replays off &&
      match regAt off with
      | some (r, _) => r.fields.any (fun f => f.acc == .rw || f.acc == .w1s)
      | none => false)))

/-- Copy the mirrored regions. -/
def State.resyncMirror (s : State) : State :=
  (List.range 8).foldl (fun s i =>
    let o := bp + R.brcMir + 8 * i
    let base := s.f o 47 20 * 2 ^ 20
    (List.range (s.f o 11 0 * 2 ^ 14)).foldl (fun s k => s.mirrorLine (base + 64 * k) 64 (base + 64 * k)) s) s

/-- RESYNC: the mirrored regions, the registers, SYNC_DONE. -/
def State.resync (s : State) : State :=
  let s1 := s.resyncMirror
  let s2 := resyncOffs.foldl (fun s off => s.toTwin
    (.replay { seq := (s.ledger.next - 1).toNat, origin := 0x5000, time := s.now, off := off, new := s.view off })) s1
  { s2.toTwin .syncDone with brace := { s2.brace with twinRole := 2 } }

/-! ## LINKID of a Bamior port (R504) -/

/-- BAMIOR_LINKID: the peer of a Bamior port that trains. One that reports the local ID keeps the link at step 5; of another the
link is UP once 8 codewords have passed (Table 7.7). -/
def State.bamiorUp (s : State) (p : Nat) (serial : Word) (device : Nat) : State :=
  if p < 96 ∧ s.bamior p ∧ (s.port p).phase = 4 ∧ s.lnk p ≠ 4 then
    if device = s.deviceId then s.fault (pp p) .config
    else
      let s1 := s.setReg (pp p + R.portLnkPeer) serial
      (s1.updPort p (fun x => { x with idSeen := true })).tryUp p
  else s

end Sys2Proof.Machine
end

