-- ==== Sys2Proof/Machine/Settle.lean ====
section
/-! DEFINITION. What the blocks do to each other at the end of a command: level-2 and level-3 actions (R519, R523 to R526),
event-line pulses, wakes, answers; and what goes on by itself: accesses that waited for a wake, a role swap, held host
writes and pack messages, replay, and a device reset that has been requested. -/

namespace Sys2Proof.Machine

/-! ## Level 2 (Table 16.3) -/

/-- A Plate leaves its stream as though its EN were 0; the stream's INVALID is set. -/
def State.plateLeave (s : State) (p : Nat) : State :=
  match (s.plate p).feed with
  | none => s
  | some h =>
    let s1 := ((s.invalid h).updPlate p (fun x => { scr := x.scr, maskNow := x.maskNow })).setPst p 0
    (s1.strmUpd h).strmEnd h

/-- PORT: the link is held as with EN = 0. -/
def State.portLevel2 (s : State) (p : Nat) : State := (s.linkOff p).plateLeave p

/-- TILE: its network interface acts as though ISOLATE were set: tokens that it holds are diverted. -/
def State.tileLevel2 (s : State) (t : Nat) : State :=
  let node := tileNode t
  let arr := (s.tile t).arr
  let s1 := { (s.updTile t (fun x => { x with arr := [] })).exhFix t (s.tile t).exhSince with
    niDest := SMap.set 0 s.niDest node (s.reg (tp t + R.tileFaultDest)) }
  arr.foldl (fun s a => s.niDivert node a.item.tok a.item.flt) s1

/-- The level-2 action of a page. -/
def State.level2 (s : State) (page : Nat) : State :=
  match pageOf page with
  | some (.tile, t) => s.tileLevel2 t
  | some (.port, p) => s.portLevel2 p
  | some (.hub, h) => (List.range 4).foldl (fun s i => s.portLevel2 (4 * h + i)) (s.strmStop h)
  | some (.shep, c) => s.coreReset c
  | some (.ret, n) => s.halt n
  | some (.dma, ch) => if s.dmaEn ch then s.dmaStop ch else s
  | _ => s

/-! ## Level 3 (R485, R523 to R526) -/

/-- The safe state (Table 16.6): hubs refuse further words, Plates discard theirs, ports send ABORT, the emergency chain
begins. -/
def State.safeState (s : State) : State :=
  let live := (List.range 24).filter (fun h => s.strmLive h)
  let s1 := live.foldl (fun s h => s.strmHalt h) s
  let s2 := live.foldl (fun s h => s.strmEnd h) s1.platesSafe
  let why := s.f (pageAt .glb 0 + R.glbSafe) 15 0
  (s.phourUp.foldl (fun s p => s.ctlBlock p (.abort why)) s2).retSafe

/-- A braced device at level 3 (R525): FENCE and an HB go out, and the ports fall silent. -/
def State.bracedLevel3 (s : State) : State :=
  let s1 := { (s.bothLinks .fence).bothLinks s.hbOut with brace := { s.brace with fenced := true } }
  s.phourUp.foldl (fun s p => s.updPort p (fun x => { x with
    ctlq := x.ctlq.filter (fun b => match b with | .ready _ _ _ => false | _ => true) })) s1

/-- What level 3 makes of the device, by its role (R485). -/
def State.level3Act (s : State) : State :=
  match s.brcRole with
  | 1 => if s.brace.twinRole = 2 then s.bracedLevel3 else (s.bothLinks .fence).safeState
  | 6 => ((s.hush.setRole 3).bothLinks .fence).safeState
  | 2 | 4 | 5 => s.bothLinks .fence
  | _ => s.safeState

/-- A page has reached level 3: the first page is an entry (R523). -/
def State.level3Enter (s : State) (page : Nat) : State :=
  let o := pageAt .glb 0 + R.glbSafe
  if s.b o 16 then
    if s.reg (pageAt .glb 0 + R.glbSafeTime) = s.now ∧ page / 0x1000 < s.f o 31 20 then s.putF o 31 20 (page / 0x1000) else s
  else
    ((((s.putB o 16 true).putF o 31 20 (page / 0x1000)).inc o 47 32).setReg (pageAt .glb 0 + R.glbSafeTime) s.now).level3Act

/-- A page has returned to level 0 (R526). -/
def State.level0 (s : State) : State :=
  if s.anyLevel3 then s
  else { s.putB (pageAt .glb 0 + R.glbSafe) 16 false with brace := { s.brace with fenced := false } }

/-- The action of a change of LEVEL. -/
def State.levelAct (s : State) (page lvl : Nat) : State :=
  if lvl = 0 then s.level0
  else
    let s1 := if 2 ≤ lvl then s.level2 page else s
    if lvl = 3 then s1.level3Enter page else s1

/-! ## Reactions -/

/-- A pulse of hardware event line `n` (R373): Kennel, Bark, the Retriever and DMA see it. -/
def State.pulse (s : State) (n : Nat) : State := (((s.kenPulse n).bark (16 + n)).retPulse n).dmaPulse n

/-- A semaphore answers a TAKE that it had withheld. -/
def State.semAnswer (s : State) (who : SemBy) (v : Word) : State :=
  match who with
  | .mesh _ _ => s
  | .core c => s.updCore c (fun x => { x with log := x.log ++ [v], held := false, mid := true })
  | .sub n e => s.subSem n e v
  | .host off => s.hostDone 4 off .ok (leBytes 8 v.toNat)

/-- One reaction. -/
def State.reactOne (s : State) : Reaction → State
  | .level page lvl => s.levelAct page lvl
  | .wake c => s.wakeBark c
  | .pulse n => s.pulse n
  | .domWake d => s.domWake d
  | .woken d => s.woken d
  | .lineMet a => s.lineMet a
  | .sb q st d => s.subSb q st d
  | .sem who v => s.semAnswer who v
  | .stored u _ => s.semGrant u
  | .preempt => s.kenPreempt
  | .sbPump p => s.sbPump p 16
  | .cfg off d => s.cfgOwn off d
  | .resync => s.resync

/-- Reactions in the order in which they arose; `n` bounds them. -/
def State.reactAll : Nat → State → State
  | 0, s => s
  | n + 1, s =>
    match s.reactions with
    | [] => s
    | r :: l => reactAll n ({ s with reactions := l }.reactOne r)

/-- How many reactions one command applies; the next command applies what is left. -/
def reactMax : Nat := 4096

/-! ## The end of a command -/

/-- Does nothing wait to go on by itself? -/
def State.quiet (s : State) : Bool :=
  s.reactions.isEmpty && s.parked.isEmpty && !s.brace.swapping && s.pack.msgs.isEmpty && s.host.held.isEmpty &&
    s.devReset.isNone && s.brcRole != 1

/-- What goes on by itself. -/
def State.goOn (s : State) : State :=
  let s1 := (s.reactAll reactMax).unpark.reactAll reactMax
  let s2 := s1.swapNow
  let s3 := s2.msgPump s2.pack.msgs.length
  let s4 := (s3.hostGo s3.host.held.length).reactAll reactMax
  let s5 := s4.ledgerToTwin
  if s5.devReset.isSome then s5.deviceReset else s5

/-- The state at the end of a command. While PORST_N is low nothing goes on (R571). -/
def State.settle (s : State) : State := if s.porst || s.quiet then s else s.goOn

/-- The outcome of a command: its state with every reaction applied. -/
def done (s : State) : Host.Outcome State Fault Refusal := .next s.settle

/-- A command acts once PORST_N is released (R571): until then nothing in the device moves. -/
def act (s : State) (k : State → State) : Host.Outcome State Fault Refusal := done (if s.porst then s else k s)

/-- A command of a unit: one that the device does not have (`ok` false) is no command of it and changes nothing (log entry 3). -/
def actOn (ok : Bool) (s : State) (k : State → State) : Host.Outcome State Fault Refusal :=
  done (if s.porst || !ok then s else k s)

/-- The HBM controllers without power that a step of an engine would reach; `s1` is the state after that step. -/
def State.slept (s s1 : State) : List Nat :=
  (List.range 4).filter (fun u => !s.domOn (168 + u) && (s1.reactions.drop s.reactions.length).contains (.domWake (168 + u)))

/-- Would a step of an engine send a request to host memory while the link is in L1? `s1` is the state after that step. -/
def State.l1Waits (s s1 : State) : Bool :=
  s.linkL1 && (s1.host.waits.drop s.host.waits.length).any (fun o => match o with | .hostMem _ _ _ _ => true | _ => false)

/-- Have all HBM controllers power, and is the host's link out of L1? -/
def State.memAwake (s : State) : Bool := (List.range 4).all (fun u => s.domOn (168 + u)) && !s.linkL1

/-- A step of an engine, or, where its access meets a controller without power or the host's link in L1, the wait for the wake or the
exit that the access asks for: the engine takes the step after it, and time-out clocks pause while a router holds the request for a
wake (R448, R450, R462, R463, R537, log entry 26). -/
def State.orWaits (s s1 : State) : State :=
  match s.slept s1, s.l1Waits s1 with
  | [], false => s1
  | [], true => s.wakeLink
  | l, _ => { s with reactions := s.reactions ++ l.map (fun u => .domWake (168 + u)),
                     wakeSince := match s.wakeSince with | some w => some w | none => some s.now }

/-- A command that is a step of an engine. -/
def engOn (ok : Bool) (s : State) (k : State → State) : Host.Outcome State Fault Refusal :=
  actOn ok s (fun s => s.orWaits (k s))

end Sys2Proof.Machine
end

