-- ==== Sys2Proof/Machine/Rows.lean ====
section
/-! DEFINITION. What the command rows share: a command acts once PORST_N is released, and a row that is one operation of a
register acts on a write that names the operation (log entry 3). -/

namespace Sys2Proof.Machine

/-- A field of a write's data; 0 where the write does not address it. -/
def wFld (w : RegW) (hi lo : Nat) : Nat := fld (placed w) hi lo

/-- Does a write put 1 into a bit? -/
def wBit (w : RegW) (i : Nat) : Bool := bit (placed w) i

/-- Does a write put 0 into a bit that it addresses? -/
def wZero (w : RegW) (i : Nat) : Bool := bit (sizeMask w.size) i && !bit (placed w) i

/-- A write of the register at offset `o` of page `p` of a block. -/
def wrRow (s : State) (b : PKind) (p o : Nat) (w : RegW) : Host.Outcome State Fault Refusal :=
  done (s.pageRow b p o w (hookOf b p o))

/-- Such a write that is an operation of the register: it acts where `ok`, the write naming the operation (log entry 3). -/
def opRow (ok : Bool) (s : State) (b : PKind) (p o : Nat) (w : RegW) : Host.Outcome State Fault Refusal :=
  if ok then wrRow s b p o w else done s

/-- One pack tick (R8): pack time runs from the release of PORST_N on (R571; log entry 1). -/
def State.tick (s : State) : State := if s.porst then s else { s with now := s.now + 1 }

end Sys2Proof.Machine
end

