-- ==== Sys2Proof/Machine/DmaRows.lean ====
section
/-! DEFINITION. DMA channels (R412 to R422). -/

namespace Sys2Proof.Machine

/-- DMA_DOORBELL (R393, R420). -/
def execDmaDoorbell (ch : Nat) (w : RegW) (s : State) : Host.Outcome State Fault Refusal :=
  wrRow s .dma ch R.dmaProd w

/-- DMA_DESCRIPTOR_BEGIN (R413, R415). -/
def execDmaDescriptorBegin (ch : Nat) (s : State) : Host.Outcome State Fault Refusal :=
  engOn (decide (ch < 32)) s (fun s => s.dmaBegin ch)

/-- An operation of the oldest begun descriptor of a channel (R414); OP 3 is reserved, and the spec gives it no effect
(log entry 21). -/
def dmaRow (op ch : Nat) (s : State) : Host.Outcome State Fault Refusal :=
  if !s.porst && s.dmaOp3 ch then .refused .reservedDescriptor else engOn (decide (ch < 32)) s (fun s => s.dmaOp ch op)

/-- COPY (R414). -/
def execDmaCopy (ch : Nat) (s : State) : Host.Outcome State Fault Refusal := dmaRow 0 ch s

/-- FILL (R414). -/
def execDmaFill (ch : Nat) (s : State) : Host.Outcome State Fault Refusal := dmaRow 1 ch s

/-- PROOF (R414). -/
def execDmaProof (ch : Nat) (s : State) : Host.Outcome State Fault Refusal := dmaRow 2 ch s

/-- DMA_COMPLETE (R416). -/
def execDmaComplete (ch : Nat) (s : State) : Host.Outcome State Fault Refusal :=
  engOn (decide (ch < 32)) s (fun s => s.dmaComplete ch)

/-- DMA_DISABLE: EN = 0 written to DMA_CTL (R420). -/
def execDmaDisable (ch : Nat) (w : RegW) (s : State) : Host.Outcome State Fault Refusal :=
  opRow (wZero w 0) s .dma ch R.dmaCtl w

end Sys2Proof.Machine
end

