-- ==== Sys2Proof/Machine/FaultRows.lean ====
section
/-! DEFINITION. Fault reaction and the ledger (chapter 16). -/

namespace Sys2Proof.Machine

/-- A write of a header register of the page at an offset (R558), which acts where `ok`. -/
def hdrRow (ok : Bool) (page o : Nat) (w : RegW) (s : State) : Host.Outcome State Fault Refusal :=
  match pageOf page with
  | some (b, p) => opRow (ok && hasHeader b p) s b p o w
  | none => done s

/-- REACTION_TIMER_EXPIRE (R517). -/
def execReactionTimerExpire (page : Nat) (s : State) : Host.Outcome State Fault Refusal :=
  act s (fun s => s.timerExpire page)

/-- FAULT_ACK: a write of PG_ERR_STAT (R520). -/
def execFaultAck (page : Nat) (w : RegW) (s : State) : Host.Outcome State Fault Refusal :=
  hdrRow (true) page R.pgErrStat w s

/-- ERR_EN_WRITE: a write of PG_ERR_EN (R516). -/
def execErrEnWrite (page : Nat) (w : RegW) (s : State) : Host.Outcome State Fault Refusal :=
  hdrRow (true) page R.pgErrEn w s

/-- LEVEL_RAISE: RAISE of PG_ERR_LEVEL (R518). -/
def execLevelRaise (page : Nat) (w : RegW) (s : State) : Host.Outcome State Fault Refusal :=
  hdrRow (wFld w 5 4 != 0) page R.pgErrLevel w s

/-- INJECT_ARM: a COUNT of PG_ERR_INJ arms its checker (R522). -/
def execInjectArm (page : Nat) (w : RegW) (s : State) : Host.Outcome State Fault Refusal :=
  hdrRow (wFld w 47 32 != 0) page R.pgErrInj w s

/-- INJECT_FORCE: FORCE of PG_ERR_INJ (R522). -/
def execInjectForce (page : Nat) (w : RegW) (s : State) : Host.Outcome State Fault Refusal :=
  hdrRow (wFld w 52 48 != 0) page R.pgErrInj w s

/-- LEDGER_DRAIN (R531, R532). -/
def execLedgerDrain (s : State) : Host.Outcome State Fault Refusal := engOn true s (fun s => s.ledgerDrain)

/-- LEDG_RING_WRITE (R534). -/
def execLedgRingWrite (w : RegW) (s : State) : Host.Outcome State Fault Refusal := wrRow s .ledg 0 R.ledgRing w

/-- LEDG_CONS_WRITE (R532). -/
def execLedgConsWrite (w : RegW) (s : State) : Host.Outcome State Fault Refusal := wrRow s .ledg 0 R.ledgCons w

end Sys2Proof.Machine
end

