-- ==== Sys2Proof/Machine/Flags.lean ====
section
/-! DEFINITION. The flags of the Shepherd cores: the classes of Table 9.5, the branch conditions of Table 9.6, and the
sticky IEEE 754 flags (R300, R345). -/

namespace Sys2Proof.Machine

/-! ## The PSW (Table 9.2) -/

/-- Put C, V, Z and N. -/
def putFlags (psw : Word) (n z v c : Bool) : Word :=
  setFld psw 3 0 (b2n c + 2 * b2n v + 4 * b2n z + 8 * b2n n)

/-- C. -/
def pswC (psw : Word) : Bool := bit psw 0
/-- V. -/
def pswV (psw : Word) : Bool := bit psw 1
/-- Z. -/
def pswZ (psw : Word) : Bool := bit psw 2
/-- N. -/
def pswN (psw : Word) : Bool := bit psw 3

/-- Sign bit of an operand of `n` bytes. -/
def signOf (n v : Nat) : Bool := v.testBit (8 * n - 1)

/-! ## Flag classes (Table 9.5) -/

/-- Class A: of the sum of `a`, `b` and a carry, `n` bytes each. -/
def flagsA (psw : Word) (n a b cin : Nat) : Word :=
  let r := (a + b + cin) % 2 ^ (8 * n)
  let v := (signOf n a == signOf n b) && (signOf n r != signOf n a)
  putFlags psw (signOf n r) (r == 0) v (decide (2 ^ (8 * n) ≤ a + b + cin))

/-- The difference a − b − c in `n` bytes. -/
def subN (n a b c : Nat) : Nat := (a + 2 * 2 ^ (8 * n) - b - c) % 2 ^ (8 * n)

/-- Class S: of the difference a − b − c. -/
def flagsS (psw : Word) (n a b c : Nat) : Word :=
  let r := subN n a b c
  let v := (signOf n a != signOf n b) && (signOf n r != signOf n a)
  putFlags psw (signOf n r) (r == 0) v (decide (a < b + c))

/-- Class L. -/
def flagsL (psw : Word) (n r : Nat) : Word := putFlags psw (signOf n r) (r == 0) false false

/-- Class M: C stays. -/
def flagsM (psw : Word) (n r : Nat) : Word := putFlags psw (signOf n r) (r == 0) false (pswC psw)

/-- Flags of MUL (Table 9.7): V where the signed product does not fit `n` bytes. -/
def flagsMul (psw : Word) (n a b : Nat) : Word :=
  let p := sgn (8 * n) a * sgn (8 * n) b
  let r := unsgn (8 * n) p
  putFlags psw (signOf n r) (r == 0) (decide (sgn (8 * n) r ≠ p)) false

/-- Flags of the divisions (Table 9.7, Table 10.1). -/
def flagsDiv (psw : Word) (n : Nat) (signed : Bool) (a b r : Nat) : Word :=
  let zero := b == 0
  let edge := signed && a == 2 ^ (8 * n - 1) && b == 2 ^ (8 * n) - 1
  putFlags psw (signOf n r) (r == 0) (zero || edge) zero

/-- Flags of the shifts and rotates (Table 9.7): `out` is the last bit shifted or rotated out. -/
def flagsShift (psw : Word) (n r : Nat) (out : Bool) : Word := putFlags psw (signOf n r) (r == 0) false out

/-- Flags of FCMP (Table 9.7). -/
def flagsFcmp (psw : Word) (lt eq gt un : Bool) : Word := putFlags psw lt eq un gt

/-! ## Branch conditions (Table 9.6) -/

/-- Does a condition hold? -/
def condHolds (psw : Word) (cc : Nat) : Bool :=
  let n := pswN psw
  let z := pswZ psw
  let v := pswV psw
  let c := pswC psw
  match cc with
  | 0 => true | 1 => z | 2 => !z | 3 => n != v | 4 => n == v | 5 => z || n != v | 6 => !z && n == v | 7 => c
  | 8 => !c | 9 => c || z | 10 => !c && !z | 11 => n | 12 => !n | 13 => v | 14 => !v | _ => false

/-! ## IEEE 754 (R300, R345) -/

/-- RMODE and FTZ of a PSW; NaN results follow the Shepherd column of Table 10.2. -/
def pswEnv (psw : Word) : FEnv := { rm := fld psw 15 14, ftz := bit psw 16, pe := false }

/-- FTEN. -/
def pswFten (psw : Word) : Nat := fld psw 13 9

/-- OR flags into FFLAGS. -/
def addFflags (psw : Word) (fl : Nat) : Word := setFld psw 8 4 (fld psw 8 4 ||| fl)

end Sys2Proof.Machine
end

