-- ==== Sys2Proof/Machine/Operands.lean ====
section
/-! DEFINITION. The instructions of the Shepherd cores as encoded (R303 to R306, R352), the operand forms of Table 9.4,
and the accesses of a core to its operands (R307 to R312). -/

namespace Sys2Proof.Machine

/-! ## Operands (R302, R305, Table 9.4) -/

/-- An operand as encoded. A register is named by its nibble: 0 to 7 B0 to B7, 8 to 15 X0 to X7. -/
inductive Opd
  | reg (r : Nat) | ws (off : Nat) | bank (a : Nat) | abs (a : Nat) | disp (r : Nat) (d : Word)
  | index (r x k : Nat) | inc (r : Nat) | dec (r : Nat) | ind (r : Nat) (d : Word) | pcrel (d : Word)
  | imm (v : Word) | vec (r : Nat) | konst (k : Nat)
deriving DecidableEq, Repr

/-- What an instruction does with an operand: a source, a destination or both of so many bytes; an address (LEA); memory
alone (CAS); a branch target; a special-register selector. -/
inductive Role | src (n : Nat) | dst (n : Nat) | rw (n : Nat) | lea | mem (n : Nat) | target | sel
deriving DecidableEq, Repr

/-- Extension bytes of a mode. -/
def extLen (mode : Nat) : Nat :=
  match mode with
  | 1 => 1 | 2 => 2 | 3 => 6 | 4 => 1 | 5 => 2 | 6 => 4 | 7 => 1 | 10 => 1 | 11 => 4 | 12 => 1 | 13 => 2 | 14 => 4
  | 15 => 8 | _ => 0

/-- Sign extension of `n` bytes to 64 bits. -/
def sext (n v : Nat) : Word := BitVec.ofInt 64 (sgn (8 * n) v)

/-- The operand of a specifier byte and its extension. -/
def opdOf (spec : Nat) (ext : List Byte) : Opd :=
  let r := spec % 16
  let e := ofLe ext
  match spec / 16 with
  | 0 => .reg r
  | 1 => .ws (16 * e + r / 8 * 8)
  | 2 => .bank e
  | 3 => .abs e
  | 4 => .disp r (sext 1 e)
  | 5 => .disp r (sext 2 e)
  | 6 => .disp r (sext 4 e)
  | 7 => .index r (8 + e % 8) (e / 16 % 4)
  | 8 => .inc r
  | 9 => .dec r
  | 10 => .ind r (sext 1 e)
  | 11 => .pcrel (sext 4 e)
  | 12 => .imm (sext 1 e)
  | 13 => .imm (sext 2 e)
  | 14 => .imm (sext 4 e)
  | _ => .imm (BitVec.ofNat 64 e)

/-- Are a specifier's register nibble and the zero bits of its extension as Table 9.4 requires? -/
def nibbleOk (spec : Nat) (ext : List Byte) : Bool :=
  let r := spec % 16
  match spec / 16 with
  | 1 => r % 8 == 0
  | 2 | 3 | 11 | 12 | 13 | 14 | 15 => r == 0
  | 7 => decide (r < 8) && (ofLe ext) / 64 == 0 && (ofLe ext) / 8 % 2 == 0
  | _ => true

/-- May a mode stand in a role (R306, R315, R301)? The workspace has no address, so WS stands in no role that needs one. -/
def roleOk (role : Role) (mode : Nat) : Bool :=
  match role with
  | .src _ => true
  | .dst _ | .rw _ => decide (mode < 12)
  | .lea | .mem _ => decide (2 ≤ mode) && decide (mode < 12)
  | .target => decide (mode < 12) && mode != 1
  | .sel => mode == 12

/-! ## The scalar instructions (Table 9.7) -/

/-- The operands of an operation of `n` bytes; none for an operation code that the table does not list. -/
def shRoles (op n : Nat) : Option (List Role) :=
  let bin : List Role := [.src n, .src n, .dst n]
  let un : List Role := [.src n, .dst n]
  match op with
  | 0x01 => some un
  | 0x02 | 0x03 => some [.src n, .dst 8]
  | 0x04 => some [.lea, .dst 8]
  | 0x05 | 0x06 | 0x07 | 0x08 | 0x09 | 0x0A | 0x0B | 0x0C | 0x0D | 0x0E | 0x0F => some bin
  | 0x10 | 0x15 => some un
  | 0x11 | 0x12 | 0x13 | 0x14 | 0x16 | 0x17 | 0x18 | 0x19 | 0x1A => some bin
  | 0x1B | 0x1C => some [.src n, .src n]
  | 0x1D | 0x1E => some [.src n, .dst 8]
  | 0x1F | 0x21 => some [.src 8, .src 4, .dst 8]
  | 0x20 => some [.src 8, .src 4, .rw 8]
  | 0x22 | 0x23 | 0x24 | 0x25 | 0x26 => some [.target]
  | 0x27 => some [.src 2]
  | 0x28 => some [.src 8]
  | 0x29 => some [.src 1]
  | 0x2A => some [.sel, .dst 8]
  | 0x2B => some [.src 8, .sel]
  | 0x2C => some [.rw n, .src n, .mem n]
  | 0x30 | 0x31 | 0x32 | 0x33 | 0x35 | 0x36 => some bin
  | 0x34 => some un
  | 0x37 => some [.src n, .src n]
  | 0x38 => some [.src 8, .dst n]
  | 0x39 => some [.src n, .dst 8]
  | 0x3A => some [.src n, .dst (12 - n)]
  | 0x3B | 0x3C => some bin
  | _ => none

/-- Does an operation's row allow a size field (R304)? For Bcc these bits are the low bits of the condition, of which 15 is
reserved. -/
def shSizeOk (op sz : Nat) : Bool :=
  match op with
  | 0x02 | 0x03 => decide (sz ≤ 2)
  | 0x04 | 0x1F | 0x20 | 0x21 | 0x26 | 0x28 | 0x2A | 0x2B | 0x3B | 0x3C => sz == 3
  | 0x25 => decide (sz ≤ 2)
  | 0x27 => sz == 1
  | 0x29 => sz == 0
  | 0x2C | 0x30 | 0x31 | 0x32 | 0x33 | 0x34 | 0x35 | 0x36 | 0x37 | 0x38 | 0x39 | 0x3A => decide (2 ≤ sz)
  | _ => true

/-! ## The Hatch instructions (R352, Table 10.5) -/

/-- Operand kinds of a Hatch instruction: V, K, S in a role, M (`ws` where WS is allowed). -/
inductive HKind | v | k | s (r : Role) | m (ws : Bool)
deriving DecidableEq, Repr

/-- The operands of a Hatch function with elements of `n` bytes. -/
def hatchKinds (f n : Nat) : Option (List HKind) :=
  match f with
  | 0x00 => some [.s (.src 8), .s (.dst 8)]
  | 0x01 | 0x02 => some [.v, .m true]
  | 0x03 | 0x04 => some [.v, .v, .m false]
  | 0x05 => some [.v, .s (.src n)]
  | 0x06 => some [.s (.dst 8), .v, .k]
  | 0x07 => some [.v, .s (.src n), .k]
  | 0x08 => some [.s (.dst 8)]
  | 0x09 => some [.s (.src 8)]
  | 0x18 | 0x19 => some [.v, .v, .k]
  | 0x10 | 0x11 | 0x12 | 0x13 | 0x14 | 0x15 | 0x16 | 0x17 | 0x1A | 0x1B | 0x1C | 0x1D | 0x20 | 0x21 | 0x22 | 0x24 | 0x25
  | 0x26 | 0x30 | 0x31 | 0x32 | 0x33 | 0x34 => some [.v, .v, .v]
  | _ => none

/-- Does a function's row allow a size? -/
def hatchSizeOk (f sz : Nat) : Bool :=
  if f = 8 ∨ f = 9 then sz == 3 else if 0x30 ≤ f then decide (2 ≤ sz) else true

/-- Are the operands of a Hatch instruction legal among each other (R352, Table 10.5)? -/
def hatchLegal (f n : Nat) (ops : List Opd) : Bool :=
  match f, ops with
  | 0x03, [.vec d, .vec x, _] => d != x
  | 0x06, [_, _, .konst j] => decide (j < 16 / n)
  | 0x07, [_, _, .konst j] => decide (j < 16 / n)
  | 0x18, [_, _, .konst k] => decide (1 ≤ k) && decide (k ≤ 8 * n - 1)
  | 0x19, [_, _, .konst k] => decide (k ≤ 8 * n - 1)
  | _, _ => true

/-! ## Decoding (R303, R304, R316) -/

/-- A decoded instruction: operation, size field, function byte of SYS and Hatch, operands, length, bytes. -/
structure SIns where
  op  : Nat
  sz  : Nat
  fn  : Nat := 0
  ops : List Opd
  len : Nat
  bytes : List Byte := []
deriving DecidableEq, Repr

/-- Operand size in bytes. -/
def SIns.n (i : SIns) : Nat := 2 ^ i.sz

/-- The outcome of decoding the bytes that could be fetched: an instruction; an illegal one, with its length where the bytes
show it; or too few bytes. -/
inductive SDec | ins (i : SIns) | illegal (len : Option Nat) | short
deriving DecidableEq, Repr

/-- The operands of specifier bytes, their extensions in `ext`, and whether each is as its role requires. -/
def parseOps : List Role → List Nat → List Byte → List Opd × Bool
  | role :: rs, sp :: ss, ext =>
    let e := ext.take (extLen (sp / 16))
    let (l, ok) := parseOps rs ss (ext.drop (extLen (sp / 16)))
    (opdOf sp e :: l, ok && nibbleOk sp e && roleOk role (sp / 16))
  | _, _, _ => ([], true)

/-- Decode a scalar instruction after its opcode byte. -/
def decodeScalar (op sz : Nat) (r : List Byte) : SDec :=
  match shRoles op (2 ^ sz) with
  | none => .illegal none
  | some roles =>
    let k := roles.length
    if r.length < k then .short
    else
      let specs := (r.take k).map (fun b => b.toNat)
      let len := 1 + k + specs.foldl (fun n sp => n + extLen (sp / 16)) 0
      if 12 < len then .illegal none
      else if r.length + 1 < len then .short
      else
        let (ops, ok) := parseOps roles specs (r.drop k)
        if ok && shSizeOk op sz then .ins { op := op, sz := sz, ops := ops, len := len } else .illegal (some len)

/-- The operands of a Hatch instruction, each with its extension: the operands, whether they are legal, and their length;
none where bytes are missing. -/
def parseHatch : List HKind → List Byte → Option (List Opd × Bool × Nat)
  | [], _ => some ([], true, 0)
  | _ :: _, [] => none
  | kd :: ks, b :: r =>
    let sp := b.toNat
    let one (o : Opd) (ok : Bool) : Option (List Opd × Bool × Nat) :=
      match parseHatch ks r with
      | some (l, k, n) => some (o :: l, ok && k, n + 1)
      | none => none
    let spec (okMode : Nat → Bool) : Option (List Opd × Bool × Nat) :=
      let k := extLen (sp / 16)
      if r.length < k then none
      else match parseHatch ks (r.drop k) with
        | some (l, g, n) => some (opdOf sp (r.take k) :: l, nibbleOk sp (r.take k) && okMode (sp / 16) && g, n + 1 + k)
        | none => none
    match kd with
    | .v => one (.vec (sp % 32)) (sp / 32 == 0)
    | .k => one (.konst sp) true
    | .s role => spec (roleOk role)
    | .m ws => spec (fun m => decide (m < 12) && m != 0 && (m != 1 || (ws && sp % 16 == 0)))

/-- Decode a Hatch instruction after its opcode byte. -/
def decodeHatch (sz : Nat) : List Byte → SDec
  | [] => .short
  | f :: r =>
    match hatchKinds f.toNat (2 ^ sz) with
    | none => .illegal none
    | some kinds =>
      match parseHatch kinds r with
      | none => .short
      | some (ops, ok, n) =>
        if 12 < n + 2 then .illegal none
        else if ok && hatchSizeOk f.toNat sz && hatchLegal f.toNat (2 ^ sz) ops then
          .ins { op := 0x3E, sz := sz, fn := f.toNat, ops := ops, len := n + 2 }
        else .illegal (some (n + 2))

/-- Decode the bytes at the PC. -/
def decodeShep (bs : List Byte) : SDec :=
  match bs with
  | [] => .short
  | b :: r =>
    let op := b.toNat / 4
    let sz := b.toNat % 4
    if op = 0 then
      if sz ≠ 0 then .illegal (some 2)
      else match r with
        | [] => .short
        | f :: _ => if f.toNat ≤ 7 then .ins { op := 0, sz := 0, fn := f.toNat, ops := [], len := 2 } else .illegal (some 2)
    else if op = 0x3E then decodeHatch sz r
    else decodeScalar op sz r

/-! ## The execution of one instruction -/

/-- Why an instruction does not complete: a trap of class Fault (R321), of which LEN is open where it is none and SUBCAUSE
where it is none; or a wait (R312), in the state given. -/
inductive Stop
  | trap (vec : Vec) (sub : Option Nat) (opnd : Nat) (addr : Nat) (s : State)
  | hatch (sub opnd addr i : Nat) (v : SMap (BitVec 128)) (s : State)
  | wait (s : State)

/-- An instruction in execution: the state of everything else, the core's registers as the instruction has changed them
so far, the logged values used, the next PC, and what follows its completion. -/
structure Cx where
  s    : State
  x    : Shep
  k    : Nat
  npc  : Nat
  post : List (State → State)

/-- Execution of part of an instruction. -/
abbrev SM := StateT Cx (Except Stop)

/-- Take a trap of class Fault. -/
def SM.trap {α : Type} (vec : Vec) (sub opnd addr : Nat) : SM α := fun cx => .error (.trap vec (some sub) opnd addr cx.s)

/-- A trap whose SUBCAUSE the spec leaves open. -/
def SM.trapOpen {α : Type} (vec : Vec) (opnd addr : Nat) : SM α := fun cx => .error (.trap vec none opnd addr cx.s)

/-- The core's registers. -/
def SM.core : SM Shep := fun cx => .ok (cx.x, cx)

/-- Change the core's registers. -/
def SM.upd (g : Shep → Shep) : SM Unit := fun cx => .ok ((), { cx with x := g cx.x })

/-- Something that follows the completion. -/
def SM.after (g : State → State) : SM Unit := fun cx => .ok ((), { cx with post := cx.post ++ [g] })

/-- The origin of a core (Table 16.9). -/
def coreOrigin (c : Nat) : Origin := BitVec.ofNat 16 (0x1000 + c)

/-- The access of `n` bytes that an aligned control-window address makes (R13). -/
def ctlPart (a n : Nat) : AccSize := if n = 8 then .d64 else if a % 8 = 0 then .lo32 else .hi32

/-- Does an access of an origin to the control window have to wait for a wake (R450)? -/
def State.ctlWaits (s : State) (o : Origin) (off : Nat) : Option Nat :=
  match pageOf off with | some (b, p) => s.parks o b p (off % 0x1000) | none => none

/-- The checks of R308 on a memory operand before its access, in the order of R322: alignment, then size and mode; then the wait for
a unit that cannot answer yet (R312, R450, R537). -/
def SM.check (opnd a n : Nat) : SM Unit := fun cx =>
  if a % n ≠ 0 then .error (.trap .align (some 0) opnd a cx.s)
  else match region a with
    | .control =>
      if !cx.x.priv then .error (.trap .access (some 2) opnd a cx.s)
      else if n < 4 then .error (.trap .access (some 3) opnd a cx.s)
      else if (pageOf (ctrlOff a)).isNone then .error (.trap .access (some 0) opnd a cx.s)
      else match cx.s.ctlWaits 0x1000 (ctrlOff a) with
        | some d => .error (.wait (cx.s.askWake d))
        | none => .ok ((), cx)
    | .unmapped => .error (.trap .access (some 0) opnd a cx.s)
    | r =>
      if r == .host && !cx.x.priv then .error (.trap .access (some 2) opnd a cx.s)
      else match cx.s.memWaits a with
        | some s1 => .error (.wait s1)
        | none => .ok ((), cx)

/-- The trap that an error response becomes (R308). -/
def SM.status {α : Type} (st : Status) (opnd a : Nat) : SM α := fun cx =>
  match st with
  | .data => .error (.trap .data (some 0) opnd a cx.s)
  | .isolated => .error (.trap .access (some 1) opnd a cx.s)
  | _ => .error (.trap .access (some 0) opnd a cx.s)

/-- The instruction waits (R312). -/
def SM.waits {α : Type} (s : State) : SM α := fun _ => .error (.wait s)

/-- What memory answers to a read of `n` bytes for operand `opnd` (R308). -/
def SM.fetch (c opnd a n : Nat) : SM Nat := do
  SM.check opnd a n
  let cx ← get
  match region a with
  | .control => do
    let r := cx.s.controlRead (ctrlOff a) ⟨coreOrigin c, ctlPart a n⟩
    set { cx with s := r.2.2 }
    pure (r.2.1.getD 0).toNat
  | .sem _ =>
    match cx.s.semAccess a n false (coreOrigin c) (cx.s.reqPrio c) (.core c) with
    | (.value v, s1) => do set { cx with s := s1 }; pure v.toNat
    | (.error st, s1) => do set { cx with s := s1 }; SM.status (winStatus st) opnd a
    | (_, s1) => SM.waits (s1.updCore c (fun x => { x with held := true }))
  | .rom =>
    if cx.s.romOk (coreOrigin c) then pure (ofLe ((List.range n).map (fun i => Config.romByte (a % 0x10000 + i))))
    else SM.trap .access 0 opnd a
  | _ =>
    match cx.s.memRead a n with
    | (.ok, bs, s1) => do set { cx with s := s1 }; pure (ofLe bs)
    | (st, _, s1) => do set { cx with s := s1 }; SM.status st opnd a

/-- Read `n` bytes of memory for operand `opnd`, once however often the instruction begins again (R312, R355): the value it has
logged, or what memory answers. -/
def SM.read (c opnd a n : Nat) : SM Nat := fun cx =>
  match (cx.s.core c).log[cx.k]? with
  | some v => .ok (v.toNat, { cx with k := cx.k + 1 })
  | none =>
    match SM.fetch c opnd a n cx with
    | .ok (v, cx1) =>
      .ok (v, { cx1 with s := cx1.s.updCore c (fun x => { x with log := x.log ++ [BitVec.ofNat 64 v] }), k := cx1.k + 1 })
    | .error e => .error e

/-- Check that `n` bytes may be written for operand `opnd`, before anything is written (R307, R322). -/
def SM.mayWrite (c opnd a n : Nat) : SM Unit := do
  SM.check opnd a n
  let cx ← get
  match region a with
  | .control => pure ()
  | .sem _ =>
    match cx.s.semAccess a n true (coreOrigin c) (cx.s.reqPrio c) (.core c) with
    | (.error st, s1) => do set { cx with s := s1 }; SM.status (winStatus st) opnd a
    | _ => pure ()
  | .rom => SM.trap .access 0 opnd a
  | _ =>
    match cx.s.engineStatus a n true with
    | .ok => pure ()
    | st => do set { cx with s := cx.s.refused a n true st }; SM.status st opnd a

/-- Write `n` bytes that may be written. -/
def State.coreWrite (s : State) (c a n v : Nat) : State :=
  match region a with
  | .control => (s.controlWrite (ctrlOff a) ⟨coreOrigin c, ctlPart a n, BitVec.ofNat 64 v⟩).2
  | .sem _ => (s.semAccess a n true (coreOrigin c) (s.reqPrio c) (.core c)).2
  | _ => (s.memWrite a (leBytes n v)).2

/-! ## Operand values -/

/-- Where an operand lies once its specifier has been evaluated. -/
inductive Loc | reg (r : Nat) | ws (off : Nat) | mem (a : Nat) | imm (v : Word)
deriving DecidableEq, Repr

/-- A byte of the workspace; one that nothing has written since the reset is unspecified (R302). -/
def Shep.wsByte (x : Shep) (i : Nat) : Byte :=
  match x.ws.find? (fun e => e.1 == i) with
  | some e => e.2
  | none => BitVec.ofNat 8 (Config.freeReset x.wsSeed i).toNat

/-- Write bytes of the workspace. -/
def Shep.setWs (x : Shep) (i : Nat) : List Byte → Shep
  | [] => x
  | b :: r => { x with ws := SMap.ins (SMap.drop x.ws i) i b }.setWs (i + 1) r

/-- Evaluate the specifier of an operand of `n` bytes, with its register update (R305, R307). Address arithmetic is modulo
2^48. `upd` is the amount of an AUTOINC or AUTODEC. -/
def SM.loc (c opnd upd : Nat) (o : Opd) : SM Loc := do
  let cx ← get
  let m := 2 ^ 48
  let r (i : Nat) : Word := cx.x.r i
  match o with
  | .reg i => pure (.reg i)
  | .ws off => pure (.ws off)
  | .bank a => pure (.mem (cx.x.bk.toNat * 2 ^ 16 + a))
  | .abs a => pure (.mem a)
  | .disp i d => pure (.mem ((r i + d).toNat % m))
  | .index i j k => pure (.mem ((r i + (r j <<< k)).toNat % m))
  | .inc i => do
    SM.upd (fun x => x.setR i (r i + BitVec.ofNat 64 upd))
    pure (.mem ((r i).toNat % m))
  | .dec i => do
    SM.upd (fun x => x.setR i (r i - BitVec.ofNat 64 upd))
    pure (.mem ((r i - BitVec.ofNat 64 upd).toNat % m))
  | .ind i d => do
    let v ← SM.read c opnd ((r i + d).toNat % m) 8
    pure (.mem (v % m))
  | .pcrel d => pure (.mem ((BitVec.ofNat 64 cx.npc + d).toNat % m))
  | .imm v => pure (.imm v)
  | .vec _ => pure (.imm 0)
  | .konst k => pure (.imm (BitVec.ofNat 64 k))

/-- Read `n` bytes from where an operand lies. -/
def SM.get (c opnd n : Nat) (l : Loc) : SM Nat := do
  let x ← SM.core
  match l with
  | .reg r => pure ((x.r r).toNat % 2 ^ (8 * n))
  | .ws off => pure (ofLe ((List.range n).map (fun i => x.wsByte (off + i))))
  | .mem a => SM.read c opnd a n
  | .imm v => pure (v.toNat % 2 ^ (8 * n))

/-- The value of source operand `opnd`. -/
def SM.src (c opnd n : Nat) (o : Opd) : SM Nat := do
  let l ← SM.loc c opnd n o
  SM.get c opnd n l

/-- Evaluate destination operand `opnd` of `n` bytes. -/
def SM.dst (c opnd n : Nat) (o : Opd) : SM Loc := do
  let l ← SM.loc c opnd n o
  match l with
  | .mem a => do SM.mayWrite c opnd a n; pure l
  | _ => pure l

/-- Write a result: the low `n` bytes of a register, the rest clear (R305); memory once the instruction has completed. -/
def SM.put (c n : Nat) (l : Loc) (v : Nat) : SM Unit :=
  match l with
  | .reg r => SM.upd (fun x => x.setR r (BitVec.ofNat 64 (v % 2 ^ (8 * n))))
  | .ws off => SM.upd (fun x => x.setWs off (leBytes n v))
  | .mem a => SM.after (fun s => s.coreWrite c a n (v % 2 ^ (8 * n)))
  | .imm _ => pure ()

/-- Set the PSW's flags. -/
def SM.flags (g : Word → Word) : SM Unit := SM.upd (fun x => { x with psw := g x.psw })

/-- The operand at a position. -/
def SIns.opd (i : SIns) (k : Nat) : Opd := i.ops.getD k (.imm 0)

end Sys2Proof.Machine
end

