-- ==== Sys2Proof/Machine/Shepherd.lean ====
section
/-! DEFINITION. The scalar instructions of the Shepherd cores (Tables 9.7, 9.8): fetch, execution and completion of one
instruction, and each row's meaning. A row executes the instruction at the PC of its core where it is one of the row's, and
changes nothing otherwise (log entry 3). -/

namespace Sys2Proof.Machine

/-! ## Fetch (R303, R309) -/

/-- The byte of an instruction at an address, or the trap that its fetch meets: vector and SUBCAUSE, which is open for
regions that hold no code. -/
def State.fetchByte (s : State) (c a : Nat) : Except (Vec × Option Nat) Byte :=
  match region a with
  | .hbm => match (SMap.get [] (s.core c).icache (a / 64))[a % 64]? with
    | some b => .ok b
    | none => ofStatus (s.access a 1 false)
  | .shep => if (s.core c).fbad then .error (.data, some 0) else ofStatus (s.access a 1 false)
  | .control | .host => .error (.access, if (s.core c).priv then none else some 2)
  | .sem _ => .error (.access, some 1)
  | _ => .error (.access, some 0)
where
  /-- What memory answers. -/
  ofStatus : Status → Except (Vec × Option Nat) Byte
    | .ok => .ok (s.byte a)
    | .data => .error (.data, some 0)
    | .isolated => .error (.access, some 1)
    | .address => .error (.access, some 0)

/-- A core's instruction cache at a line of HBM from which it fetches (R309). A line that the cache does not hold is read, which
reaches its controller (R462). A line that it holds and that memory no longer agrees with is stale, or read anew where the cache
has dropped it meanwhile: which, the spec leaves open (log entry 63). -/
def State.icLine (s : State) (c n : Nat) : State :=
  if region (64 * n) ≠ .hbm then s
  else
    let st := s.access (64 * n) 64 false
    let now := (List.range 64).map (fun i => s.byte (64 * n + i))
    let held := SMap.get [] (s.core c).icache n
    let fill (s : State) : State := ((s.visit (64 * n) st 64).checkMem (64 * n) 64 false).updCore c (fun x =>
      { x with icache := SMap.set [] x.icache n (if st = .ok then now else []) })
    if held = [] then fill s
    else if held = now ∧ st = .ok then s
    else
      let (b, s1) := s.drawBit
      if b then fill s1 else s1

/-- Core `c` fetches at its PC: from HBM through its instruction cache; from the Shepherd store, whose checker sees the words (R522);
a semaphore window refuses it (R309, R400). -/
def State.seen (s : State) (c : Nat) : State :=
  let a := (s.core c).pc.toNat
  match region a with
  | .hbm => if (a + 11) / 64 = a / 64 then s.icLine c (a / 64) else (s.icLine c (a / 64)).icLine c (a / 64 + 1)
  | .sem _ => s.visit a .ok
  | .shep =>
    if s.memArmed 4 || (s.core c).fbad then (s.updCore c (fun x => { x with fbad := s.sramStops a 12 false })).checkMem a 12 false else s
  | _ => s

/-- The state in which core `c` waits with the fetch at its PC: a line that its cache does not hold lies behind a controller without
power (R309, R462). -/
def State.fetchWaits (s : State) (c : Nat) : Option State :=
  let a := (s.core c).pc.toNat
  [a / 64, (a + 11) / 64].findSome? (fun n =>
    if region (64 * n) = .hbm ∧ SMap.get [] (s.core c).icache n = [] then s.memWaits (64 * n) else none)

/-- Up to `n` bytes from an address, and the trap that stopped the fetch, if one did. -/
def State.fetchBytes (s : State) (c a : Nat) : Nat → List Byte × Option (Vec × Option Nat)
  | 0 => ([], none)
  | n + 1 =>
    match s.fetchByte c (a % 2 ^ 48) with
    | .ok b => let (l, f) := s.fetchBytes c (a + 1) n; (b :: l, f)
    | .error e => ([], some e)

/-! ## Completion and traps (R321 to R324) -/

/-- Take a trap of class Fault at the PC; LEN, and the bytes of INSN that could not be fetched, are open where they are not
known. -/
def State.shTrap (s : State) (c : Nat) (vec : Vec) (sub : Option Nat) (opnd addr : Nat) (len : Option Nat) (bs : List Byte) :
    State :=
  let (l, s1) := match len with
    | some n => (n, s)
    | none => let (w, s1) := s.draw; (fld w 3 0, s1)
  let (u, s2) := match sub with
    | some n => (n, s1)
    | none => let (w, s2) := s1.draw; (fld w 7 0, s2)
  let (f, s3) := if bs.length < min 8 l then s2.draw else ((0 : Word), s2)
  let byte (i : Nat) : Byte := if i < l then (bs[i]?).getD (BitVec.ofNat 8 (fld f (8 * i + 7) (8 * i))) else 0
  s3.takeTrap c { vec := vec, sub := u, opnd := opnd, len := l, addr := BitVec.ofNat 64 addr,
                  insn := BitVec.ofNat 64 (ofLe ((List.range 8).map byte)) } (s.core c).pc

/-- HATCH_FAULT_INDEX (Table 10.4). -/
def hfiOf (pc : BitVec 48) (valid : Bool) (i : Nat) : Word :=
  BitVec.ofNat 64 (i % 32 + b2n valid * 32 + pc.toNat * 2 ^ 16)

/-- An instruction completes: its registers hold, it retires, and what follows it happens. -/
def Cx.commit (cx : Cx) (c : Nat) (hatch : Bool) : State :=
  let y := cx.x
  let s1 := (cx.s.retire c 0).updCore c (fun x => { x with
    gpr := y.gpr, bk := y.bk, psw := y.psw, vl := y.vl, tbr := y.tbr, ksp := y.ksp, v := y.v, hfi := y.hfi, ws := y.ws,
    pc := BitVec.ofNat 48 cx.npc, hatchUse := if hatch then x.icount else x.hatchUse })
  let s2 := cx.post.foldl (fun (s : State) (g : State → State) => g s) s1
  let z := s2.core c
  if z.wdTrap && z.st == 1 && !z.stall && s2.domOn (152 + c) then s2.wdTrapNow c else s2

/-- Is the instruction a supervisor one, or does it name a register that user mode may not reach so (R301, Table 9.8)? -/
def SIns.supervisor (i : SIns) : Bool :=
  let sel (k : Nat) : Nat := match i.opd k with | .imm v => fld v 7 0 | _ => 255
  (i.op == 0 && (i.fn == 2 || i.fn == 5 || i.fn == 7)) || (i.op == 0x2A && (sel 0 == 3 || sel 0 == 4)) ||
    (i.op == 0x2B && (sel 1 == 3 || sel 1 == 4 || sel 1 == 6))

/-- Does an instruction name a listed selector (R301)? -/
def SIns.selOk (i : SIns) : Bool :=
  let sel (k : Nat) : Nat := match i.opd k with | .imm v => fld v 7 0 | _ => 255
  if i.op = 0x2A then decide (sel 0 ≤ 9) else if i.op = 0x2B then decide (sel 1 ≤ 9) else true

/-- May core `c` execute an instruction: in RUN, powered, not held by a read or a doorbell, and not in the boot ROM, whose
steps are rows of their own? -/
def State.coreReady (s : State) (c : Nat) : Bool :=
  let x := s.core c
  !s.porst && decide (c < 16) && s.domOn (152 + c) && x.st == 1 && !x.held && !x.stall &&
    !(region x.pc.toNat == .rom && s.romOk (coreOrigin c))

/-- Execute a decoded instruction. -/
def State.shExec (s : State) (c : Nat) (i : SIns) (bs : List Byte) (body : SIns → SM Unit) : State :=
  let x := s.core c
  match body i { s := s, x := x, k := 0, npc := (x.pc.toNat + i.len) % 2 ^ 48, post := [] } with
  | .ok ((), cx) => cx.commit c (i.op == 0x3E)
  | .error (.trap vec sub opnd addr s1) => s1.shTrap c vec sub opnd addr (some i.len) bs
  | .error (.hatch sub opnd addr k v s1) =>
    (s1.updCore c (fun y => { y with v := v, hfi := hfiOf x.pc true k })).shTrap c .hatch (some sub) opnd addr (some i.len) bs
  | .error (.wait s1) => if (s1.core c).st = 1 then s1.updCore c (fun y => { y with mid := true }) else s1

/-- Execute the instruction at the PC of core `c`, where its opcode byte and second byte are of the row; `lost` is the row
that takes a fetch fault of the opcode byte. A Hatch instruction first waits for its unit to wake (R358). -/
def State.shRun (s : State) (c : Nat) (row : Nat → Nat → Bool) (lost : Bool) (body : SIns → SM Unit) : State :=
  let x := s.core c
  if !s.coreReady c then s
  else if x.wdTrap && x.hatchReq.isNone && !x.mid then s.wdTrapNow c
  else match s.fetchWaits c with
  | some s1 => s1
  | none =>
    let s0 := s.seen c
    let (bs, flt) := s0.fetchBytes c x.pc.toNat 12
    let miss (s : State) : State := match flt with
      | some (v, u) => s.shTrap c v u 15 ((x.pc.toNat + bs.length) % 2 ^ 48) none bs
      | none => s.shTrap c .illegal (some 0) 15 0 none bs
    match bs with
    | [] => if lost then miss s0 else s
    | b :: r =>
      if !row b.toNat ((r.head?.getD 0).toNat) then s
      else if b.toNat / 4 = 0x3E ∧ !x.hatch then
        (match x.hatchReq with
         | some _ => s
         | none => s0.updCore c (fun x => { x with hatchReq := some s.now }))
      else match decodeShep bs with
        | .short => miss s0
        | .illegal len => s0.shTrap c .illegal (some 0) 15 0 len bs
        | .ins i =>
          if !i.selOk then s0.shTrap c .illegal (some 0) 15 0 (some i.len) bs
          else if i.supervisor && !x.priv then s0.shTrap c .privilege (some 0) 15 0 (some i.len) bs
          else s0.shExec c { i with bytes := bs.take i.len } bs body

/-- The row of a range of operation codes. -/
def rowOps (lo hi : Nat) (b _ : Nat) : Bool := decide (lo ≤ b / 4) && decide (b / 4 ≤ hi)

/-- A scalar row. -/
def State.shOp (s : State) (c lo hi : Nat) (body : SIns → SM Unit) : State := s.shRun c (rowOps lo hi) false body

/-! ## Shapes -/

/-- Two sources and a destination of the instruction's size: result, and the PSW with its flags. -/
def binary (c : Nat) (g : SIns → Word → Nat → Nat → Nat × Word) (i : SIns) : SM Unit := do
  let a ← SM.src c 0 i.n (i.opd 0)
  let b ← SM.src c 1 i.n (i.opd 1)
  let d ← SM.dst c 2 i.n (i.opd 2)
  let x ← SM.core
  let (r, p) := g i x.psw a b
  SM.flags (fun _ => p)
  SM.put c i.n d r

/-- A source of `m` bytes and a destination of `k` bytes. -/
def unary (c m k : Nat) (g : SIns → Word → Nat → Nat × Word) (i : SIns) : SM Unit := do
  let a ← SM.src c 0 m (i.opd 0)
  let d ← SM.dst c 1 k (i.opd 1)
  let x ← SM.core
  let (r, p) := g i x.psw a
  SM.flags (fun _ => p)
  SM.put c k d r

/-- Deliver an IEEE 754 result: vector FP where a raised flag is enabled, else FFLAGS collects the flags (R345). -/
def fpPut (c n : Nat) (d : Loc) (r : Nat × Nat) : SM Unit := do
  let x ← SM.core
  if r.2 &&& pswFten x.psw ≠ 0 then SM.trap .fp r.2 15 0
  else do
    SM.flags (fun p => addFflags p r.2)
    SM.put c n d r.1

/-- The format of an operand size: binary32 for W, binary64 for D. -/
def fmtOf (n : Nat) : Fmt := if n = 4 then f32 else f64

/-- An IEEE 754 operation of two operands. -/
def fpBinary (c : Nat) (g : SIns → Fmt → FEnv → Nat → Nat → Nat × Nat) (i : SIns) : SM Unit := do
  let a ← SM.src c 0 i.n (i.opd 0)
  let b ← SM.src c 1 i.n (i.opd 1)
  let d ← SM.dst c 2 i.n (i.opd 2)
  let x ← SM.core
  fpPut c i.n d (g i (fmtOf i.n) (pswEnv x.psw) a b)

/-- An IEEE 754 operation of one operand of `m` bytes with a result of `k` bytes. -/
def fpUnary (c m k : Nat) (g : SIns → FEnv → Nat → Nat × Nat) (i : SIns) : SM Unit := do
  let a ← SM.src c 0 m (i.opd 0)
  let d ← SM.dst c 1 k (i.opd 1)
  let x ← SM.core
  fpPut c k d (g i (pswEnv x.psw) a)

/-! ## Moves (Table 9.7) -/

/-- MOV. The row also takes the ILLEGAL traps of operation codes that Table 9.7 does not list, and faults of a fetch. -/
def execShMov (c : Nat) (s : State) : Host.Outcome State Fault Refusal :=
  done (s.shRun c (fun b _ => b / 4 == 1 || (b / 4 != 0 && b / 4 != 0x3E && (shRoles (b / 4) 1).isNone)) true (fun i =>
    unary c i.n i.n (fun i p a => (a, flagsM p i.n a)) i))

/-- MOVZ, MOVS. -/
def execShMovzMovs (c : Nat) (s : State) : Host.Outcome State Fault Refusal :=
  done (s.shOp c 2 3 (fun i => unary c i.n 8 (fun i p a =>
    let r := if i.op = 2 then a else (sext i.n a).toNat
    (r, flagsM p 8 r)) i))

/-- LEA. -/
def execShLea (c : Nat) (s : State) : Host.Outcome State Fault Refusal :=
  done (s.shOp c 4 4 (fun i => do
    let l ← SM.loc c 0 8 (i.opd 0)
    let d ← SM.dst c 1 8 (i.opd 1)
    match l with
    | .mem a => SM.put c 8 d a
    | _ => pure ()))

/-! ## Integers -/

/-- ADD, SUB. -/
def execShAddSub (c : Nat) (s : State) : Host.Outcome State Fault Refusal :=
  done (s.shOp c 5 6 (binary c (fun i p a b =>
    if i.op = 5 then ((a + b) % 2 ^ (8 * i.n), flagsA p i.n a b 0) else (subN i.n a b 0, flagsS p i.n a b 0))))

/-- ADC, SBC. -/
def execShAdcSbc (c : Nat) (s : State) : Host.Outcome State Fault Refusal :=
  done (s.shOp c 7 8 (binary c (fun i p a b =>
    let k := b2n (pswC p)
    if i.op = 7 then ((a + b + k) % 2 ^ (8 * i.n), flagsA p i.n a b k) else (subN i.n a b k, flagsS p i.n a b k))))

/-- MUL. -/
def execShMul (c : Nat) (s : State) : Host.Outcome State Fault Refusal :=
  done (s.shOp c 9 9 (binary c (fun i p a b => (a * b % 2 ^ (8 * i.n), flagsMul p i.n a b))))

/-- MULHS, MULHU. -/
def execShMulhsMulhu (c : Nat) (s : State) : Host.Outcome State Fault Refusal :=
  done (s.shOp c 0x0A 0x0B (binary c (fun i p a b =>
    let r := mulHigh (8 * i.n) (i.op == 0x0A) a b
    (r, flagsL p i.n r))))

/-- DIVS, DIVU, REMS, REMU. -/
def execShDivsDivuRemsRemu (c : Nat) (s : State) : Host.Outcome State Fault Refusal :=
  done (s.shOp c 0x0C 0x0F (binary c (fun i p a b =>
    let signed := i.op == 0x0C || i.op == 0x0E
    let q := divRem (8 * i.n) signed a b
    let r := if i.op ≤ 0x0D then q.1 else q.2
    (r, flagsDiv p i.n signed a b r))))

/-- NEG. -/
def execShNeg (c : Nat) (s : State) : Host.Outcome State Fault Refusal :=
  done (s.shOp c 0x10 0x10 (fun i => unary c i.n i.n (fun i p a => (subN i.n 0 a 0, flagsS p i.n 0 a 0)) i))

/-- AND, OR, XOR, ANDN. -/
def execShAndOrXorAndn (c : Nat) (s : State) : Host.Outcome State Fault Refusal :=
  done (s.shOp c 0x11 0x14 (binary c (fun i p a b =>
    let r := if i.op = 0x11 then a &&& b else if i.op = 0x12 then a ||| b else if i.op = 0x13 then a ^^^ b
      else a &&& (2 ^ (8 * i.n) - 1 - b)
    (r, flagsL p i.n r))))

/-- NOT. -/
def execShNot (c : Nat) (s : State) : Host.Outcome State Fault Refusal :=
  done (s.shOp c 0x15 0x15 (fun i => unary c i.n i.n (fun i p a =>
    (2 ^ (8 * i.n) - 1 - a, flagsL p i.n (2 ^ (8 * i.n) - 1 - a))) i))

/-- The shifts and rotates of an operand of `w` bits by `k`, with the last bit shifted or rotated out. -/
def shiftOp (op w a k : Nat) : Nat × Bool :=
  let left := op == 0x16 || op == 0x19
  let out := k != 0 && a.testBit (if left then w - k else k - 1)
  (match op with
    | 0x16 => a * 2 ^ k % 2 ^ w
    | 0x17 => a / 2 ^ k
    | 0x18 => unsgn w (sgn w a / (2 ^ k : Nat))
    | 0x19 => (a * 2 ^ k + a / 2 ^ (w - k)) % 2 ^ w
    | _ => (a / 2 ^ k + a * 2 ^ (w - k)) % 2 ^ w, out)

/-- SHL, SHR, SAR, ROL, ROR. -/
def execShShlShrSarRolRor (c : Nat) (s : State) : Host.Outcome State Fault Refusal :=
  done (s.shOp c 0x16 0x1A (binary c (fun i p a b =>
    let r := shiftOp i.op (8 * i.n) a (b % (8 * i.n))
    (r.1, flagsShift p i.n r.1 r.2))))

/-- CMP. -/
def execShCmp (c : Nat) (s : State) : Host.Outcome State Fault Refusal :=
  done (s.shOp c 0x1B 0x1B (fun i => do
    let a ← SM.src c 0 i.n (i.opd 0)
    let b ← SM.src c 1 i.n (i.opd 1)
    SM.flags (fun p => flagsS p i.n a b 0)))

/-- TST. -/
def execShTst (c : Nat) (s : State) : Host.Outcome State Fault Refusal :=
  done (s.shOp c 0x1C 0x1C (fun i => do
    let a ← SM.src c 0 i.n (i.opd 0)
    let b ← SM.src c 1 i.n (i.opd 1)
    SM.flags (fun p => flagsL p i.n (a &&& b))))

/-- CLZ, POPC. -/
def execShClzPopc (c : Nat) (s : State) : Host.Outcome State Fault Refusal :=
  done (s.shOp c 0x1D 0x1E (fun i => unary c i.n 8 (fun i p a =>
    let r := if i.op = 0x1D then clz (8 * i.n) a else popc (8 * i.n) a
    (r, flagsL p 8 r)) i))

/-- The field operand of BFEXT and BFINS: position and width; a width outside 1 to 64 is ILLEGAL. -/
def SM.fieldOpd (c : Nat) (o : Opd) : SM (Nat × Nat) := do
  let f ← SM.src c 1 4 o
  let w := f / 64 % 128
  if w = 0 ∨ 64 < w then SM.trap .illegal 0 15 0 else pure (f % 64, w)

/-- BFEXT. -/
def execShBfext (c : Nat) (s : State) : Host.Outcome State Fault Refusal :=
  done (s.shOp c 0x1F 0x1F (fun i => do
    let a ← SM.src c 0 8 (i.opd 0)
    let (p, w) ← SM.fieldOpd c (i.opd 1)
    let d ← SM.dst c 2 8 (i.opd 2)
    let r := a / 2 ^ p % 2 ^ w
    SM.flags (fun q => flagsL q 8 r)
    SM.put c 8 d r))

/-- BFINS. -/
def execShBfins (c : Nat) (s : State) : Host.Outcome State Fault Refusal :=
  done (s.shOp c 0x20 0x20 (fun i => do
    let a ← SM.src c 0 8 (i.opd 0)
    let (p, w) ← SM.fieldOpd c (i.opd 1)
    let d ← SM.loc c 2 8 (i.opd 2)
    let old ← SM.get c 2 8 d
    match d with | .mem x => SM.mayWrite c 2 x 8 | _ => pure ()
    let m := (2 ^ w - 1) * 2 ^ p % 2 ^ 64
    let r := (old &&& (2 ^ 64 - 1 - m)) ||| (a * 2 ^ p % 2 ^ 64 &&& m)
    SM.flags (fun q => flagsL q 8 r)
    SM.put c 8 d r))

/-- Byte permutation (Table 9.7). -/
def bperm (s p : Nat) : Nat :=
  ofLe ((List.range 8).map (fun i =>
    let k := p / 16 ^ i % 16
    if 8 ≤ k then 0 else BitVec.ofNat 8 (s / 256 ^ k)))

/-- BPERM. -/
def execShBperm (c : Nat) (s : State) : Host.Outcome State Fault Refusal :=
  done (s.shOp c 0x21 0x21 (fun i => do
    let a ← SM.src c 0 8 (i.opd 0)
    let p ← SM.src c 1 4 (i.opd 1)
    let d ← SM.dst c 2 8 (i.opd 2)
    SM.flags (fun q => flagsL q 8 (bperm a p))
    SM.put c 8 d (bperm a p)))

/-! ## Control flow (R315) -/

/-- A target: the operand's address, or a register's bits [47:0]. -/
def SM.targetOf (c upd : Nat) (o : Opd) : SM Nat := do
  let l ← SM.loc c 0 upd o
  let x ← SM.core
  match l with
  | .reg r => pure ((x.r r).toNat % 2 ^ 48)
  | .mem a => pure a
  | _ => pure 0

/-- Draw a free value. -/
def SM.draw : SM Word := fun cx => let (w, s1) := cx.s.draw; .ok (w, { cx with s := s1 })

/-- Does an operand update its register? -/
def Opd.updates : Opd → Bool
  | .inc _ | .dec _ => true
  | _ => false

/-- Bcc. The amount of an AUTOINC or AUTODEC is open, as a branch names no operand size. A branch not taken evaluates the
specifier and reads no memory. -/
def execShBcc (c : Nat) (s : State) : Host.Outcome State Fault Refusal :=
  done (s.shOp c 0x22 0x25 (fun i => do
    let o := i.opd 0
    let u ← if o.updates then SM.draw else pure 0
    let x ← SM.core
    if condHolds x.psw (4 * (i.op - 0x22) + i.sz) then do
      let t ← SM.targetOf c u.toNat o
      fun cx => .ok ((), { cx with npc := t })
    else if o.updates then do
      let _ ← SM.loc c 0 u.toNat o
      pure ()
    else pure ()))

/-- CALL. -/
def execShCall (c : Nat) (s : State) : Host.Outcome State Fault Refusal :=
  done (s.shOp c 0x26 0x26 (fun i => do
    let t ← SM.targetOf c 8 (i.opd 0)
    let x ← SM.core
    let sp := x.r 7 - 8
    let a := sp.toNat % 2 ^ 48
    SM.mayWrite c 15 a 8
    let cx ← get
    SM.upd (fun x => x.setR 7 sp)
    SM.after (fun s => s.coreWrite c a 8 cx.npc)
    fun cx => .ok ((), { cx with npc := t })))

/-- SIGNAL (R319). -/
def execShSignal (c : Nat) (s : State) : Host.Outcome State Fault Refusal :=
  done (s.shOp c 0x27 0x27 (fun i => do
    let m ← SM.src c 0 2 (i.opd 0)
    SM.after (fun s => (List.range 16).foldl (fun s k => if m.testBit k then s.signal k else s) s)))

/-- WAITT (R320): it completes at once where the time has passed, or where `ended` says that the wait has ended. -/
def waittBody (c : Nat) (ended : Bool) (i : SIns) : SM Unit := do
  let t ← SM.src c 0 8 (i.opd 0)
  fun cx => if ended || decide (t ≤ cx.s.now.toNat) then .ok ((), cx)
    else .error (.wait ((cx.s.updCore c (fun x => { x with waitt := BitVec.ofNat 64 t })).setSt c 3))

/-- WAITT. -/
def execShWaitt (c : Nat) (s : State) : Host.Outcome State Fault Refusal :=
  done (s.shOp c 0x28 0x28 (waittBody c false))

/-- WAITT_EXPIRE: the time that a WAITT awaits has come, and it completes (R320). -/
def execWaittExpire (c : Nat) (s : State) : Host.Outcome State Fault Refusal :=
  act s (fun s => if (s.core c).st = 3 ∧ (s.core c).waitt.toNat ≤ s.now.toNat ∧ !(s.core c).wdTrap then
      (s.setSt c 1).shOp c 0x28 0x28 (waittBody c true)
    else s)

/-- A trap of class After: taken once the instruction has completed (R321). -/
def SM.trapAfter (c : Nat) (vec : Vec) (sub : Nat) (i : SIns) : SM Unit :=
  SM.after (fun s => s.takeTrap c { vec := vec, sub := sub, len := i.len, insn := BitVec.ofNat 64 (ofLe (i.bytes.take 8)) }
    (s.core c).pc)

/-- TRAP. -/
def execShTrap (c : Nat) (s : State) : Host.Outcome State Fault Refusal :=
  done (s.shOp c 0x29 0x29 (fun i => do
    let k ← SM.src c 0 1 (i.opd 0)
    SM.trapAfter c .trap k i))

/-! ## Special registers (R300, R301) -/

/-- The value of a special register (Table 9.3). -/
def State.special (s : State) (x : Shep) (c sel : Nat) : Word :=
  match sel with
  | 0 => x.psw | 1 => x.bk.zeroExtend 64 | 2 => x.vl.zeroExtend 64 | 3 => x.tbr | 4 => x.ksp
  | 5 => BitVec.ofNat 64 c | 7 => s.now | 8 => x.icount | 9 => BitVec.ofNat 64 x.sigcnt | _ => 0

/-- The selector of an operand. -/
def Opd.sel : Opd → Nat
  | .imm v => fld v 7 0
  | _ => 255

/-- MOVSR. -/
def execShMovsr (c : Nat) (s : State) : Host.Outcome State Fault Refusal :=
  done (s.shOp c 0x2A 0x2A (fun i => do
    let d ← SM.dst c 1 8 (i.opd 1)
    let cx ← get
    SM.put c 8 d (cx.s.special cx.x c (i.opd 0).sel).toNat))

/-- The PSW fields that exist (Table 9.2). -/
def pswBits : Word := 0xF301FFFF
/-- Those that user mode may write. -/
def pswUser : Word := 0x1FFFF

/-- MOVRS. -/
def execShMovrs (c : Nat) (s : State) : Host.Outcome State Fault Refusal :=
  done (s.shOp c 0x2B 0x2B (fun i => do
    let n ← SM.src c 0 8 (i.opd 0)
    let x ← SM.core
    let v : Word := BitVec.ofNat 64 n
    match (i.opd 1).sel with
    | 0 =>
      if !x.priv && (v ^^^ x.psw) &&& (pswBits &&& ~~~ pswUser) != 0 then SM.trap .privilege 0 15 0
      else SM.upd (fun x => { x with psw := v &&& pswBits })
    | 1 => SM.upd (fun x => { x with bk := BitVec.ofNat 32 n })
    | 2 => SM.upd (fun x => { x with vl := BitVec.ofNat 32 n })
    | 3 => SM.upd (fun x => { x with tbr := v &&& ~~~ 7 })
    | 4 => SM.upd (fun x => { x with ksp := v })
    | 6 => SM.after (fun s => s.wdReload c)
    | _ => pure ()))

/-! ## Compare and swap (R311) -/

/-- CAS. -/
def execShCas (c : Nat) (s : State) : Host.Outcome State Fault Refusal :=
  done (s.shOp c 0x2C 0x2C (fun i => do
    let n := i.n
    let e ← SM.loc c 0 n (i.opd 0)
    let ev ← SM.get c 0 n e
    match e with | .mem x => SM.mayWrite c 0 x n | _ => pure ()
    let nv ← SM.src c 1 n (i.opd 1)
    let m ← SM.loc c 2 n (i.opd 2)
    match m with
    | .mem a => do
      SM.check 2 a n
      if region a ≠ .hbm ∧ region a ≠ .shep then SM.trapOpen .access 2 a
      else do
        let mv ← SM.get c 2 n m
        SM.mayWrite c 2 a n
        let eq := mv == ev
        SM.flags (fun p => setBit p 2 eq)
        if eq then SM.put c n m nv else SM.put c n e mv
    | _ => pure ()))

/-! ## IEEE 754 and decimal (R336 to R349) -/

/-- FADD, FSUB, FMUL, FDIV. -/
def execShFaddFsubFmulFdiv (c : Nat) (s : State) : Host.Outcome State Fault Refusal :=
  done (s.shOp c 0x30 0x33 (fpBinary c (fun i f env a b =>
    if i.op = 0x30 then f.add env a b else if i.op = 0x31 then f.sub env a b else if i.op = 0x32 then f.mul env a b
    else f.div env a b)))

/-- FSQRT. -/
def execShFsqrt (c : Nat) (s : State) : Host.Outcome State Fault Refusal :=
  done (s.shOp c 0x34 0x34 (fun i => fpUnary c i.n i.n (fun i env a => (fmtOf i.n).sqrt env a) i))

/-- FMIN, FMAX. -/
def execShFminFmax (c : Nat) (s : State) : Host.Outcome State Fault Refusal :=
  done (s.shOp c 0x35 0x36 (fpBinary c (fun i f env a b => f.minMax env (i.op == 0x36) a b)))

/-- FCMP (R343). -/
def execShFcmp (c : Nat) (s : State) : Host.Outcome State Fault Refusal :=
  done (s.shOp c 0x37 0x37 (fun i => do
    let a ← SM.src c 0 i.n (i.opd 0)
    let b ← SM.src c 1 i.n (i.opd 1)
    let x ← SM.core
    let f := fmtOf i.n
    let ftz := (pswEnv x.psw).ftz
    let un := f.rel ftz .un a b
    if un.2 &&& pswFten x.psw ≠ 0 then SM.trap .fp un.2 15 0
    else do
      let eq := (f.rel ftz .eq a b).1
      let lt := (f.rel ftz .lt a b).1
      SM.flags (fun p => addFflags (flagsFcmp p lt eq (!lt && !eq && !un.1) un.1) un.2)))

/-- FCVTIF. -/
def execShFcvtif (c : Nat) (s : State) : Host.Outcome State Fault Refusal :=
  done (s.shOp c 0x38 0x38 (fun i => fpUnary c 8 i.n (fun i env a => (fmtOf i.n).ofInt env.rm (sgn 64 a)) i))

/-- FCVTFI (R344). -/
def execShFcvtfi (c : Nat) (s : State) : Host.Outcome State Fault Refusal :=
  done (s.shOp c 0x39 0x39 (fun i => fpUnary c i.n 8 (fun i env a => (fmtOf i.n).toInt env.rm env.ftz a) i))

/-- FCVTFF (R342). -/
def execShFcvtff (c : Nat) (s : State) : Host.Outcome State Fault Refusal :=
  done (s.shOp c 0x3A 0x3A (fun i => fpUnary c i.n (12 - i.n) (fun i env a =>
    if i.n = 4 then widen env a else narrow env a) i))

/-- DADD, DSUB (R348, R349). -/
def execShDaddDsub (c : Nat) (s : State) : Host.Outcome State Fault Refusal :=
  done (s.shOp c 0x3B 0x3C (fun i => do
    let a ← SM.src c 0 8 (i.opd 0)
    let b ← SM.src c 1 8 (i.opd 1)
    let d ← SM.dst c 2 8 (i.opd 2)
    if decOk a && decOk b then do
      let r := decAdd (i.op == 0x3C) a b
      SM.flags (fun p => setBit p 2 (r / 16 == 0))
      SM.put c 8 d r
    else SM.trap .decimal 0 15 0))

/-! ## SYS (Table 9.8) -/

/-- The row of a SYS function. -/
def rowSys (f : Nat) (b b2 : Nat) : Bool := b == 0 && b2 == f

/-- NOP. The row also takes the ILLEGAL traps of SYS sizes and functions that Table 9.8 does not list (R316). -/
def execSysNop (c : Nat) (s : State) : Host.Outcome State Fault Refusal :=
  done (s.shRun c (fun b f => decide (b < 4) && (b != 0 || f == 0 || decide (7 < f))) false (fun _ => pure ()))

/-- RET. -/
def execSysRet (c : Nat) (s : State) : Host.Outcome State Fault Refusal :=
  done (s.shRun c (rowSys 1) false (fun _ => do
    let x ← SM.core
    let t ← SM.read c 15 ((x.r 7).toNat % 2 ^ 48) 8
    SM.upd (fun x => x.setR 7 (x.r 7 + 8))
    fun cx => .ok ((), { cx with npc := t % 2 ^ 48 })))

/-- Read the words of a frame. -/
def SM.words (c a : Nat) : Nat → SM (List Word)
  | 0 => pure []
  | n + 1 => do
    let w ← SM.read c 15 (a % 2 ^ 48) 8
    let r ← SM.words c (a + 8) n
    pure (BitVec.ofNat 64 w :: r)

/-- RTE (R325, R386). -/
def execSysRte (c : Nat) (s : State) : Host.Outcome State Fault Refusal :=
  done (s.shRun c (rowSys 2) false (fun _ => do
    let x ← SM.core
    let a := (x.r 7).toNat % 2 ^ 48
    let l ← SM.words c a 8
    SM.after (fun s => s.returnFrame c a (fun i => l.getD i 0))))

/-- WAITSIG (R318): takes the signals that have come, or sleeps; a source that is already pending completes it at once with
SIGCNT 0 (R384). -/
def execSysWaitsig (c : Nat) (s : State) : Host.Outcome State Fault Refusal :=
  done (s.shRun c (rowSys 3) false (fun _ => fun cx =>
    if (cx.s.core c).sig = 0 ∧ cx.s.barkWakes c = false then .error (.wait (cx.s.setSt c 2))
    else (SM.after (fun s => s.updCore c (fun x => { x with sigcnt := x.sig, sig := 0 }))) cx))

/-- FENCE (R310): accesses take effect at once in this model, so nothing is left to wait for. -/
def execSysFence (c : Nat) (s : State) : Host.Outcome State Fault Refusal :=
  done (s.shRun c (rowSys 4) false (fun _ => pure ()))

/-- ICINV (R309): the core's instruction cache holds nothing more. -/
def execSysIcinv (c : Nat) (s : State) : Host.Outcome State Fault Refusal :=
  done (s.shRun c (rowSys 5) false (fun _ => SM.after (fun s => s.updCore c (fun x => { x with icache := [] }))))

/-- BRK. -/
def execSysBrk (c : Nat) (s : State) : Host.Outcome State Fault Refusal :=
  done (s.shRun c (rowSys 6) false (fun i => SM.trapAfter c .break 0 i))

/-- STOP. -/
def execSysStop (c : Nat) (s : State) : Host.Outcome State Fault Refusal :=
  done (s.shRun c (rowSys 7) false (fun _ => SM.after (fun s => s.setSt c 4)))

/-! ## Watchdog and start -/

/-- WATCHDOG_EXPIRY (R327 to R330). -/
def execWatchdogExpiry (c : Nat) (s : State) : Host.Outcome State Fault Refusal :=
  act s (fun s => if c < 16 then s.watchdog c else s)

/-- A write of SHEP_WDOG (R327). -/
def execWdogConfigWrite (c : Nat) (w : RegW) (s : State) : Host.Outcome State Fault Refusal :=
  done (s.pageRow .shep c R.shepWdog w (hookWdog c))

/-- A write of SHEP_CORE_CTL (R332). -/
def execCoreStart (c : Nat) (w : RegW) (s : State) : Host.Outcome State Fault Refusal :=
  done (s.pageRow .shep c R.shepCoreCtl w (hookCoreCtl c))

end Sys2Proof.Machine
end

