-- ==== Sys2Proof/Machine/Hatch.lean ====
section
/-! DEFINITION. The Hatch vector instructions (R350 to R358, Table 10.5). A row executes the instruction at the PC of its
core where it is one of the row's, and changes nothing otherwise (log entry 3). -/

namespace Sys2Proof.Machine

/-! ## Elements (R350, R351) -/

/-- Element `i` of `n` bytes of a vector register. -/
def elem (v : BitVec 128) (n i : Nat) : Nat := v.toNat / 2 ^ (8 * n * i) % 2 ^ (8 * n)

/-- Replace element `i`. -/
def setElem (v : BitVec 128) (n i e : Nat) : BitVec 128 := setFld v (8 * n * i + 8 * n - 1) (8 * n * i) e

/-- Active elements: min(VL, 16 ÷ n). -/
def Shep.active (x : Shep) (n : Nat) : Nat := min x.vl.toNat (16 / n)

/-- A vector register. -/
def Shep.vreg (x : Shep) (r : Nat) : BitVec 128 := SMap.get 0 x.v r

/-- Set a vector register. -/
def Shep.setV (x : Shep) (r : Nat) (w : BitVec 128) : Shep := { x with v := SMap.set 0 x.v r w }

/-- The vector register that an operand names. -/
def Opd.vec! : Opd → Nat
  | .vec r => r
  | _ => 0

/-- The immediate byte of a K operand. -/
def Opd.k! : Opd → Nat
  | .konst k => k
  | _ => 0

/-- The row of a range of Hatch functions. -/
def rowHatch (lo hi : Nat) (b f : Nat) : Bool := b / 4 == 0x3E && decide (lo ≤ f) && decide (f ≤ hi)

/-- A Hatch row. -/
def State.hOp (s : State) (c lo hi : Nat) (body : SIns → SM Unit) : State := s.shRun c (rowHatch lo hi) false body

/-- Apply `g` to the active elements of two vector registers. -/
def vecMap (g : SIns → Nat → Nat → Nat) (i : SIns) : SM Unit :=
  SM.upd (fun x =>
    let a := x.vreg (i.opd 1).vec!
    let b := match i.opd 2 with | .vec r => x.vreg r | _ => 0
    x.setV (i.opd 0).vec! ((List.range (x.active i.n)).foldl (fun d k =>
      setElem d i.n k (g i (elem a i.n k) (elem b i.n k))) (x.vreg (i.opd 0).vec!)))

/-- Clamp an integer to the signed range of `n` bytes, in two's complement. -/
def satS (n : Nat) (v : Int) : Nat :=
  let m : Int := (2 ^ (8 * n - 1) : Nat)
  unsgn (8 * n) (if v < -m then -m else if m ≤ v then m - 1 else v)

/-- Clamp an integer to the unsigned range of `n` bytes. -/
def satU (n : Nat) (v : Int) : Nat := if v < 0 then 0 else min v.toNat (2 ^ (8 * n) - 1)

/-! ## VL and HATCH_FAULT_INDEX -/

/-- SETVL. The row also takes the ILLEGAL traps of functions that Table 10.5 does not list. -/
def execSetvl (c : Nat) (s : State) : Host.Outcome State Fault Refusal :=
  done (s.shRun c (fun b f => b / 4 == 0x3E && (f == 0 || (hatchKinds f 1).isNone)) false (fun i => do
    let r ← SM.src c 0 8 (i.opd 0)
    let d ← SM.dst c 1 8 (i.opd 1)
    let v := min r (16 / i.n)
    SM.upd (fun x => { x with vl := BitVec.ofNat 32 v, psw := flagsM x.psw 8 v })
    SM.put c 8 d v))

/-- HFIGET. -/
def execHfiget (c : Nat) (s : State) : Host.Outcome State Fault Refusal :=
  done (s.hOp c 8 8 (fun i => do
    let d ← SM.dst c 0 8 (i.opd 0)
    let x ← SM.core
    SM.put c 8 d x.hfi.toNat))

/-- HFISET. -/
def execHfiset (c : Nat) (s : State) : Host.Outcome State Fault Refusal :=
  done (s.hOp c 9 9 (fun i => do
    let v ← SM.src c 0 8 (i.opd 0)
    SM.upd (fun x => { x with hfi := BitVec.ofNat 64 v &&& ~~~ 0xFFC0 })))

/-! ## Memory (R355 to R357) -/

/-- An element access: a trap becomes vector HATCH with what has been done so far (R356). -/
def hatchEl {α : Type} (k : Nat) (m : SM α) : SM α := fun cx =>
  match m cx with
  | .error (.trap vec _ o a s1) => .error (.hatch (k % 32 + 32 * vec.num) o a k cx.x.v s1)
  | r => r

/-- The element at which a memory instruction begins (R357). -/
def firstElem (c : Nat) : SM Nat := fun cx =>
  let h := cx.x.hfi
  .ok (if bit h 5 ∧ fld h 63 16 = (cx.s.core c).pc.toNat then fld h 4 0 else 0, cx)

/-- A memory instruction completes: VALID clears. -/
def clearHfi : SM Unit := SM.upd (fun x => { x with hfi := setBit x.hfi 5 false })

/-- Run `m` for elements from `k` to below `hi`; `n` bounds them. -/
def forElems (hi : Nat) (m : Nat → SM Unit) : Nat → Nat → SM Unit
  | 0, _ => pure ()
  | n + 1, k => if hi ≤ k then pure () else do m k; forElems hi m n (k + 1)

/-- Store one element, once however often the instruction begins again (R312, R355). A write that stops the core ends the
instruction. -/
def SM.store (c opnd a n v : Nat) : SM Unit := fun cx =>
  if cx.k < (cx.s.core c).log.length then .ok ((), { cx with k := cx.k + 1 })
  else match SM.mayWrite c opnd a n cx with
    | .error e => .error e
    | .ok (_, cx1) =>
      let s1 := cx1.s.coreWrite c a n v
      if (s1.core c).st ≠ 1 then .error (.wait s1)
      else .ok ((), { cx1 with s := s1.updCore c (fun x => { x with log := x.log ++ [0] }), k := cx1.k + 1 })

/-- VLD. WS names a whole slot. -/
def execVld (c : Nat) (s : State) : Host.Outcome State Fault Refusal :=
  done (s.hOp c 1 1 (fun i => do
    let x ← SM.core
    let hi := x.active i.n
    let d := (i.opd 0).vec!
    let l ← SM.loc c 1 (i.n * hi) (i.opd 1)
    let k0 ← firstElem c
    forElems hi (fun k => do
      let v ← (match l with
        | .ws off => SM.get c 1 i.n (.ws (off + i.n * k))
        | .mem a => hatchEl k (SM.read c 1 ((a + i.n * k) % 2 ^ 48) i.n)
        | _ => pure 0)
      SM.upd (fun x => x.setV d (setElem (x.vreg d) i.n k v))) 16 k0
    clearHfi))

/-- VST. -/
def execVst (c : Nat) (s : State) : Host.Outcome State Fault Refusal :=
  done (s.hOp c 2 2 (fun i => do
    let x ← SM.core
    let hi := x.active i.n
    let v := x.vreg (i.opd 0).vec!
    let l ← SM.loc c 1 (i.n * hi) (i.opd 1)
    let k0 ← firstElem c
    forElems hi (fun k => match l with
      | .ws off => SM.put c i.n (.ws (off + i.n * k)) (elem v i.n k)
      | .mem a => hatchEl k (SM.store c 1 ((a + i.n * k) % 2 ^ 48) i.n (elem v i.n k))
      | _ => pure ()) 16 k0
    clearHfi))

/-- VGATHER. -/
def execVgather (c : Nat) (s : State) : Host.Outcome State Fault Refusal :=
  done (s.hOp c 3 3 (fun i => do
    let x ← SM.core
    let hi := x.active i.n
    let d := (i.opd 0).vec!
    let xs := x.vreg (i.opd 1).vec!
    let l ← SM.loc c 2 (i.n * hi) (i.opd 2)
    let k0 ← firstElem c
    forElems hi (fun k => do
      let v ← (match l with
        | .mem a => hatchEl k (SM.read c 2 ((a + i.n * elem xs i.n k) % 2 ^ 48) i.n)
        | _ => pure 0)
      SM.upd (fun x => x.setV d (setElem (x.vreg d) i.n k v))) 16 k0
    clearHfi))

/-- VSCATTER: in ascending order, so that a later element wins at a shared address. -/
def execVscatter (c : Nat) (s : State) : Host.Outcome State Fault Refusal :=
  done (s.hOp c 4 4 (fun i => do
    let x ← SM.core
    let hi := x.active i.n
    let v := x.vreg (i.opd 0).vec!
    let xs := x.vreg (i.opd 1).vec!
    let l ← SM.loc c 2 (i.n * hi) (i.opd 2)
    let k0 ← firstElem c
    forElems hi (fun k => match l with
      | .mem a => hatchEl k (SM.store c 2 ((a + i.n * elem xs i.n k) % 2 ^ 48) i.n (elem v i.n k))
      | _ => pure ()) 16 k0
    clearHfi))

/-! ## Moves -/

/-- VBCAST: with no active element its operand is not accessed, and AUTOINC and AUTODEC move by 0 (R351). -/
def execVbcast (c : Nat) (s : State) : Host.Outcome State Fault Refusal :=
  done (s.hOp c 5 5 (fun i => do
    let k := (← SM.core).active i.n
    let v ← if k = 0 then (do let _ ← SM.loc c 1 0 (i.opd 1); pure 0) else SM.src c 1 i.n (i.opd 1)
    SM.upd (fun x => x.setV (i.opd 0).vec! ((List.range k).foldl (fun d j => setElem d i.n j v) (x.vreg (i.opd 0).vec!)))))

/-- VGET: it ignores VL. -/
def execVget (c : Nat) (s : State) : Host.Outcome State Fault Refusal :=
  done (s.hOp c 6 6 (fun i => do
    let d ← SM.dst c 0 8 (i.opd 0)
    let x ← SM.core
    SM.put c 8 d (elem (x.vreg (i.opd 1).vec!) i.n (i.opd 2).k!)))

/-- VSET: it ignores VL. -/
def execVset (c : Nat) (s : State) : Host.Outcome State Fault Refusal :=
  done (s.hOp c 7 7 (fun i => do
    let v ← SM.src c 1 i.n (i.opd 1)
    SM.upd (fun x => x.setV (i.opd 0).vec! (setElem (x.vreg (i.opd 0).vec!) i.n (i.opd 2).k! v))))

/-! ## Integer elements -/

/-- VADD, VSUB, VMUL. -/
def execVaddVsubVmul (c : Nat) (s : State) : Host.Outcome State Fault Refusal :=
  done (s.hOp c 0x10 0x12 (vecMap (fun i a b =>
    if i.fn = 0x10 then (a + b) % 2 ^ (8 * i.n) else if i.fn = 0x11 then subN i.n a b 0 else a * b % 2 ^ (8 * i.n))))

/-- VADDSS, VSUBSS. -/
def execVaddssVsubss (c : Nat) (s : State) : Host.Outcome State Fault Refusal :=
  done (s.hOp c 0x13 0x14 (vecMap (fun i a b =>
    let x := sgn (8 * i.n) a
    let y := sgn (8 * i.n) b
    satS i.n (if i.fn = 0x13 then x + y else x - y))))

/-- VADDSU, VSUBSU. -/
def execVaddsuVsubsu (c : Nat) (s : State) : Host.Outcome State Fault Refusal :=
  done (s.hOp c 0x15 0x16 (vecMap (fun i a b =>
    satU i.n (if i.fn = 0x15 then (a : Int) + b else (a : Int) - b))))

/-- VMULHRS. -/
def execVmulhrs (c : Nat) (s : State) : Host.Outcome State Fault Refusal :=
  done (s.hOp c 0x17 0x17 (vecMap (fun i a b =>
    satS i.n ((sgn (8 * i.n) a * sgn (8 * i.n) b + (2 ^ (8 * i.n - 2) : Nat)) / (2 ^ (8 * i.n - 1) : Nat)))))

/-- VRSHR. -/
def execVrshr (c : Nat) (s : State) : Host.Outcome State Fault Refusal :=
  done (s.hOp c 0x18 0x18 (vecMap (fun i a _ =>
    let k := (i.opd 2).k!
    unsgn (8 * i.n) ((sgn (8 * i.n) a + (2 ^ (k - 1) : Nat)) / (2 ^ k : Nat)))))

/-- VSHL. -/
def execVshl (c : Nat) (s : State) : Host.Outcome State Fault Refusal :=
  done (s.hOp c 0x19 0x19 (vecMap (fun i a _ => a * 2 ^ (i.opd 2).k! % 2 ^ (8 * i.n))))

/-- VMINS, VMAXS, VMINU, VMAXU. -/
def execVminsVmaxsVminuVmaxu (c : Nat) (s : State) : Host.Outcome State Fault Refusal :=
  done (s.hOp c 0x1A 0x1D (vecMap (fun i a b =>
    let less := if i.fn ≤ 0x1B then decide (sgn (8 * i.n) a < sgn (8 * i.n) b) else decide (a < b)
    let isMin := i.fn == 0x1A || i.fn == 0x1C
    if less == isMin then a else b)))

/-- VAND, VOR, VXOR. -/
def execVandVorVxor (c : Nat) (s : State) : Host.Outcome State Fault Refusal :=
  done (s.hOp c 0x20 0x22 (vecMap (fun i a b =>
    if i.fn = 0x20 then a &&& b else if i.fn = 0x21 then a ||| b else a ^^^ b)))

/-- VCMPEQ, VCMPLT, VCMPLTU. -/
def execVcmpeqVcmpltVcmpltu (c : Nat) (s : State) : Host.Outcome State Fault Refusal :=
  done (s.hOp c 0x24 0x26 (vecMap (fun i a b =>
    let r := if i.fn = 0x24 then a == b else if i.fn = 0x25 then decide (sgn (8 * i.n) a < sgn (8 * i.n) b) else decide (a < b)
    if r then 2 ^ (8 * i.n) - 1 else 0)))

/-! ## IEEE 754 elements (R354) -/

/-- Apply an IEEE 754 operation to the active elements: vector FP, with nothing written, where a raised flag is enabled. -/
def vecFp (g : SIns → Fmt → FEnv → Nat → Nat → Nat × Nat) (i : SIns) : SM Unit := do
  let x ← SM.core
  let a := x.vreg (i.opd 1).vec!
  let b := x.vreg (i.opd 2).vec!
  let res := (List.range (x.active i.n)).map (fun k => g i (fmtOf i.n) (pswEnv x.psw) (elem a i.n k) (elem b i.n k))
  let fl := res.foldl (fun f r => f ||| r.2) 0
  if fl &&& pswFten x.psw ≠ 0 then SM.trap .fp fl 15 0
  else SM.upd (fun x =>
    { x.setV (i.opd 0).vec! ((res.zipIdx).foldl (fun d r => setElem d i.n r.2 r.1.1) (x.vreg (i.opd 0).vec!)) with
      psw := addFflags x.psw fl })

/-- VFADD, VFSUB, VFMUL. -/
def execVfaddVfsubVfmul (c : Nat) (s : State) : Host.Outcome State Fault Refusal :=
  done (s.hOp c 0x30 0x32 (vecFp (fun i f env a b =>
    if i.fn = 0x30 then f.add env a b else if i.fn = 0x31 then f.sub env a b else f.mul env a b)))

/-- VFMIN, VFMAX. -/
def execVfminVfmax (c : Nat) (s : State) : Host.Outcome State Fault Refusal :=
  done (s.hOp c 0x33 0x34 (vecFp (fun i f env a b => f.minMax env (i.fn == 0x34) a b)))

/-! ## Power (R358) -/

/-- HATCH_WAKE: 400 ns after an instruction asked for it, the unit is powered; nothing comes before that
instruction. -/
def execHatchWake (c : Nat) (s : State) : Host.Outcome State Fault Refusal :=
  act s (fun s => match (s.core c).hatchReq with
    | some t => if 6400 ≤ dur t s.now then
        s.updCore c (fun x => { x with hatch := true, hatchReq := none, hatchUse := x.icount, mid := true }) else s
    | none => s)

/-- HATCH_POWER_DOWN: the core has retired 4,096 instructions in a row of which none was a Hatch instruction. -/
def execHatchPowerDown (c : Nat) (s : State) : Host.Outcome State Fault Refusal :=
  act s (fun s => if (s.core c).hatch ∧ 4096 ≤ dur (s.core c).hatchUse (s.core c).icount then
      s.updCore c (fun x => { x with hatch := false })
    else s)

end Sys2Proof.Machine
end

