-- ==== Sys2Proof/Machine/HostRows.lean ====
section
/-! DEFINITION. The host attachment and boot (chapter 17). -/

namespace Sys2Proof.Machine

/-- HOST_WRITE (R540 to R542). -/
def execHostWrite (bar off : Nat) (bytes : List Byte) (s : State) : Host.Outcome State Fault Refusal :=
  act s (fun s => s.hostWrite bar off bytes)

/-- HOST_READ (R541, R542). -/
def execHostRead (bar off len : Nat) (s : State) : Host.Outcome State Fault Refusal :=
  act s (fun s => s.hostRead bar off len)

/-- H2D_POST (R547). -/
def execH2dPost (w : RegW) (s : State) : Host.Outcome State Fault Refusal := opRow (wBit w 1) s .host 0 R.hostMbx w

/-- H2D_DONE (R547). -/
def execH2dDone (w : RegW) (s : State) : Host.Outcome State Fault Refusal := opRow (wBit w 2) s .host 0 R.hostMbx w

/-- D2H_POST (R547). -/
def execD2hPost (w : RegW) (s : State) : Host.Outcome State Fault Refusal := opRow (wBit w 4) s .host 0 R.hostMbx w

/-- D2H_DONE (R547). -/
def execD2hDone (w : RegW) (s : State) : Host.Outcome State Fault Refusal := opRow (wBit w 5) s .host 0 R.hostMbx w

/-- The ROM's LOAD, and its answer to a command that it does not know (R553, R555). -/
def execRomLoad (s : State) : Host.Outcome State Fault Refusal := act s (fun s => s.romLoad)

/-- PROGRAM_KEY (R555). -/
def execRomProgramKey (s : State) : Host.Outcome State Fault Refusal := act s (fun s => s.romKey)

/-- REVOKE_KEY (R555). -/
def execRomRevokeKey (s : State) : Host.Outcome State Fault Refusal := act s (fun s => s.romRevoke)

/-- SET_SVN (R555). -/
def execRomSetSvn (s : State) : Host.Outcome State Fault Refusal := act s (fun s => s.romSvn)

/-- HOST_LINK_TRAIN (R535, R536). -/
def execHostLinkTrain (m0 m1 : Bool) (report : UcieReport) (s : State) : Host.Outcome State Fault Refusal :=
  act s (fun s => s.hostTrain m0 m1 report)

/-- L1_ENTRY (R537). -/
def execL1Entry (s : State) : Host.Outcome State Fault Refusal := act s (fun s => s.l1Entry)

/-- L1_EXIT (R537). -/
def execL1Exit (s : State) : Host.Outcome State Fault Refusal := act s (fun s => s.l1Exit)

/-- MSIX_UNMASK (R544). -/
def execMsixUnmask (vec : Nat) (s : State) : Host.Outcome State Fault Refusal :=
  actOn (decide (vec < 2048)) s (fun s => s.msixUnmask vec)

/-- HBM_STACK_TRAINED (R549). -/
def execHbmStackTrained (u : Nat) (s : State) : Host.Outcome State Fault Refusal :=
  actOn (decide (u < 4)) s (fun s => s.stackTrained u)

/-- HOST_CONFIG_WRITE (R538, R543, R544). -/
def execHostConfigWrite (busMaster d3hot msixEn funcMask : Bool) (s : State) : Host.Outcome State Fault Refusal :=
  act s (fun s => s.hostConfig busMaster d3hot msixEn funcMask)

/-- HOST_COMPLETION (R543). -/
def execHostCompletion (txid : Nat) (data : List Byte) (ok : Bool) (s : State) : Host.Outcome State Fault Refusal :=
  act s (fun s => s.hostCompletion txid data ok)

end Sys2Proof.Machine
end

