-- ==== Sys2Proof/Machine/KenRows.lean ====
section
/-! DEFINITION. Kennel and Bark (chapter 11): rings, dispatch, threads, interrupts. -/

namespace Sys2Proof.Machine

/-- KEN_RING_DOORBELL (R363, R393). -/
def execKenRingDoorbell (r : Nat) (w : RegW) (s : State) : Host.Outcome State Fault Refusal :=
  wrRow s .ken (1 + r / 32) (R.kenRingProd + 64 * (r % 32)) w

/-- KEN_RING_CONFIG (R388, R585). -/
def execKenRingConfig (r : Nat) (w : RegW) (s : State) : Host.Outcome State Fault Refusal :=
  wrRow s .ken (1 + r / 32) (R.kenRingCfg + 64 * (r % 32)) w

/-- ITEM_FETCH (R364, R370, R372). -/
def execItemFetch (r : Nat) (s : State) : Host.Outcome State Fault Refusal :=
  engOn (decide (r < 256)) s (fun s => s.itemFetch r)

/-- DELAY_EXPIRE (R372). -/
def execDelayExpire (s : State) : Host.Outcome State Fault Refusal := engOn true s (fun s => s.delayExpire)

/-- DISPATCH (R366, R367). -/
def execDispatch (c : Nat) (s : State) : Host.Outcome State Fault Refusal :=
  engOn (decide (c < 16)) s (fun s => s.dispatchTo c)

/-- CDONE_DONE: DONE written to KEN_CDONE (R368). -/
def execCdoneDone (w : RegW) (s : State) : Host.Outcome State Fault Refusal :=
  opRow (wFld w 1 0 == 0 && w.size != .hi32) s .ken 0 R.kenCdone w

/-- CDONE_YIELD: YIELD written to KEN_CDONE (R374). -/
def execCdoneYield (w : RegW) (s : State) : Host.Outcome State Fault Refusal :=
  opRow (wFld w 1 0 == 1) s .ken 0 R.kenCdone w

/-- An operation of KEN_THR_CMD (R378, Table 11.3). -/
def thrRow (op : Nat) (w : RegW) (s : State) : Host.Outcome State Fault Refusal :=
  opRow (wFld w 11 8 == op) s .ken 0 R.kenThrCmd w

/-- CREATE of a thread (R378). -/
def execThrCreate (w : RegW) (s : State) : Host.Outcome State Fault Refusal := thrRow 1 w s

/-- EXIT of a thread (R378). -/
def execThrExit (w : RegW) (s : State) : Host.Outcome State Fault Refusal := thrRow 2 w s

/-- SWITCH of a thread (R378). -/
def execThrSwitch (w : RegW) (s : State) : Host.Outcome State Fault Refusal := thrRow 3 w s

/-- BLOCK_EVENT of a thread (R378). -/
def execThrBlockEvent (w : RegW) (s : State) : Host.Outcome State Fault Refusal := thrRow 4 w s

/-- BLOCK_TIME of a thread (R378). -/
def execThrBlockTime (w : RegW) (s : State) : Host.Outcome State Fault Refusal := thrRow 5 w s

/-- WAKE of a thread (R378). -/
def execThrWake (w : RegW) (s : State) : Host.Outcome State Fault Refusal := thrRow 6 w s

/-- THREAD_WAKE_TIME (R372, R379). -/
def execThreadWakeTime (t : Nat) (s : State) : Host.Outcome State Fault Refusal :=
  engOn (decide (t < 256)) s (fun s => s.threadWake t)

/-- THREAD_SLICE_EXPIRE (R380). -/
def execThreadSliceExpire (c : Nat) (s : State) : Host.Outcome State Fault Refusal :=
  engOn (decide (c < 16)) s (fun s => s.sliceExpire c)

/-- EVENT_LINE_PULSE (R373, R379, R418): every block that listens sees the pulse. -/
def execEventLinePulse (n : Nat) (s : State) : Host.Outcome State Fault Refusal :=
  actOn (decide (n < 64)) s (fun s => s.pulse n)

/-- INTERRUPT_ENTRY (R385, Table 11.6). -/
def execInterruptEntry (c : Nat) (s : State) : Host.Outcome State Fault Refusal :=
  engOn (decide (c < 16)) s (fun s => s.interruptEntry c)

/-- BARK_SWSET (R390). -/
def execBarkSwset (w : RegW) (s : State) : Host.Outcome State Fault Refusal := wrRow s .bark 0 R.barkSwset w

/-- BARK_DISCARD: DISCARD of a BARK_SRC (R390). -/
def execBarkDiscard (src : Nat) (w : RegW) (s : State) : Host.Outcome State Fault Refusal :=
  opRow (wBit w 24) s .bark (1 + src / 256) (R.barkSrc + 8 * (src % 256)) w

end Sys2Proof.Machine
end

