-- ==== Sys2Proof/Machine/LinkRows.lean ====
section
/-! DEFINITION. Bamior links, the pack and the brace (chapter 15). -/

namespace Sys2Proof.Machine

/-- BSYNC (R471, R481, R482, R507). -/
def execBsync (l : Nat) (f : BSyncF) (s : State) : Host.Outcome State Fault Refusal :=
  actOn (decide (l < 98)) s (fun s => s.onBsync l f)

/-- NAK (R481). -/
def execNak (l : Nat) (expect : BitVec 16) (s : State) : Host.Outcome State Fault Refusal :=
  actOn (decide (l < 98)) s (fun s => s.onNak l expect)

/-- TOKEN (R505, R506). -/
def execToken (l : Nat) (lseq : BitVec 16) (t : Token) (hops : Nat) (s : State) : Host.Outcome State Fault Refusal :=
  act s (fun s => s.accept l lseq (fun s => s.onToken l t hops))

/-- ARRIVE (R508, R510). -/
def execArrive (l : Nat) (lseq : BitVec 16) (bar : Nat) (epoch : BitVec 16) (s : State) : Host.Outcome State Fault Refusal :=
  act s (fun s => s.accept l lseq (fun s => s.onArrive l bar epoch))

/-- RELEASE (R508, R510). -/
def execRelease (l : Nat) (lseq : BitVec 16) (bar : Nat) (epoch : BitVec 16) (t : Word) (s : State) : Host.Outcome State Fault Refusal :=
  act s (fun s => s.accept l lseq (fun s => s.onRelease bar epoch t))

/-- CFG (R509). -/
def execCfg (l : Nat) (lseq : BitVec 16) (off : BitVec 24) (id : BitVec 16) (data : Word) (s : State) : Host.Outcome State Fault Refusal :=
  act s (fun s => s.accept l lseq (fun s => s.onCfg l off.toNat id data))

/-- CFG_ACK (R509). -/
def execCfgAck (l : Nat) (lseq : BitVec 16) (id : BitVec 16) (error : Bool) (s : State) : Host.Outcome State Fault Refusal :=
  act s (fun s => s.accept l lseq (fun s => s.onCfgAck l id error))

/-- MSG (R505, R511). -/
def execMsg (l : Nat) (lseq : BitVec 16) (src dst hops : Nat) (item : List Word) (s : State) : Host.Outcome State Fault Refusal :=
  act s (fun s => s.accept l lseq (fun s => s.onMsg l src dst hops item))

/-- MSG_ACK (R511). -/
def execMsgAck (l : Nat) (lseq : BitVec 16) (src dst hops : Nat) (refused : Bool) (s : State) : Host.Outcome State Fault Refusal :=
  act s (fun s => s.accept l lseq (fun s => s.onMsgAck src dst hops refused))

/-- RSTART (R278, R505). -/
def execRstart (l : Nat) (lseq : BitVec 16) (src dst hops subch : Nat) (entry : List Word) (s : State) : Host.Outcome State Fault Refusal :=
  act s (fun s => s.accept l lseq (fun s => s.onRstart src dst hops subch entry))

/-- RSTART_ACK (R278, R505). -/
def execRstartAck (l : Nat) (lseq : BitVec 16) (src dst hops subch : Nat) (refused : Bool) (s : State) : Host.Outcome State Fault Refusal :=
  act s (fun s => s.accept l lseq (fun s => s.onRstartAck src dst hops subch refused))

/-- LEADHB (R508). -/
def execLeadhb (l : Nat) (lseq : BitVec 16) (leadId : BitVec 10) (epoch : BitVec 16) (s : State) : Host.Outcome State Fault Refusal :=
  act s (fun s => s.accept l lseq (fun s => s.onLeadhb leadId epoch))

/-- LEADHB_INTERVAL (R508). -/
def execLeadhbInterval (s : State) : Host.Outcome State Fault Refusal := act s (fun s => s.leadhbInterval)

/-- DEPUTY_TAKEOVER (R508). -/
def execDeputyTakeover (s : State) : Host.Outcome State Fault Refusal := act s (fun s => s.deputy)

/-- BAMIOR_LINKID (R250, R504). -/
def execBamiorLinkid (l : Nat) (serial : Word) (device : BitVec 10) (s : State) : Host.Outcome State Fault Refusal :=
  act s (fun s => s.bamiorUp l serial device.toNat)

/-- BCAST_GO: GO of PACK_BCAST_CTL (R509). -/
def execBcastGo (w : RegW) (s : State) : Host.Outcome State Fault Refusal :=
  opRow (wBit w 0) s .pack 0 R.packBcastCtl w

/-- BARRIER_ARRIVE: ARRIVE of a PACK_BAR (R510). -/
def execBarrierArrive (b : Nat) (w : RegW) (s : State) : Host.Outcome State Fault Refusal :=
  opRow (decide (b < 16) && wBit w 7) s .pack 0 (R.packBar + 8 * b) w

/-- BARRIER_RELEASE_TIME (R510). -/
def execBarrierReleaseTime (b : Nat) (s : State) : Host.Outcome State Fault Refusal :=
  actOn (decide (b < 16)) s (fun s => s.barTime b)

/-- PACK_MSG_GO: GO of PACK_MSG_CTL (R511). -/
def execPackMsgGo (w : RegW) (s : State) : Host.Outcome State Fault Refusal :=
  opRow (wBit w 16) s .pack 0 R.packMsgCtl w

/-- HB (R485, R497, R498). -/
def execHb (l : Nat) (lseq : BitVec 16) (f : HbF) (s : State) : Host.Outcome State Fault Refusal :=
  actOn (decide (96 ≤ l)) s (fun s => s.accept l lseq (fun s => s.onHb f))

/-- HB_INTERVAL (R483, R497). -/
def execHbInterval (s : State) : Host.Outcome State Fault Refusal := act s (fun s => s.hbInterval)

/-- HB_LOSS (R497). -/
def execHbLoss (s : State) : Host.Outcome State Fault Refusal := act s (fun s => s.hbLoss)

/-- REPLAY (R487). -/
def execReplay (l : Nat) (lseq : BitVec 16) (f : ReplayF) (s : State) : Host.Outcome State Fault Refusal :=
  actOn (decide (96 ≤ l)) s (fun s => s.accept l lseq (fun s => s.onReplay f))

/-- MIRROR (R486, R488). -/
def execMirror (l : Nat) (lseq : BitVec 16) (addr : BitVec 48) (be : Word) (line : List Byte) (s : State) : Host.Outcome State Fault Refusal :=
  actOn (decide (96 ≤ l)) s (fun s => s.accept l lseq (fun s => s.onMirror addr be line))

/-- UNITRES (R492). -/
def execUnitres (l : Nat) (lseq : BitVec 16) (f : UnitResF) (s : State) : Host.Outcome State Fault Refusal :=
  actOn (decide (96 ≤ l)) s (fun s => s.accept l lseq (fun s => s.unitRes f))

/-- DIGEST (R496). -/
def execDigest (l : Nat) (lseq : BitVec 16) (f : DigestF) (s : State) : Host.Outcome State Fault Refusal :=
  actOn (decide (96 ≤ l)) s (fun s => s.accept l lseq (fun s => s.onDigest f))

/-- EPOCH_BOUNDARY (R496). -/
def execEpochBoundary (s : State) : Host.Outcome State Fault Refusal := act s (fun s => s.epochBoundary)

/-- FENCE (R485, R497). -/
def execFence (l : Nat) (lseq : BitVec 16) (s : State) : Host.Outcome State Fault Refusal :=
  actOn (decide (96 ≤ l)) s (fun s => s.accept l lseq (fun s => s.onFence))

/-- SWAP (R502). -/
def execSwap (l : Nat) (lseq : BitVec 16) (_gen : BitVec 16) (s : State) : Host.Outcome State Fault Refusal :=
  actOn (decide (96 ≤ l)) s (fun s => s.accept l lseq (fun s => s.onSwap))

/-- SYNC_DONE (R501). -/
def execSyncDone (l : Nat) (lseq : BitVec 16) (s : State) : Host.Outcome State Fault Refusal :=
  actOn (decide (96 ≤ l)) s (fun s => s.accept l lseq (fun s => s.onSyncDone))

/-- BRACE_LINK_UP (R484, R504). -/
def execBraceLinkUp (k : Nat) (serial : Word) (running pref : Bool) (s : State) : Host.Outcome State Fault Refusal :=
  actOn (decide (k < 2)) s (fun s => s.braceUp k serial running pref)

/-- BRC_ENABLE: EN of BRC_CTL (R484). -/
def execBrcEnable (w : RegW) (s : State) : Host.Outcome State Fault Refusal :=
  opRow (w.size != .hi32) s .brc 0 R.brcCtl w

/-- An operation of BRC_CMD. -/
def brcRow (op : Nat) (w : RegW) (s : State) : Host.Outcome State Fault Refusal :=
  opRow (wFld w 2 0 == op) s .brc 0 R.brcCmd w

/-- TAKEOVER (R498). -/
def execBrcTakeover (w : RegW) (s : State) : Host.Outcome State Fault Refusal := brcRow 1 w s

/-- SWAP (R502). -/
def execBrcSwap (w : RegW) (s : State) : Host.Outcome State Fault Refusal := brcRow 2 w s

/-- DETACH (R501). -/
def execBrcDetach (w : RegW) (s : State) : Host.Outcome State Fault Refusal := brcRow 3 w s

/-- RESYNC (R501). -/
def execBrcResync (w : RegW) (s : State) : Host.Outcome State Fault Refusal := brcRow 4 w s

/-- TAKEOVER_DEADLINE (R498, Table 15.3). -/
def execTakeoverDeadline (s : State) : Host.Outcome State Fault Refusal := act s (fun s => s.takeoverEnd)

/-- BRC_SEAL: GO of BRC_SEAL (R495). -/
def execBrcSeal (w : RegW) (s : State) : Host.Outcome State Fault Refusal := opRow (wBit w 63) s .brc 0 R.brcSeal w

end Sys2Proof.Machine
end

