-- ==== Sys2Proof/Machine/MemRows.lean ====
section
/-! DEFINITION. Memory requests, the mesh and the HBM controllers (chapter 13). -/

namespace Sys2Proof.Machine

/-- Half of a register that byte enables name (R13); none where they name neither a half nor the whole. -/
def beSize (be : Byte) : Option AccSize :=
  if be = 0xFF then some .d64 else if be = 0x0F then some .lo32 else if be = 0xF0 then some .hi32 else none

/-- A read of 8 bytes of the control window over the mesh, which the node of its page answers (R13, R423, R424). -/
def State.ctlRead8 (s : State) (r : MemReq) : State :=
  let (q, s0) := s.takeInbox r
  let node := ctrlNode r.addr.toNat
  match beSize r.be with
  | none => s0.respond node q r .address []
  | some sz =>
    match s0.controlRead (ctrlOff r.addr.toNat) ⟨r.origin, sz⟩ with
    | (st, some v, s1) => s1.respond node q r st (if st = .ok then leBytes 8 (laneData sz v).toNat else [])
    | (_, none, s1) => s1.parkedBy (.mesh q r)

/-- The response of a doorbell that Kennel withholds waits with it (R363). -/
def Kennel.holdFor (k : Kennel) (q : Option InReq) (r : MemReq) : Kennel :=
  { k with heldDb := k.heldDb.dropLast ++ (k.heldDb.getLast?.toList.map (fun d => { d with who := some (q, r) })) }

/-- A write of 8 bytes of the control window over the mesh. -/
def State.ctlWrite8 (s : State) (r : MemReq) : State :=
  let (q, s0) := s.takeInbox r
  let node := ctrlNode r.addr.toNat
  match beSize r.be with
  | none => s0.respond node q r .address []
  | some sz =>
    let (st, s1) := s0.controlWrite (ctrlOff r.addr.toNat) ⟨r.origin, sz, if sz = .hi32 then r.data >>> 32 else r.data⟩
    if s0.parked.length < s1.parked.length then s1.parkedBy (.mesh q r)
    else if s0.ken.heldDb.length < s1.ken.heldDb.length then s1.updKen (fun k => k.holdFor q r)
    else s1.respond node q r st []

/-- The priority that a master's semaphore requests carry (Table 12.5). -/
def State.masterPrio (s : State) (o : Origin) : Nat :=
  match o.toNat / 4096 with
  | 0 => 16
  | 1 => s.reqPrio (o.toNat % 4096)
  | 2 => s.retPrio (o.toNat % 4096)
  | _ => 32

/-- A request that lies in semaphore window `k` is an access of the window (R399, R400). -/
def State.windowReq (s : State) (r : MemReq) (k bytes : Nat) (write : Bool) : State :=
  s.semReq k ⟨r.node, r.txid, r.origin, r.addr, bytes, write, s.masterPrio r.origin⟩

/-- READ8 (R423, R430, R442). -/
def execMemRead8 (r : MemReq) (e : LineErr) (s : State) : Host.Outcome State Fault Refusal :=
  act s (fun s => match region r.addr.toNat with
    | .control => s.ctlRead8 r
    | .host => s.hostMemRead r 8
    | .sem k => s.windowReq r k 8 false
    | _ => s.memReadReq r 8 e)

/-- READ64 (R430). -/
def execMemRead64 (r : MemReq) (e : LineErr) (s : State) : Host.Outcome State Fault Refusal :=
  act s (fun s => match region r.addr.toNat with
    | .host => s.hostMemRead r 64
    | .sem k => s.windowReq r k 64 false
    | _ => s.memReadReq r 64 e)

/-- WRITE8 (R431). -/
def execMemWrite8 (r : MemReq) (e : LineErr) (s : State) : Host.Outcome State Fault Refusal :=
  act s (fun s => match region r.addr.toNat with
    | .control => s.ctlWrite8 r
    | .sem k => s.windowReq r k (if r.be = 255 then 8 else 4) true
    | _ => s.memWrite8 r e)

/-- WRITE64 (R431). -/
def execMemWrite64 (r : MemReq) (line : List Byte) (s : State) : Host.Outcome State Fault Refusal :=
  act s (fun s => match region r.addr.toNat with
    | .sem k => s.windowReq r k 64 true
    | _ => s.memWrite64 r line)

/-- CAS (R311, R442). -/
def execMemCas (r : MemReq) (new : Word) (isD : Bool) (s : State) : Host.Outcome State Fault Refusal :=
  act s (fun s => match region r.addr.toNat with
    | .sem k => s.windowReq r k 0 true
    | _ => s.memCas r new isD)

/-- PWRITE8 and PWRITE64 (R431, R442). -/
def execPostedWrite (r : MemReq) (line : Option (List Byte)) (s : State) : Host.Outcome State Fault Refusal :=
  act s (fun s => match region r.addr.toNat with
    | .sem _ => (s.semAccess r.addr.toNat (if line.isSome then 64 else if r.be = 255 then 8 else 4) true r.origin
        (s.masterPrio r.origin) (.mesh r.node r.txid)).2
    | _ => s.postedWrite r line)

/-- RESP, RESP64 or SEM_GRANT at the requester (R442, R448). -/
def execMeshResponse (node txid : Nat) (st : Status) (data : List Byte) (s : State) : Host.Outcome State Fault Refusal :=
  actOn (decide (node < 160)) s (fun s => s.response node txid st data)

/-- ROUTER_FORWARD (R439 to R451). -/
def execRouterForward (node port vn : Nat) (s : State) : Host.Outcome State Fault Refusal :=
  actOn (decide (node < 160 ∧ port < 5 ∧ vn < 5)) s (fun s => s.routerForward node port vn)

/-- NI_REQUEST_TIMEOUT (R448). -/
def execNiRequestTimeout (node txid : Nat) (s : State) : Host.Outcome State Fault Refusal :=
  actOn (decide (node < 160)) s (fun s => s.niTimeout node txid)

/-- NI_ISOLATE: ISOLATE of NOC_NI_CTL (R449). -/
def execNiIsolate (node : Nat) (w : RegW) (s : State) : Host.Outcome State Fault Refusal :=
  opRow (wBit w 1) s .noc node R.nocNiCtl w

/-- ROUTE_TABLE_WRITE (R453). -/
def execRouteTableWrite (node : Nat) (w : RegW) (s : State) : Host.Outcome State Fault Refusal :=
  wrRow s .noc node R.nocRtData w

/-- ROUTER_PORT_ENABLE_WRITE (R447). -/
def execRouterPortEnableWrite (node : Nat) (w : RegW) (s : State) : Host.Outcome State Fault Refusal :=
  wrRow s .noc node R.nocRtrCtl w

/-- ROUTE_FENCE_GO: GO of NOC_FENCE (R445, R454). -/
def execRouteFenceGo (w : RegW) (s : State) : Host.Outcome State Fault Refusal :=
  opRow (wBit w 0) s .noc 0 R.nocFence w

/-- ROUTE_FENCE_DONE (R445). -/
def execRouteFenceDone (s : State) : Host.Outcome State Fault Refusal := act s (fun s => s.fenceDone)

/-- HBM_SCRUB (R432). -/
def execHbmScrub (u line : Nat) (e : LineErr) (s : State) : Host.Outcome State Fault Refusal :=
  actOn (decide (u < 4)) s (fun s => s.hbmScrub u line e)

/-- SRAM_SCRUB (R436). -/
def execSramScrub (addr : Nat) (e : Ecc) (s : State) : Host.Outcome State Fault Refusal :=
  act s (fun s => s.sramScrub addr e)

/-- RETIRE_ADD: GO of HBMC_RET_ADD (R433). -/
def execRetireAdd (u : Nat) (w : RegW) (s : State) : Host.Outcome State Fault Refusal :=
  opRow (wBit w 0 && decide (u < 4)) s .hbmc u R.hbmcRetAdd w

/-- RETIRE_COPY_LINE (R434). -/
def execRetireCopyLine (u : Nat) (e : LineErr) (s : State) : Host.Outcome State Fault Refusal :=
  actOn (decide (u < 4)) s (fun s => s.retireCopy u e)

/-- TRACKER_AGE_EXPIRE (R433). -/
def execTrackerAgeExpire (u page : Nat) (s : State) : Host.Outcome State Fault Refusal :=
  actOn (decide (u < 4)) s (fun s => s.trackerAge u page)

/-- HBM_OVERTEMP (R576). -/
def execHbmOvertemp (u : Nat) (s : State) : Host.Outcome State Fault Refusal :=
  actOn (decide (u < 4)) s (fun s => s.hbmHot u)

end Sys2Proof.Machine
end

