-- ==== Sys2Proof/Machine/PeExec.lean ====
section
/-! DEFINITION. The opcodes of the PEs (Table 3.3): what the firing in stage 4 of a PE does. Each row executes the
oldest firing of the PE where its opcode is the row's, and changes nothing otherwise (log entry 3). -/

namespace Sys2Proof.Machine

/-- TYPE of x. -/
def Firing.tyX (f : Firing) : Nat := cType f.x.ctl

/-- The value as a number. -/
def Firing.xn (f : Firing) : Nat := f.x.value.toNat
/-- The right value as a number. -/
def Firing.yn (f : Firing) : Nat := f.yv.toNat
/-- Shift distance y[5:0]. -/
def Firing.sh (f : Firing) : Nat := fld f.yv 5 0

/-- Has the device such a PE (R19)? -/
def peOk (t p : Nat) : Bool := decide (t < 128 ∧ p < 4)

/-- Is an opcode one of a range? -/
def opIn (lo hi op : Nat) : Bool := decide (lo ≤ op) && decide (op ≤ hi)

/-! ## Token moves -/

/-- COPY: x unchanged (R82). -/
def execCopy (t p : Nat) (s : State) : Host.Outcome State Fault Refusal :=
  actOn (peOk t p) s (fun s => s.intOp t p (opIn 1 1) Firing.tyX (fun _ f => f.x.value))

/-- MERGE: as COPY (R82). -/
def execMerge (t p : Nat) (s : State) : Host.Outcome State Fault Refusal :=
  actOn (peOk t p) s (fun s => s.intOp t p (opIn 2 2) Firing.tyX (fun _ f => f.x.value))

/-- CONST: INT64 imm sign-extended (R82). -/
def execConst (t p : Nat) (s : State) : Host.Outcome State Fault Refusal :=
  actOn (peOk t p) s (fun s => s.intOp t p (opIn 3 3) (fun _ => tyInt64) (fun _ f => sImmS f.slot))

/-- RETYPE: TYPE := imm[3:0]; a reserved code is handled under R84 with cause RETYPE (R82). -/
def execRetype (t p : Nat) (s : State) : Host.Outcome State Fault Refusal :=
  actOn (peOk t p) s (fun s => s.exec4 t p (opIn 4 4) (fun f s =>
    if 8 < sImm f.slot % 16 then s.exc84 t f.x 4 .retype else s.outBoth t f f.x.value (sImm f.slot % 16)))

/-- CTRLGEN: the CTRL token of imm[15:0] with x[31:0] as its argument (R82). -/
def execCtrlgen (t p : Nat) (s : State) : Host.Outcome State Fault Refusal :=
  actOn (peOk t p) s (fun s => s.intOp t p (opIn 5 5) (fun _ => tyCtrl)
    (fun _ f => BitVec.ofNat 64 (sImm f.slot % 2 ^ 16 + fld f.x.value 31 0 * 2 ^ 32)))

/-- STEER: x to destination 0 when y ≠ 0 and to destination 1 when y = 0, exchanged by INV; a poisoned y steers nothing
(R82, R139). -/
def execSteer (t p : Nat) (s : State) : Host.Outcome State Fault Refusal :=
  actOn (peOk t p) s (fun s => s.exec4 t p (opIn 6 6) (fun f s =>
    if f.yPoison then s.exc84 t f.x 6 .poisoned
    else
      let i := if (f.yv != 0) != sFlag f.slot 2 then 0 else 1
      s.outTo t f.slot f.x.tag i f.x.value (f.outCtl f.tyX false false)))

/-- SINK: no output (R82). -/
def execSink (t p : Nat) (s : State) : Host.Outcome State Fault Refusal :=
  actOn (peOk t p) s (fun s => s.exec4 t p (opIn 7 7) (fun _ s => s))

/-! ## Integers -/

/-- ADD, SUB (R82). -/
def execAddSub (t p : Nat) (s : State) : Host.Outcome State Fault Refusal :=
  actOn (peOk t p) s (fun s => s.intOp t p (opIn 0x100 0x101) Firing.tyX
    (fun op f => if op = 0x100 then f.x.value + f.yv else f.x.value - f.yv))

/-- MUL: low half (R334). -/
def execMul (t p : Nat) (s : State) : Host.Outcome State Fault Refusal :=
  actOn (peOk t p) s (fun s => s.intOp t p (opIn 0x102 0x102) Firing.tyX (fun _ f => f.x.value * f.yv))

/-- MULHS, MULHU: high half (R334). -/
def execMulhsMulhu (t p : Nat) (s : State) : Host.Outcome State Fault Refusal :=
  actOn (peOk t p) s (fun s => s.intOp t p (opIn 0x103 0x104) Firing.tyX
    (fun op f => BitVec.ofNat 64 (mulHigh 64 (op == 0x103) f.xn f.yn)))

/-- DIVS, DIVU, REMS, REMU (R335). -/
def execDivsDivuRemsRemu (t p : Nat) (s : State) : Host.Outcome State Fault Refusal :=
  actOn (peOk t p) s (fun s => s.intOp t p (opIn 0x105 0x108) Firing.tyX (fun op f =>
    let r := divRem 64 (op == 0x105 || op == 0x107) f.xn f.yn
    BitVec.ofNat 64 (if op ≤ 0x106 then r.1 else r.2)))

/-- NEG, ABS (R82). -/
def execNegAbs (t p : Nat) (s : State) : Host.Outcome State Fault Refusal :=
  actOn (peOk t p) s (fun s => s.intOp t p (opIn 0x109 0x10A) Firing.tyX
    (fun op f => if op = 0x109 ∨ f.x.value.msb then 0 - f.x.value else f.x.value))

/-- MINS, MAXS, MINU, MAXU (R82). -/
def execMinsMaxsMinuMaxu (t p : Nat) (s : State) : Host.Outcome State Fault Refusal :=
  actOn (peOk t p) s (fun s => s.intOp t p (opIn 0x10B 0x10E) Firing.tyX (fun op f =>
    let less := if op ≤ 0x10C then f.x.value.slt f.yv else f.x.value.ult f.yv
    let isMin := op == 0x10B || op == 0x10D
    if less == isMin then f.x.value else f.yv))

/-- AND, OR, XOR, ANDN (R82). -/
def execAndOrXorAndn (t p : Nat) (s : State) : Host.Outcome State Fault Refusal :=
  actOn (peOk t p) s (fun s => s.intOp t p (opIn 0x110 0x113) Firing.tyX (fun op f =>
    if op = 0x110 then f.x.value &&& f.yv else if op = 0x111 then f.x.value ||| f.yv
    else if op = 0x112 then f.x.value ^^^ f.yv else f.x.value &&& ~~~ f.yv))

/-- NOT (R82). -/
def execNot (t p : Nat) (s : State) : Host.Outcome State Fault Refusal :=
  actOn (peOk t p) s (fun s => s.intOp t p (opIn 0x114 0x114) Firing.tyX (fun _ f => ~~~ f.x.value))

/-- SHL, SHR, SAR, ROL, ROR by y[5:0] (R82). -/
def execShlShrSarRolRor (t p : Nat) (s : State) : Host.Outcome State Fault Refusal :=
  actOn (peOk t p) s (fun s => s.intOp t p (opIn 0x115 0x119) Firing.tyX (fun op f =>
    let x := f.x.value
    let n := f.sh
    if op = 0x115 then x <<< n else if op = 0x116 then x >>> n else if op = 0x117 then x.sshiftRight n
    else if op = 0x118 then x.rotateLeft n else x.rotateRight n))

/-- CLZ, POPC as UINT64 (R82). -/
def execClzPopc (t p : Nat) (s : State) : Host.Outcome State Fault Refusal :=
  actOn (peOk t p) s (fun s => s.intOp t p (opIn 0x11A 0x11B) (fun _ => tyUint64)
    (fun op f => BitVec.ofNat 64 (if op = 0x11A then clz 64 f.xn else popc 64 f.xn)))

/-- BFEXT: the field of imm[12:6] bits at bit imm[5:0], zero-extended (R82). -/
def execBfext (t p : Nat) (s : State) : Host.Outcome State Fault Refusal :=
  actOn (peOk t p) s (fun s => s.intOp t p (opIn 0x11C 0x11C) Firing.tyX (fun _ f =>
    BitVec.ofNat 64 (f.xn >>> (sImm f.slot % 64) % 2 ^ (sImm f.slot / 64 % 128))))

/-- BFINS: y's low imm[12:6] bits inserted at bit imm[5:0] (R82). -/
def execBfins (t p : Nat) (s : State) : Host.Outcome State Fault Refusal :=
  actOn (peOk t p) s (fun s => s.intOp t p (opIn 0x11D 0x11D) Firing.tyX (fun _ f =>
    setFld f.x.value (sImm f.slot % 64 + sImm f.slot / 64 % 128 - 1) (sImm f.slot % 64) f.yn))

/-! ## IEEE 754 and decimal -/

/-- FADD, FSUB, FMUL (R336 to R341). -/
def execFaddFsubFmul (t p : Nat) (s : State) : Host.Outcome State Fault Refusal :=
  actOn (peOk t p) s (fun s => s.fltOp t p (opIn 0x200 0x202) Firing.tyX (fun env op f =>
    lanes2 (f.tyX == tyBin32) (fun m a b =>
      if op = 0x200 then m.add env a b else if op = 0x201 then m.sub env a b else m.mul env a b) f.xn f.yn))

/-- FDIV. -/
def execFdiv (t p : Nat) (s : State) : Host.Outcome State Fault Refusal :=
  actOn (peOk t p) s (fun s => s.fltOp t p (opIn 0x203 0x203) Firing.tyX (fun env _ f =>
    lanes2 (f.tyX == tyBin32) (fun m a b => m.div env a b) f.xn f.yn))

/-- FSQRT. -/
def execFsqrt (t p : Nat) (s : State) : Host.Outcome State Fault Refusal :=
  actOn (peOk t p) s (fun s => s.fltOp t p (opIn 0x204 0x204) Firing.tyX (fun env _ f =>
    lanes2 (f.tyX == tyBin32) (fun m a _ => m.sqrt env a) f.xn f.xn))

/-- FMIN, FMAX (R341). -/
def execFminFmax (t p : Nat) (s : State) : Host.Outcome State Fault Refusal :=
  actOn (peOk t p) s (fun s => s.fltOp t p (opIn 0x205 0x206) Firing.tyX (fun env op f =>
    lanes2 (f.tyX == tyBin32) (fun m a b => m.minMax env (op == 0x206) a b) f.xn f.yn))

/-- FNEG, FABS: never an exception (R342). -/
def execFnegFabs (t p : Nat) (s : State) : Host.Outcome State Fault Refusal :=
  actOn (peOk t p) s (fun s => s.fltOp t p (opIn 0x207 0x208) Firing.tyX (fun _ op f =>
    lanes2 (f.tyX == tyBin32) (fun m a _ => (if op = 0x207 then m.neg a else m.abs a, 0)) f.xn f.xn))

/-- FCVT_IF: INT64 to BIN64 under RMODE. -/
def execFcvtIf (t p : Nat) (s : State) : Host.Outcome State Fault Refusal :=
  actOn (peOk t p) s (fun s => s.fltOp t p (opIn 0x209 0x209) (fun _ => tyBin64) (fun env _ f => f64.ofInt env.rm (sgn 64 f.xn)))

/-- FCVT_FI: BIN64 to INT64 under RMODE (R344). -/
def execFcvtFi (t p : Nat) (s : State) : Host.Outcome State Fault Refusal :=
  actOn (peOk t p) s (fun s => s.fltOp t p (opIn 0x20A 0x20A) (fun _ => tyInt64) (fun env _ f => f64.toInt env.rm env.ftz f.xn))

/-- FCVT_DS: BIN64 to BIN32X2, element 1 being +0 (R342). -/
def execFcvtDs (t p : Nat) (s : State) : Host.Outcome State Fault Refusal :=
  actOn (peOk t p) s (fun s => s.fltOp t p (opIn 0x20B 0x20B) (fun _ => tyBin32) (fun env _ f => narrow env f.xn))

/-- FCVT_SD: element 0 of BIN32X2 to BIN64 (R342). -/
def execFcvtSd (t p : Nat) (s : State) : Host.Outcome State Fault Refusal :=
  actOn (peOk t p) s (fun s => s.fltOp t p (opIn 0x20C 0x20C) (fun _ => tyBin64) (fun env _ f => widen env (f.xn % 2 ^ 32)))

/-- DADD, DSUB: an invalid operand sends x poisoned (R347 to R349). -/
def execDaddDsub (t p : Nat) (s : State) : Host.Outcome State Fault Refusal :=
  actOn (peOk t p) s (fun s => s.exec4 t p (opIn 0x300 0x301) (fun f s =>
    if decOk f.xn && decOk f.yn then
      s.outBoth t f (BitVec.ofNat 64 (decAdd (sOp f.slot == 0x301) f.xn f.yn)) tyDec
    else s.outBoth t f f.x.value tyDec true))

/-! ## Comparisons -/

/-- CMPEQ, CMPNE, CMPLT, CMPLE, CMPLTU, CMPLEU, INV inverting the result (R79, R82). -/
def execCmpeqCmpneCmpltCmple (t p : Nat) (s : State) : Host.Outcome State Fault Refusal :=
  actOn (peOk t p) s (fun s => s.intOp t p (opIn 0x400 0x405) (fun _ => tyUint64) (fun op f =>
    let x := f.x.value
    let y := f.yv
    let r := if op = 0x400 then x == y else if op = 0x401 then x != y else if op = 0x402 then x.slt y
      else if op = 0x403 then x.sle y else if op = 0x404 then x.ult y else x.ule y
    BitVec.ofNat 64 (b2n (r != sFlag f.slot 2))))

/-- FCMPEQ, FCMPLT, FCMPLE, FCMPUN; INV inverts each element's result (R79, R343). -/
def execFcmpeqFcmpltFcmpleFcmpun (t p : Nat) (s : State) : Host.Outcome State Fault Refusal :=
  actOn (peOk t p) s (fun s => s.fltOp t p (opIn 0x406 0x409) (fun _ => tyUint64) (fun env op f =>
    let r : FRel := if op = 0x406 then .eq else if op = 0x407 then .lt else if op = 0x408 then .le else .un
    let inv := sFlag f.slot 2
    if f.tyX = tyBin32 then
      let a := f32.rel env.ftz r (f.xn % 2 ^ 32) (f.yn % 2 ^ 32)
      let b := f32.rel env.ftz r (f.xn / 2 ^ 32) (f.yn / 2 ^ 32)
      (b2n (a.1 != inv) + 2 * b2n (b.1 != inv), a.2 ||| b.2)
    else
      let a := f64.rel env.ftz r f.xn f.yn
      (b2n (a.1 != inv), a.2)))

/-! ## Tags, loops, contexts -/

/-- ITER_GET: iteration of x's tag as UINT64 (R82). -/
def execIterGet (t p : Nat) (s : State) : Host.Outcome State Fault Refusal :=
  actOn (peOk t p) s (fun s => s.intOp t p (opIn 0x500 0x500) (fun _ => tyUint64) (fun _ f => BitVec.ofNat 64 (tIter f.x.tag)))

/-- TAG_GET: x's tag as BITS (R82). -/
def execTagGet (t p : Nat) (s : State) : Host.Outcome State Fault Refusal :=
  actOn (peOk t p) s (fun s => s.intOp t p (opIn 0x501 0x501) (fun _ => tyBits) (fun _ f => BitVec.ofNat 64 f.x.tag.toNat))

/-- LOOP_HEAD (Table 4.1). -/
def execLoopHead (t p : Nat) (s : State) : Host.Outcome State Fault Refusal :=
  actOn (peOk t p) s (fun s => s.exec4 t p (opIn 0x502 0x502) (fun f s => s.loopHead t p f))

/-- LOOP_TAIL: x to destination 0 and UINT64 1 to destination 1 (R132). -/
def execLoopTail (t p : Nat) (s : State) : Host.Outcome State Fault Refusal :=
  actOn (peOk t p) s (fun s => s.exec4 t p (opIn 0x503 0x503) (fun f s =>
    (s.outTo t f.slot f.x.tag 0 f.x.value (f.outCtl f.tyX false false)).outTo t f.slot f.x.tag 1 1
      (f.outCtl tyUint64 false false)))

/-- CTX: allocate a context (R50, R51, R86). -/
def execCtx (t p : Nat) (s : State) : Host.Outcome State Fault Refusal :=
  actOn (peOk t p) s (fun s => s.exec4 t p (opIn 0x600 0x600) (fun f s => s.ctxOp t p f))

/-- CTX_QUEUE_GRANT: the oldest waiting CTX request takes a released number (R51). -/
def execCtxQueueGrant (s : State) : Host.Outcome State Fault Refusal :=
  act s (fun s => match s.ctxQueue, s.takeCtx with
    | q :: r, some (c, s1) => { s1 with ctxQueue := r }.openCtx q.tile q.f c
    | _, _ => s)

/-- FREE: release the context of x's tag, or x[15:0] when imm[0] = 1, which a poisoned x does not (R52, R139). -/
def execFree (t p : Nat) (s : State) : Host.Outcome State Fault Refusal :=
  actOn (peOk t p) s (fun s => s.exec4 t p (opIn 0x601 0x601) (fun f s =>
    if (sImm f.slot).testBit 0 then
      if cPoison f.x.ctl then s.exc84 t f.x 0x601 .poisoned else s.freeCtx t (fld f.x.value 15 0)
    else s.freeCtx t (tCtx f.x.tag)))

/-- CTX_GET, PARENT_GET as UINT64 (R82). -/
def execCtxGetParentGet (t p : Nat) (s : State) : Host.Outcome State Fault Refusal :=
  actOn (peOk t p) s (fun s => s.exec4 t p (opIn 0x602 0x603) (fun f s =>
    s.outBoth t f (BitVec.ofNat 64 (if sOp f.slot = 0x602 then tCtx f.x.tag else s.ctxParent (tCtx f.x.tag)))
      tyUint64))

/-! ## Memory -/

/-- IFETCH: issue an I-fetch of word x; destination 0 NONE makes no access (R85, R139). -/
def execIfetch (t p : Nat) (s : State) : Host.Outcome State Fault Refusal :=
  actOn (peOk t p) s (fun s => s.exec4 t p (opIn 0x700 0x700) (fun f s =>
    if f.none0 then s
    else if cPoison f.x.ctl then s.exc84 t f.x 0x700 .poisoned
    else if f.bad0 then s.badDest t f
    else s.isIssue t false f))

/-- ISTORE: issue an I-store of y at word x (R56, R139). -/
def execIstore (t p : Nat) (s : State) : Host.Outcome State Fault Refusal :=
  actOn (peOk t p) s (fun s => s.exec4 t p (opIn 0x701 0x701) (fun f s =>
    if f.any cPoison then s.exc84 t f.x 0x701 .poisoned else s.isIssue t true f))

/-- LOAD (R85). -/
def execLoad (t p : Nat) (s : State) : Host.Outcome State Fault Refusal :=
  actOn (peOk t p) s (fun s => s.exec4 t p (opIn 0x702 0x702) (fun f s => s.loadOp t f))

/-- STORE, an ordered side effect (R85, R134). -/
def execStore (t p : Nat) (s : State) : Host.Outcome State Fault Refusal :=
  actOn (peOk t p) s (fun s => s.sideOp t p (opIn 0x703 0x703) (fun f => f.any cPoison) (fun f s => some (s.storeOp t f)))

/-! ## Time and events -/

/-- TIME: pack time as TIME (R82). -/
def execTime (t p : Nat) (s : State) : Host.Outcome State Fault Refusal :=
  actOn (peOk t p) s (fun s => s.exec4 t p (opIn 0x802 0x802) (fun f s => s.outBoth t f s.now tyTime))

/-- TWAIT: x is released once pack time reaches it; at once where it has, or where x is poisoned, an activity of its context
(R143); one of up to 256 waiting tokens of the tile otherwise, and in stage 4 while all are in use (R88, R139). -/
def execTwait (t p : Nat) (s : State) : Host.Outcome State Fault Refusal :=
  actOn (peOk t p) s (fun s => match s.stage4 t p (opIn 0x803 0x803) with
    | none => s
    | some (f, s1) =>
      if !f.typeOk then s1.exc84 t f.x 0x803 .type
      else if cPoison f.x.ctl || decide (f.xn ≤ s.now.toNat) then (s1.touch (tCtx f.x.tag)).outBoth t f f.x.value tyTime
      else if (s1.tile t).twait.length < 256 then
        s1.updTile t (fun x => { x with twait := x.twait ++ [⟨p, f, f.x.value⟩] })
      else s)

/-- TWAIT_RELEASE: a tile releases its oldest waiting token whose time has come, an activity of its context
(R88, R143). -/
def execTwaitRelease (t : Nat) (s : State) : Host.Outcome State Fault Refusal :=
  actOn (decide (t < 128)) s (fun s => match takeFirst (fun w => decide (w.till.toNat ≤ s.now.toNat)) (s.tile t).twait with
    | some (w, r) =>
      ((s.updTile t (fun x => { x with twait := r })).touch (tCtx w.f.x.tag)).outBoth t w.f w.f.x.value tyTime
    | none => s)

/-- EVENT: a pulse of hardware event line imm[5:0], an ordered side effect that leaves for the system node on VN3 (R82, Table 13.7);
x passes to the destinations. Without a route to that node it waits, as an EMIT does. -/
def execEvent (t p : Nat) (s : State) : Host.Outcome State Fault Refusal :=
  actOn (peOk t p) s (fun s => s.sideOp t p (opIn 0x805 0x805) (fun f => cPoison f.x.ctl) (fun f s =>
    match s.inject (tileNode t) (pageNode .glb 0) 3 3 0 (.event (sImm f.slot % 64)) with
    | (true, s1) => some (s1.outBoth t f f.x.value f.tyX)
    | (false, _) => none))

/-- EMIT: the word of logical stream imm[4:0], an ordered side effect; a poisoned one is void at its hub
(R87, R139, R170). -/
def execEmit (t p : Nat) (s : State) : Host.Outcome State Fault Refusal :=
  actOn (peOk t p) s (fun s => s.sideOp t p (opIn 0x800 0x800) (fun _ => false) (fun f s => s.emitOp t p f))

/-- Word 0 of a SEND item (R360): KIND 0x8000 and the PRIO of the firing's context. -/
def State.sendWord0 (s : State) (f : Firing) : Word :=
  BitVec.ofNat 64 (0x8000 + fld (s.ctxW (tCtx f.x.tag) 0) 45 40 * 2 ^ 16)

/-- SEND: a work item for ring imm[7:0], an ordered side effect; it waits while the ring cannot accept it
(R89, R360, R365). -/
def execSend (t p : Nat) (s : State) : Host.Outcome State Fault Refusal :=
  actOn (peOk t p) s (fun s => s.sideOp t p (opIn 0x804 0x804) (fun f => cPoison f.x.ctl) (fun f s =>
    s.kenSend (sImm f.slot % 256) (s.sendWord0 f) f.x.value
      (BitVec.ofNat 64 (f.x.tag.toNat + f.x.ctl.toNat * 2 ^ 48))))

/-! ## Matching rows that fire reduce and gate entries -/

/-- TOKEN_MATCH: a PE begins its next token and applies the match mode (R75 to R95). -/
def execTokenMatch (t p : Nat) (slotEcc : Ecc) (r : MsRead) (s : State) : Host.Outcome State Fault Refusal :=
  actOn (peOk t p) s (fun s => s.beginToken t p slotEcc r)

/-- Is a token a right CTRL token of a code? -/
def isCtrl (code : Nat) (x : Token) : Bool := dSide x.dest && ctrlCode x == some code

/-- FLUSH: the head token of a PE is a FLUSH; it fires and releases the entry under its key, or removes a STICKY
constant (R94, R99). -/
def execFlush (t p : Nat) (s : State) : Host.Outcome State Fault Refusal :=
  actOn (peOk t p) s (fun s => if s.headIs t p (fun w x => isCtrl 2 x && (modeReduce (sMode w) || sMode w == 2)) then
    s.beginToken t p .clean {} else s)

/-- FLUSH_ALL: the head token is a FLUSH_ALL (R100). -/
def execFlushAll (t p : Nat) (s : State) : Host.Outcome State Fault Refusal :=
  actOn (peOk t p) s (fun s => if s.headIs t p (fun w x => isCtrl 3 x && modeReduce (sMode w)) then s.beginToken t p .clean {} else s)

/-- GATE_OPEN: the head token is a GATE_OPEN at a gate (R94, R95). -/
def execGateOpen (t p : Nat) (s : State) : Host.Outcome State Fault Refusal :=
  actOn (peOk t p) s (fun s => if s.headIs t p (fun w x => isCtrl 5 x && sMode w == 3) then s.beginToken t p .clean {} else s)

/-- GATE_CLOSE: the head token is a GATE_CLOSE at a gate (R95). -/
def execGateClose (t p : Nat) (s : State) : Host.Outcome State Fault Refusal :=
  actOn (peOk t p) s (fun s => if s.headIs t p (fun w x => isCtrl 6 x && sMode w == 3) then s.beginToken t p .clean {} else s)

/-- REDUCE_ACCUMULATE: the head token is a left token at a reduce or resident node (R96, R97). -/
def execReduceAccumulate (t p : Nat) (s : State) : Host.Outcome State Fault Refusal :=
  actOn (peOk t p) s (fun s => if s.headIs t p (fun w x => !dSide x.dest && modeReduce (sMode w)) then s.beginToken t p .clean {} else s)

end Sys2Proof.Machine
end

