-- ==== Sys2Proof/Machine/PortRows.lean ====
section
/-! DEFINITION. Phour ports and fail capture (chapters 6 and 7): what comes up from the pin slices, training, spare lanes. -/

namespace Sys2Proof.Machine

/-- A block that a Phour port in block mode decodes (R231, R250). -/
def State.phourRx (s : State) (p : Nat) : Bool := decide (p < 96) && !s.bamior p && (s.port p).phase == 4

/-- CREDIT with its contents (R235, R237). -/
def execCredit (p : Nat) (c0 : Word) (c1 : BitVec 184) (s : State) : Host.Outcome State Fault Refusal :=
  let c : BitVec 248 := c1 ++ c0
  actOn (s.phourRx p) s (fun s => s.credits p (c.extractLsb' 0 64) (fld c 79 64))

/-- SYNC with the contents `c` (R235, R237, R244, R246, R499). -/
def execSync (p : Nat) (c : BitVec 248) (s : State) : Host.Outcome State Fault Refusal :=
  actOn (s.phourRx p) s (fun s => (s.upSync p (UpSync.ofBits c)).deposed p (UpSync.ofBits c))

/-- KIND of a fail record (Table 6.1). -/
def recKind (rec : BitVec 192) : Nat := fld rec 191 184

/-- FAIL_RECORD (R197 to R212): a record that is neither a SUMMARY nor an END_CAPTURE; one of a reserved KIND is refused. -/
def execFailRecord (p : Nat) (rec : BitVec 192) (s : State) : Host.Outcome State Fault Refusal :=
  actOn (decide (p < 96) && recKind rec != 2 && recKind rec != 3) s (fun s => s.failBlock p rec)

/-- SUMMARY_RECORD (R200). -/
def execSummaryRecord (p : Nat) (rec : BitVec 192) (s : State) : Host.Outcome State Fault Refusal :=
  actOn (decide (p < 96) && recKind rec == 2) s (fun s => s.failBlock p rec)

/-- END_CAPTURE_RECORD (R211). -/
def execEndCaptureRecord (p : Nat) (rec : BitVec 192) (s : State) : Host.Outcome State Fault Refusal :=
  actOn (decide (p < 96) && recKind rec == 3) s (fun s => s.failBlock p rec)

/-- FAIL_IN (R207 to R211): the port's next delivery. -/
def execFailIn (p : Nat) (s : State) : Host.Outcome State Fault Refusal := actOn (decide (p < 96)) s (fun s => s.failIn p)

/-- PORT_FAIL_CTL_WRITE (R205). -/
def execPortFailCtlWrite (p : Nat) (w : RegW) (s : State) : Host.Outcome State Fault Refusal :=
  wrRow s .port p R.portFailCtl w

/-- SB_RSP with its contents (R235, R254, R255, R277). -/
def execSbRsp (p : Nat) (c0 c1 : Word) (c2 : BitVec 120) (s : State) : Host.Outcome State Fault Refusal :=
  let c : BitVec 248 := c2 ++ c1 ++ c0
  actOn (s.phourRx p) s (fun s => s.sbRsp p (fld c 7 0) (fld c 11 8) (c.extractLsb' 64 64))

/-- SIDEBAND_TIMEOUT (R254). -/
def execSidebandTimeout (p tag : Nat) (s : State) : Host.Outcome State Fault Refusal :=
  actOn (decide (p < 96)) s (fun s => s.sbTimeout p tag)

/-- SB_TAG_RELEASE (R254). -/
def execSbTagRelease (p tag : Nat) (s : State) : Host.Outcome State Fault Refusal :=
  actOn (decide (p < 96)) s (fun s => s.sbRelease p tag)

/-- RESUME at a port (R256, R257): PORT_LNK_STAT records the selection; while the port repeats SWITCH of that generation, the
first RESUME of it ends the repetition, and a RUNNING Plate resumes the run from the index (Tables 7.9 and 15.3). -/
def State.onResume (s : State) (p : Nat) (index : Word) (gen : BitVec 16) : State :=
  let st := pp p + R.portLnkStat
  let s1 := (s.putB st 9 true).putF st 31 16 gen.toNat
  if (s.port p).switching && gen.toNat == s.portGen p then
    let s2 := s1.updPort p (fun x => { x with switching := false })
    if s.pst p = 2 ∧ s1.drives p then (s2.updPort p (fun x => { x with resumeIdx := some index })).resumeTry p else s2
  else s1

/-- RESUME with its contents (R235, R256). -/
def execResume (p : Nat) (c0 c1 : Word) (c2 : BitVec 120) (s : State) : Host.Outcome State Fault Refusal :=
  let c : BitVec 248 := c2 ++ c1 ++ c0
  actOn (s.phourRx p) s (fun s => s.onResume p (c.extractLsb' 0 64) (c.extractLsb' 80 16))

/-- LINKID of a pin slice (R250, Table 7.7 step 5): the peer is recorded, and the link is UP once 8 codewords have passed
without an uncorrectable one. -/
def execLinkid (p : Nat) (c0 c1 c2 : Word) (c3 : BitVec 56) (s : State) : Host.Outcome State Fault Refusal :=
  let c : BitVec 248 := c3 ++ c2 ++ c1 ++ c0
  actOn (s.phourRx p && s.lnk p != 4) s (fun s =>
    let s1 := (s.setReg (pp p + R.portLnkPeer) (c.extractLsb' 0 64)).setReg (pp p + R.portLnkPeerinfo)
      (BitVec.ofNat 64 (fld c 65 64 + fld c 95 72 * 2 ^ 8))
    (s1.updPort p (fun x => { x with idSeen := true })).tryUp p)

/-- LANEMAP_ACK (R253, Table 7.8 step 3). -/
def execLanemapAck (h : Nat) (c : BitVec 248) (s : State) : Host.Outcome State Fault Refusal :=
  actOn (decide (h < 24)) s (fun s => s.lanemapAck h (fld c 31 0))

/-- UPSTREAM_INVALID_BLOCK (R233, R480). -/
def execUpstreamInvalidBlock (l : Nat) (isData : Bool) (code : Byte) (s : State) : Host.Outcome State Fault Refusal :=
  actOn (decide (l < 98)) s (fun s => s.invalidBlock l isData code)

/-- An uncorrectable upstream codeword (Table 7.5): counted, with SAT of every enabled group; on a Bamior or brace link the
receiver asks for the messages again (R481). -/
def State.uncorrectable (s : State) (l : Nat) : State :=
  let s0 := s.updPort l (fun x => { x with badAt := s.now })
  let s1 := if l < 96 then s0.inc (pp l + R.portLnkErr) 15 0 else s0
  if 96 ≤ l ∨ s.bamior l then s1.linkUncorr l else s1.sat l (fun _ => true)

/-- A link decodes a codeword that it has received with errors (R230, Table 7.5): one that the decoder flags has its blocks
discarded; otherwise the corrected symbols are counted. -/
def State.rxCodeword (s : State) (c : RxCodeword) : State :=
  match rsFix c.errs with
  | none => s.uncorrectable c.link
  | some e => s.corrected c.link (e.map (fun x => x.1))

/-- UPSTREAM_UNCORRECTABLE (R246, R481). -/
def execUpstreamUncorrectable (c : RxCodeword) (s : State) : Host.Outcome State Fault Refusal :=
  actOn (decide (c.link < 98) && (s.port c.link).phase == 4) s (fun s => s.rxCodeword c)

/-- HEARTBEAT_LOSS (R247). -/
def execHeartbeatLoss (l : Nat) (s : State) : Host.Outcome State Fault Refusal :=
  actOn (decide (l < 98)) s (fun s => if l < 96 then s.hbLost l else s.braceLost l)

/-- LINK_ENABLE: EN = 1 written to PORT_LNK_CTL (R250). -/
def execLinkEnable (p : Nat) (w : RegW) (s : State) : Host.Outcome State Fault Refusal :=
  opRow (wBit w 0) s .port p R.portLnkCtl w

/-- RETRAIN of PORT_LNK_CTL (R259). -/
def execRetrain (p : Nat) (w : RegW) (s : State) : Host.Outcome State Fault Refusal :=
  opRow (wBit w 3) s .port p R.portLnkCtl w

/-- TRAINING_FRAME on a lane (R249, Table 7.7). -/
def execTrainingFrame (l lane : Nat) (f : TrainFrame) (s : State) : Host.Outcome State Fault Refusal :=
  actOn (decide (l < 98 ∧ lane < (if l < 96 then 5 else 8))) s (fun s => if l < 96 then s.trainFrame l lane f else s.braceFrame l lane f)

/-- TRAINING_TIMEOUT (R251). -/
def execTrainingTimeout (l : Nat) (s : State) : Host.Outcome State Fault Refusal :=
  actOn (decide (l < 98)) s (fun s => if l < 96 then s.trainTimeout l else s.braceTimeout l)

/-- SPARE_LOCK_TIMEOUT (R252). -/
def execSpareLockTimeout (p lane : Nat) (s : State) : Host.Outcome State Fault Refusal :=
  actOn (decide (p < 96)) s (fun s => s.spareLock p lane)

/-- SPARE_GO: GO of HUB_LNK_SPARE (R253, Table 7.8 step 1). -/
def execSpareGo (h : Nat) (w : RegW) (s : State) : Host.Outcome State Fault Refusal :=
  opRow (wBit w 10) s .hub h R.hubLnkSpare w

/-- LANEMAP_ACK_TIMEOUT (R253). -/
def execLanemapAckTimeout (h : Nat) (s : State) : Host.Outcome State Fault Refusal :=
  actOn (decide (h < 24)) s (fun s => s.lanemapTimeout h)

/-- LANE_SWAP (R253, Table 7.8 step 4). -/
def execLaneSwap (h : Nat) (s : State) : Host.Outcome State Fault Refusal := actOn (decide (h < 24)) s (fun s => s.laneSwap h)

/-- SWITCH_SEND: SEND of PORT_LNK_SWITCH (R256). -/
def execSwitchSend (p : Nat) (w : RegW) (s : State) : Host.Outcome State Fault Refusal :=
  opRow (wBit w 16) s .port p R.portLnkSwitch w

end Sys2Proof.Machine
end

