-- ==== Sys2Proof/Machine/PwrRows.lean ====
section
/-! DEFINITION. Power domains, the governor, pack time and gauges (chapter 14). -/

namespace Sys2Proof.Machine

/-- DOMAIN_TARGET_WRITE (R457, R461, R464). -/
def execDomainTargetWrite (d : Nat) (w : RegW) (s : State) : Host.Outcome State Fault Refusal :=
  opRow (decide (d < 176) && w.size != .hi32) s .pwr 0 (R.pwrDom + 8 * d) w

/-- DOMAIN_DRAIN_DONE (R461). -/
def execDomainDrainDone (d : Nat) (s : State) : Host.Outcome State Fault Refusal :=
  actOn (decide (d < 176)) s (fun s => s.domDrained d)

/-- DOMAIN_POWER_OFF_DONE (R461). -/
def execDomainPowerOffDone (d : Nat) (s : State) : Host.Outcome State Fault Refusal :=
  actOn (decide (d < 176)) s (fun s => s.domPowerOff d)

/-- DOMAIN_WAKE_DONE (R463). -/
def execDomainWakeDone (d : Nat) (s : State) : Host.Outcome State Fault Refusal :=
  actOn (decide (d < 176)) s (fun s => s.domWakeDone d)

/-- GOVERNOR_INTERVAL (R465 to R469). -/
def execGovernorInterval (i : GovIn) (s : State) : Host.Outcome State Fault Refusal := act s (fun s => s.governor i)

/-- PACK_SYNC_EDGE (R472). -/
def execPackSyncEdge (s : State) : Host.Outcome State Fault Refusal := act s (fun s => s.packSync)

/-- REF_LOSS (R473). -/
def execRefLoss (s : State) : Host.Outcome State Fault Refusal := act s (fun s => s.refLoss)

/-- TIME_LOCK (R471). -/
def execTimeLock (s : State) : Host.Outcome State Fault Refusal := act s (fun s => s.timeLock)

/-- REFERENCE_RETURN (R473). -/
def execReferenceReturn (s : State) : Host.Outcome State Fault Refusal := act s (fun s => s.refReturn)

/-- GAUGE_SAMPLE (R474). -/
def execGaugeSample (g : Nat) (v : Word) (s : State) : Host.Outcome State Fault Refusal :=
  actOn (decide (g < 256)) s (fun s => s.sample g v)

/-- GAUGE_CFG_WRITE (R474, R476). -/
def execGaugeCfgWrite (g : Nat) (w : RegW) (s : State) : Host.Outcome State Fault Refusal :=
  wrRow s .time (1 + g / 128) (R.gaugeCfg + 8 * (g % 128)) w

/-- GAUGE_SNAP: a read of the register (R475, R578). -/
def execGaugeSnap (r : RegR) (s : State) : Host.Outcome State Fault Refusal := done (s.readRow (tmp + R.gaugeSnap) r)

/-- RAIL_EXCURSION (R572). -/
def execRailExcursion (s : State) : Host.Outcome State Fault Refusal := act s (fun s => s.railExcursion)

end Sys2Proof.Machine
end

