-- ==== Sys2Proof/Machine/ResetRows.lean ====
section
/-! DEFINITION. Resets (R17, R331, R410, R545, R549, R550, R559, R571, R572) and the control window (R15, R578). -/

namespace Sys2Proof.Machine

/-- POWER_ON_RESET (R17): the whole device at its power-on state, held until PORST_N is released. -/
def execPowerOnReset (s : State) : Host.Outcome State Fault Refusal := done (s.powerOn true s.brown)

/-- BROWN_OUT (R572): a rail below 90 % of nominal acts as a power-on reset. -/
def execBrownOut (s : State) : Host.Outcome State Fault Refusal := done (s.powerOn s.pinLow true)

/-- PORST_N_RELEASE (R571): BOOTSEL is sampled and core 0 boots. -/
def execPorstNRelease (bootsel : BitVec 2) (s : State) : Host.Outcome State Fault Refusal :=
  done (s.porstRelease bootsel.toNat)

/-- BROWN_OUT_RELEASE (R572). -/
def execBrownOutRelease (s : State) : Host.Outcome State Fault Refusal := done s.brownRelease

/-- GLB_RST with GO (R550). -/
def execGlbRst (w : RegW) (s : State) : Host.Outcome State Fault Refusal := opRow (wBit w 0) s .glb 0 R.glbRst w

/-- FRST of the PG_CTL of page `p` of a block (R559). -/
def frstRow (b : PKind) (p : Nat) (w : RegW) (s : State) : Host.Outcome State Fault Refusal :=
  opRow (wBit w 0) s b p R.pgCtl w

/-- Has a page a function reset with a row of its own? -/
def ownReset (b : PKind) (p : Nat) : Bool :=
  match b with
  | .tile | .hub | .port | .ret | .shep | .dma | .ken | .ledg => true
  | .hbmc => decide (p < 5)
  | .bark => p == 0
  | _ => false

/-- FUNCTION_RESET (R559) of the page at an offset that has no row of its own. -/
def execFunctionReset (page : Nat) (w : RegW) (s : State) : Host.Outcome State Fault Refusal :=
  match pageOf page with
  | some (b, p) => if ownReset b p then done s else frstRow b p w s
  | none => done s

/-- FUNCTION_RESET_DONE (R559): the reset of a page that is busy ends. -/
def execFunctionResetDone (page : Nat) (s : State) : Host.Outcome State Fault Refusal :=
  act s (fun s => if s.frstBusy page then s.functionResetDone page else s)

/-- TILE_FUNCTION_RESET (R582). -/
def execTileFunctionReset (t : Nat) (w : RegW) (s : State) : Host.Outcome State Fault Refusal := frstRow .tile t w s
/-- HUB_FUNCTION_RESET (R583). -/
def execHubFunctionReset (h : Nat) (w : RegW) (s : State) : Host.Outcome State Fault Refusal := frstRow .hub h w s
/-- PORT_FUNCTION_RESET (R259, R228, R240). -/
def execPortFunctionReset (p : Nat) (w : RegW) (s : State) : Host.Outcome State Fault Refusal := frstRow .port p w s
/-- RET_FUNCTION_RESET (R296). -/
def execRetFunctionReset (n : Nat) (w : RegW) (s : State) : Host.Outcome State Fault Refusal := frstRow .ret n w s
/-- SHEP_FUNCTION_RESET (R331). -/
def execShepFunctionReset (c : Nat) (w : RegW) (s : State) : Host.Outcome State Fault Refusal := frstRow .shep c w s
/-- DMA_FUNCTION_RESET (R421). -/
def execDmaFunctionReset (ch : Nat) (w : RegW) (s : State) : Host.Outcome State Fault Refusal := frstRow .dma ch w s
/-- KEN_FUNCTION_RESET (R387). -/
def execKenFunctionReset (w : RegW) (s : State) : Host.Outcome State Fault Refusal := frstRow .ken 0 w s
/-- KEN_RING_PAGE_RESET (R388): KEN pages [1] to [8]. -/
def execKenRingPageReset (p : Nat) (w : RegW) (s : State) : Host.Outcome State Fault Refusal :=
  if p = 0 then done s else frstRow .ken p w s
/-- BARK_FUNCTION_RESET (R389). -/
def execBarkFunctionReset (w : RegW) (s : State) : Host.Outcome State Fault Refusal := frstRow .bark 0 w s
/-- HBMC_FUNCTION_RESET (R411). -/
def execHbmcFunctionReset (u : Nat) (w : RegW) (s : State) : Host.Outcome State Fault Refusal := frstRow .hbmc u w s
/-- LEDG_FUNCTION_RESET (R534). -/
def execLedgFunctionReset (w : RegW) (s : State) : Host.Outcome State Fault Refusal := frstRow .ledg 0 w s

/-- FUNCTION_LEVEL_RESET (R545). -/
def execFunctionLevelReset (s : State) : Host.Outcome State Fault Refusal := act s (fun s => s.flr)

/-- REGISTER_WRITE (R15, R528): any register, with whatever its write does. -/
def execRegisterWrite (off : BitVec 24) (w : RegW) (s : State) : Host.Outcome State Fault Refusal :=
  done (s.writeRow off.toNat w (hookAt off.toNat))

/-- READ_CLEAR (R578). -/
def execReadClear (off : BitVec 24) (r : RegR) (s : State) : Host.Outcome State Fault Refusal :=
  done (s.readRow off.toNat r)

end Sys2Proof.Machine
end

