-- ==== Sys2Proof/Machine/RetRows.lean ====
section
/-! DEFINITION. The Retriever's commands (chapter 8): start entries, CCWs, units, buses, GPIO. -/

namespace Sys2Proof.Machine

/-- RET_RUN: RUN = 1 written to RET_SC_CTL (R264). -/
def execRetRun (n : Nat) (w : RegW) (s : State) : Host.Outcome State Fault Refusal :=
  opRow (wBit w 0) s .ret n R.retScCtl w

/-- RET_START_DOORBELL (R263, R393). -/
def execRetStartDoorbell (n : Nat) (w : RegW) (s : State) : Host.Outcome State Fault Refusal :=
  wrRow s .ret n R.retScSprod w

/-- START_ENTRY_TAKE (R263). -/
def execStartEntryTake (n : Nat) (s : State) : Host.Outcome State Fault Refusal :=
  engOn (decide (n < 64)) s (fun s => s.startTake n)

/-- CCW_FETCH (R265, R267, R284, R286). -/
def execCcwFetch (n : Nat) (s : State) : Host.Outcome State Fault Refusal :=
  engOn (decide (n < 64)) s (fun s => s.ccwFetch n)

/-- WRITE (R270, R274). -/
def execCcwWrite (n : Nat) (s : State) : Host.Outcome State Fault Refusal :=
  engOn (decide (n < 64)) s (fun s => s.ccwUnit n (fun c _ => c == 1))

/-- Is a CCW a READ that a row of its own does not name? -/
def plainRead (c : Nat) (w : BitVec 128) : Bool := c == 2 && !captureIs c w

/-- READ (R270, R274), CAPTURE apart. -/
def execCcwRead (n : Nat) (s : State) : Host.Outcome State Fault Refusal :=
  engOn (decide (n < 64)) s (fun s => s.ccwUnit n plainRead)

/-- Is a CCW a CONTROL that a row of its own does not name: an I3C CCC, or one that its checks end? -/
def plainControl (c : Nat) (w : BitVec 128) : Bool := c == 3 && (List.range 7).all (fun op => !gpioIs op c w)

/-- CONTROL (R274), the GPIO operations apart. -/
def execCcwControl (n : Nat) (s : State) : Host.Outcome State Fault Refusal :=
  engOn (decide (n < 64)) s (fun s => s.ccwUnit n plainControl)

/-- SENSE (R274, Table 8.5). -/
def execCcwSense (n : Nat) (s : State) : Host.Outcome State Fault Refusal :=
  engOn (decide (n < 64)) s (fun s => s.ccwUnit n (fun c _ => c == 4))

/-- JUMP (R268, R290). -/
def execCcwJump (n : Nat) (s : State) : Host.Outcome State Fault Refusal :=
  engOn (decide (n < 64)) s (fun s => s.ccwJump n)

/-- WAIT_EVENT (R281). -/
def execCcwWaitEvent (n : Nat) (s : State) : Host.Outcome State Fault Refusal :=
  engOn (decide (n < 64)) s (fun s => s.ccwWaitEvent n)

/-- WAIT_TIME (R282). -/
def execCcwWaitTime (n : Nat) (s : State) : Host.Outcome State Fault Refusal :=
  engOn (decide (n < 64)) s (fun s => s.ccwWaitTime n)

/-- SKIP_IF (R283). -/
def execCcwSkipIf (n : Nat) (s : State) : Host.Outcome State Fault Refusal :=
  engOn (decide (n < 64)) s (fun s => s.ccwSkipIf n)

/-- POST (R288). -/
def execCcwPost (n : Nat) (s : State) : Host.Outcome State Fault Refusal :=
  engOn (decide (n < 64)) s (fun s => s.ccwPost n)

/-- NOP (R267). -/
def execCcwNop (n : Nat) (s : State) : Host.Outcome State Fault Refusal :=
  engOn (decide (n < 64)) s (fun s => s.ccwNop n)

/-- GPIO OUT_SET (R274, Table 8.5). -/
def execGpioOutSet (n : Nat) (s : State) : Host.Outcome State Fault Refusal :=
  engOn (decide (n < 64)) s (fun s => s.ccwUnit n (gpioIs 0))

/-- GPIO OUT_CLR (R274, Table 8.5). -/
def execGpioOutClr (n : Nat) (s : State) : Host.Outcome State Fault Refusal :=
  engOn (decide (n < 64)) s (fun s => s.ccwUnit n (gpioIs 1))

/-- GPIO OUT_TOGGLE (R274, Table 8.5). -/
def execGpioOutToggle (n : Nat) (s : State) : Host.Outcome State Fault Refusal :=
  engOn (decide (n < 64)) s (fun s => s.ccwUnit n (gpioIs 2))

/-- GPIO DIR_OUT (R274, Table 8.5). -/
def execGpioDirOut (n : Nat) (s : State) : Host.Outcome State Fault Refusal :=
  engOn (decide (n < 64)) s (fun s => s.ccwUnit n (gpioIs 3))

/-- GPIO DIR_IN (R274, Table 8.5). -/
def execGpioDirIn (n : Nat) (s : State) : Host.Outcome State Fault Refusal :=
  engOn (decide (n < 64)) s (fun s => s.ccwUnit n (gpioIs 4))

/-- GPIO ARM (R274, Table 8.5). -/
def execGpioArm (n : Nat) (s : State) : Host.Outcome State Fault Refusal :=
  engOn (decide (n < 64)) s (fun s => s.ccwUnit n (gpioIs 5))

/-- GPIO DISARM (R274, Table 8.5). -/
def execGpioDisarm (n : Nat) (s : State) : Host.Outcome State Fault Refusal :=
  engOn (decide (n < 64)) s (fun s => s.ccwUnit n (gpioIs 6))

/-- GPIO CAPTURE (R275). -/
def execGpioCapture (n : Nat) (s : State) : Host.Outcome State Fault Refusal :=
  engOn (decide (n < 64)) s (fun s => s.ccwUnit n captureIs)

/-- BUS_TRANSFER_COMPLETE (R270, R276, R278). -/
def execBusTransferComplete (n : Nat) (r : BusResult) (s : State) : Host.Outcome State Fault Refusal :=
  actOn (decide (n ≤ 64)) s (fun s => if n = 64 then s.romBus r else s.busDone n r)

/-- WAIT_EVENT_TIMEOUT (R281). -/
def execWaitEventTimeout (n : Nat) (s : State) : Host.Outcome State Fault Refusal :=
  engOn (decide (n < 64)) s (fun s => s.waitTimeout n)

/-- WAIT_TIME_EXPIRE (R282). -/
def execWaitTimeExpire (n : Nat) (s : State) : Host.Outcome State Fault Refusal :=
  engOn (decide (n < 64)) s (fun s => s.waitExpire n)

/-- GPIO_EDGE (R275, R280). -/
def execGpioEdge (pin : Nat) (rising : Bool) (s : State) : Host.Outcome State Fault Refusal :=
  actOn (decide (pin < 32)) s (fun s => s.gpioEdge pin rising)

/-- I3C_IBI (R280, Table 8.5). -/
def execI3cIbi (bus : Nat) (addr : BitVec 7) (mdb : Byte) (s : State) : Host.Outcome State Fault Refusal :=
  actOn (decide (bus < 4)) s (fun s => s.i3cIbi bus addr mdb)

/-- RET_RESUME: RESUME of RET_SC_CTL (R285, R286). -/
def execRetResume (n : Nat) (w : RegW) (s : State) : Host.Outcome State Fault Refusal :=
  opRow (wBit w 3) s .ret n R.retScCtl w

/-- REMOTE_TIMEOUT (R278). -/
def execRemoteTimeout (n : Nat) (s : State) : Host.Outcome State Fault Refusal :=
  engOn (decide (n < 64)) s (fun s => s.remoteTimeout n)

/-- EMERG_ARM: ARMED written to RET_EMERG_CTL (R294). -/
def execEmergArm (w : RegW) (s : State) : Host.Outcome State Fault Refusal :=
  opRow (wBit w 8) s .ret 0 R.retEmergCtl w

end Sys2Proof.Machine
end

