-- ==== Sys2Proof/Machine/RingRows.lean ====
section
/-! DEFINITION. Rings in memory (R391 to R397, R585): configuration and consumer registers, stashes. -/

namespace Sys2Proof.Machine

/-- The register that configures a ring: block, page, offset (Table 12.1). -/
def ringCfg : RingId → PKind × Nat × Nat
  | .kenOut n => (.ken, 1 + n / 32, R.kenRingCfg + 64 * (n % 32))
  | .kenTrace => (.ken, 0, R.kenTraceRing)
  | .retStart n => (.ret, n, R.retScSring)
  | .retComp n => (.ret, n, R.retScCring)
  | .dma n => (.dma, n, R.dmaRing)
  | .quiescence => (.glb, 0, R.glbQmRing)
  | .failLog p => (.port, p, R.portFailLog)
  | .probe k => (.noc, k, R.nocPrbRing)

/-- The consumer register of a ring that an engine produces; none of the rings that an engine consumes. -/
def ringConsumer : RingId → Option (PKind × Nat × Nat)
  | .kenOut n => some (.ken, 1 + n / 32, R.kenRingCons + 64 * (n % 32))
  | .kenTrace => some (.ken, 0, R.kenTraceCons)
  | .retStart _ => none
  | .retComp n => some (.ret, n, R.retScCcons)
  | .dma _ => none
  | .quiescence => some (.glb, 0, R.glbQmCons)
  | .failLog p => some (.port, p, R.portFailLogCons)
  | .probe k => some (.noc, k, R.nocPrbCons)

/-- STASH_DRAIN (R292, R369, R397): the oldest stashed record of a ring with a stash, where the ring has room. -/
def execStashDrain (r : RingId) (s : State) : Host.Outcome State Fault Refusal :=
  engOn true s (fun s => match r with
    | .kenOut n => if n < 256 then s.kenStash n else s
    | .retComp n => if n < 64 then s.retStash n else s
    | _ => s)

/-- RING_CONSUMER_WRITE (R395). -/
def execRingConsumerWrite (r : RingId) (w : RegW) (s : State) : Host.Outcome State Fault Refusal :=
  match ringConsumer r with
  | some (b, p, o) => wrRow s b p o w
  | none => done s

/-- RING_CONFIG_WRITE (R585). -/
def execRingConfigWrite (r : RingId) (w : RegW) (s : State) : Host.Outcome State Fault Refusal :=
  let c := ringCfg r
  wrRow s c.1 c.2.1 c.2.2 w

end Sys2Proof.Machine
end

