-- ==== Sys2Proof/Machine/SemRows.lean ====
section
/-! DEFINITION. Hardware semaphores (R398 to R411). -/

namespace Sys2Proof.Machine

/-- TAKE (R405, R406). -/
def execSemTake (r : SemReq) (s : State) : Host.Outcome State Fault Refusal := act s (fun s => s.semReq 0 r)

/-- TRY (R405). -/
def execSemTry (r : SemReq) (s : State) : Host.Outcome State Fault Refusal := act s (fun s => s.semReq 2 r)

/-- GIVE (R405). -/
def execSemGive (r : SemReq) (s : State) : Host.Outcome State Fault Refusal := act s (fun s => s.semReq 1 r)

/-- PEEK (R405). -/
def execSemPeek (r : SemReq) (s : State) : Host.Outcome State Fault Refusal := act s (fun s => s.semReq 3 r)

/-- SEM_PLAIN_STORE (R403). -/
def execSemPlainStore (r : MemReq) (s : State) : Host.Outcome State Fault Refusal := act s (fun s => s.semStore r)

/-- LEASH_EXPIRY (R409). -/
def execLeashExpiry (u : Nat) (s : State) : Host.Outcome State Fault Refusal :=
  actOn (decide (u < 5)) s (fun s => s.leashExpire u)

/-- RESET_NOTICE (R410). -/
def execResetNotice (o : Origin) (s : State) : Host.Outcome State Fault Refusal := act s (fun s => s.resetNotice o)

end Sys2Proof.Machine
end

