-- ==== Sys2Proof/Machine/TileRows.lean ====
section
/-! DEFINITION. The tiles apart from their opcodes (chapters 2 to 4): queues, spill, rotation, scrubbing, loads, fencing,
contexts, I-structures, the quiescence monitor. -/

namespace Sys2Proof.Machine

/-! ## Queues, spill, rotation -/

/-- TOKEN_ENTER_TILE (R40, R41, R120): the oldest token from a node. -/
def execTokenEnterTile (t src : Nat) (s : State) : Host.Outcome State Fault Refusal := actOn (decide (t < 128)) s (fun s => s.enterTile t src)
/-- SPILL_DELAY_EXPIRE (R120). -/
def execSpillDelayExpire (t p : Nat) (s : State) : Host.Outcome State Fault Refusal := actOn (decide (t < 128 ∧ p < 4)) s (fun s => s.spillDelay t p)
/-- QUEUE_CHAIN_REFILL (R121). -/
def execQueueChainRefill (t p : Nat) (s : State) : Host.Outcome State Fault Refusal := engOn (decide (t < 128 ∧ p < 4)) s (fun s => s.refill t p)
/-- SPILL_ACCESS_COMPLETE (R106). -/
def execSpillAccessComplete (t : Nat) (key : Word) (s : State) : Host.Outcome State Fault Refusal :=
  engOn (decide (t < 128)) s (fun s => s.spillDone t key)
/-- SPILL_BUCKET_GRANT (R126). -/
def execSpillBucketGrant (t : Nat) (s : State) : Host.Outcome State Fault Refusal := engOn (decide (t < 128)) s (fun s => s.bucketGrant t)
/-- FABRIC_STALL (R127). -/
def execFabricStall (t : Nat) (s : State) : Host.Outcome State Fault Refusal := actOn (decide (t < 128)) s (fun s => s.fabricStall t)
/-- CONFLICT_WINDOW_END (R107). -/
def execConflictWindowEnd (t : Nat) (s : State) : Host.Outcome State Fault Refusal := actOn (decide (t < 128)) s (fun s => s.windowEnd t)
/-- FORCE_ROT of TILE_MS_CTL (R107). -/
def execForceRot (t : Nat) (w : RegW) (s : State) : Host.Outcome State Fault Refusal :=
  opRow (wBit w 2) s .tile t R.tileMsCtl w
/-- SWEEP_MOVE (R108 step 4). -/
def execSweepMove (a : SweepRead) (s : State) : Host.Outcome State Fault Refusal :=
  actOn (decide (a.tile < 128)) s (fun s => s.sweepMove a.tile a.read)
/-- SWEEP_COMPLETE (R108 step 5). -/
def execSweepComplete (t : Nat) (s : State) : Host.Outcome State Fault Refusal := actOn (decide (t < 128)) s (fun s => s.sweepDone t)
/-- MS_SCRUB (R114, R115): the entry in way `way` of the set, or in the overflow way, has the outcome `ecc`; `e` is the rest of
what the read meets. -/
def execMsScrub (t : Nat) (overflow : Bool) (idx way : Nat) (ecc : Ecc) (e : ScrubErr) (s : State) :
    Host.Outcome State Fault Refusal :=
  actOn (decide (t < 128)) s (fun s =>
    let hit := (((s.tile t).ms.filter (scrubs overflow idx)).drop (if overflow then 0 else way)).head?
    s.msScrub t overflow idx { bad := (match hit with | some v => [⟨v.key, ecc, e.flips⟩] | none => []) ++ e.more,
                               sums := if e.sumBad then [idx] else [] })

/-! ## Node-store loads, spill region, fencing, exception FIFO -/

/-- An engine's read of `n` bytes at `a` goes through the codes of the unit that serves it (Table 13.4): true where its data
can be used. -/
def State.codes (s : State) (a n : Nat) (e : LineErr) : Bool × State :=
  if s.access a n false = .ok then s.unitRead a n e else (true, s)

/-- GO of TILE_LOAD_CTL (R70, R71). -/
def execTileLoadGo (t : Nat) (w : RegW) (s : State) : Host.Outcome State Fault Refusal :=
  opRow (wBit w 17) s .tile t R.tileLoadCtl w
/-- TILE_LOAD_ENTRY (R71): the line that the next entry begins in is read with the errors `e`. -/
def execTileLoadEntry (t : Nat) (e : LineErr) (s : State) : Host.Outcome State Fault Refusal :=
  engOn (decide (t < 128)) s (fun s =>
    let l := (s.tile t).load
    if !l.busy then s
    else
      let (ok, s1) := s.codes (l.addr + 24 * l.next) 24 e
      s1.loadEntry t (if ok then .clean else .uncorrectable))
/-- TILE_MS_SPILL_WRITE (R110, R119). -/
def execTileMsSpillWrite (t : Nat) (w : RegW) (s : State) : Host.Outcome State Fault Refusal :=
  wrRow s .tile t R.tileMsSpill w
/-- SPILL_READY (R110). -/
def execSpillReady (t : Nat) (s : State) : Host.Outcome State Fault Refusal := actOn (decide (t < 128)) s (fun s => s.spillReady t)
/-- TILE_FENCE (R153, R154). -/
def execTileFence (t : Nat) (w : RegW) (s : State) : Host.Outcome State Fault Refusal :=
  opRow (wBit w 0) s .tile t R.tileFence w
/-- EXC_POP (R142). -/
def execExcPop (t : Nat) (w : RegW) (s : State) : Host.Outcome State Fault Refusal :=
  opRow (wBit w 0) s .tile t R.tileExcCtl w

/-! ## I-structures at their controller (R53 to R58, R579) -/

/-- No pool index (R55). -/
def noReader : Nat := 0xFFFFFF

/-- Address of a deferred-reader entry (R55). -/
def State.readerAt (s : State) (c j : Nat) : Nat := fld (s.ctxW c 3) 47 0 + 32 * j

/-- Change word 6 of a context's descriptor, which holds DEFER_FREE and DEFER_BUMP (Table 2.6). -/
def State.setPool (s : State) (c hi lo v : Nat) : State :=
  s.wr64 (s.ctxAddr c + 48) (setFld (s.ctxW c 6) hi lo v)

/-- Take a deferred-reader entry (R58): from the free chain, else the next one never used; none when both are exhausted. -/
def State.takeReader (s : State) (c : Nat) : Option (Nat × State) :=
  let free := fld (s.ctxW c 6) 23 0
  let bump := fld (s.ctxW c 6) 47 24
  if free ≠ noReader then some (free, s.setPool c 23 0 (s.rd (s.readerAt c free) 32 / 2 ^ 88 % 2 ^ 24))
  else if bump < fld (s.ctxW c 2) 55 32 then some (bump, s.setPool c 47 24 (bump + 1))
  else none

/-- Return a deferred-reader entry to the free chain (R56): the last one returned is the next one taken (log entry 11). -/
def State.freeReader (s : State) (c j : Nat) : State :=
  let next := fld (s.ctxW c 6) 23 0
  let a := s.readerAt c j
  (s.wr a 32 (s.rd a 32 % 2 ^ 88 + next * 2 ^ 88)).setPool c 23 0 j

/-- A token from controller `u` to a return destination under a return tag (R56). -/
def State.answerReader (s : State) (u : Nat) (dest : Dest) (tag : Tag) (v : Word) (ctl : Byte) : State :=
  s.sendFrom (unitNode u) { dest := dest, tag := tag, value := v, ctl := ctl }

/-- Answer the readers queued on a word in order and return their entries; `n` bounds them. -/
def State.answerAll (s : State) (u c : Nat) (v : Word) (ctl : Byte) : Nat → Nat → State
  | 0, _ => s
  | n + 1, j =>
    if j = noReader then s
    else
      let r := s.rd (s.readerAt c j) 32
      let s1 := s.answerReader u (plainDest (BitVec.ofNat 40 r)) (BitVec.ofNat 48 (r / 2 ^ 40)) v ctl
      State.answerAll (s1.freeReader c j) u c v ctl n (r / 2 ^ 88 % 2 ^ 24)

/-- An I-fetch that finds no value yet queues a reader behind `tail` (none for an EMPTY word), or is answered poisoned where
the pool is exhausted (R58). -/
def State.deferReader (s : State) (u : Nat) (r : IReq) (b : Nat) (w : Word) : State :=
  let c := tCtx r.f.x.tag
  let dest := plainDest (sDest r.f.slot 0)
  match s.takeReader c with
  | none => (s.answerReader u dest r.rtag 0 0x1C).inc (tp r.tile + R.tileFabEvt) 47 32
  | some (j, s1) =>
    let s2 := s1.wr (s1.readerAt c j) 32 (dest.toNat + r.rtag.toNat * 2 ^ 40 + noReader * 2 ^ 88)
    if fld w 63 62 = 0 then s2.wr64 b (BitVec.ofNat 64 (2 * 2 ^ 62 + j * 2 ^ 24 + j))
    else
      let ta := s2.readerAt c (fld w 23 0)
      let t0 := s2.rd ta 32
      (s2.wr ta 32 (t0 % 2 ^ 88 + j * 2 ^ 88 + t0 / 2 ^ 112 * 2 ^ 112)).wr64 b (setFld w 23 0 j)

/-- An I-store that writes its word (Table 2.9): data and TYPE, the queued readers, and x to destination 0 (Table 3.3). -/
def State.storeWord (s : State) (u : Nat) (r : IReq) (a b : Nat) (w : Word) : State :=
  let c := tCtx r.f.x.tag
  let (v, yc) := r.f.y.getD (0, 0)
  let s1 := (s.wr64 a v).wr64 b (BitVec.ofNat 64 (2 ^ 62 + cType yc * 2 ^ 48))
  let s2 := if fld w 63 62 = 2 then
      s1.answerAll u c v (mkCtl (cType yc) false false false false) (fld (s.ctxW c 6) 47 24 + 1) (fld w 47 24)
    else s1
  s2.outTo r.tile r.f.slot r.f.x.tag 0 r.f.x.value (r.f.outCtl tyUint64 false false)

/-- The controller's read of a word of an I-structure: its status. The line's codes judge it (Table 13.4); a poisoned spare
line raises the controller's uncorrectable-data fault as well (R579). -/
def State.iRead (s : State) (a : Nat) (e : LineErr) : Status × State :=
  match s.access a 8 true with
  | .ok => let (ok, s1) := (s.visit a .ok).unitRead a 64 e; (if ok then .ok else .data, s1)
  | .data =>
    let s1 := s.visit a .data
    (.data, if s.poisoned (a / 64 * 64) then s1.fault (hbp (hbmUnit a)) .uncorrectable else s1)
  | st => (st, s.visit a st)

/-- The controller answers the request of an I-structure operation that it executes (R442). -/
def State.iAck (s : State) (u : Nat) (r : IReq) : State :=
  s.answer (unitNode u) (some ⟨if r.store then 7 else 6, peReq r.tile (s.isData (tCtx r.f.x.tag) r.f.idx) 0, r.rroute, r.gen⟩)
    (tileNode r.tile) r.txid .ok []

/-- The oldest request of controller `u`, an I-fetch or an I-store as `store` says, executes on its word (R56, R579): `es` and
`ed` are the errors that the lines of the state word and of the data word are read with. -/
def State.iExec (s : State) (u : Nat) (store : Bool) (es ed : LineErr) : State :=
  match (s.hb u).iq with
  | [] => s
  | r :: l =>
    if r.store != store then s
    else
      let c := tCtx r.f.x.tag
      let a := s.isData c r.f.idx
      let b := s.isState c r.f.idx
      match ((s.updHb u (fun h => { h with iq := l })).iAck u r).iRead b es with
      | (.ok, s1) =>
        let w := s1.rd64 b
        let st := fld w 63 62
        if st = 3 then (s1.isError r.tile r.f).fault (hbp u) .uncorrectable
        else if store && st == 1 then
          let (v, yc) := r.f.y.getD (0, 0)
          s1.excToken r.tile r.f.x v (excCtl r.f.x (cType yc) false)
        else if !store && st != 1 then s1.deferReader u r b w
        else match s1.iRead a ed with
          | (.ok, s2) =>
            if store then s2.storeWord u r a b w
            else s2.answerReader u (plainDest (sDest r.f.slot 0)) r.rtag (s2.rd64 a) (mkCtl (fld w 51 48) false false false false)
          | (e, s2) => s2.iFail r.tile r.f e
      | (e, s1) => s1.iFail r.tile r.f e

/-- I_FETCH_REQUEST (R56, R58, R579), of a controller that has power (R462). -/
def execIFetchRequest (u : Nat) (es ed : LineErr) (s : State) : Host.Outcome State Fault Refusal :=
  actOn (decide (u < 4) && s.domOn (168 + u)) s (fun s => s.iExec u false es ed)
/-- I_STORE_REQUEST (R56, R579), of a controller that has power (R462). -/
def execIStoreRequest (u : Nat) (es ed : LineErr) (s : State) : Host.Outcome State Fault Refusal :=
  actOn (decide (u < 4) && s.domOn (168 + u)) s (fun s => s.iExec u true es ed)

/-! ## Contexts and the quiescence monitor -/

/-- TEARDOWN_COMPLETE (R148, Table 4.7). -/
def execTeardownComplete (c : Nat) (s : State) : Host.Outcome State Fault Refusal := actOn (decide (c < 65536)) s (fun s => s.teardownDone c)
/-- DEADLOCK_DETECT (R143, R144). -/
def execDeadlockDetect (c : Nat) (s : State) : Host.Outcome State Fault Refusal := actOn (decide (c < 65536)) s (fun s => s.deadlock c)
/-- GLB_QM_ABORT (R150). -/
def execGlbQmAbort (w : RegW) (s : State) : Host.Outcome State Fault Refusal := wrRow s .glb 0 R.glbQmAbort w
/-- QM_RECORD_POST (R147). -/
def execQmRecordPost (s : State) : Host.Outcome State Fault Refusal := engOn true s (fun s => s.qmDrain)
/-- EMIT_CREDIT_RETURN (R171): `stream` is the hub whose credit comes back. -/
def execEmitCreditReturn (t h : Nat) (s : State) : Host.Outcome State Fault Refusal := actOn (decide (t < 128 ∧ h < 24)) s (fun s => s.emitCredit t h)

end Sys2Proof.Machine
end

