-- ==== Sys2Proof/Machine/StreamRows.lean ====
section
/-! DEFINITION. Pattern streams and Plates (chapter 5), and what a port sends (R236, R238). -/

namespace Sys2Proof.Machine

/-- STREAM_RUN: RUN = 1 written to HUB_STRM_CTL (R186). -/
def execStreamRun (h : Nat) (w : RegW) (s : State) : Host.Outcome State Fault Refusal :=
  opRow (wBit w 0) s .hub h R.hubStrmCtl w
/-- STREAM_STOP: RUN = 0 written to HUB_STRM_CTL (R185). -/
def execStreamStop (h : Nat) (w : RegW) (s : State) : Host.Outcome State Fault Refusal :=
  opRow (wZero w 0) s .hub h R.hubStrmCtl w
/-- EMIT_WORD_ARRIVE (R172 to R175): the oldest word of a tile. -/
def execEmitWordArrive (h t : Nat) (s : State) : Host.Outcome State Fault Refusal := actOn (decide (h < 24 ∧ t < 128)) s (fun s => s.emitArrive h t)
/-- INGRESS_PLACE (R173). -/
def execIngressPlace (h : Nat) (s : State) : Host.Outcome State Fault Refusal := actOn (decide (h < 24)) s (fun s => s.ingressPlace h)
/-- STORED_LINE_RETURN (R177, R178): the next line, read with the errors `e`. -/
def execStoredLineReturn (h : Nat) (e : LineErr) (s : State) : Host.Outcome State Fault Refusal :=
  engOn (decide (h < 24)) s (fun s =>
    if s.storedDue h then
      let a := s.storedAddr h
      let (ok, s1) := if s.exchange a = .ok then s.unitRead a 64 e else (true, s)
      s1.storedLine h (if ok then .clean else .uncorrectable)
    else s)
/-- SCRAMBLE_WRITE: HUB_PLT_SCR with WRITE = 1 (R167, R193). -/
def execScrambleWrite (p : Nat) (w : RegW) (s : State) : Host.Outcome State Fault Refusal :=
  opRow (wBit w 31) s .hub (p / 4) (R.hubPltScr + 0x40 * (p % 4)) w
/-- DOWNSTREAM_BLOCK_TIME (R236, R238, R480): of a port or a brace link. -/
def execDownstreamBlockTime (l : Nat) (s : State) : Host.Outcome State Fault Refusal :=
  actOn (decide (l < 98)) s (fun s => if l < 96 then s.portTime l else s.braceTime l)
/-- CREDIT_DEADLINE (R187). -/
def execCreditDeadline (p : Nat) (s : State) : Host.Outcome State Fault Refusal := actOn (decide (p < 96)) s (fun s => s.creditDeadline p)

end Sys2Proof.Machine
end

