-- ==== Sys2Proof/Machine/Dispatch.lean ====
section
/-! DEFINITION. One arm per command: a direct call of its meaning. -/

namespace Sys2Proof.Machine

/-- The effect of a command on everything but the queue. -/
def exec (i : Instr) (s : State) : Host.Outcome State Fault Refusal :=
  match i with
  -- resets
  | .powerOnReset => Sys2Proof.Machine.execPowerOnReset s
  | .porstNRelease bootsel => Sys2Proof.Machine.execPorstNRelease bootsel s
  | .glbRst w => Sys2Proof.Machine.execGlbRst w s
  | .functionReset page w => Sys2Proof.Machine.execFunctionReset page w s
  | .functionResetDone page => Sys2Proof.Machine.execFunctionResetDone page s
  | .tileFunctionReset tile w => Sys2Proof.Machine.execTileFunctionReset tile w s
  | .hubFunctionReset hub w => Sys2Proof.Machine.execHubFunctionReset hub w s
  | .portFunctionReset port w => Sys2Proof.Machine.execPortFunctionReset port w s
  | .retFunctionReset n w => Sys2Proof.Machine.execRetFunctionReset n w s
  | .shepFunctionReset core w => Sys2Proof.Machine.execShepFunctionReset core w s
  | .dmaFunctionReset ch w => Sys2Proof.Machine.execDmaFunctionReset ch w s
  | .kenFunctionReset w => Sys2Proof.Machine.execKenFunctionReset w s
  | .kenRingPageReset page w => Sys2Proof.Machine.execKenRingPageReset page w s
  | .barkFunctionReset w => Sys2Proof.Machine.execBarkFunctionReset w s
  | .hbmcFunctionReset u w => Sys2Proof.Machine.execHbmcFunctionReset u w s
  | .ledgFunctionReset w => Sys2Proof.Machine.execLedgFunctionReset w s
  | .functionLevelReset => Sys2Proof.Machine.execFunctionLevelReset s
  -- the control window
  | .registerWrite off w => Sys2Proof.Machine.execRegisterWrite off w s
  | .readClear off r => Sys2Proof.Machine.execReadClear off r s
  -- tiles: queues, matching, spill, rotation
  | .tokenEnterTile tile src => Sys2Proof.Machine.execTokenEnterTile tile src s
  | .spillDelayExpire tile pe => Sys2Proof.Machine.execSpillDelayExpire tile pe s
  | .queueChainRefill tile pe => Sys2Proof.Machine.execQueueChainRefill tile pe s
  | .tokenMatch tile pe slotEcc r => Sys2Proof.Machine.execTokenMatch tile pe slotEcc r s
  | .flush tile pe => Sys2Proof.Machine.execFlush tile pe s
  | .flushAll tile pe => Sys2Proof.Machine.execFlushAll tile pe s
  | .gateOpen tile pe => Sys2Proof.Machine.execGateOpen tile pe s
  | .gateClose tile pe => Sys2Proof.Machine.execGateClose tile pe s
  | .spillAccessComplete tile key => Sys2Proof.Machine.execSpillAccessComplete tile key s
  | .spillBucketGrant tile => Sys2Proof.Machine.execSpillBucketGrant tile s
  | .fabricStall tile => Sys2Proof.Machine.execFabricStall tile s
  | .conflictWindowEnd tile => Sys2Proof.Machine.execConflictWindowEnd tile s
  | .forceRot tile w => Sys2Proof.Machine.execForceRot tile w s
  | .sweepMove a => Sys2Proof.Machine.execSweepMove a s
  | .sweepComplete tile => Sys2Proof.Machine.execSweepComplete tile s
  | .msScrub tile overflow idx way ecc e => Sys2Proof.Machine.execMsScrub tile overflow idx way ecc e s
  | .tileLoadGo tile w => Sys2Proof.Machine.execTileLoadGo tile w s
  | .tileLoadEntry tile e => Sys2Proof.Machine.execTileLoadEntry tile e s
  | .tileMsSpillWrite tile w => Sys2Proof.Machine.execTileMsSpillWrite tile w s
  | .spillReady tile => Sys2Proof.Machine.execSpillReady tile s
  | .tileFence tile w => Sys2Proof.Machine.execTileFence tile w s
  | .excPop tile w => Sys2Proof.Machine.execExcPop tile w s
  -- PE opcodes: the firing that stage 4 of PE `pe` of tile `tile` holds executes
  | .copy tile pe => Sys2Proof.Machine.execCopy tile pe s
  | .merge tile pe => Sys2Proof.Machine.execMerge tile pe s
  | .const tile pe => Sys2Proof.Machine.execConst tile pe s
  | .retype tile pe => Sys2Proof.Machine.execRetype tile pe s
  | .ctrlgen tile pe => Sys2Proof.Machine.execCtrlgen tile pe s
  | .steer tile pe => Sys2Proof.Machine.execSteer tile pe s
  | .sink tile pe => Sys2Proof.Machine.execSink tile pe s
  | .addSub tile pe => Sys2Proof.Machine.execAddSub tile pe s
  | .mul tile pe => Sys2Proof.Machine.execMul tile pe s
  | .mulhsMulhu tile pe => Sys2Proof.Machine.execMulhsMulhu tile pe s
  | .divsDivuRemsRemu tile pe => Sys2Proof.Machine.execDivsDivuRemsRemu tile pe s
  | .negAbs tile pe => Sys2Proof.Machine.execNegAbs tile pe s
  | .minsMaxsMinuMaxu tile pe => Sys2Proof.Machine.execMinsMaxsMinuMaxu tile pe s
  | .andOrXorAndn tile pe => Sys2Proof.Machine.execAndOrXorAndn tile pe s
  | .not tile pe => Sys2Proof.Machine.execNot tile pe s
  | .shlShrSarRolRor tile pe => Sys2Proof.Machine.execShlShrSarRolRor tile pe s
  | .clzPopc tile pe => Sys2Proof.Machine.execClzPopc tile pe s
  | .bfext tile pe => Sys2Proof.Machine.execBfext tile pe s
  | .bfins tile pe => Sys2Proof.Machine.execBfins tile pe s
  | .faddFsubFmul tile pe => Sys2Proof.Machine.execFaddFsubFmul tile pe s
  | .fdiv tile pe => Sys2Proof.Machine.execFdiv tile pe s
  | .fsqrt tile pe => Sys2Proof.Machine.execFsqrt tile pe s
  | .fminFmax tile pe => Sys2Proof.Machine.execFminFmax tile pe s
  | .fnegFabs tile pe => Sys2Proof.Machine.execFnegFabs tile pe s
  | .fcvtIf tile pe => Sys2Proof.Machine.execFcvtIf tile pe s
  | .fcvtFi tile pe => Sys2Proof.Machine.execFcvtFi tile pe s
  | .fcvtDs tile pe => Sys2Proof.Machine.execFcvtDs tile pe s
  | .fcvtSd tile pe => Sys2Proof.Machine.execFcvtSd tile pe s
  | .daddDsub tile pe => Sys2Proof.Machine.execDaddDsub tile pe s
  | .cmpeqCmpneCmpltCmple tile pe => Sys2Proof.Machine.execCmpeqCmpneCmpltCmple tile pe s
  | .fcmpeqFcmpltFcmpleFcmpun tile pe => Sys2Proof.Machine.execFcmpeqFcmpltFcmpleFcmpun tile pe s
  | .iterGet tile pe => Sys2Proof.Machine.execIterGet tile pe s
  | .tagGet tile pe => Sys2Proof.Machine.execTagGet tile pe s
  | .loopHead tile pe => Sys2Proof.Machine.execLoopHead tile pe s
  | .loopTail tile pe => Sys2Proof.Machine.execLoopTail tile pe s
  | .ctx tile pe => Sys2Proof.Machine.execCtx tile pe s
  | .ctxQueueGrant => Sys2Proof.Machine.execCtxQueueGrant s
  | .free tile pe => Sys2Proof.Machine.execFree tile pe s
  | .teardownComplete ctx => Sys2Proof.Machine.execTeardownComplete ctx s
  | .ctxGetParentGet tile pe => Sys2Proof.Machine.execCtxGetParentGet tile pe s
  | .ifetch tile pe => Sys2Proof.Machine.execIfetch tile pe s
  | .istore tile pe => Sys2Proof.Machine.execIstore tile pe s
  | .load tile pe => Sys2Proof.Machine.execLoad tile pe s
  | .store tile pe => Sys2Proof.Machine.execStore tile pe s
  | .emit tile pe => Sys2Proof.Machine.execEmit tile pe s
  | .emitCreditReturn tile stream => Sys2Proof.Machine.execEmitCreditReturn tile stream s
  | .time tile pe => Sys2Proof.Machine.execTime tile pe s
  | .twait tile pe => Sys2Proof.Machine.execTwait tile pe s
  | .twaitRelease tile => Sys2Proof.Machine.execTwaitRelease tile s
  | .send tile pe => Sys2Proof.Machine.execSend tile pe s
  | .event tile pe => Sys2Proof.Machine.execEvent tile pe s
  | .reduceAccumulate tile pe => Sys2Proof.Machine.execReduceAccumulate tile pe s
  | .iFetchRequest unit es ed => Sys2Proof.Machine.execIFetchRequest unit es ed s
  | .iStoreRequest unit es ed => Sys2Proof.Machine.execIStoreRequest unit es ed s
  | .deadlockDetect ctx => Sys2Proof.Machine.execDeadlockDetect ctx s
  | .glbQmAbort w => Sys2Proof.Machine.execGlbQmAbort w s
  | .qmRecordPost => Sys2Proof.Machine.execQmRecordPost s
  -- streams and Plates
  | .streamRun hub w => Sys2Proof.Machine.execStreamRun hub w s
  | .streamStop hub w => Sys2Proof.Machine.execStreamStop hub w s
  | .emitWordArrive hub tile => Sys2Proof.Machine.execEmitWordArrive hub tile s
  | .ingressPlace hub => Sys2Proof.Machine.execIngressPlace hub s
  | .storedLineReturn hub e => Sys2Proof.Machine.execStoredLineReturn hub e s
  | .scrambleWrite port w => Sys2Proof.Machine.execScrambleWrite port w s
  | .downstreamBlockTime port => Sys2Proof.Machine.execDownstreamBlockTime port s
  | .creditDeadline port => Sys2Proof.Machine.execCreditDeadline port s
  -- ports and fail capture
  | .credit port c0 c1 => Sys2Proof.Machine.execCredit port c0 c1 s
  | .sync port c => Sys2Proof.Machine.execSync port c s
  | .failRecord port rec => Sys2Proof.Machine.execFailRecord port rec s
  | .summaryRecord port rec => Sys2Proof.Machine.execSummaryRecord port rec s
  | .endCaptureRecord port rec => Sys2Proof.Machine.execEndCaptureRecord port rec s
  | .failIn port => Sys2Proof.Machine.execFailIn port s
  | .portFailCtlWrite port w => Sys2Proof.Machine.execPortFailCtlWrite port w s
  | .sbRsp port c0 c1 c2 => Sys2Proof.Machine.execSbRsp port c0 c1 c2 s
  | .sidebandTimeout port tag => Sys2Proof.Machine.execSidebandTimeout port tag s
  | .sbTagRelease port tag => Sys2Proof.Machine.execSbTagRelease port tag s
  | .resume port c0 c1 c2 => Sys2Proof.Machine.execResume port c0 c1 c2 s
  | .linkid port c0 c1 c2 c3 => Sys2Proof.Machine.execLinkid port c0 c1 c2 c3 s
  | .lanemapAck hub c => Sys2Proof.Machine.execLanemapAck hub c s
  | .upstreamInvalidBlock link isData code => Sys2Proof.Machine.execUpstreamInvalidBlock link isData code s
  | .upstreamUncorrectable c => Sys2Proof.Machine.execUpstreamUncorrectable c s
  | .heartbeatLoss link => Sys2Proof.Machine.execHeartbeatLoss link s
  | .linkEnable port w => Sys2Proof.Machine.execLinkEnable port w s
  | .retrain port w => Sys2Proof.Machine.execRetrain port w s
  | .trainingFrame link lane f => Sys2Proof.Machine.execTrainingFrame link lane f s
  | .trainingTimeout link => Sys2Proof.Machine.execTrainingTimeout link s
  | .spareLockTimeout port lane => Sys2Proof.Machine.execSpareLockTimeout port lane s
  | .spareGo hub w => Sys2Proof.Machine.execSpareGo hub w s
  | .lanemapAckTimeout hub => Sys2Proof.Machine.execLanemapAckTimeout hub s
  | .laneSwap hub => Sys2Proof.Machine.execLaneSwap hub s
  | .switchSend port w => Sys2Proof.Machine.execSwitchSend port w s
  -- the Retriever
  | .retRun n w => Sys2Proof.Machine.execRetRun n w s
  | .retStartDoorbell n w => Sys2Proof.Machine.execRetStartDoorbell n w s
  | .startEntryTake n => Sys2Proof.Machine.execStartEntryTake n s
  | .ccwFetch n => Sys2Proof.Machine.execCcwFetch n s
  | .ccwWrite n => Sys2Proof.Machine.execCcwWrite n s
  | .ccwRead n => Sys2Proof.Machine.execCcwRead n s
  | .ccwControl n => Sys2Proof.Machine.execCcwControl n s
  | .ccwSense n => Sys2Proof.Machine.execCcwSense n s
  | .ccwJump n => Sys2Proof.Machine.execCcwJump n s
  | .ccwWaitEvent n => Sys2Proof.Machine.execCcwWaitEvent n s
  | .ccwWaitTime n => Sys2Proof.Machine.execCcwWaitTime n s
  | .ccwSkipIf n => Sys2Proof.Machine.execCcwSkipIf n s
  | .ccwPost n => Sys2Proof.Machine.execCcwPost n s
  | .ccwNop n => Sys2Proof.Machine.execCcwNop n s
  | .gpioOutSet n => Sys2Proof.Machine.execGpioOutSet n s
  | .gpioOutClr n => Sys2Proof.Machine.execGpioOutClr n s
  | .gpioOutToggle n => Sys2Proof.Machine.execGpioOutToggle n s
  | .gpioDirOut n => Sys2Proof.Machine.execGpioDirOut n s
  | .gpioDirIn n => Sys2Proof.Machine.execGpioDirIn n s
  | .gpioArm n => Sys2Proof.Machine.execGpioArm n s
  | .gpioDisarm n => Sys2Proof.Machine.execGpioDisarm n s
  | .gpioCapture n => Sys2Proof.Machine.execGpioCapture n s
  | .busTransferComplete n r => Sys2Proof.Machine.execBusTransferComplete n r s
  | .waitEventTimeout n => Sys2Proof.Machine.execWaitEventTimeout n s
  | .waitTimeExpire n => Sys2Proof.Machine.execWaitTimeExpire n s
  | .gpioEdge pin rising => Sys2Proof.Machine.execGpioEdge pin rising s
  | .i3cIbi bus addr mdb => Sys2Proof.Machine.execI3cIbi bus addr mdb s
  | .retResume n w => Sys2Proof.Machine.execRetResume n w s
  | .remoteTimeout n => Sys2Proof.Machine.execRemoteTimeout n s
  | .emergArm w => Sys2Proof.Machine.execEmergArm w s
  -- rings
  | .stashDrain r => Sys2Proof.Machine.execStashDrain r s
  | .ringConsumerWrite r w => Sys2Proof.Machine.execRingConsumerWrite r w s
  | .ringConfigWrite r w => Sys2Proof.Machine.execRingConfigWrite r w s
  -- Shepherd instructions: the core executes the instruction at its PC
  | .shMov core => Sys2Proof.Machine.execShMov core s
  | .shMovzMovs core => Sys2Proof.Machine.execShMovzMovs core s
  | .shLea core => Sys2Proof.Machine.execShLea core s
  | .shAddSub core => Sys2Proof.Machine.execShAddSub core s
  | .shAdcSbc core => Sys2Proof.Machine.execShAdcSbc core s
  | .shMul core => Sys2Proof.Machine.execShMul core s
  | .shMulhsMulhu core => Sys2Proof.Machine.execShMulhsMulhu core s
  | .shDivsDivuRemsRemu core => Sys2Proof.Machine.execShDivsDivuRemsRemu core s
  | .shNeg core => Sys2Proof.Machine.execShNeg core s
  | .shAndOrXorAndn core => Sys2Proof.Machine.execShAndOrXorAndn core s
  | .shNot core => Sys2Proof.Machine.execShNot core s
  | .shShlShrSarRolRor core => Sys2Proof.Machine.execShShlShrSarRolRor core s
  | .shCmp core => Sys2Proof.Machine.execShCmp core s
  | .shTst core => Sys2Proof.Machine.execShTst core s
  | .shClzPopc core => Sys2Proof.Machine.execShClzPopc core s
  | .shBfext core => Sys2Proof.Machine.execShBfext core s
  | .shBfins core => Sys2Proof.Machine.execShBfins core s
  | .shBperm core => Sys2Proof.Machine.execShBperm core s
  | .shBcc core => Sys2Proof.Machine.execShBcc core s
  | .shCall core => Sys2Proof.Machine.execShCall core s
  | .shSignal core => Sys2Proof.Machine.execShSignal core s
  | .shWaitt core => Sys2Proof.Machine.execShWaitt core s
  | .waittExpire core => Sys2Proof.Machine.execWaittExpire core s
  | .shTrap core => Sys2Proof.Machine.execShTrap core s
  | .shMovsr core => Sys2Proof.Machine.execShMovsr core s
  | .shMovrs core => Sys2Proof.Machine.execShMovrs core s
  | .shCas core => Sys2Proof.Machine.execShCas core s
  | .shFaddFsubFmulFdiv core => Sys2Proof.Machine.execShFaddFsubFmulFdiv core s
  | .shFsqrt core => Sys2Proof.Machine.execShFsqrt core s
  | .shFminFmax core => Sys2Proof.Machine.execShFminFmax core s
  | .shFcmp core => Sys2Proof.Machine.execShFcmp core s
  | .shFcvtif core => Sys2Proof.Machine.execShFcvtif core s
  | .shFcvtfi core => Sys2Proof.Machine.execShFcvtfi core s
  | .shFcvtff core => Sys2Proof.Machine.execShFcvtff core s
  | .shDaddDsub core => Sys2Proof.Machine.execShDaddDsub core s
  | .sysNop core => Sys2Proof.Machine.execSysNop core s
  | .sysRet core => Sys2Proof.Machine.execSysRet core s
  | .sysRte core => Sys2Proof.Machine.execSysRte core s
  | .sysWaitsig core => Sys2Proof.Machine.execSysWaitsig core s
  | .sysFence core => Sys2Proof.Machine.execSysFence core s
  | .sysIcinv core => Sys2Proof.Machine.execSysIcinv core s
  | .sysBrk core => Sys2Proof.Machine.execSysBrk core s
  | .sysStop core => Sys2Proof.Machine.execSysStop core s
  | .watchdogExpiry core => Sys2Proof.Machine.execWatchdogExpiry core s
  | .wdogConfigWrite core w => Sys2Proof.Machine.execWdogConfigWrite core w s
  | .coreStart core w => Sys2Proof.Machine.execCoreStart core w s
  -- Hatch
  | .setvl core => Sys2Proof.Machine.execSetvl core s
  | .vld core => Sys2Proof.Machine.execVld core s
  | .vst core => Sys2Proof.Machine.execVst core s
  | .vgather core => Sys2Proof.Machine.execVgather core s
  | .vscatter core => Sys2Proof.Machine.execVscatter core s
  | .vbcast core => Sys2Proof.Machine.execVbcast core s
  | .vget core => Sys2Proof.Machine.execVget core s
  | .vset core => Sys2Proof.Machine.execVset core s
  | .hfiget core => Sys2Proof.Machine.execHfiget core s
  | .hfiset core => Sys2Proof.Machine.execHfiset core s
  | .vaddVsubVmul core => Sys2Proof.Machine.execVaddVsubVmul core s
  | .vaddssVsubss core => Sys2Proof.Machine.execVaddssVsubss core s
  | .vaddsuVsubsu core => Sys2Proof.Machine.execVaddsuVsubsu core s
  | .vmulhrs core => Sys2Proof.Machine.execVmulhrs core s
  | .vrshr core => Sys2Proof.Machine.execVrshr core s
  | .vshl core => Sys2Proof.Machine.execVshl core s
  | .vminsVmaxsVminuVmaxu core => Sys2Proof.Machine.execVminsVmaxsVminuVmaxu core s
  | .vandVorVxor core => Sys2Proof.Machine.execVandVorVxor core s
  | .vcmpeqVcmpltVcmpltu core => Sys2Proof.Machine.execVcmpeqVcmpltVcmpltu core s
  | .vfaddVfsubVfmul core => Sys2Proof.Machine.execVfaddVfsubVfmul core s
  | .vfminVfmax core => Sys2Proof.Machine.execVfminVfmax core s
  | .hatchWake core => Sys2Proof.Machine.execHatchWake core s
  | .hatchPowerDown core => Sys2Proof.Machine.execHatchPowerDown core s
  -- Kennel and Bark
  | .kenRingDoorbell ring w => Sys2Proof.Machine.execKenRingDoorbell ring w s
  | .kenRingConfig ring w => Sys2Proof.Machine.execKenRingConfig ring w s
  | .itemFetch ring => Sys2Proof.Machine.execItemFetch ring s
  | .delayExpire => Sys2Proof.Machine.execDelayExpire s
  | .dispatch core => Sys2Proof.Machine.execDispatch core s
  | .cdoneDone w => Sys2Proof.Machine.execCdoneDone w s
  | .cdoneYield w => Sys2Proof.Machine.execCdoneYield w s
  | .thrCreate w => Sys2Proof.Machine.execThrCreate w s
  | .thrExit w => Sys2Proof.Machine.execThrExit w s
  | .thrSwitch w => Sys2Proof.Machine.execThrSwitch w s
  | .thrBlockEvent w => Sys2Proof.Machine.execThrBlockEvent w s
  | .thrBlockTime w => Sys2Proof.Machine.execThrBlockTime w s
  | .thrWake w => Sys2Proof.Machine.execThrWake w s
  | .threadWakeTime t => Sys2Proof.Machine.execThreadWakeTime t s
  | .threadSliceExpire core => Sys2Proof.Machine.execThreadSliceExpire core s
  | .eventLinePulse line => Sys2Proof.Machine.execEventLinePulse line s
  | .interruptEntry core => Sys2Proof.Machine.execInterruptEntry core s
  | .barkSwset w => Sys2Proof.Machine.execBarkSwset w s
  | .barkDiscard src w => Sys2Proof.Machine.execBarkDiscard src w s
  -- semaphores
  | .semTake r => Sys2Proof.Machine.execSemTake r s
  | .semTry r => Sys2Proof.Machine.execSemTry r s
  | .semGive r => Sys2Proof.Machine.execSemGive r s
  | .semPeek r => Sys2Proof.Machine.execSemPeek r s
  | .semPlainStore r => Sys2Proof.Machine.execSemPlainStore r s
  | .leashExpiry unit => Sys2Proof.Machine.execLeashExpiry unit s
  | .resetNotice origin => Sys2Proof.Machine.execResetNotice origin s
  -- DMA
  | .dmaDoorbell ch w => Sys2Proof.Machine.execDmaDoorbell ch w s
  | .dmaDescriptorBegin ch => Sys2Proof.Machine.execDmaDescriptorBegin ch s
  | .dmaCopy ch => Sys2Proof.Machine.execDmaCopy ch s
  | .dmaFill ch => Sys2Proof.Machine.execDmaFill ch s
  | .dmaProof ch => Sys2Proof.Machine.execDmaProof ch s
  | .dmaComplete ch => Sys2Proof.Machine.execDmaComplete ch s
  | .dmaDisable ch w => Sys2Proof.Machine.execDmaDisable ch w s
  -- memory and mesh
  | .memRead8 r e => Sys2Proof.Machine.execMemRead8 r e s
  | .memRead64 r e => Sys2Proof.Machine.execMemRead64 r e s
  | .memWrite8 r e => Sys2Proof.Machine.execMemWrite8 r e s
  | .memWrite64 r line => Sys2Proof.Machine.execMemWrite64 r line s
  | .memCas r new isD => Sys2Proof.Machine.execMemCas r new isD s
  | .postedWrite r line => Sys2Proof.Machine.execPostedWrite r line s
  | .meshResponse node txid st data => Sys2Proof.Machine.execMeshResponse node txid st data s
  | .routerForward node port vn => Sys2Proof.Machine.execRouterForward node port vn s
  | .niRequestTimeout node txid => Sys2Proof.Machine.execNiRequestTimeout node txid s
  | .niIsolate node w => Sys2Proof.Machine.execNiIsolate node w s
  | .routeTableWrite node w => Sys2Proof.Machine.execRouteTableWrite node w s
  | .routerPortEnableWrite node w => Sys2Proof.Machine.execRouterPortEnableWrite node w s
  | .routeFenceGo w => Sys2Proof.Machine.execRouteFenceGo w s
  | .routeFenceDone => Sys2Proof.Machine.execRouteFenceDone s
  | .hbmScrub u line e => Sys2Proof.Machine.execHbmScrub u line e s
  | .sramScrub addr e => Sys2Proof.Machine.execSramScrub addr e s
  | .retireAdd u w => Sys2Proof.Machine.execRetireAdd u w s
  | .retireCopyLine u e => Sys2Proof.Machine.execRetireCopyLine u e s
  | .trackerAgeExpire u page => Sys2Proof.Machine.execTrackerAgeExpire u page s
  | .hbmOvertemp u => Sys2Proof.Machine.execHbmOvertemp u s
  -- power, time, gauges
  | .domainTargetWrite d w => Sys2Proof.Machine.execDomainTargetWrite d w s
  | .domainDrainDone d => Sys2Proof.Machine.execDomainDrainDone d s
  | .domainPowerOffDone d => Sys2Proof.Machine.execDomainPowerOffDone d s
  | .domainWakeDone d => Sys2Proof.Machine.execDomainWakeDone d s
  | .governorInterval iv => Sys2Proof.Machine.execGovernorInterval iv s
  | .packSyncEdge => Sys2Proof.Machine.execPackSyncEdge s
  | .refLoss => Sys2Proof.Machine.execRefLoss s
  | .timeLock => Sys2Proof.Machine.execTimeLock s
  | .gaugeSample g v => Sys2Proof.Machine.execGaugeSample g v s
  | .gaugeCfgWrite g w => Sys2Proof.Machine.execGaugeCfgWrite g w s
  | .gaugeSnap r => Sys2Proof.Machine.execGaugeSnap r s
  | .railExcursion => Sys2Proof.Machine.execRailExcursion s
  | .brownOut => Sys2Proof.Machine.execBrownOut s
  -- Bamior messages: the link (port 0 to 95, brace link k as 96 + k), its LSEQ, and the message's fields
  | .bsync link f => Sys2Proof.Machine.execBsync link f s
  | .nak link expect => Sys2Proof.Machine.execNak link expect s
  | .token link lseq t hops => Sys2Proof.Machine.execToken link lseq t hops s
  | .arrive link lseq bar epoch => Sys2Proof.Machine.execArrive link lseq bar epoch s
  | .release link lseq bar epoch t => Sys2Proof.Machine.execRelease link lseq bar epoch t s
  | .cfg link lseq off id data => Sys2Proof.Machine.execCfg link lseq off id data s
  | .cfgAck link lseq id error => Sys2Proof.Machine.execCfgAck link lseq id error s
  | .msg link lseq src dst hops item => Sys2Proof.Machine.execMsg link lseq src dst hops item s
  | .msgAck link lseq src dst hops refused => Sys2Proof.Machine.execMsgAck link lseq src dst hops refused s
  | .rstart link lseq src dst hops subch entry => Sys2Proof.Machine.execRstart link lseq src dst hops subch entry s
  | .rstartAck link lseq src dst hops subch refused => Sys2Proof.Machine.execRstartAck link lseq src dst hops subch refused s
  | .leadhb link lseq leadId epoch => Sys2Proof.Machine.execLeadhb link lseq leadId epoch s
  | .leadhbInterval => Sys2Proof.Machine.execLeadhbInterval s
  | .deputyTakeover => Sys2Proof.Machine.execDeputyTakeover s
  | .bamiorLinkid link serial device => Sys2Proof.Machine.execBamiorLinkid link serial device s
  | .bcastGo w => Sys2Proof.Machine.execBcastGo w s
  | .barrierArrive bar w => Sys2Proof.Machine.execBarrierArrive bar w s
  | .barrierReleaseTime bar => Sys2Proof.Machine.execBarrierReleaseTime bar s
  | .packMsgGo w => Sys2Proof.Machine.execPackMsgGo w s
  | .hb link lseq f => Sys2Proof.Machine.execHb link lseq f s
  | .hbInterval => Sys2Proof.Machine.execHbInterval s
  | .hbLoss => Sys2Proof.Machine.execHbLoss s
  | .replay link lseq f => Sys2Proof.Machine.execReplay link lseq f s
  | .mirror link lseq addr be line => Sys2Proof.Machine.execMirror link lseq addr be line s
  | .unitres link lseq f => Sys2Proof.Machine.execUnitres link lseq f s
  | .digest link lseq f => Sys2Proof.Machine.execDigest link lseq f s
  | .epochBoundary => Sys2Proof.Machine.execEpochBoundary s
  | .fence link lseq => Sys2Proof.Machine.execFence link lseq s
  | .swap link lseq gen => Sys2Proof.Machine.execSwap link lseq gen s
  | .syncDone link lseq => Sys2Proof.Machine.execSyncDone link lseq s
  | .braceLinkUp k twinSerial twinRunning twinPref => Sys2Proof.Machine.execBraceLinkUp k twinSerial twinRunning twinPref s
  | .brcEnable w => Sys2Proof.Machine.execBrcEnable w s
  | .brcTakeover w => Sys2Proof.Machine.execBrcTakeover w s
  | .brcSwap w => Sys2Proof.Machine.execBrcSwap w s
  | .brcDetach w => Sys2Proof.Machine.execBrcDetach w s
  | .brcResync w => Sys2Proof.Machine.execBrcResync w s
  | .takeoverDeadline => Sys2Proof.Machine.execTakeoverDeadline s
  | .brcSeal w => Sys2Proof.Machine.execBrcSeal w s
  -- faults and ledger
  | .reactionTimerExpire page => Sys2Proof.Machine.execReactionTimerExpire page s
  | .faultAck page w => Sys2Proof.Machine.execFaultAck page w s
  | .errEnWrite page w => Sys2Proof.Machine.execErrEnWrite page w s
  | .levelRaise page w => Sys2Proof.Machine.execLevelRaise page w s
  | .injectArm page w => Sys2Proof.Machine.execInjectArm page w s
  | .injectForce page w => Sys2Proof.Machine.execInjectForce page w s
  | .ledgerDrain => Sys2Proof.Machine.execLedgerDrain s
  | .ledgRingWrite w => Sys2Proof.Machine.execLedgRingWrite w s
  | .ledgConsWrite w => Sys2Proof.Machine.execLedgConsWrite w s
  -- host and boot
  | .hostWrite bar off bytes => Sys2Proof.Machine.execHostWrite bar off bytes s
  | .hostRead bar off len => Sys2Proof.Machine.execHostRead bar off len s
  | .h2dPost w => Sys2Proof.Machine.execH2dPost w s
  | .h2dDone w => Sys2Proof.Machine.execH2dDone w s
  | .d2hPost w => Sys2Proof.Machine.execD2hPost w s
  | .d2hDone w => Sys2Proof.Machine.execD2hDone w s
  | .romLoad => Sys2Proof.Machine.execRomLoad s
  | .romProgramKey => Sys2Proof.Machine.execRomProgramKey s
  | .romRevokeKey => Sys2Proof.Machine.execRomRevokeKey s
  | .romSetSvn => Sys2Proof.Machine.execRomSetSvn s
  | .hostLinkTrain m0 m1 report => Sys2Proof.Machine.execHostLinkTrain m0 m1 report s
  | .l1Entry => Sys2Proof.Machine.execL1Entry s
  | .l1Exit => Sys2Proof.Machine.execL1Exit s
  | .msixUnmask vec => Sys2Proof.Machine.execMsixUnmask vec s
  | .hbmStackTrained u => Sys2Proof.Machine.execHbmStackTrained u s
  | .referenceReturn => Sys2Proof.Machine.execReferenceReturn s
  | .brownOutRelease => Sys2Proof.Machine.execBrownOutRelease s
  | .hostConfigWrite busMaster d3hot msixEn funcMask => Sys2Proof.Machine.execHostConfigWrite busMaster d3hot msixEn funcMask s
  | .hostCompletion txid data ok => Sys2Proof.Machine.execHostCompletion txid data ok s

end Sys2Proof.Machine
end

