-- ==== Sys2Proof/Safety.lean ====
section
/-! DEFINITION. The terms in which claims are made: safe outcomes, the canonical form of memory, a register write that takes
effect, the ledger's record of it, and an instruction that a core fetches. -/

namespace Sys2Proof.Machine

/-- The canonical form of memory: addresses strictly rising, no listed byte equal to 0, which an unlisted byte reads as. -/
def Memory.wf (m : List Host.Cell) : Bool := SMap.wf (0 : Byte) m

/-- An outcome is safe: the machine goes on. -/
def Safe (o : Host.Outcome State Fault Refusal) : Prop := ∃ t, o = .next t

/-- The bits of the register at offset `o` that a write addresses and that are not read-only now (R13). -/
def wrMask (b : PKind) (p o : Nat) (w : RegW) : Word := sizeMask w.size &&& ~~~ (hookOf b p o).ro

/-- A write as the register at offset `o` of page `p` of block `b` sees it, its fields applied giving `new`. -/
def State.wrOf (s : State) (b : PKind) (p o : Nat) (w : RegW) (new : Word) : Wr :=
  ⟨pageAt b p, pageAt b p + o, w.origin, w.size == .d64, wrMask b p o w, placed w, s.reg (pageAt b p + o), new⟩

/-- The write reaches its register and its fields take effect, giving `new`: the device is out of reset, the page exists and
its domain is ON (R450, R559), the write is none that the page ignores (R489, R556, R559), and it holds no reserved encoding
(R12). -/
structure State.Takes (s : State) (b : PKind) (p o : Nat) (w : RegW) (new : Word) : Prop where
  porst  : s.porst = false
  page   : p < blkPages b
  off    : o < 0x1000
  align  : o % 8 = 0
  awake  : s.parks w.origin b p o = none
  host   : s.hostRefused w.origin b (pageAt b p + o) = false
  jtag   : (orgClass w.origin == 4 && s.jtagClosed) = false
  frst   : (decide (0x100 ≤ o) && s.frstBusy (pageAt b p)) = false
  fields : putFields (s.fieldsFor (pageAt b p + o) w) (s.reg (pageAt b p + o)) (placed w) (wrMask b p o w) =
             (new, false, true)
  kept   : wrMask b p o w &&& (hookOf b p o).keep (s.wrOf b p o w new) s = 0
  bar    : (hookOf b p o).bar (s.wrOf b p o w new) s = false

/-- The state once the ledger has recorded a write that is applied (R528, R529), with the page's PG_LEDG_SEQ. -/
def State.logged (s : State) (b : PKind) (p o : Nat) (w : RegW) (new : Word) : State :=
  let off := pageAt b p + o
  let shown := s.view off
  let s1 := s.record 0 (w.size != .d64) (w.size == .hi32) true w.origin off shown
    (imageAfter (s.fieldsFor off w) shown new (placed w) (wrMask b p o w)) (placed w)
  if hasHeader b p then s1.setReg (pageAt b p + R.pgLedgSeq) (BitVec.ofNat 64 s.ledger.next.toNat) else s1

/-- That state with the register's fields written: the bits that the write changes. -/
def State.written (s : State) (b : PKind) (p o : Nat) (w : RegW) (new : Word) : State :=
  (s.wrOf b p o w new).set (s.logged b p o w new)

/-- The answer to a write, given with its effect. -/
def State.answered (s : State) (w : RegW) : State := s.emit (.reg w.origin .ok 0)

/-- The outcome of a write command that leaves `t` and is answered. -/
def State.acted (t : State) (w : RegW) : Host.Outcome State Fault Refusal := .next (t.answered w).settle

/-- Firing `f` is in stage 4 of PE `p` of tile `t`, its operand TYPEs ones that its opcode accepts (R82, R84). -/
structure State.Fires (s : State) (t p : Nat) (f : Firing) : Prop where
  porst : s.porst = false
  tile  : t < 128
  pe    : p < 4
  head  : ((s.tile t).pe p).ex.head? = some f
  types : f.typeOk = true

/-- The state once that firing has left stage 4. -/
def State.taken (s : State) (t p : Nat) : State := s.updPe t p (fun e => { e with ex := e.ex.tail })

/-- The matching key of a token at a slot (R92): ITERATION is left out where the mode is STICKY or GATE. -/
def slotKey (slot : BitVec 128) (p : Nat) (x : Token) : Word :=
  msKey p (dNode x.dest) x.tag (sMode slot == 2 || sMode slot == 3)

/-- PE `p` of tile `t` begins the item `q`, which brings its token to the matching store without a fault: the PE may begin
it, its context is ACTIVE, its slot holds an encoding that matches, no error is injected, and its key waits for nothing
(R41, R81, R84, R105, R106, R112, R522). `s` is the state in which the PE has
taken the item. -/
structure State.Begins (s0 : State) (t p : Nat) (q : QItem) (slot : BitVec 128) (s : State) : Prop where
  porst  : s0.porst = false
  tile   : t < 128
  pe     : p < 4
  ready  : s0.peReady t p = true
  head   : ((s0.tile t).pe p).head = some q
  live   : q.flt = false ∧ q.again = false
  node   : s0.slotOf t p q = slot
  room   : s0.spillBusy t p q = false
  takes  : s = s0.updPe t p PeSt.popHead
  active : s0.ctxState (tCtx q.tok.tag) = 1
  op     : slot ≠ 0 ∧ sOp slot ≠ 0 ∧ sOp slot ≠ 0x801 ∧ slotReserved slot = false ∧ modeWrong slot = false
  inj    : s.f (tp t + R.pgErrInj) 47 32 = 0
  alone  : (s.tile t).inflight.any (fun w => w.key == slotKey slot p q.tok) = false
  onDie  : s.needsSpill t (slotKey slot p q.tok) = false

/-- Subchannel `n` has read the CCW `w` and may execute it: it is ACTIVE, the CCW is not data-chained, nothing is awaited, no
SPI frame is held and no role swap is under way (R265, R270, R276, R502). -/
structure State.Reads (s : State) (n : Nat) (w : BitVec 128) : Prop where
  porst : s.porst = false
  sub   : n < 64
  act   : s.subSt n = 1
  ccw   : (s.sub n).ccw = some w
  first : (s.sub n).op = none
  idle  : (s.sub n).busy = false ∧ (s.sub n).unitWait = false ∧ (s.sub n).semWait = false
  frame : (s.sub n).frame = none
  calm  : s.brace.swapping = false

/-- The operation of a unit CCW `w` has begun at its subchannel: the bytes `l` to send, the segments `g` to fill
(R270, R271). -/
def State.unitBegun (s : State) (n : Nat) (w : BitVec 128) (g : List Seg) (l : List Byte) : State :=
  s.updSub n (fun x => { x with
    op := some w, segs := g, want := segBytes g, after := false, got := l.zipIdx.map (fun e => (e.2, BitVec.ofNat 64 e.1.toNat)) })

/-- Core `c` fetches instruction `i`, whose bytes are `bs`, and may execute it: it runs, and nothing waits (R303, R304, R309,
R316). -/
structure State.Fetched (s : State) (c : Nat) (i : SIns) (bs : List Byte) : Prop where
  ready  : s.coreReady c = true
  calm   : (s.core c).wdTrap = false
  wakes  : s.fetchWaits c = none
  bytes  : (s.seen c).fetchBytes c (s.core c).pc.toNat 12 = (bs, none)
  dec    : decodeShep bs = .ins i
  sel    : i.selOk = true
  mode   : (i.supervisor && !(s.core c).priv) = false
  hatch  : i.op = 0x3E → (s.core c).hatch = true

/-- An instruction as its body sees it. -/
def SIns.at_ (i : SIns) (bs : List Byte) : SIns := { i with bytes := bs.take i.len }

/-- The execution of instruction `i` of core `c` at its start. -/
def State.start (s : State) (c : Nat) (i : SIns) : Cx :=
  let t := s.seen c
  { s := t, x := t.core c, k := 0, npc := ((t.core c).pc.toNat + i.len) % 2 ^ 48, post := [] }

/-- Instruction `i` has two source operands of `n` and `m` bytes and a destination of `k` bytes, which core `c` may read and
write: their values `a` and `b`, the place `d`, and the execution `cx` so far (R307, R308). -/
def State.Binary (s : State) (c n m k : Nat) (i : SIns) (a b : Nat) (d : Loc) (cx : Cx) : Prop :=
  ∃ cx1 cx2, SM.src c 0 n (i.opd 0) (s.start c i) = .ok (a, cx1) ∧ SM.src c 1 m (i.opd 1) cx1 = .ok (b, cx2) ∧
    SM.dst c 2 k (i.opd 2) cx2 = .ok (d, cx)

/-- Instruction `i` has a source operand of `n` bytes and a destination of `k` bytes that core `c` may read and write. -/
def State.Unary (s : State) (c n k : Nat) (i : SIns) (a : Nat) (d : Loc) (cx : Cx) : Prop :=
  ∃ cx1, SM.src c 0 n (i.opd 0) (s.start c i) = .ok (a, cx1) ∧ SM.dst c 1 k (i.opd 1) cx1 = .ok (d, cx)

/-- Instruction `i` has two source operands of `n` and `m` bytes and no destination. -/
def State.Pair (s : State) (c n m : Nat) (i : SIns) (a b : Nat) (cx : Cx) : Prop :=
  ∃ cx1, SM.src c 0 n (i.opd 0) (s.start c i) = .ok (a, cx1) ∧ SM.src c 1 m (i.opd 1) cx1 = .ok (b, cx)

/-- Core `c` completes an instruction: its registers hold, it retires, and what follows it happens (R307, R321). -/
def Cx.ends (cx : Cx) (c : Nat) : Host.Outcome State Fault Refusal := .next (cx.commit c false).settle

/-- Core `c` completes a Hatch instruction. -/
def Cx.endsHatch (cx : Cx) (c : Nat) : Host.Outcome State Fault Refusal := .next (cx.commit c true).settle

/-- Elements `ks` of a vector load, `n` bytes each, read one after another (R355). -/
def SM.loads (c opnd n : Nat) (place : Nat → Nat) : List Nat → SM (List Nat)
  | [] => pure []
  | k :: ks => do
    let v ← SM.read c opnd (place k) n
    let vs ← SM.loads c opnd n place ks
    pure (v :: vs)

/-- Elements `ks` of a vector store, one after another (R355). -/
def SM.stores (c opnd n : Nat) (place : Nat → Nat) (v : BitVec 128) : List Nat → SM Unit
  | [] => pure ()
  | k :: ks => do
    SM.store c opnd (place k) n (elem v n k)
    SM.stores c opnd n place v ks

/-- Elements written into vector register `d`. -/
def Shep.setElems (x : Shep) (d n : Nat) (es : List (Nat × Nat)) : Shep :=
  es.foldl (fun (x : Shep) e => x.setV d (setElem (x.vreg d) n e.1 e.2)) x

/-- The execution with other registers. -/
def Cx.regs (cx : Cx) (x : Shep) : Cx := { cx with x := x }

/-- The execution with another PSW. -/
def Cx.flags (cx : Cx) (psw : Word) : Cx := { cx with x := { cx.x with psw := psw } }

/-- A result of `n` bytes delivered to a destination, with the PSW `psw` (R305, R307). -/
def Cx.give (cx : Cx) (c n : Nat) (d : Loc) (psw : Word) (r : Nat) : Cx :=
  let x : Shep := { cx.x with psw := psw }
  match d with
  | .reg k => { cx with x := x.setR k (BitVec.ofNat 64 (r % 2 ^ (8 * n))) }
  | .ws o => { cx with x := x.setWs o (leBytes n r) }
  | .mem a => { cx with x := x, post := cx.post ++ [fun s => s.coreWrite c a n (r % 2 ^ (8 * n))] }
  | .imm _ => { cx with x := x }

end Sys2Proof.Machine
end

