-- ==== Sys2Proof/Certificates/Slice0/Obligations.lean ====
section
/-! DEFINITION. The statements for the provers. A statement whose name ends in Complete says that commands complete: under
conditions on the state and the operands alone, exec answers the next state written in its conclusion. -/

open Sys2Proof Sys2Proof.Machine

/-! ## Firings (chapter 3) -/

/-- Token moves of the fabric complete. For every state in which a firing of COPY, MERGE, CONST, RETYPE, CTRLGEN,
STEER or SINK is in stage 4 of a PE with operand TYPEs that its opcode accepts, the command answers the next state in
which the firing has left the PE and its outputs, or the exception of RETYPE and STEER, are sent. (R77, R79, R82,
R84.) -/
def Obligations.PeMovesComplete : Prop :=
  ∀ (s : State) (t p : Nat) (f : Firing), s.Fires t p f →
    let s1 := s.taken t p
    (sOp f.slot = 1 → exec (.copy t p) s = .next (s1.outBoth t f f.x.value (cType f.x.ctl)).settle) ∧
    (sOp f.slot = 2 → exec (.merge t p) s = .next (s1.outBoth t f f.x.value (cType f.x.ctl)).settle) ∧
    (sOp f.slot = 3 → exec (.const t p) s = .next (s1.outBoth t f (sImmS f.slot) tyInt64).settle) ∧
    (sOp f.slot = 4 → sImm f.slot % 16 ≤ 8 →
      exec (.retype t p) s = .next (s1.outBoth t f f.x.value (sImm f.slot % 16)).settle) ∧
    (sOp f.slot = 4 → 8 < sImm f.slot % 16 → exec (.retype t p) s = .next (s1.exc84 t f.x 4 .retype).settle) ∧
    (sOp f.slot = 5 → exec (.ctrlgen t p) s =
      .next (s1.outBoth t f (BitVec.ofNat 64 (sImm f.slot % 2 ^ 16 + fld f.x.value 31 0 * 2 ^ 32)) tyCtrl).settle) ∧
    (sOp f.slot = 6 → f.yPoison = false → f.yv ≠ 0 → sFlag f.slot 2 = false → exec (.steer t p) s =
      .next (s1.outTo t f.slot f.x.tag 0 f.x.value (f.outCtl (cType f.x.ctl) false false)).settle) ∧
    (sOp f.slot = 6 → f.yPoison = false → f.yv = 0 → sFlag f.slot 2 = false → exec (.steer t p) s =
      .next (s1.outTo t f.slot f.x.tag 1 f.x.value (f.outCtl (cType f.x.ctl) false false)).settle) ∧
    (sOp f.slot = 6 → f.yPoison = false → f.yv ≠ 0 → sFlag f.slot 2 = true → exec (.steer t p) s =
      .next (s1.outTo t f.slot f.x.tag 1 f.x.value (f.outCtl (cType f.x.ctl) false false)).settle) ∧
    (sOp f.slot = 6 → f.yPoison = false → f.yv = 0 → sFlag f.slot 2 = true → exec (.steer t p) s =
      .next (s1.outTo t f.slot f.x.tag 0 f.x.value (f.outCtl (cType f.x.ctl) false false)).settle) ∧
    (sOp f.slot = 6 → f.yPoison = true → exec (.steer t p) s = .next (s1.exc84 t f.x 6 .poisoned).settle) ∧
    (sOp f.slot = 7 → exec (.sink t p) s = .next s1.settle)

/-- Integer firings of the fabric complete. For every state in which an integer firing with accepted operand TYPEs is
in stage 4 of a PE, its command answers the next state in which both outputs carry the result written here: sums,
differences, products, the division corners, minima and maxima, logic, shifts and rotates, counts and bit fields.
(R77, R82, R334, R335.) -/
def Obligations.PeIntegersComplete : Prop :=
  ∀ (s : State) (t p : Nat) (f : Firing), s.Fires t p f →
    let s1 := s.taken t p
    let ty := cType f.x.ctl
    let x := f.x.value
    let y := f.yv
    let n := fld y 5 0
    (sOp f.slot = 0x100 → exec (.addSub t p) s = .next (s1.outBoth t f (x + y) ty).settle) ∧
    (sOp f.slot = 0x101 → exec (.addSub t p) s = .next (s1.outBoth t f (x - y) ty).settle) ∧
    (sOp f.slot = 0x102 → exec (.mul t p) s = .next (s1.outBoth t f (x * y) ty).settle) ∧
    (sOp f.slot = 0x103 → exec (.mulhsMulhu t p) s =
      .next (s1.outBoth t f (BitVec.ofNat 64 (mulHigh 64 true x.toNat y.toNat)) ty).settle) ∧
    (sOp f.slot = 0x104 → exec (.mulhsMulhu t p) s =
      .next (s1.outBoth t f (BitVec.ofNat 64 (mulHigh 64 false x.toNat y.toNat)) ty).settle) ∧
    (sOp f.slot = 0x105 → exec (.divsDivuRemsRemu t p) s =
      .next (s1.outBoth t f (BitVec.ofNat 64 (divRem 64 true x.toNat y.toNat).1) ty).settle) ∧
    (sOp f.slot = 0x106 → exec (.divsDivuRemsRemu t p) s =
      .next (s1.outBoth t f (BitVec.ofNat 64 (divRem 64 false x.toNat y.toNat).1) ty).settle) ∧
    (sOp f.slot = 0x107 → exec (.divsDivuRemsRemu t p) s =
      .next (s1.outBoth t f (BitVec.ofNat 64 (divRem 64 true x.toNat y.toNat).2) ty).settle) ∧
    (sOp f.slot = 0x108 → exec (.divsDivuRemsRemu t p) s =
      .next (s1.outBoth t f (BitVec.ofNat 64 (divRem 64 false x.toNat y.toNat).2) ty).settle) ∧
    (sOp f.slot = 0x109 → exec (.negAbs t p) s = .next (s1.outBoth t f (0 - x) ty).settle) ∧
    (sOp f.slot = 0x10A → exec (.negAbs t p) s = .next (s1.outBoth t f (if x.msb then 0 - x else x) ty).settle) ∧
    (sOp f.slot = 0x10B → exec (.minsMaxsMinuMaxu t p) s = .next (s1.outBoth t f (if x.slt y then x else y) ty).settle) ∧
    (sOp f.slot = 0x10C → exec (.minsMaxsMinuMaxu t p) s = .next (s1.outBoth t f (if x.slt y then y else x) ty).settle) ∧
    (sOp f.slot = 0x10D → exec (.minsMaxsMinuMaxu t p) s = .next (s1.outBoth t f (if x.ult y then x else y) ty).settle) ∧
    (sOp f.slot = 0x10E → exec (.minsMaxsMinuMaxu t p) s = .next (s1.outBoth t f (if x.ult y then y else x) ty).settle) ∧
    (sOp f.slot = 0x110 → exec (.andOrXorAndn t p) s = .next (s1.outBoth t f (x &&& y) ty).settle) ∧
    (sOp f.slot = 0x111 → exec (.andOrXorAndn t p) s = .next (s1.outBoth t f (x ||| y) ty).settle) ∧
    (sOp f.slot = 0x112 → exec (.andOrXorAndn t p) s = .next (s1.outBoth t f (x ^^^ y) ty).settle) ∧
    (sOp f.slot = 0x113 → exec (.andOrXorAndn t p) s = .next (s1.outBoth t f (x &&& ~~~ y) ty).settle) ∧
    (sOp f.slot = 0x114 → exec (.not t p) s = .next (s1.outBoth t f (~~~ x) ty).settle) ∧
    (sOp f.slot = 0x115 → exec (.shlShrSarRolRor t p) s = .next (s1.outBoth t f (x <<< n) ty).settle) ∧
    (sOp f.slot = 0x116 → exec (.shlShrSarRolRor t p) s = .next (s1.outBoth t f (x >>> n) ty).settle) ∧
    (sOp f.slot = 0x117 → exec (.shlShrSarRolRor t p) s = .next (s1.outBoth t f (x.sshiftRight n) ty).settle) ∧
    (sOp f.slot = 0x118 → exec (.shlShrSarRolRor t p) s = .next (s1.outBoth t f (x.rotateLeft n) ty).settle) ∧
    (sOp f.slot = 0x119 → exec (.shlShrSarRolRor t p) s = .next (s1.outBoth t f (x.rotateRight n) ty).settle) ∧
    (sOp f.slot = 0x11A → exec (.clzPopc t p) s = .next (s1.outBoth t f (BitVec.ofNat 64 (clz 64 x.toNat)) tyUint64).settle) ∧
    (sOp f.slot = 0x11B → exec (.clzPopc t p) s = .next (s1.outBoth t f (BitVec.ofNat 64 (popc 64 x.toNat)) tyUint64).settle) ∧
    (sOp f.slot = 0x11C → exec (.bfext t p) s = .next (s1.outBoth t f
      (BitVec.ofNat 64 (x.toNat >>> (sImm f.slot % 64) % 2 ^ (sImm f.slot / 64 % 128))) ty).settle) ∧
    (sOp f.slot = 0x11D → exec (.bfins t p) s = .next (s1.outBoth t f
      (setFld x (sImm f.slot % 64 + sImm f.slot / 64 % 128 - 1) (sImm f.slot % 64) y.toNat) ty).settle)

/-- IEEE 754 firings of the fabric complete. For every state in which an IEEE 754 firing is in stage 4 of a PE, its
command answers the next state in which both outputs carry the rounded result, lane by lane for binary32, or an
exception of cause IEEE leaves where an enabled exception is raised. (R82, R84, R138, R336, R337, R342, R344.) -/
def Obligations.PeFloatsComplete : Prop :=
  ∀ (s : State) (t p : Nat) (f : Firing), s.Fires t p f →
    let s1 := s.taken t p
    let ty := cType f.x.ctl
    let x := f.x.value.toNat
    let y := f.yv.toNat
    let two := ty == tyBin32
    let env := s1.peEnv (tCtx f.x.tag)
    let gives (v : Nat × Nat) (ty : Nat) : Host.Outcome State Fault Refusal :=
      .next (if v.2 &&& fld (s1.ctxW (tCtx f.x.tag) 4) 4 0 ≠ 0 ∧ sFlag f.slot 4 = false ∧ f.any cPoison = false then
        s1.exc84 t f.x (sOp f.slot) .ieee v.2 else s1.outBoth t f (BitVec.ofNat 64 v.1) ty).settle
    (sOp f.slot = 0x200 → exec (.faddFsubFmul t p) s = gives (lanes2 two (fun m a b => m.add env a b) x y) ty) ∧
    (sOp f.slot = 0x201 → exec (.faddFsubFmul t p) s = gives (lanes2 two (fun m a b => m.sub env a b) x y) ty) ∧
    (sOp f.slot = 0x202 → exec (.faddFsubFmul t p) s = gives (lanes2 two (fun m a b => m.mul env a b) x y) ty) ∧
    (sOp f.slot = 0x203 → exec (.fdiv t p) s = gives (lanes2 two (fun m a b => m.div env a b) x y) ty) ∧
    (sOp f.slot = 0x204 → exec (.fsqrt t p) s = gives (lanes2 two (fun m a _ => m.sqrt env a) x x) ty) ∧
    (sOp f.slot = 0x205 → exec (.fminFmax t p) s = gives (lanes2 two (fun m a b => m.minMax env false a b) x y) ty) ∧
    (sOp f.slot = 0x206 → exec (.fminFmax t p) s = gives (lanes2 two (fun m a b => m.minMax env true a b) x y) ty) ∧
    (sOp f.slot = 0x207 → exec (.fnegFabs t p) s = gives (lanes2 two (fun m a _ => (m.neg a, 0)) x x) ty) ∧
    (sOp f.slot = 0x208 → exec (.fnegFabs t p) s = gives (lanes2 two (fun m a _ => (m.abs a, 0)) x x) ty) ∧
    (sOp f.slot = 0x209 → exec (.fcvtIf t p) s = gives (f64.ofInt env.rm (sgn 64 x)) tyBin64) ∧
    (sOp f.slot = 0x20A → exec (.fcvtFi t p) s = gives (f64.toInt env.rm env.ftz x) tyInt64) ∧
    (sOp f.slot = 0x20B → exec (.fcvtDs t p) s = gives (narrow env x) tyBin32) ∧
    (sOp f.slot = 0x20C → exec (.fcvtSd t p) s = gives (widen env (x % 2 ^ 32)) tyBin64)

/-- Decimal and compare firings of the fabric complete. For every state in which DADD, DSUB, an integer compare or an
IEEE 754 compare is in stage 4 of a PE, its command answers the next state in which both outputs carry the result; a
decimal operand that is not decimal gives a poisoned output. (R79, R82, R343, R347, R348, R349.) -/
def Obligations.PeDecimalAndComparesComplete : Prop :=
  ∀ (s : State) (t p : Nat) (f : Firing), s.Fires t p f →
    let s1 := s.taken t p
    let x := f.x.value
    let y := f.yv
    let inv := sFlag f.slot 2
    let yes (b : Bool) : Host.Outcome State Fault Refusal :=
      .next (s1.outBoth t f (if b = inv then 0 else 1) tyUint64).settle
    let rel (q : FRel) : Host.Outcome State Fault Refusal :=
      let env := s1.peEnv (tCtx f.x.tag)
      let v : Nat × Nat :=
        if cType f.x.ctl = tyBin32 then
          let a := f32.rel env.ftz q (x.toNat % 2 ^ 32) (y.toNat % 2 ^ 32)
          let b := f32.rel env.ftz q (x.toNat / 2 ^ 32) (y.toNat / 2 ^ 32)
          ((if a.1 = inv then 0 else 1) + 2 * (if b.1 = inv then 0 else 1), a.2 ||| b.2)
        else
          let a := f64.rel env.ftz q x.toNat y.toNat
          (if a.1 = inv then 0 else 1, a.2)
      .next (if v.2 &&& fld (s1.ctxW (tCtx f.x.tag) 4) 4 0 ≠ 0 ∧ sFlag f.slot 4 = false ∧ f.any cPoison = false then
        s1.exc84 t f.x (sOp f.slot) .ieee v.2 else s1.outBoth t f (BitVec.ofNat 64 v.1) tyUint64).settle
    (sOp f.slot = 0x300 → decOk x.toNat = true → decOk y.toNat = true → exec (.daddDsub t p) s =
      .next (s1.outBoth t f (BitVec.ofNat 64 (decAdd false x.toNat y.toNat)) tyDec).settle) ∧
    (sOp f.slot = 0x301 → decOk x.toNat = true → decOk y.toNat = true → exec (.daddDsub t p) s =
      .next (s1.outBoth t f (BitVec.ofNat 64 (decAdd true x.toNat y.toNat)) tyDec).settle) ∧
    ((sOp f.slot = 0x300 ∨ sOp f.slot = 0x301) → (decOk x.toNat && decOk y.toNat) = false → exec (.daddDsub t p) s =
      .next (s1.outBoth t f x tyDec true).settle) ∧
    (sOp f.slot = 0x400 → exec (.cmpeqCmpneCmpltCmple t p) s = yes (x == y)) ∧
    (sOp f.slot = 0x401 → exec (.cmpeqCmpneCmpltCmple t p) s = yes (x != y)) ∧
    (sOp f.slot = 0x402 → exec (.cmpeqCmpneCmpltCmple t p) s = yes (x.slt y)) ∧
    (sOp f.slot = 0x403 → exec (.cmpeqCmpneCmpltCmple t p) s = yes (x.sle y)) ∧
    (sOp f.slot = 0x404 → exec (.cmpeqCmpneCmpltCmple t p) s = yes (x.ult y)) ∧
    (sOp f.slot = 0x405 → exec (.cmpeqCmpneCmpltCmple t p) s = yes (x.ule y)) ∧
    (sOp f.slot = 0x406 → exec (.fcmpeqFcmpltFcmpleFcmpun t p) s = rel .eq) ∧
    (sOp f.slot = 0x407 → exec (.fcmpeqFcmpltFcmpleFcmpun t p) s = rel .lt) ∧
    (sOp f.slot = 0x408 → exec (.fcmpeqFcmpltFcmpleFcmpun t p) s = rel .le) ∧
    (sOp f.slot = 0x409 → exec (.fcmpeqFcmpltFcmpleFcmpun t p) s = rel .un)

/-! ## Matching (R76 to R100) -/

/-- A token that begins is matched by the mode of its slot. For every token that a PE begins without a fault at a slot
of mode 0, 1, 2 or 3, TOKEN_MATCH answers the next state that the match mode gives for every entry that its key may
find: the token fires, waits, is kept as a constant, is held, or is diverted. (R81, R92, R93, R94, R95, R105, R580.)
-/
def Obligations.MatchingComplete : Prop :=
  ∀ (s0 s : State) (t p : Nat) (q : QItem) (w : BitVec 128), s0.Begins t p q w s →
    let x := q.tok
    let c := tCtx x.tag
    let k := slotKey w p x
    let ent := (s.tile t).entry k
    let new : MsEntry := { key := k, kind := .wait, side := dSide x.dest, gen := false, count := 0, ctl := x.ctl,
                           value := x.value, place := .set 0 }
    let goes (u : State) (f : Firing) : State :=
      if u.holdable t f then u.pushEx t p { f with due := true } else (u.pushEx t p f).fired t (tCtx f.x.tag)
    let stored (e : MsEntry) : State := match s.msInsert t e with
      | some s1 => s1.fired t c
      | none => s.waitBucket t p q
    let held (e : MsEntry) : State := match s.holdPending t k q e with
      | .fires s1 f => goes s1 { f with flt := q.flt }
      | .done s1 => s1.fired t c
      | .away s1 => s1
      | .waits => s.waitBucket t p q
    let wrong : State := (s.divert t x false).fault (tp t) .config
    let begins := exec (.tokenMatch t p .clean {}) s0
    (sMode w = 0 → begins = .next (goes s (mkFiring w x none)).settle) ∧
    (sMode w = 1 → ent = none → begins = .next (stored new).settle) ∧
    (∀ e, sMode w = 1 → ent = some e → e.kind = .wait → e.side = true → dSide x.dest = false →
      begins = .next (goes (s.msRemove t k) (mkFiring w x (some (e.value, e.ctl)))).settle) ∧
    (∀ e, sMode w = 1 → ent = some e → e.kind = .wait → e.side = false → dSide x.dest = true →
      begins = .next (goes (s.msRemove t k)
        (mkFiring w { x with value := e.value, ctl := e.ctl } (some (x.value, x.ctl)))).settle) ∧
    (∀ e, sMode w = 1 → ent = some e → e.kind = .wait → e.side = dSide x.dest →
      begins = .next ((s.divert t x false).inc (tp t + R.tileMsEvt) 47 32).settle) ∧
    (∀ e, sMode w = 1 → ent = some e → e.kind ≠ .wait → begins = .next wrong.settle) ∧
    (sMode w = 2 → dSide x.dest = true → ctrlCode x ≠ some 2 → ent = none →
      begins = .next (stored { new with kind := .sticky }).settle) ∧
    (∀ e, sMode w = 2 → dSide x.dest = true → ctrlCode x ≠ some 2 → ent = some e → e.kind = .sticky ∨ e.kind = .pending →
      begins = .next ((s.unpend t p e e.held.length
        (fun b => { b with kind := .sticky, side := true, ctl := x.ctl, value := x.value })).fired t c).settle) ∧
    (∀ e, sMode w = 2 → dSide x.dest = false → ent = some e → e.kind = .sticky →
      begins = .next (goes s (mkFiring w x (some (e.value, e.ctl)))).settle) ∧
    (∀ e, sMode w = 2 → dSide x.dest = false → ent = some e → e.kind = .pending → begins = .next (held new).settle) ∧
    (sMode w = 2 → dSide x.dest = false → ent = none → begins = .next (held new).settle) ∧
    (∀ e, sMode w = 2 → ent = some e → e.kind ≠ .sticky → e.kind ≠ .pending → begins = .next wrong.settle) ∧
    (∀ e, sMode w = 3 → dSide x.dest = false → ent = some e → e.kind = .gate ∨ e.kind = .pending → e.count ≠ 0 →
      begins = .next (goes (s.unpend t p e 0 (fun b => { b with count := if b.count = 0xFFFFF then b.count else b.count - 1 }))
        (mkFiring w x none)).settle) ∧
    (∀ e, sMode w = 3 → dSide x.dest = false → ent = some e → e.kind = .gate ∨ e.kind = .pending → e.count = 0 →
      begins = .next (held new).settle) ∧
    (sMode w = 3 → dSide x.dest = false → ent = none → begins = .next (held { new with ctl := 0, value := 0 }).settle) ∧
    (∀ e, sMode w = 3 → ent = some e → e.kind ≠ .gate → e.kind ≠ .pending → begins = .next wrong.settle)

/-- FLUSH, gate and accumulate tokens complete. For every token that a PE begins at a slot of a STICKY, GATE or REDUCE
mode, FLUSH, FLUSH_ALL, GATE_OPEN, GATE_CLOSE and REDUCE_ACCUMULATE answer the next state written here. (R94, R95,
R96, R97, R98, R99, R100.) -/
def Obligations.ReduceAndGateComplete : Prop :=
  ∀ (s0 s : State) (t p : Nat) (q : QItem) (w : BitVec 128), s0.Begins t p q w s →
    let x := q.tok
    let c := tCtx x.tag
    let k := slotKey w p x
    let ent := (s.tile t).entry k
    let want : MsKind := if sMode w = 6 then .resident else .reduce
    (∀ e, dSide x.dest = true → ctrlCode x = some 2 → modeReduce (sMode w) = true → ent = some e → e.kind = want →
      exec (.flush t p) s0 = .next (((s.msRemove t k).reduceFire t w e true).fired t c).settle) ∧
    (dSide x.dest = true → ctrlCode x = some 2 → modeReduce (sMode w) = true → ent = none →
      exec (.flush t p) s0 = .next ((s.flushKey t w k x).fired t c).settle) ∧
    (∀ e, dSide x.dest = true → ctrlCode x = some 2 → sMode w = 2 → ent = some e → e.kind = .sticky →
      exec (.flush t p) s0 = .next ((s.msRemove t k).fired t c).settle) ∧
    (dSide x.dest = true → ctrlCode x = some 3 → modeReduce (sMode w) = true →
      exec (.flushAll t p) s0 = .next (((s.flushNode t p (dNode x.dest) (tCtx x.tag) w).2.outTo t w x.tag 0
        (BitVec.ofNat 64 (4 + (s.flushNode t p (dNode x.dest) (tCtx x.tag) w).1 * 2 ^ 32))
        (mkCtl tyCtrl (cPoison x.ctl) false true (sFlag w 3))).fired t c).settle) ∧
    (∀ e, dSide x.dest = true → ctrlCode x = some 5 → sMode w = 3 → ent = some e → e.kind = .gate ∨ e.kind = .pending →
      let arg := fld x.value 63 32
      let credit := if arg = 0 then 0xFFFFF else min arg 1048574
      let n := if arg = 0 then e.held.length else min credit e.held.length
      exec (.gateOpen t p) s0 = .next ((s.unpend t p e n (fun b =>
        { b with count := credit, kind := if n < e.held.length then .pending else .gate })).fired t c).settle) ∧
    (∀ e, dSide x.dest = true → ctrlCode x = some 6 → sMode w = 3 → ent = some e → e.kind = .gate ∨ e.kind = .pending →
      exec (.gateClose t p) s0 = .next ((s.unpend t p e 0 (fun b => { b with count := 0 })).fired t c).settle) ∧
    (∀ e, dSide x.dest = false → sMode w = 5 → reduceAccepts (sOp w) (cType x.ctl) = true → ent = some e →
      e.kind = .reduce →
      exec (.reduceAccumulate t p) s0 =
        .next (((s.msUpd t k (fun _ => reduceStep (sOp w) (s.peEnv (tCtx x.tag)) e x)).msRecall t k).fired t c).settle) ∧
    (∀ s1, dSide x.dest = false → sMode w = 5 → reduceAccepts (sOp w) (cType x.ctl) = true → ent = none →
      let v := reduceFirst (sOp w) x.value (cType x.ctl)
      let ctl := mkCtl v.2 (cPoison x.ctl) false (cLast x.ctl) (cOrd x.ctl)
      s.msInsert t ⟨k, .reduce, false, false, 1, ctl, v.1, .set 0, [], {}⟩ = some s1 →
      exec (.reduceAccumulate t p) s0 = .next (s1.fired t c).settle)

/-- Tag, loop and context firings complete. For every state in which ITER_GET, TAG_GET, LOOP_HEAD, LOOP_TAIL, CTX,
FREE, CTX_GET or PARENT_GET is in stage 4 of a PE, the command answers the next state written here, in every case of
its loop entry, of the context queue and of its operand; so does a waiting context request that can be granted. (R50,
R51, R52, R82, R86, R128, R129, R130, R131, R132, R133.) -/
def Obligations.PeLoopsAndContextsComplete : Prop :=
  ∀ (s : State) (t p : Nat) (f : Firing), s.Fires t p f →
    let s1 := s.taken t p
    let x := f.x
    let c := tCtx x.tag
    let i := sImm f.slot % 2 ^ 16
    let go : State := if f.due then s1.fired t c else s1
    let loop := (s1.tile t).seqOf true p x
    let passes (u : State) : State := u.outBoth t f x.value (cType x.ctl)
    let stray : State := (go.divert t x f.flt).inc (tp t + R.tileSeqStat) 47 32
    let fresh : SeqEntry := { loop := true, pe := p, node := dNode x.dest, ctx := c, colour := tColour x.tag, n := 0,
                              k := s1.loopLimit f }
    let made (u : State) : State := u.updTile t (fun y => { y with seq := y.seq ++ [fresh] })
    let opens (s : State) (t : Nat) (f : Firing) (c : Nat) : State :=
      let tm := s.f (tp t + R.tileCtxTmpl) 47 6 * 64 + 64 * (sImm f.slot % 2 ^ 16)
      let w (i : Nat) : Word := s.rd64 (tm + 8 * i)
      let keep (i : Nat) (l : List (Nat × Nat)) : Word := l.foldl (fun v h => setFld v h.1 h.2 (fld (w i) h.1 h.2)) 0
      let s1 := s.wrWords (s.ctxAddr c) [setFld (setFld (keep 0 [(45, 16)]) 1 0 1) 63 48 (tCtx f.x.tag), keep 1 [(47, 0)],
        keep 2 [(55, 0)], keep 3 [(47, 0)], keep 4 [(4, 0), (10, 8), (63, 28)], keep 5 [(9, 0), (63, 16)], 0xFFFFFF, s.now]
      let s2 := s1.updCtx c (fun _ => { lastAct := s1.now })
      let tag : Tag := setFld f.x.tag 7 0 (fld (w 5) 7 0)
      (s2.outTo t f.slot tag 0 (BitVec.ofNat 64 c) (f.outCtl tyUint64 false false)).outTo t f.slot tag 1
        (BitVec.ofNat 64 c) (f.outCtl tyUint64 false false)
    let frees (c : Nat) : State := if c = 0 ∨ s1.ctxState c ≠ 1 then (s1.inc (tp t + R.tileFabEvt) 31 16).fault (tp t) .config
      else s1.beginTeardown c false 0
    (sOp f.slot = 0x500 → exec (.iterGet t p) s = .next (s1.outBoth t f (BitVec.ofNat 64 (tIter x.tag)) tyUint64).settle) ∧
    (sOp f.slot = 0x501 → exec (.tagGet t p) s = .next (s1.outBoth t f (BitVec.ofNat 64 x.tag.toNat) tyBits).settle) ∧
    (sOp f.slot = 0x502 → f.again = true → exec (.loopHead t p) s = .next (passes go).settle) ∧
    (∀ e, sOp f.slot = 0x502 → f.again = false → dSide x.dest = false → loop = some e → e.n < e.k →
      exec (.loopHead t p) s = .next (passes (go.updSeq t true p x (fun e => { e with n := e.n + 1 }))).settle) ∧
    (∀ e, sOp f.slot = 0x502 → f.again = false → dSide x.dest = false → loop = some e → e.k ≤ e.n →
      exec (.loopHead t p) s = .next (s1.seqHold t true p f e { f.item with again := false }).settle) ∧
    (sOp f.slot = 0x502 → f.again = false → dSide x.dest = false → loop = none →
      (s1.tile t).seq.length < 1024 → 0 < s1.loopLimit f →
      exec (.loopHead t p) s = .next (passes ((made go).updSeq t true p x (fun e => { e with n := 1 }))).settle) ∧
    (sOp f.slot = 0x502 → f.again = false → dSide x.dest = false → loop = none →
      (s1.tile t).seq.length < 1024 → s1.loopLimit f = 0 →
      exec (.loopHead t p) s = .next ((made s1).seqHold t true p f fresh { f.item with again := false }).settle) ∧
    (sOp f.slot = 0x502 → f.again = false → dSide x.dest = false → loop = none → 1024 ≤ (s1.tile t).seq.length →
      exec (.loopHead t p) s = .next ((go.exc84 t x 0x502 .seqFull).inc (tp t + R.tileSeqStat) 31 16).settle) ∧
    (∀ e g r, sOp f.slot = 0x502 → f.again = false → dSide x.dest = true → loop = some e → e.n ≠ 0 → e.held = g :: r →
      let u := go.unchain t e.heldB 1 (chainSlots r)
      exec (.loopHead t p) s = .next ((u.2.updSeq t true p x (fun e => { e with held := r, heldB := u.1 })).release t p
        [{ g with again := true }]).settle) ∧
    (∀ e, sOp f.slot = 0x502 → f.again = false → dSide x.dest = true → loop = some e → e.held = [] →
      1 < e.n → exec (.loopHead t p) s = .next (go.updSeq t true p x (fun e => { e with n := e.n - 1 })).settle) ∧
    (∀ e, sOp f.slot = 0x502 → f.again = false → dSide x.dest = true → loop = some e → e.held = [] →
      e.n = 1 → exec (.loopHead t p) s = .next (go.dropSeq t true p x).settle) ∧
    (∀ e, sOp f.slot = 0x502 → f.again = false → dSide x.dest = true → loop = some e → e.n = 0 →
      exec (.loopHead t p) s = .next stray.settle) ∧
    (sOp f.slot = 0x502 → f.again = false → dSide x.dest = true → loop = none →
      exec (.loopHead t p) s = .next stray.settle) ∧
    (sOp f.slot = 0x503 → exec (.loopTail t p) s =
      .next ((s1.outTo t f.slot x.tag 0 x.value (f.outCtl (cType x.ctl) false false)).outTo t f.slot x.tag 1 1
        (f.outCtl tyUint64 false false)).settle) ∧
    (∀ c s2, sOp f.slot = 0x600 → i < s1.f (tp t + R.tileCtxTmpl) 63 48 → s1.ctxQueue = [] → s1.takeCtx = some (c, s2) →
      exec (.ctx t p) s = .next (opens s2 t f c).settle) ∧
    (sOp f.slot = 0x600 → i < s1.f (tp t + R.tileCtxTmpl) 63 48 → s1.ctxQueue ≠ [] ∨ s1.takeCtx = none →
      s1.ctxQueue.length < 256 →
      exec (.ctx t p) s = .next ({ s1 with ctxQueue := s1.ctxQueue ++ [⟨t, p, f⟩] } : State).settle) ∧
    (sOp f.slot = 0x600 → i < s1.f (tp t + R.tileCtxTmpl) 63 48 → 256 ≤ s1.ctxQueue.length →
      exec (.ctx t p) s = .next ((s1.excToken t x 0 (mkCtl tyUint64 (cPoison x.ctl) true (cLast x.ctl) (cOrd x.ctl))).inc
        (pageAt .glb 0 + R.glbCtxFree) 63 48).settle) ∧
    (sOp f.slot = 0x600 → s1.f (tp t + R.tileCtxTmpl) 63 48 ≤ i →
      exec (.ctx t p) s = .next (s1.exc84 t x 0x600 .template).settle) ∧
    (∀ q r c s2, s.ctxQueue = q :: r → s.takeCtx = some (c, s2) →
      exec .ctxQueueGrant s = .next (opens { s2 with ctxQueue := r } q.tile q.f c).settle) ∧
    (sOp f.slot = 0x601 → (sImm f.slot).testBit 0 = false → exec (.free t p) s = .next (frees c).settle) ∧
    (sOp f.slot = 0x601 → (sImm f.slot).testBit 0 = true → cPoison x.ctl = false →
      exec (.free t p) s = .next (frees (fld x.value 15 0)).settle) ∧
    (sOp f.slot = 0x601 → (sImm f.slot).testBit 0 = true → cPoison x.ctl = true →
      exec (.free t p) s = .next (s1.exc84 t x 0x601 .poisoned).settle) ∧
    (sOp f.slot = 0x602 → exec (.ctxGetParentGet t p) s = .next (s1.outBoth t f (BitVec.ofNat 64 c) tyUint64).settle) ∧
    (sOp f.slot = 0x603 → exec (.ctxGetParentGet t p) s =
      .next (s1.outBoth t f (BitVec.ofNat 64 (s1.ctxParent c)) tyUint64).settle)

/-- Memory, time, event and EMIT firings complete. For every state in which IFETCH, ISTORE, LOAD, TIME or TWAIT, or a
STORE, SEND, EVENT or EMIT that is not ordered, is in stage 4 of a PE, the command answers the next state written
here, for a legal operand, an index or an address out of range, and a poisoned operand; a firing that TWAIT holds is
released at its time. (R55, R57, R85, R87, R88, R89, R139, R579.) -/
def Obligations.PeMemoryAndEventsComplete : Prop :=
  ∀ (s : State) (t p : Nat) (f : Firing), s.Fires t p f →
    let s1 := s.taken t p
    let x := f.x
    let c := tCtx x.tag
    let i := x.value.toNat
    let size := fld (s1.ctxW c 2) 31 0
    let data := fld (s1.ctxW c 1) 47 0 + 8 * i
    let stateWord := fld (s1.ctxW c 1) 47 0 + 8 * size + 8 * i
    let a := (x.value + sImmS f.slot).toNat
    let inHbm := region data = .hbm ∧ region stateWord = .hbm
    let named (poison : Bool) : State :=
      s1.excToken t x x.value (mkCtl tyUint64 (cPoison x.ctl || poison) true (cLast x.ctl) (cOrd x.ctl))
    let queued (store : Bool) : State :=
      s1.iRequest t (hbmUnit data) data { store := store, tile := t, f := f, rtag := s1.returnTag f }
    let req (w : Word) : MemReq := { node := tileNode t, txid := 0, origin := BitVec.ofNat 16 (0x7000 + tileNode t),
                                     addr := BitVec.ofNat 48 a, be := 0xFF, data := w }
    let word : EmitWord := ⟨t, p, (sImm f.slot).testBit 5, cPoison x.ctl, f⟩
    let free := s.ordered t f = false
    let go : State := if f.due then s1.fired t c else s1
    let stays : State :=
      if f.due then (s.updPe t p (fun e => { e with ex := { f with due := false } :: e.ex.drop 1 })).fired t c else s
    (sOp f.slot = 0x700 → f.none0 = false → f.bad0 = false → cPoison x.ctl = false → i < size → inHbm →
      exec (.ifetch t p) s = .next (queued false).settle) ∧
    (sOp f.slot = 0x700 → f.none0 = false → f.bad0 = false → cPoison x.ctl = false → i < size → ¬ inHbm →
      exec (.ifetch t p) s = .next ((named true).fault (tp t) .config).settle) ∧
    (sOp f.slot = 0x700 → f.none0 = false → f.bad0 = false → cPoison x.ctl = false → size ≤ i →
      exec (.ifetch t p) s = .next (named false).settle) ∧
    (sOp f.slot = 0x700 → f.none0 = false → cPoison x.ctl = true →
      exec (.ifetch t p) s = .next (s1.exc84 t x 0x700 .poisoned).settle) ∧
    (sOp f.slot = 0x700 → f.none0 = true → exec (.ifetch t p) s = .next s1.settle) ∧
    (sOp f.slot = 0x701 → f.any cPoison = false → i < size → inHbm → exec (.istore t p) s = .next (queued true).settle) ∧
    (sOp f.slot = 0x701 → f.any cPoison = false → i < size → ¬ inHbm →
      exec (.istore t p) s = .next ((named true).fault (tp t) .config).settle) ∧
    (sOp f.slot = 0x701 → f.any cPoison = false → size ≤ i → exec (.istore t p) s = .next (named false).settle) ∧
    (sOp f.slot = 0x701 → f.any cPoison = true → exec (.istore t p) s = .next (s1.exc84 t x 0x701 .poisoned).settle) ∧
    (∀ u, sOp f.slot = 0x702 → f.none0 = false → f.bad0 = false → cPoison x.ctl = false → peAddrOk a = true →
      unitOf a = some u →
      exec (.load t p) s = .next (s1.request (tileNode t) (unitNode u) 1 a (req 0) (.load t f (s1.returnTag f))).settle) ∧
    (sOp f.slot = 0x702 → f.none0 = false → cPoison x.ctl = false → peAddrOk a = false →
      exec (.load t p) s = .next (s1.exc84 t x 0x702 .address).settle) ∧
    (sOp f.slot = 0x702 → f.none0 = false → cPoison x.ctl = true →
      exec (.load t p) s = .next (s1.exc84 t x 0x702 .poisoned).settle) ∧
    (sOp f.slot = 0x702 → f.none0 = true → exec (.load t p) s = .next s1.settle) ∧
    (∀ u, sOp f.slot = 0x703 → free → f.any cPoison = false → peAddrOk a = true → unitOf a = some u →
      exec (.store t p) s = .next (go.request (tileNode t) (unitNode u) 3 a (req f.yv) (.store t f)).settle) ∧
    (sOp f.slot = 0x703 → free → f.any cPoison = false → peAddrOk a = false →
      exec (.store t p) s = .next (go.exc84 t x 0x703 .address).settle) ∧
    (sOp f.slot = 0x703 → free → f.any cPoison = true →
      exec (.store t p) s = .next (go.exc84 t x 0x703 .poisoned).settle) ∧
    (sOp f.slot = 0x802 → exec (.time t p) s = .next (s1.outBoth t f s1.now tyTime).settle) ∧
    (sOp f.slot = 0x803 → cPoison x.ctl = true ∨ i ≤ s.now.toNat →
      exec (.twait t p) s = .next ((s1.touch c).outBoth t f x.value tyTime).settle) ∧
    (sOp f.slot = 0x803 → cPoison x.ctl = false → s.now.toNat < i → (s1.tile t).twait.length < 256 →
      exec (.twait t p) s = .next (s1.updTile t (fun y => { y with twait := y.twait ++ [⟨p, f, x.value⟩] })).settle) ∧
    (sOp f.slot = 0x803 → cPoison x.ctl = false → s.now.toNat < i → 256 ≤ (s1.tile t).twait.length →
      exec (.twait t p) s = .next s.settle) ∧
    (∀ w r, (s.tile t).twait = w :: r → w.till.toNat ≤ s.now.toNat →
      exec (.twaitRelease t) s = .next (((s.updTile t (fun y => { y with twait := r })).touch (tCtx w.f.x.tag)).outBoth t w.f
        w.f.x.value tyTime).settle) ∧
    (∀ s2, sOp f.slot = 0x805 → free → cPoison x.ctl = false →
      go.inject (tileNode t) (pageNode .glb 0) 3 3 0 (.event (sImm f.slot % 64)) = (true, s2) →
      exec (.event t p) s = .next (s2.outBoth t f x.value (cType x.ctl)).settle) ∧
    (∀ s2, sOp f.slot = 0x805 → free → cPoison x.ctl = false →
      go.inject (tileNode t) (pageNode .glb 0) 3 3 0 (.event (sImm f.slot % 64)) = (false, s2) →
      exec (.event t p) s = .next stays.settle) ∧
    (sOp f.slot = 0x805 → free → cPoison x.ctl = true → exec (.event t p) s = .next (go.exc84 t x 0x805 .poisoned).settle) ∧
    (∀ h s2, sOp f.slot = 0x800 → free → go.emitMap t (sImm f.slot % 32) = some h →
      SMap.get 0 (go.tile t).emitUsed h < 32 →
      (go.updTile t (fun y => { y with emitUsed := SMap.set 0 y.emitUsed h (SMap.get 0 (go.tile t).emitUsed h + 1) })).emitSend
        t h word = some s2 →
      exec (.emit t p) s = .next s2.settle) ∧
    (∀ h, sOp f.slot = 0x800 → free → go.emitMap t (sImm f.slot % 32) = some h → 32 ≤ SMap.get 0 (go.tile t).emitUsed h →
      exec (.emit t p) s = .next stays.settle) ∧
    (sOp f.slot = 0x800 → free → go.emitMap t (sImm f.slot % 32) = none →
      exec (.emit t p) s = .next ((go.outTo t f.slot x.tag 0 (BitVec.allOnes 64) (f.outCtl tyUint64 false true)).inc
        (tp t + R.tileEmitMap2) 63 48).settle) ∧
    (∀ s2, sOp f.slot = 0x804 → free → cPoison x.ctl = false → go.kenSend (sImm f.slot % 256)
        (BitVec.ofNat 64 (0x8000 + fld (go.ctxW c 0) 45 40 * 2 ^ 16)) x.value
        (BitVec.ofNat 64 (x.tag.toNat + x.ctl.toNat * 2 ^ 48)) = some s2 →
      exec (.send t p) s = .next s2.settle) ∧
    (sOp f.slot = 0x804 → free → cPoison x.ctl = true → exec (.send t p) s = .next (go.exc84 t x 0x804 .poisoned).settle)

/-- Ordered side effects take their turn. For every state in which an ordered STORE, SEND, EVENT or EMIT is in stage 4
of a PE, the command answers the next state of its turn: at its iteration it has its effect and the order moves on,
ahead of it the firing is held, behind it it raises an exception, and with no entry and none free it raises one too;
where the effect must wait, nothing changes. (R133, R134, R135, R136, R137, R139, R581.) -/
def Obligations.OrderedSideEffects : Prop :=
  ∀ (s : State) (t p : Nat) (f : Firing), s.Fires t p f → s.ordered t f = true →
    let s1 := s.taken t p
    let x := f.x
    let op := sOp f.slot
    let did (u : State) : Option State :=
      if op = 0x703 then some (if f.any cPoison then u.exc84 t x op .poisoned else u.storeOp t f)
      else if op = 0x805 then if cPoison x.ctl then some (u.exc84 t x op .poisoned)
        else match u.inject (tileNode t) (pageNode .glb 0) 3 3 0 (.event (sImm f.slot % 64)) with
          | (true, v) => some (v.outBoth t f x.value (cType x.ctl))
          | (false, _) => none
      else if op = 0x804 then if cPoison x.ctl then some (u.exc84 t x op .poisoned)
        else u.kenSend (sImm f.slot % 256) (u.sendWord0 f) x.value (BitVec.ofNat 64 (x.tag.toNat + x.ctl.toNat * 2 ^ 48))
      else u.emitOp t p f
    let fresh : SeqEntry := { loop := false, pe := p, node := dNode x.dest, ctx := tCtx x.tag, colour := tColour x.tag,
                              n := 0, k := 0 }
    let go (u : State) : State := if f.due then u.fired t (tCtx x.tag) else u
    let stays : State :=
      if f.due then (s.updPe t p (fun e => { e with ex := { f with due := false } :: e.ex.drop 1 })).fired t (tCtx x.tag)
      else s
    let made : State := s1.updTile t (fun y => { y with seq := y.seq ++ [fresh] })
    let ahead (e : SeqEntry) : Nat := (tIter x.tag + 2 ^ 24 - e.n) % 2 ^ 24
    let late (u : State) : State := ((go u).exc84 t x op .orderLate).inc (tp t + R.tileSeqStat) 63 48
    ∀ r, (op = 0x703 ∧ r = exec (.store t p) s) ∨ (op = 0x805 ∧ r = exec (.event t p) s) ∨
        (op = 0x804 ∧ r = exec (.send t p) s) ∨ (op = 0x800 ∧ r = exec (.emit t p) s) →
      (∀ e s2, (s1.tile t).seqOf false p x = some e → ahead e = 0 → did (go s1) = some s2 → r = .next (s2.orderDone t p f).settle) ∧
      (∀ e, (s1.tile t).seqOf false p x = some e → ahead e = 0 → did (go s1) = none → r = .next stays.settle) ∧
      (∀ e, (s1.tile t).seqOf false p x = some e → 0 < ahead e → ahead e < 2 ^ 23 →
        r = .next (s1.seqHold t false p f e f.item).settle) ∧
      (∀ e, (s1.tile t).seqOf false p x = some e → 2 ^ 23 ≤ ahead e → r = .next (late s1).settle) ∧
      ((s1.tile t).seqOf false p x = none → 1024 ≤ (s1.tile t).seq.length →
        r = .next (((go s1).exc84 t x op .seqFull).inc (tp t + R.tileSeqStat) 31 16).settle) ∧
      (∀ s2, (s1.tile t).seqOf false p x = none → (s1.tile t).seq.length < 1024 → tIter x.tag = 0 → did (go made) = some s2 →
        r = .next (s2.orderDone t p f).settle) ∧
      ((s1.tile t).seqOf false p x = none → (s1.tile t).seq.length < 1024 → tIter x.tag = 0 → did (go made) = none →
        r = .next stays.settle) ∧
      ((s1.tile t).seqOf false p x = none → (s1.tile t).seq.length < 1024 → 0 < tIter x.tag → tIter x.tag < 2 ^ 23 →
        r = .next (made.seqHold t false p f fresh f.item).settle) ∧
      ((s1.tile t).seqOf false p x = none → (s1.tile t).seq.length < 1024 → 2 ^ 23 ≤ tIter x.tag →
        r = .next (late made).settle)

/-! ## The tiles apart from their opcodes -/

/-- Queues, spill, rotation, scrubbing and loads of a tile complete. Each command of a tile's controller, under the
conditions on the tile that it names, answers the next state written here: a token enters its PE's queue or is
diverted, chains refill, spilled keys return, rotation moves and ends, a scrub corrects, a load entry is stored. (R40,
R71, R106, R107, R112, R113, R115, R120, R121, R124, R126, R127.) -/
def Obligations.TileControllerComplete : Prop :=
  ∀ (s : State) (t p : Nat), s.porst = false → t < 128 → p < 4 →
    let was := (s.tile t).exhSince
    let armed (s : State) : Prop := s.f (tp t + R.pgErrInj) 47 32 ≠ 0
    (∀ src a rest, let q := a.item
      let s1 := s.updTile t (fun x => { x with arr := rest })
      let pe := (s1.tile t).pe (dPe q.tok.dest)
      SMap.get none s.frst (tp t) = none → takeFirst (fun a => a.src == src) (s.tile t).arr = some (a, rest) →
      arrivalBehind (s.tile t).arr src (dPe q.tok.dest) = false → cType q.tok.ctl ≤ 8 →
      q.flt = true ∨ s.ctxState (tCtx q.tok.tag) = 1 → pe.chain = [] →
      (pe.queue.length < 256 → exec (.tokenEnterTile t src) s =
        .next (((s1.updPe t (dPe q.tok.dest) (fun e => { e with queue := e.queue ++ [q] })).exhFix t was).settle)) ∧
      (256 ≤ pe.queue.length → s.spillOn t = false ∨ s.f (tp t + R.tileQCtl) 15 0 ≠ 0 →
        let held (b : Arrival) : Arrival := { b with item := q, seen := true, since := some (b.since.getD s.now) }
        exec (.tokenEnterTile t src) s =
          .next (s.updTile t (fun x => { x with arr := replFirst (fun b => b.src == src) held x.arr })).settle)) ∧
    (∀ src a rest, let q := a.item
      let s1 := s.updTile t (fun x => { x with arr := rest })
      SMap.get none s.frst (tp t) = none → takeFirst (fun a => a.src == src) (s.tile t).arr = some (a, rest) →
      arrivalBehind (s.tile t).arr src (dPe q.tok.dest) = false → cType q.tok.ctl ≤ 8 →
      q.flt = false → s.ctxState (tCtx q.tok.tag) ≠ 1 →
      exec (.tokenEnterTile t src) s = .next ((s1.exhFix t was).divert t q.tok false).settle) ∧
    (∀ a rest s1, takeFirst (fun a => dPe a.item.tok.dest == p) (s.tile t).arr = some (a, rest) → s.spillOn t = true →
      s.spillDue t a = true → s.chainAppend t p a.item = some s1 →
      ((s.tile t).pe p).chain ≠ [] ∨ 256 ≤ ((s.tile t).pe p).queue.length →
      exec (.spillDelayExpire t p) s = .next (s1.updTile t (fun x => { x with arr := rest })).settle) ∧
    (∀ a rest, takeFirst (fun a => dPe a.item.tok.dest == p) (s.tile t).arr = some (a, rest) → a.since.isSome = true →
      ((s.tile t).pe p).chain = [] → ((s.tile t).pe p).queue.length < 256 → SMap.get none s.frst (tp t) = none →
      exec (.spillDelayExpire t p) s = .next ((s.updTile t (fun x => { x with arr := rest })).updPe t p (fun e =>
        { e with queue := e.queue ++ [a.item] })).settle) ∧
    (∀ q r, let pe := (s.tile t).pe p
      let u := s.unchain t pe.chainB 1 (chainSlots r)
      pe.chain = q :: r → pe.queue.length < 256 →
      s.memAwake = true → exec (.queueChainRefill t p) s = .next (u.2.updPe t p (fun e => { e with
        queue := e.queue ++ [q], chain := r, chainB := u.1 })).settle) ∧
    (∀ k since pe q rest, takeFirst (fun w => w.key == k) (s.tile t).inflight = some (⟨k, since, [(pe, q)]⟩, rest) →
      s.keyWaits t k = false →
      let s1 := (s.updTile t (fun x => { x with inflight := rest })).sampleAt (0x1003 + 8 * t) (dur since s.now / 16)
      ¬ armed s1 → s.memAwake = true → exec (.spillAccessComplete t k) s = .next (s1.matchDone t pe (s1.slotOf t pe q) q).settle) ∧
    (∀ n s1, (s.tile t).wait = [] → (s.tile t).firstNi = some n →
      (s.updTile t (fun x => { x with exhSince := none })).niServe t n = some s1 →
      s.memAwake = true → exec (.spillBucketGrant t) s = .next (s1.exhFix t was).settle) ∧
    (∀ w rest s2, (s.tile t).wait = w :: rest → (s.tile t).firstNi = none → w.item.again = false →
      let s1 := (s.updTile t (fun x => { x with exhSince := none })).updTile t (fun x => { x with wait := rest })
      sOp (s1.slotOf t w.pe w.item) ≠ 0x502 →
      s1.matchMode t w.pe (s1.slotOf t w.pe w.item) w.item = .done s2 →
      s.memAwake = true → exec (.spillBucketGrant t) s = .next ((s2.fired t (tCtx w.item.tok.tag)).exhFix t was).settle) ∧
    (∀ a, let lim := us * s.f (tp t + R.tileQCtl) 31 16
      was = some a → lim ≠ 0 → lim ≤ dur a s.now → lim ≤ dur (s.tile t).lastFire s.now →
      s.b (tp t + R.tileQStat) 39 = false →
      exec (.fabricStall t) s = .next ((s.putB (tp t + R.tileQStat) 39 true).fault (tp t) .timeout).settle) ∧
    (let x := s.tile t
     let n := x.confl.foldl (fun n e => n + e.2) 0
     let hot := (x.confl.foldl (fun (b : Nat × Nat) e => if b.2 < e.2 then e else b) (0, 0)).1
     let th := s.f (tp t + R.tileMsCtl) 31 16
     let ends (u : State) : State := (((u.putF (tp t + R.tileMsWin) 47 32 (min n 65535)).putF (tp t + R.tileMsStat) 43 32
       hot).sampleAt (0x1000 + 8 * t) n).updTile t (fun x => { x with confl := [], winTrig := false, winStart := x.winStart + BitVec.ofNat 64 (10 * us) })
     10 * us ≤ dur x.winStart s.now →
      (s.b (tp t + R.tileMsCtl) 0 = true → th ≠ 0 → th < n → x.winTrig = false → exec (.conflictWindowEnd t) s =
        .next (ends ((s.updTile t (fun x => { x with winTrig := true })).rotTrigger t)).settle) ∧
      (n ≤ th ∨ x.winTrig = true → exec (.conflictWindowEnd t) s = .next (ends s).settle)) ∧
    (let k := (s.tile t).sweep
     let goes (u : State) : State := (u.updTile t (fun x => { x with sweep := k + 1 })).putF (tp t + R.tileMsStat) 27 16
       (if k < 4095 then k + 1 else 0)
     ¬ armed s → s.b (tp t + R.tileMsStat) 1 = true → k ≤ 4096 →
      (s.sweepHere t = [] → exec (.sweepMove { tile := t }) s = .next (goes s).settle) ∧
      (∀ e l s1, s.sweepHere t = e :: l → s.sweepEntry t e = some s1 → s1.sweepHere t = [] →
        exec (.sweepMove { tile := t }) s = .next (goes s1).settle) ∧
      (∀ e l s1, s.sweepHere t = e :: l → s.sweepEntry t e = some s1 → s1.sweepHere t ≠ [] →
        exec (.sweepMove { tile := t }) s = .next s1.settle)) ∧
    (s.b (tp t + R.tileMsStat) 1 = true → (s.tile t).sweep = 4097 → s.b (tp t + R.tileMsStat) 2 = false →
      exec (.sweepComplete t) s = .next ((((s.putB (tp t + R.tileMsStat) 1 false).putF (tp t + R.tileMsStat) 27 16 0).updTile t
        (fun x => { x with saltOld := 0, sweep := 0 }))).settle) ∧
    (∀ ovf n way, ¬ armed s → exec (.msScrub t ovf n way .clean {}) s = .next s.settle) ∧
    (∀ ovf n v flips, ¬ armed s → (s.tile t).ms.filter (scrubs ovf n) = [v] →
      (let s1 := (s.inc (tp t + R.tileMsEvt) 63 48).fault (tp t) .correctable
       ¬ armed s1 → exec (.msScrub t ovf n 0 .corrected ⟨flips, [], false⟩) s = .next s1.settle) ∧
      (let s1 := ((s.msRemove t v.key).msLost t v.key flips).fault (tp t) .uncorrectable
       (s.tile t).ms.filter (fun e => e.key == v.key) = [v] → ¬ armed s1 →
       exec (.msScrub t ovf n 0 .uncorrectable ⟨flips, [], false⟩) s = .next s1.settle)) ∧
    (∀ e r, let l := (s.tile t).load
     let a := l.addr + 24 * l.next
     let u := r.visit a (r.access a 24 false) 24
     let ad := u.rd a 2
     let slot : BitVec 128 := BitVec.ofNat 128 (u.rd (a + 8) 16)
     let stored := u.updPe t (ad / 4096) (fun e => { e with nodes := SMap.set 0 e.nodes (ad % 4096) slot })
     l.busy = true → s.codes a 24 e = (true, r) → (r.tile t).load = l → u.access a 24 false = .ok →
      entryBad ad (u.rd (a + 2) 6) slot = false → l.next + 1 ≠ l.count →
      s.memAwake = true → exec (.tileLoadEntry t e) s = .next ((stored.putF (tp t + R.tileLoadStat) 30 16 (l.next + 1)).updTile t
        (fun x => { x with load := { l with next := l.next + 1 } })).settle) ∧
    (∀ w, (s.tile t).readyAt = some w → exec (.spillReady t) s =
      .next (((s.clearMem (s.spillBase t) 0x400000).putB (tp t + R.tileMsStat) 3 true).updTile t
        (fun x => { x with readyAt := none })).settle)

/-- I-structures, teardown, deadlock records and EMIT credits complete. An IFETCH answers the stored element or defers
its reader, an ISTORE writes an empty element or raises an exception at a full one, a teardown ends, a deadlock is
recorded or aborted as its context says, a held QM record is posted, and an EMIT credit returns to its tile. (R53,
R54, R56, R57, R143, R146, R150, R152, R171, R579.) -/
def Obligations.ControllerAndMonitorComplete : Prop :=
  ∀ (s : State), s.porst = false →
    (∀ (u : Nat) (r : IReq) (l : List IReq) (es ed : LineErr) (s1 s2 : State), u < 4 →
      s.domOn (168 + u) = true → (s.hb u).iq = r :: l →
      let c := tCtx r.f.x.tag
      let a := s.isData c r.f.idx
      let b := s.isState c r.f.idx
      let dest := setFld (sDest r.f.slot 0) 7 0 0
      ((s.updHb u (fun h => { h with iq := l })).iAck u r).iRead b es = (.ok, s1) →
      (r.store = false → fld (s1.rd64 b) 63 62 = 1 → s1.iRead a ed = (.ok, s2) →
        exec (.iFetchRequest u es ed) s = .next (s2.sendFrom (unitNode u)
          { dest := dest, tag := r.rtag, value := s2.rd64 a,
            ctl := mkCtl (fld (s1.rd64 b) 51 48) false false false false }).settle) ∧
      (r.store = false → fld (s1.rd64 b) 63 62 = 0 ∨ fld (s1.rd64 b) 63 62 = 2 →
        exec (.iFetchRequest u es ed) s = .next (s1.deferReader u r b (s1.rd64 b)).settle) ∧
      (r.store = true → fld (s1.rd64 b) 63 62 = 0 → s1.iRead a ed = (.ok, s2) →
        let y := r.f.y.getD (0, 0)
        exec (.iStoreRequest u es ed) s =
          .next (((s2.wr64 a y.1).wr64 b (BitVec.ofNat 64 (2 ^ 62 + cType y.2 * 2 ^ 48))).outTo r.tile r.f.slot r.f.x.tag 0
            r.f.x.value (r.f.outCtl tyUint64 false false)).settle) ∧
      (r.store = true → fld (s1.rd64 b) 63 62 = 1 →
        let y := r.f.y.getD (0, 0)
        exec (.iStoreRequest u es ed) s =
          .next (s1.excToken r.tile r.f.x y.1 (excCtl r.f.x (cType y.2) false)).settle)) ∧
    (∀ (c : Nat) (td : Teardown), c < 65536 → (s.ctx c).teardown = some td → s.vn0Before td.upTo = false →
      s.tiles.any (fun e => e.2.executes c || e.2.arr.any (fun a => tCtx a.item.tok.tag == c && !a.item.flt)) = false →
      td.abort = false ∨ s.qmHolds c = false →
      let s1 := s.tiles.foldl (fun (s : State) e => s.purge e.1 c) s
      let s2 := (({ s1 with ctxTail := s1.ctxTail ++ [c] } : State).setCtxState c 0).updCtx c
        (fun x => { x with teardown := none })
      (td.abort = false → exec (.teardownComplete c) s = .next s2.settle) ∧
      (td.abort = true → exec (.teardownComplete c) s =
        .next (s2.qmPost (qmRecord c 1 2 0 td.gone (s.ctx c).lastAct s.now 0 td.reason)).settle)) ∧
    (∀ c, c < 65536 → s.deadlocked c = true → fld (s.ctxW c 0) 18 16 = 0 →
      let tile := match s.tiles.find? (fun e => decide (0 < e.2.waitingOf c)) with | some e => e.1 | none => 0
      exec (.deadlockDetect c) s = .next ((s.updCtx c (fun x => { x with detected := true })).qmPost
        (qmRecord c 0 0 tile (s.waitingOf c) (s.ctx c).lastAct s.now 0 0)).settle) ∧
    (∀ c, 0 < c → c < 65536 → s.deadlocked c = true → fld (s.ctxW c 0) 18 16 = 2 →
      let tile := match s.tiles.find? (fun e => decide (0 < e.2.waitingOf c)) with | some e => e.1 | none => 0
      exec (.deadlockDetect c) s = .next (((s.updCtx c (fun x => { x with detected := true })).abortCtx c 0).qmPost
        (qmRecord c 0 2 tile (s.waitingOf c) (s.ctx c).lastAct s.now 0 0)).settle) ∧
    (∀ ws r s1, s.qmHeld = ws :: r → s.ringPush qmRing ws = (true, s1) →
      s.memAwake = true → exec .qmRecordPost s = .next (({ s1 with qmHeld := r } : State).pageInt (pageAt .glb 0) 0).settle) ∧
    (∀ t h, t < 128 → h < 24 → 0 < SMap.get 0 (s.hub h).returns t →
      exec (.emitCreditReturn t h) s = .next ((s.updHub h (fun x => { x with
        returns := SMap.set 0 x.returns t (SMap.get 0 (s.hub h).returns t - 1) })).updTile t
        (fun x => { x with emitUsed := SMap.set 0 x.emitUsed h (SMap.get 0 x.emitUsed h - 1) })).settle)

/-! ## Streams, fail capture and links -/

/-- Stream words and downstream blocks complete. An EMIT word that arrives at a hub is placed, waits or is refused as
its position says; a stored line is fetched and its words placed; a port sends training frames while it trains, and
SYNC, IDLE, DATA or a control block at its block times. (R172, R173, R175, R177, R178, R187, R236, R238, R249, R250.)
-/
def Obligations.StreamsComplete : Prop :=
  ∀ (s : State) (h t p : Nat), s.porst = false → h < 24 → t < 128 → p < 96 →
    (∀ e r, takeFirst (fun e => e.tile == t) (s.hub h).flight = some (e, r) →
      let s1 := s.updHub h (fun x => { x with flight := r })
      (s1.emitDecide h e (s1.hub h).ingress.isEmpty = .place →
        exec (.emitWordArrive h t) s = .next (s1.emitPlace h e).settle) ∧
      (s1.emitDecide h e (s1.hub h).ingress.isEmpty = .wait → exec (.emitWordArrive h t) s =
        .next (s1.updHub h (fun x => { x with ingress := x.ingress ++ [e] })).settle) ∧
      (∀ hi lo inv, s1.emitDecide h e (s1.hub h).ingress.isEmpty = .refuse hi lo inv →
        exec (.emitWordArrive h t) s = .next (s1.strmRefuse h e hi lo inv).settle)) ∧
    (∀ e r, (s.hub h).ingress = e :: r → s.emitDecide h e true = .place → exec (.ingressPlace h) s =
      .next ((s.updHub h (fun x => { x with ingress := r })).emitPlace h e).settle) ∧
    (∀ e ok s1, s.storedDue h = true → s.exchange (s.storedAddr h) = .ok → s.unitRead (s.storedAddr h) 64 e = (ok, s1) →
      s1.storedDue h = true → s1.exchange (s1.storedAddr h) = .ok →
      s.memAwake = true → exec (.storedLineReturn h e) s = .next ((((s1.visit (s1.storedAddr h) .ok 64).fetchRtt h).storedWords h (s1.storedAddr h)
        (!ok) (8 - (s1.hub h).fetch % 8)).prefill h).settle) ∧
    (∀ e, let a := s.storedAddr h
      s.storedDue h = true → s.exchange a ≠ .ok →
      s.memAwake = true → exec (.storedLineReturn h e) s = .next ((((s.visit a (s.exchange a) 64).fetchRtt h).storedWords h a
        true (8 - (s.hub h).fetch % 8)).prefill h).settle) ∧
    (∀ now, s.bamior p = false → (s.port p).blk = some now → s.drives p = true → s.pst p = 2 → (s.port p).ctlq = [] →
      let n := s.avail p
      let s0 := (if now % 20 = 0 then s.spareFrame p else s).updPort p (fun x => { x with blk := some (now + 1) })
      (now % 256 = 0 → (s.port p).switching = false → exec (.downstreamBlockTime p) s = .next (s0.sendBlk p (s.syncBlock p)).settle) ∧
      (now % 256 ≠ 0 → now % 20 ≠ 0 → n = 0 → exec (.downstreamBlockTime p) s = .next (s0.sendBlk p .idle).settle) ∧
      (now % 256 ≠ 0 → now % 20 ≠ 0 → 4 ≤ n → n < 2 ^ 63 → ((s.plate p).line.take 4).length = 4 → (s.plate p).abort = false →
        ((s.plate p).line.take 4).all (fun w => match w with | .vec _ => true | _ => false) = true →
        exec (.downstreamBlockTime p) s = .next (((s0.fillData p 4).2).sendBlk p (.data (s0.fillData p 4).1)).settle)) ∧
    (∀ b r, (s.port p).blk = some 1 → s.lnk p = 4 → s.bamior p = false → (s.port p).lastCtl = none → (s.port p).ctlq = b :: r →
      (∀ g rw be ad d, b ≠ .sbReq g rw be ad d) →
      exec (.downstreamBlockTime p) s = .next (((s.updPort p (fun x => { x with blk := some 2 })).updPort p
        (fun x => { x with ctlq := r, lastCtl := some 1 })).sendBlk p b).settle) ∧
    ((s.port p).blk = none → (s.port p).frameT % 20 = 0 →
      let s0 := s.updPort p (fun x => { x with frameT := x.frameT + 1 })
      ((s.port p).phase = 1 → exec (.downstreamBlockTime p) s = .next (s0.sendFrames p 1 0).settle) ∧
      ((s.port p).phase = 2 → exec (.downstreamBlockTime p) s = .next (s0.sendFrames p 2 0).settle) ∧
      (∀ c, (s.port p).phase = 3 → (s.port p).goTx = some c → exec (.downstreamBlockTime p) s = .next ((s0.sendFrames p 3 c).updPort p
        (fun x => { x with goTx := if c = 0 then none else some (c - 1) })).settle)) ∧
    (∀ now, (s.port p).blk = some now → s.pst p = 2 → (s.plate p).line = [] → 0 < s.avail p →
      s.slotDue p ((s.reg (pp p + R.portLnkSent)).toNat + 1) now = true →
      exec (.creditDeadline p) s = .next (s.blockTime p).settle)

/-- Upstream blocks of a Phour port complete. CREDIT, SYNC, fail, summary and end-of-capture records, RESUME and
LINKID, read from the bits of Table 7.4, fail deliveries on their way and at their tile, invalid and uncorrectable
blocks and heartbeat loss answer the next state written here. (R197, R199, R202, R205, R210, R212, R235, R237, R240,
R246, R250, R256.) -/
def Obligations.UpstreamComplete : Prop :=
  ∀ (s : State) (p : Nat), s.porst = false → p < 96 → s.bamior p = false → (s.port p).phase = 4 →
    (∀ (c0 : Word) (c1 : BitVec 184), let c : BitVec 248 := c1 ++ c0
      fld c 79 64 = s.run p → (s.reg (pp p + R.portLnkCred)).toNat < (c.extractLsb' 0 64).toNat →
      exec (.credit p c0 c1) s = .next ((s.setReg (pp p + R.portLnkCred) (c.extractLsb' 0 64)).updPort p (fun x => { x with credLog :=
        x.credLog ++ [((c.extractLsb' 0 64).toNat, match x.blk with | some n => n | none => 0)] })).settle) ∧
    (∀ c, exec (.sync p c) s = .next ((s.upSync p (UpSync.ofBits c)).deposed p (UpSync.ofBits c)).settle) ∧
    (∀ rec : BitVec 192, s.lnk p = 4 →
      let o := pp p + R.portLnkFcred
      let win := (s.f o 31 0 + 2 ^ 33 - s.f o 63 32 - (s.port p).lostF.toNat) % 2 ^ 32
      let s0 := s.putF o 63 32 ((s.f o 63 32 + 1) % 2 ^ 32)
      let mask := fld rec 135 104
      let addr := fld rec 103 64
      let idx := nearest 48 (fld rec 183 136) (s.consumed p)
      let time := nearest 56 (fld rec 63 8) s.now.toNat
      let hit (g : Nat) : Bool := s.grpBits p g mask != 0
      let gs := (s.groups p).filter hit
      win ≠ 0 → win ≤ 4096 →
      (fld rec 191 184 = 1 → s.b (pp p + R.portFailStat) 0 = false → s.captured p idx time = true → gs ≠ [] →
        exec (.failRecord p rec) s = .next (((s0.inc (pp p + R.portFailCnt0) 31 0).failLog p idx time mask 1
          (grpField gs) addr).failQueue p (gs.map (fun g => s.delivery p g mask addr)) true).settle) ∧
      (fld rec 191 184 = 2 → s.b (pp p + R.portFailStat) 0 = false → s.captured p idx time = true →
        exec (.summaryRecord p rec) s = .next (((((s0.inc (pp p + R.portFailCnt0) 31 0).sat p hit).inc
          (pp p + R.portFailCnt1) 15 0).failLog p idx time mask 2 0 addr).fcredit p 1).settle) ∧
      (fld rec 191 184 = 3 → exec (.endCaptureRecord p rec) s = .next (s0.endCapture p idx time mask addr true).settle)) ∧
    (∀ d r, takeFirst (fun e => e.1 == p && s.failReady e.2) s.failArr = some ((p, d), r) →
      let t := dTile d.dest
      let slot := SMap.get 0 ((s.tile t).pe (dPe d.dest)).nodes (dNode d.dest)
      let tag (k : Nat) : Tag := BitVec.ofNat 48 (d.ctx * 2 ^ 32 + k % 2 ^ 24 * 256 + d.colour)
      let ctl : Byte := if d.fin then 0x72 else 0x60
      let s1 := ({ s with failArr := r }).fired t d.ctx
      sOp slot = 0x801 → sMode slot = 0 →
      exec (.failIn p) s = .next ((s1.outTo t slot (tag d.rowKey) 0 d.row ctl).outTo t slot (tag d.colKey) 1 d.col ctl).settle) ∧
    (∀ d l cred rs s1, takeFirst (fun e => e.1 == p && s.failReady e.2) s.failArr = none →
      (s.port p).fails = ⟨d :: l, cred⟩ :: rs →
      let sent := sameTile (dTile d.dest) 3 (d :: l)
      let n := pageNode .hub (p / 4)
      flitCount (s.buf (bufKey n 4 3)) < 4 → (SMap.get [] s.heldFlits n).any (fun f => f.vn == 3) = false →
      s.inject n (tileNode (dTile d.dest)) 3 5 0 (.fails p sent.1) = (true, s1) → sent.2 = [] →
      exec (.failIn p) s = .next (((s1.updPort p (fun x => { x with fails := rs })).inc (pp p + R.portFailCnt2) 63 32
        sent.1.length).failLeaves p cred).settle) ∧
    (∀ (c0 c1 : Word) (c2 : BitVec 120), let c : BitVec 248 := c2 ++ c1 ++ c0
      let gen := c.extractLsb' 80 16
      let s1 := (s.putB (pp p + R.portLnkStat) 9 true).putF (pp p + R.portLnkStat) 31 16 gen.toNat
      ((s.port p).switching = false → exec (.resume p c0 c1 c2) s = .next s1.settle) ∧
      ((s.port p).switching = true → gen.toNat = s.portGen p → s.pst p = 2 → s1.drives p = true →
        exec (.resume p c0 c1 c2) s = .next (((s1.updPort p (fun x => { x with switching := false })).updPort p
          (fun x => { x with resumeIdx := some (c.extractLsb' 0 64) })).resumeTry p).settle)) ∧
    (∀ (c0 c1 c2 : Word) (c3 : BitVec 56), let c : BitVec 248 := c3 ++ c2 ++ c1 ++ c0
      s.lnk p ≠ 4 → exec (.linkid p c0 c1 c2 c3) s =
      .next ((((s.setReg (pp p + R.portLnkPeer) (c.extractLsb' 0 64)).setReg (pp p + R.portLnkPeerinfo)
        (BitVec.ofNat 64 (fld c 65 64 + fld c 95 72 * 2 ^ 8))).updPort p (fun x => { x with idSeen := true })).tryUp p).settle) ∧
    (∀ (isData : Bool) (code : Byte), isData = true ∨ (code ≠ 0 ∧ code ≠ 8 ∧ (code.toNat < 16 ∨ 21 < code.toNat)) →
      exec (.upstreamInvalidBlock p isData code) s =
        .next ((s.inc (pp p + R.portLnkErr) 63 48).fault (pp p) .protocol).settle) ∧
    (∀ errs, rsFix errs = none → exec (.upstreamUncorrectable ⟨p, errs⟩) s =
      .next (((s.updPort p (fun x => { x with badAt := s.now })).inc (pp p + R.portLnkErr) 15 0).sat p (fun _ => true)).settle) ∧
    (∀ errs e, rsFix errs = some e → exec (.upstreamUncorrectable ⟨p, errs⟩) s =
      .next (s.corrected p (e.map (fun x => x.1))).settle) ∧
    (15729 ≤ dur (s.port p).lastSync s.now → exec (.heartbeatLoss p) s =
      .next (((((s.putF (pp p + R.portLnkStat) 2 0 5).inc (pp p + R.portLnkTrain) 31 16)).retrain p true).fault
        (pp p) .timeout).settle)

/-- Sideband, training and spare-lane commands complete. A sideband response or time-out answers its request and frees
or blocks its tag, training frames count towards READY, a training time-out retrains, and the spare lane takes over
from a lane that does not lock or at the lane swap. (R249, R250, R251, R252, R253, R254, R255.) -/
def Obligations.LinksComplete : Prop :=
  ∀ (s : State) (p h lane : Nat), s.porst = false → p < 96 → h < 24 → lane < 4 →
    (∀ (c0 c1 : Word) (c2 : BitVec 120) q r, let c : BitVec 248 := c2 ++ c1 ++ c0
      let status := fld c 11 8
      s.bamior p = false → (s.port p).phase = 4 → status = 0 ∨ status = 2 ∨ status = 3 →
      takeFirst (fun q => q.tag == fld c 7 0 && q.sent.isSome) (s.port p).sb = some (q, r) →
      exec (.sbRsp p c0 c1 c2) s = .next (((s.updPort p (fun x => { x with sb := r })).react
        (.sb q status (c.extractLsb' 64 64))).react (.sbPump p)).settle) ∧
    (∀ tag q r, takeFirst (fun q => q.tag == tag && q.sent.any (fun a => decide (10 * us ≤ dur a s.now)))
        (s.port p).sb = some (q, r) →
      exec (.sidebandTimeout p tag) s = .next (((s.updPort p (fun x => { x with
        sb := r, sbBlocked := x.sbBlocked ++ [(tag, s.now + BitVec.ofNat 64 (10 * us))] })).inc (pp p + R.portLnkSb) 31 16).react
        (.sb q 4 0)).settle) ∧
    (∀ tag b r, takeFirst (fun b => b.1 == tag && decide (b.2.toNat ≤ s.now.toNat)) (s.port p).sbBlocked = some (b, r) →
      exec (.sbTagRelease p tag) s = .next ((s.updPort p (fun x => { x with sbBlocked := r })).sbPump p 16).settle) ∧
    (∀ f, (s.port p).phase = 2 → (s.port p).onSpare = none → f.marker = true → f.state = 2 → f.mode = b2n (s.bamior p) →
      let s0 := (s.updPort p (fun x => { x with skews := SMap.set 0 x.skews f.lane f.skew })).updPort p
        (fun x => { x with readies := min (x.readies + 1) 16 })
      ((s0.port p).readies < 16 ∨ (s0.port p).deskewed 4 = false →
        exec (.trainingFrame p lane f) s = .next s0.settle) ∧
      (16 ≤ (s0.port p).readies → (s0.port p).deskewed 4 = true → exec (.trainingFrame p lane f) s =
        .next ((s0.setLnk p 3).updPort p (fun x => { x with phase := 3, frameT := 0, goTx := some 15 })).settle)) ∧
    (1 ≤ (s.port p).phase → s.lnk p ≠ 4 → 1000 * us * s.f (pp p + R.portLnkCtl) 47 32 ≤ dur (s.port p).trainAt s.now →
      let n := s.f (pp p + R.portLnkTrain) 39 32 + 1
      let s1 := (s.retrain p true).putF (pp p + R.portLnkTrain) 39 32 (min n 255)
      exec (.trainingTimeout p) s = .next (if n = 3 then s1.fault (pp p) .timeout else s1).settle) ∧
    (let o := hp (p / 4) + R.hubLnkSpare
     (s.port p).phase = 1 → 1000 * us ≤ dur (s.port p).trainAt s.now → SMap.get 0 (s.port p).locks lane < 64 → s.b o 7 = true →
      s.f o 6 0 = p → s.f o 14 12 = 0 → exec (.spareLockTimeout p lane) s =
        .next ((((s.putF o 14 12 3).putF o 17 16 lane).putB (pp p + R.portLnkStat) 8 true).updPort p
          (fun x => { x with onSpare := some lane, locks := SMap.set 0 x.locks lane 0 })).settle) ∧
    (let o := hp h + R.hubLnkSpare
     let q := s.f o 6 0
     let left := (s.port q).until (s.hub h).swapAt
     s.f o 14 12 = 2 →
      (∀ c : BitVec 248, fld c 31 0 = (s.hub h).swapAt → 64 < left → left ≤ 256 →
        exec (.lanemapAck h c) s = .next (s.updHub h (fun x => { x with acked := true })).settle) ∧
      ((s.hub h).acked = false → left ≤ 64 ∨ 256 < left →
        exec (.lanemapAckTimeout h) s = .next ((s.putF o 14 12 4).fault (hp h) .timeout).settle) ∧
      ((s.hub h).acked = true → (s.port q).phase = 4 → left = 0 ∨ 256 < left →
        exec (.laneSwap h) s = .next ((((s.putF o 14 12 3).putF o 17 16 (s.f o 9 8)).putB (pp q + R.portLnkStat) 8 true).updPort q
          (fun y => { y with onSpare := some (s.f o 9 8) })).settle))

/-! ## The Retriever -/

/-- Unit CCWs of the Retriever begin. For every subchannel that may execute a unit CCW which passes its checks,
CCW_WRITE, CCW_CONTROL, CCW_READ, CCW_SENSE, GPIO_CAPTURE and the seven GPIO orders answer the next state written
here. (R270, R271, R274, R275, R276.) -/
def Obligations.UnitCommandsComplete : Prop :=
  ∀ (s : State) (n : Nat) (w : BitVec 128), s.Reads n w → s.unitCheck w = none → countCheck (cCmd w) (cKind w) w = none →
    (∀ b g s1, unitBus (cUnit w) = some b → s.ccwSegs n w = (g, none, s1) → (s1.standby && !spi0 (cUnit w)) = false →
      (∀ l s2, s1.subReads n g 0 = (.data l, s2) →
        let t := ((s2.unitBegun n w g l).updSub n (fun x => { x with busy := true })).busAsk n b
        (cCmd w = 1 → s.memAwake = true → exec (.ccwWrite n) s = .next t.settle) ∧
        (cCmd w = 3 → s.memAwake = true → exec (.ccwControl n) s = .next t.settle)) ∧
      (cCmd w = 2 → cDiscard w = false → s.memAwake = true → exec (.ccwRead n) s =
        .next (((s1.unitBegun n w g []).updSub n (fun x => { x with busy := true })).busAsk n b).settle)) ∧
    (∀ g s1, s.ccwSegs n w = (g, none, s1) → (s1.standby && !spi0 (cUnit w)) = false →
      let s2 := s1.unitBegun n w g []
      (cCmd w = 4 → s.memAwake = true → exec (.ccwSense n) s =
        .next (((s2.senseWord (cUnit w)).2.updSub n (fun x => { x with frame := none })).unitStore n w (leBytes 8 (s2.senseWord (cUnit w)).1.toNat) 0).settle) ∧
      (cCmd w = 2 → cDiscard w = false → cKind w = 1 → cParam w % 8 = 0 → s1.lnk (cUnit w % 128) = 4 →
        s1.bamior (cUnit w % 128) = false →
        s.memAwake = true → exec (.ccwRead n) s = .next (((s2.updSub n (fun x => { x with
          busy := true, todo := (pinWords (cParam w) (segBytes g) []).map (fun e => (e.1, 255, (0 : Word))), got := [],
          pos := cParam w + segBytes g })).sbNext n (cUnit w % 128) false 4).settle)) ∧
      (cCmd w = 2 → cDiscard w = false → cKind w = 4 → cUnit w / 256 % 16 = 7 →
        let k := min (cCount w / 16) s2.ret.fifo.length
        s.memAwake = true → exec (.gpioCapture n) s = .next (({ s2 with ret := { s2.ret with fifo := s2.ret.fifo.drop k } } : State).unitStore n w
          ((s2.ret.fifo.take k).flatMap (fun c => c.words.flatMap (fun v => leBytes 8 v.toNat)))
          (cCount w - min (16 * k) (segBytes g))).settle)) ∧
    (∀ c op, (c, op) ∈ [(Instr.gpioOutSet n, 0), (.gpioOutClr n, 1), (.gpioOutToggle n, 2), (.gpioDirOut n, 3),
        (.gpioDirIn n, 4), (.gpioArm n, 5), (.gpioDisarm n, 6)] →
      cCmd w = 3 → cKind w = 4 → cUnit w / 256 % 16 = op → cInd w = false → cCount w = 0 → s.standby = false →
      s.memAwake = true → exec c s = .next (((s.unitBegun n w [] []).gpioOp op (cUnit w % 4) (cParam w)).unitEnd n w none 0 []).settle)

/-- Start entries, other CCWs and waits of the Retriever complete. A start entry is taken, a CCW is fetched, JUMP,
WAIT_EVENT, WAIT_TIME, SKIP_IF, POST and NOP execute, waits and transfers end, GPIO edges and in-band interrupts are
latched, and a remote unit times out, each with the next state written here. (R263, R265, R268, R272, R278, R279,
R280, R281, R282, R283, R288.) -/
def Obligations.RetrieverComplete : Prop :=
  ∀ (s : State) (n : Nat), s.porst = false → n < 64 →
    (let o := rtp n
     let c := s.f (o + R.retScScons) 31 0
     ∀ l s0, s.subSt n = 0 → s.b (o + R.retScCtl) 0 = true → c ≠ s.f (o + R.retScSprod) 31 0 → s.subStalled n = false →
      s.b (o + R.pgErrLevel) 2 = false →
      s.memRead (s.f (o + R.retScSring) 47 8 * 256 + 16 * (c % 2 ^ s.f (o + R.retScSring) 4 0)) 16 = (.ok, l, s0) →
      ofLe (l.take 6) % 16 = 0 →
      s.memAwake = true → exec (.startEntryTake n) s = .next ((((s0.putF (o + R.retScScons) 31 0 ((c + 1) % 2 ^ 32)).setSub n 1).updSub n
        (fun x => { seq := x.seq, stash := x.stash, late := x.late, loops := x.loops, epoch := x.epoch + 1, user := BitVec.ofNat 64 (ofLe (l.drop 8)) })).putF
        (o + R.retScCcw) 47 0 (ofLe (l.take 6))).settle) ∧
    (∀ l s0, let w : BitVec 128 := BitVec.ofNat 128 (ofLe l)
      s.subSt n = 1 → (s.sub n).ccw = none → (s.sub n).op = none → s.subStalled n = false →
      s.memRead (s.ccwAddr n) 16 = (.ok, l, s0) → cSusp w = false → cmdOk (cCmd w) = true → flagsOk (cCmd w) w = true →
      s.memAwake = true → exec (.ccwFetch n) s = .next (s0.updSub n (fun y => { y with ccw := some w, busy := false, suspAt := none })).settle) ∧
    (∀ w, s.Reads n w →
      (cCmd w = 8 → cAddr w % 16 = 0 → dataAddrOk (cAddr w) = true → s.f (rtp n + R.retScCtl) 48 32 = 0 →
        s.memAwake = true → exec (.ccwJump n) s = .next ((s.putF (rtp n + R.retScCcw) 47 0 (cAddr w)).updSub n
          (fun x => { x with loops := (s.sub n).loops + 1, ccw := none, epoch := x.epoch + 1 })).settle) ∧
      (cCmd w = 9 → bit w 6 = false →
        let s1 := s.setTmo n false
        let s2 := if bit w 7 then s1.setLatch n (waitLatch w) false else s1
        (s2.latched n (waitLatch w) = true →
          s.memAwake = true → exec (.ccwWaitEvent n) s = .next ((s2.setLatch n (waitLatch w) false).subNext n w 0).settle) ∧
        (s2.latched n (waitLatch w) = false → s.memAwake = true → exec (.ccwWaitEvent n) s = .next ((s2.setSub n 2).updSub n (fun x => { x with
          till := if cCount w = 0 then none else some (s.now + BitVec.ofNat 64 (us * cCount w)) })).settle)) ∧
      (cCmd w = 10 → 2 ^ 31 ≤ cParam w →
        let t := s.now + BitVec.ofNat 64 (16 * (cParam w % 2 ^ 31))
        (t.toNat ≤ s.now.toNat → s.memAwake = true → exec (.ccwWaitTime n) s = .next ((s.setTmo n false).subNext n w 0).settle) ∧
        (s.now.toNat < t.toNat → s.memAwake = true → exec (.ccwWaitTime n) s =
          .next (((s.setTmo n false).setSub n 2).updSub n (fun x => { x with till := some t })).settle)) ∧
      (cCmd w = 11 → cCount w ≠ 0 → fld w 3 0 < 3 → cCont w = 1 →
        (skipHolds (fld w 3 0) (fld w 31 16) 0 (s.tmo n) = false →
          s.memAwake = true → exec (.ccwSkipIf n) s = .next (s.subNext n w 0).settle) ∧
        (skipHolds (fld w 3 0) (fld w 31 16) 0 (s.tmo n) = true → s.memAwake = true → exec (.ccwSkipIf n) s =
          .next (State.ccwSkipIf.markAt (s.putF (rtp n + R.retScCcw) 47 0 ((s.ccwAddr n + 16 * cCount w) % 2 ^ 48)) n w
            (s.ccwAddr n)).settle)) ∧
      (cCmd w = 12 → cCount w < 128 →
        let posted := s.retRecordOk n 2 (cParam w)
        s.memAwake = true → exec (.ccwPost n) s = .next ((if bit w 102 ∧ posted.1 then posted.2.react (.pulse (cCount w % 64)) else posted.2).subNext n w
          0).settle) ∧
      (cCmd w = 15 → s.memAwake = true → exec (.ccwNop n) s = .next (s.subNext n w 0).settle)) ∧
    (∀ w o b r, let x := s.sub n
      x.ccw = some w → x.op = some o → x.onBus = some b → x.busy = true → (s.busQ b).head? = some n →
      r.nack = false → bit o 0 = false → cCmd o ≠ 2 → x.after = false →
      exec (.busTransferComplete n r) s =
        .next ((s.updSub n (fun y => { y with frame := none })).unitEnd n w none (cCount w - x.want) []).settle) ∧
    (∀ w t, s.waiting n = some w → (s.sub n).till = some t → t.toNat ≤ s.now.toNat → bit w 6 = false →
      s.memAwake = true → exec (.waitEventTimeout n) s = .next ((s.setTmo n true).subNext n w 0).settle) ∧
    (∀ w t, s.subSt n = 2 → (s.sub n).ccw = some w → (s.sub n).till = some t → cCmd w = 10 → t.toNat ≤ s.now.toNat →
      s.memAwake = true → exec (.waitTimeExpire n) s = .next (s.subNext n w 0).settle) ∧
    (∀ pin rise, pin < 32 →
      let s1 := { s with ret := { s.ret with gin := setBit s.ret.gin pin rise } }
      let hit := (SMap.get 0 s.ret.garm pin).testBit (if rise then 0 else 1)
      (hit = false → exec (.gpioEdge pin rise) s = .next s1.settle) ∧
      (hit = true → s.ret.fifo.length < 256 → exec (.gpioEdge pin rise) s = .next
        (({ s1 with ret := { s1.ret with fifo := s.ret.fifo ++ [⟨s.now, pin, rise, s.ret.lost⟩], lost := false } } : State).retPulse
          (64 + pin)).settle)) ∧
    (∀ b addr mdb, b < 4 → exec (.i3cIbi b addr mdb) s =
      .next (({ s with ret := { s.ret with ibis := SMap.set {} s.ret.ibis b { addr := addr.toNat, seen := true, mdb := mdb } } } :
        State).retPulse (96 + b)).settle) ∧
    (∀ w dev rsub t, (s.sub n).remote = some (dev, rsub, t) → (s.sub n).ccw = some w → 100 * us ≤ dur t s.now →
      s.memAwake = true → exec (.remoteTimeout n) s = .next (s.unitEnd n w (some .timeout) (cCount w) []).settle)

/-! ## Kennel, Bark, semaphores, DMA -/

/-- Kennel items, threads and Bark interrupts complete. Each command of Kennel and Bark, under the conditions on their
state that it names, answers the next state written here. (R364, R365, R367, R369, R373, R374, R376, R379, R380, R384,
R385.) -/
def Obligations.KennelAndBarkComplete : Prop :=
  ∀ (s : State), s.porst = false →
    (∀ r, r < 256 →
      let c := s.f (kr r + 16) 31 0
      let a := s.ringBase (kenRing r) + 32 * (c % 2 ^ s.f (kr r) 4 0)
      ∀ bs u, let w (i : Nat) : Word := BitVec.ofNat 64 (ofLe ((bs.drop (8 * i)).take 8))
      s.kenIn r = true → s.b (kp + R.kenCtl) 0 = true → SMap.get 0 s.ken.full r = 0 → c ≠ s.f (kr r + 8) 31 0 →
      s.kenFree ≠ 0 → s.memRead a 32 = (.ok, bs, u) →
      (bit (w 0) 22 = true → 256 ≤ (s.kflow (fld (w 0) 35 24)).out →
        s.memAwake = true → exec (.itemFetch r) s = .next ((u.putB (kr r + 24) 8 true).updKen (fun k =>
          { k with full := SMap.set 0 k.full r (fld (w 0) 35 24 + 1) })).settle) ∧
      (bit (w 0) 22 = false → s.memAwake = true → exec (.itemFetch r) s =
        .next ((((((u.putB (kr r + 24) 8 false).putF (kr r + 16) 31 0 ((c + 1) % 2 ^ 32)).updKen (fun k =>
          { k with resv := SMap.set 0 k.resv r (SMap.get 0 k.resv r - 1), full := SMap.set 0 k.full r 0 })).kenAccept r false
          (w 0) (w 1) (w 2) (w 3)).kenPreempt).settle))) ∧
    (∀ i d, s.ken.items = [i] → i.st = .delayed d → (d.toNat + (us - 1)) / us * us ≤ s.now.toNat →
      s.memAwake = true → exec .delayExpire s = .next ((((s.updKen (fun k => { k with
        ready := k.ready ++ [i.id], items := replFirst (fun j => j.id == i.id) (fun j => { j with st := .ready }) k.items })).kenTraceItem
        9 0 i i.ring 0).kenPreempt).settle)) ∧
    (∀ c, c < 16 → s.b (kp + R.kenCtl) 0 = true →
      (∀ i, s.workIdle c = true → (List.range c).any s.workIdle = false → s.nextItem = some i →
        let s1 := s.updKen (fun k => { k with
          ready := k.ready.filter (fun j => j != i.id), order := k.order + 1,
          items := replFirst (fun j => j.id == i.id) (fun j => { j with st := .running c }) k.items })
        let s2 := s1.updKc c (fun _ => ({ st := 1, what := i.id, since := s.now, order := s.ken.order + 1 } : KCore))
        s.memAwake = true → exec (.dispatch c) s =
          .next (((s2.deliverMbox c [i.w0, i.w1, i.w2, i.w3]).kenTraceItem 3 c i i.ring 0).kenPreempt).settle) ∧
      (∀ t, s.workIdle c = false → s.thrIdle c = true → firstMin (fun t => (s.thr t).prio) (s.readyThreads c) = some t →
        let s1 := s.updKen (fun k => { k with thrRdy := k.thrRdy.filter (fun u => u != t), order := k.order + 1 })
        let s2 := (s1.updThr t (fun x => { x with st := .running c })).tcbWrite t 2 c 0
        let s3 := s2.updKc c (fun _ => { st := 2, what := t, since := s.now, order := s.ken.order + 1 })
        s.memAwake = true → exec (.dispatch c) s = .next (((s3.deliverMbox c [0xFFFE, BitVec.ofNat 64 t, (s.thr t).context, 0]).kenTrace 10 c 0
          (s.thr t).prio 0 0 t 0 (BitVec.ofNat 64 t)).kenPreempt).settle)) ∧
    (∀ t w, t < 256 → (s.thr t).st = .onTime w → (w.toNat + (us - 1)) / us * us ≤ s.now.toNat →
      s.memAwake = true → exec (.threadWakeTime t) s = .next ((s.thrReady t false).kenPreempt).settle) ∧
    (∀ c, c < 16 → (s.kc c).st = 2 → (s.kc c).preempt = false → (s.thr (s.kc c).what).slice ≠ 0 →
      us * (s.thr (s.kc c).what).slice ≤ dur (s.kc c).since s.now → s.b (kp + R.kenCtl) 1 = true →
      (s.readyThreads c).any (fun u => (s.thr u).prio == s.corePrio c) = true →
      s.memAwake = true → exec (.threadSliceExpire c) s = .next (s.preemptThread c (s.corePrio c)).settle) ∧
    (∀ n, n < 64 → exec (.eventLinePulse n) s = .next (((s.kenPulse n).bark (16 + n)).retPulse n |>.dmaPulse n).settle) ∧
    (∀ c src s1, c < 16 → s.mayInterrupt c = true → s.selectSource c (s.core c).ilvl = some src →
      (s.inc (shp c + R.shepCoreStat) 63 32).pushFrame c { vec := .interrupt, source := src } (s.core c).pc = some s1 →
      s.memAwake = true → exec (.interruptEntry c) s = .next (s1.commitSource c src).settle) ∧
    (∀ r ws rest s1, r < 64 → (s.sub r).stash = ws :: rest → s.ringPush (retRing r) ws = (true, s1) →
      s.memAwake = true → exec (.stashDrain (.retComp r)) s = .next ((s1.updSub r (fun y => { y with stash := rest ++ y.late.take 1, late := y.late.drop 1 })).pageInt (rtp r) 0).settle)

/-- Semaphore operations complete. TAKE, TRY, PEEK and GIVE through the windows, a plain store, a Leash expiry and a
reset notice answer the next state written here, the response included. (R399, R401, R402, R403, R404, R405, R406,
R409, R410.) -/
def Obligations.SemaphoresComplete : Prop :=
  ∀ (t : State) (r : SemReq) (u : Nat), t.porst = false →
    let a := semInner r.addr.toNat
    let q := (t.takeReq r.node r.txid).1
    let s := ((t.takeReq r.node r.txid).2.visit a .ok 8).checkMem a 8 false
    let w := s.rd64 a
    let waits : Waiter :=
      { unit := u, addr := a, who := .mesh r.node r.txid, origin := r.origin, prio := r.prio, boost := s.boostOf u a r.prio, req := q,
        gen := match q with | some q => q.gen | none => s.niGen r.node }
    let reply (v : List Byte) (x : State) : State := x.answer (unitNode u) q r.node r.txid .ok v
    (unitOf a = some u → a % 8 = 0 → r.bytes = 8 → (t.takeReq r.node r.txid).2.engineStatus a 8 false = .ok → t.isolated (unitNode u) = false →
      q ≠ none ∨ t.asleep a = none →
      (region r.addr.toNat = .sem 0 → r.write = false →
        (s.semFree u a = true → exec (.semTake r) t = .next (reply
          (leBytes 8 (semValue w (semCount w - 1) true false).toNat) (s.semTakeNow u a r.origin).2).settle) ∧
        (s.semFree u a = false → (s.waitersOf u).length < waitCap u → exec (.semTake r) t =
          .next ({ s with waiters := s.waiters ++ [waits] } : State).settle)) ∧
      (region r.addr.toNat = .sem 2 → r.write = false →
        (s.semFree u a = true → exec (.semTry r) t = .next (reply
          (leBytes 8 (semValue w (semCount w - 1) true false).toNat) (s.semTakeNow u a r.origin).2).settle) ∧
        (semCount w = 0 → exec (.semTry r) t =
          .next (reply (leBytes 8 (semValue w 0 false false).toNat) s).settle)) ∧
      (region r.addr.toNat = .sem 3 → r.write = false → exec (.semPeek r) t =
        .next (reply (leBytes 8 (semValue w (semCount w) false false).toNat) s).settle) ∧
      (region r.addr.toNat = .sem 1 → r.write = true →
        (∀ h l, takeFirst (fun h => h.liveOn u a && h.origin == r.origin && !h.old) s.holds = some (h, l) →
          exec (.semGive r) t = .next (reply [] ((({ s with holds := l } : State).semRaise a false).semGrant u)).settle) ∧
        (s.holds = [] → semMutex w = false → semCount w ≠ 2 ^ 32 - 1 → exec (.semGive r) t =
          .next (reply [] ((s.semRaise a false).semGrant u)).settle))) ∧
    (∀ v, unitOf a = some u → t.isolated (unitNode u) = false → q = none → t.asleep a = some v → region r.addr.toNat = .sem 0 →
      exec (.semTake r) t = .next (t.holdFor v r.node 1 8 (.req ⟨r.node, r.txid, r.origin, r.addr, 255, 0, ⟨[], false⟩⟩ 8)).settle) ∧
    (∀ p : MemReq, let b := p.addr.toNat
      let n := if p.be = 0xFF then 8 else 1
      unitOf b = some u → t.engineStatus b n true = .ok → (t.takeReq p.node p.txid).1 ≠ none ∨ t.asleep b = none →
      exec (.semPlainStore p) t = .next (((((((t.takeReq p.node p.txid).2.visit b .ok 8).checkMem b n true)).wrBytes b
        ((List.range 8).map (fun i => if p.be.getLsbD i then BitVec.ofNat 8 (fld p.data (8 * i + 7) (8 * i)) else
          t.byte (b + i)))).semGrant u).respond (unitNode u) (t.takeReq p.node p.txid).1 p .ok []).settle) ∧
    (∀ h, u < 5 → (t.holdsOf u).filter (fun h => !h.expired && decide (h.till.toNat ≤ t.now.toNat)) = [h] →
      let hs := replFirst (fun x => x == h) (fun x => { x with expired := true }) t.holds
      exec (.leashExpiry u) t = .next ((((({ t with holds := hs } : State).semRaise h.addr true).semGrant u).inc
        (pageAt .hbmc u + R.hbmcSemEvt) 15 0).fault (pageAt .hbmc u) .timeout).settle) ∧
    (∀ o, t.notices.contains o = true → exec (.resetNotice o) t =
      .next ((List.range 5).foldl (fun s u => s.semFreeAll u (fun x old => x == o && old)) ({ t with notices := t.notices.erase o } : State)).settle)

/-- DMA descriptors are read, begin, move and complete. A channel reads its next descriptor once and holds it until it
may begin, COPY, FILL and PROOF of a legal descriptor do their work, and a finished descriptor is written back, with
its event, each with the next state written here. (R394, R413, R414, R415, R416, R417.) -/
def Obligations.DmaComplete : Prop :=
  ∀ (s : State) (ch : Nat), s.porst = false → ch < 32 →
    (∀ a bs t, (s.dmaCh ch).held = none → s.dmaNext ch = some a → s.memRead a 32 = (.ok, bs, t) → bit (t.rd64 a) 2 = true →
      let c := s.f (dp ch + R.dmaCons) 31 0
      let d : DmaDesc := { idx := c, w0 := t.rd64 a, src := fld (t.rd64 (a + 8)) 47 0, dst := fld (t.rd64 (a + 16)) 47 0,
                           cst := t.rd64 (a + 24), fin := none }
      s.memAwake = true → exec (.dmaDescriptorBegin ch) s = .next (((t.putF (dp ch + R.dmaCons) 31 0 ((c + 1) % 2 ^ 32)).updDma ch
        (fun x => { x with held := some d })).dmaGo ch).settle) ∧
    (∀ d, (s.dmaCh ch).held = some d →
      ((bit d.w0 3 && !(s.dmaCh ch).begun.isEmpty) = true ∨ (s.dmaCh ch).waitsFor d.w0 = true →
        exec (.dmaDescriptorBegin ch) s = .next s.settle) ∧
      ((bit d.w0 3 && !(s.dmaCh ch).begun.isEmpty) = false → (s.dmaCh ch).waitsFor d.w0 = false →
        exec (.dmaDescriptorBegin ch) s = .next (s.updDma ch (fun x => { x with
          held := none, begun := x.begun ++ [d],
          latches := if bit d.w0 11 then setBit x.latches (fld d.w0 17 12) false else x.latches })).settle)) ∧
    (∀ d, (s.dmaCh ch).begun.find? (fun d => d.fin.isNone) = some d → d.len ≠ 0 →
      let fin (f : Nat × Option Nat) (t : State) : State := t.updDma ch (fun x => { x with
        begun := replFirst (fun e => e == d) (fun e => { e with fin := some f }) x.begun })
      (fld d.w0 1 0 = 0 → dmaRegion d.src d.len = true → dmaRegion d.dst d.len = true → overlap d.src d.dst d.len = false →
        ∀ t, s.dmaMove d.src d.dst d.len (d.len / 64 + 2) = (.ok, t) → s.memAwake = true → exec (.dmaCopy ch) s = .next (fin (0, none) t).settle) ∧
      (fld d.w0 1 0 = 1 → d.dst % 8 = 0 → d.len % 8 = 0 → dmaRegion d.dst d.len = true →
        ∀ t, s.dmaFillMem d.dst d.len d.cst (d.len / 64 + 2) = (.ok, t) → s.memAwake = true → exec (.dmaFill ch) s = .next (fin (0, none) t).settle) ∧
      (fld d.w0 1 0 = 2 → dmaRegion d.src d.len = true → dmaRegion d.dst d.len = true →
        ∀ m t, s.dmaCmp d.src d.dst d.len 0 (d.len / 32 + 4) = (.ok, m, t) →
        s.memAwake = true → exec (.dmaProof ch) s = .next (fin (0, m) t).settle)) ∧
    (∀ d r, (s.dmaCh ch).begun = d :: r → d.fin = some (0, none) → fld d.w0 1 0 ≠ 2 →
      let done := ((s.updDma ch (fun x => { x with begun := r })).memWrite
        ((s.updDma ch (fun x => { x with begun := r })).ringBase (dmaRing ch) + 32 * (d.idx % 2 ^ s.f (dp ch + R.dmaRing) 4 0))
        (leBytes 8 (setFld (setFld (setFld (setFld (setFld d.w0 31 18 0) 2 2 0) 20 20 0) 21 21 0) 24 22 0).toNat)).2
      s.memAwake = true → exec (.dmaComplete ch) s = .next (if bit d.w0 4 then done.react (.pulse (fld d.w0 10 5)) else done).settle)

/-! ## Memory, mesh, HBM, power, time -/

/-- Mesh reads, writes and CAS at memory complete. Each request that reaches HBM or the Shepherd store answers the
next state in which the bytes are written or the response carries the bytes read; one that lies in a semaphore window
is an access of that window. (R311, R399, R400, R423, R430, R431, R442.) -/
def Obligations.MemoryComplete : Prop :=
  ∀ (s : State) (r : MemReq) (q : Option InReq) (s0 : State) (u : Nat), s.porst = false → s.takeInbox r = (q, s0) →
    let ad := r.addr.toNat
    let served (a n : Nat) : Prop := s.reqTarget a n = (unitNode u, none) ∧ (q ≠ none ∨ s.asleep a = none)
    (region ad = .hbm ∨ region ad = .shep →
      (∀ e s1, served (ad / 8 * 8) 8 → (s0.visit (ad / 8 * 8) .ok).unitRead (ad / 8 * 8) 8 e = (true, s1) →
        (exec (.memRead8 r e) s = .next (s1.respond (unitNode u) q r .ok (s1.bytes (ad / 8 * 8) 8)).settle) ∧
        (region (ad / 8 * 8) ≠ .shep ∨ r.be ≠ 255 → exec (.memWrite8 r e) s = .next ((((s1.wrBytes (ad / 8 * 8) ((List.range 8).map (fun i => if r.be.getLsbD i then
          BitVec.ofNat 8 (fld r.data (8 * i + 7) (8 * i)) else s1.byte (ad / 8 * 8 + i)))).stored (ad / 8 * 8) 8).respond
          (unitNode u) q r .ok [])).settle)) ∧
      (∀ e, region (ad / 8 * 8) = .shep → r.be = 255 → served (ad / 8 * 8) 8 → exec (.memWrite8 r e) s =
        .next (((((s0.visit (ad / 8 * 8) .ok).wrBytes (ad / 8 * 8) ((List.range 8).map (fun i =>
          BitVec.ofNat 8 (fld r.data (8 * i + 7) (8 * i))))).stored (ad / 8 * 8) 8).respond (unitNode u) q r .ok [])).settle) ∧
      (∀ e s1, served (ad / 64 * 64) 64 → (s0.visit (ad / 64 * 64) .ok).unitRead (ad / 64 * 64) 64 e = (true, s1) →
        exec (.memRead64 r e) s = .next (s1.respond (unitNode u) q r .ok (s1.bytes (ad / 64 * 64) 64)).settle) ∧
    (∀ line, served (ad / 64 * 64) 64 → exec (.memWrite64 r line) s =
      .next (((s0.visit (ad / 64 * 64) .ok).lineWrite (ad / 64 * 64) line).respond (unitNode u) q r .ok []).settle) ∧
    (∀ new v s1, unitOf (ad / 8 * 8) = some u → served (ad / 8 * 8) 8 →
      (s0.visit (ad / 8 * 8) .ok).unitRead (ad / 8 * 8) 8 r.err = (true, s1) →
      v = s1.rd (ad / 8 * 8) 8 →
      (v = fld r.data 63 0 → exec (.memCas r new true) s = .next (((s1.wr (ad / 8 * 8) 8 (fld new 63 0)).stored (ad / 8 * 8) 8).respond
        (unitNode u) q r .ok (leBytes 8 v)).settle) ∧
      (v ≠ fld r.data 63 0 → exec (.memCas r new true) s = .next (s1.respond (unitNode u) q r .ok (leBytes 8 v)).settle)) ∧
    (∀ e v, s.reqTarget (ad / 8 * 8) 8 = (unitNode u, none) → q = none → s.asleep (ad / 8 * 8) = some v →
      exec (.memRead8 r e) s = .next (s.holdFor v r.node 1 1 (.req r 1)).settle) ∧
    (∀ line, s.reqTarget (ad / 64 * 64) 64 = (unitNode u, none) → s.asleep (ad / 64 * 64) = none → exec (.postedWrite r (some line)) s =
      .next ((s.visit (ad / 64 * 64) .ok).lineWrite (ad / 64 * 64) line).settle)) ∧
    (∀ k, region ad = .sem k →
      (∀ e, exec (.memRead8 r e) s = .next (s.windowReq r k 8 false).settle ∧
        exec (.memRead64 r e) s = .next (s.windowReq r k 64 false).settle) ∧
      (∀ e, exec (.memWrite8 r e) s = .next (s.windowReq r k (if r.be = 255 then 8 else 4) true).settle) ∧
      (∀ line, exec (.memWrite64 r line) s = .next (s.windowReq r k 64 true).settle) ∧
      (∀ new d, exec (.memCas r new d) s = .next (s.windowReq r k 0 true).settle))

/-- Flits, responses and memory controllers complete. Each command of the mesh and of the HBM controllers, under the
conditions that it names, answers the next state written here. (R432, R433, R434, R439, R441, R443, R445, R446, R448,
R576.) -/
def Obligations.MeshComplete : Prop :=
  ∀ (s : State), s.porst = false →
    (∀ o st d, o.node < 160 → s.outst.find? (fun p => p.node == o.node && p.txid == o.txid) = some o →
      (exec (.meshResponse o.node o.txid st d) s = .next (s.complete o st d).settle) ∧
      (s.wakeSince = none → 160000 ≤ dur o.since s.now → exec (.niRequestTimeout o.node o.txid) s =
        .next ((s.complete o .isolated []).inc (pageAt .noc o.node + R.nocNiEvt) 15 0).settle)) ∧
    (∀ node port vn f l m, node < 160 → port < 5 → vn < 5 → s.buf (bufKey node port vn) = f :: l →
      s.outFree node f.outPort vn f.flits = true → s.vnTurn node f.outPort vn = true →
      let s0 := ((s.setBuf (bufKey node port vn) l).served node f.outPort vn).probes node port 0 f
      let en := s0.f (pageAt .noc node + R.nocRtrCtl) 4 0
      let g := { f with route := routeHop f.route }
      let j := bufKey m (f.outPort ^^^ 1) vn
      f.outPort ≠ 4 → en.testBit port = true → en.testBit f.outPort = true → hopNode node f.outPort = some m →
      s0.f (pageAt .noc node + R.nocRtrCtl) 4 0 = s.f (pageAt .noc node + R.nocRtrCtl) 4 0 →
      let s1 := (s0.probes node f.outPort 1 g).setBuf j ((s0.probes node f.outPort 1 g).buf j ++ [g])
      exec (.routerForward node port vn) s = .next (s1.niRelease s1.heldCount).settle) ∧
    (let o := pageAt .noc 0 + R.nocFence
     let s1 := (s.putB o 2 false).putB o 3 true
     s.fencing = true → s.oldFlits = 0 → s.oldReqs = 0 →
      exec .routeFenceDone s = .next (s1.niRelease s1.heldCount).settle) ∧
    (∀ u line e, u < 4 → s.b (hbp u + R.hbmcCtl) 0 = true → line < 377487360 + 262144 →
      let raw := if line < 377487360 then line else 0x5FA000000 / 64 + (line - 377487360)
      (∀ a, s.rawDevice u raw = some a → exec (.hbmScrub u line e) s = .next (s.lineRead a e).2.settle) ∧
      (s.rawDevice u raw = none → exec (.hbmScrub u line e) s = .next (s.rawRead u raw none e).2.settle)) ∧
    (∀ a, s.f (hbp 4 + R.pgErrInj) 47 32 = 0 →
      (exec (.sramScrub a .clean) s = .next s.settle) ∧
      exec (.sramScrub a .corrected) s = .next ((s.inc (hbp 4 + R.hbmcEccCnt) 15 0).fault (hbp 4) .correctable false).settle) ∧
    (∀ u p k e s1, u < 4 → (s.hb u).copy = some (p, k) → k ≠ 63 →
      s.lineRead (hbmDevice u (4096 * p + 64 * k)) e = (true, s1) → exec (.retireCopyLine u e) s =
        .next (s1.updHb u (fun h => { h with copy := some (p, k + 1) })).settle) ∧
    (∀ u p t, u < 4 → (s.hb u).tracker.find? (fun t => t.1 == p) = some t →
      us * 1000 * s.f (hbp u + R.hbmcRetCtl) 31 16 ≤ dur t.2.2 s.now → exec (.trackerAgeExpire u p) s =
        .next (s.updHb u (fun h => { h with tracker := h.tracker.filter (fun t => t.1 != p) })).settle) ∧
    (∀ u, u < 4 → exec (.hbmOvertemp u) s = .next (s.fault (hbp u) .timeout).settle)

/-- Power domains, the governor, time and gauges complete. Each command of the power controller, of pack time and of
the gauges, under the conditions that it names, answers the next state written here; a step of an engine whose access
meets an HBM controller without power, or the host's link in L1, changes nothing but that it asks for the wake or the
exit. (R450, R461, R462, R463, R465, R466,
R468, R470, R472, R474, R476, R572.) -/
def Obligations.PowerAndTimeComplete : Prop :=
  ∀ (s : State), s.porst = false →
    (∀ d, d < 176 → s.domState d = 3 →
      (d < 128 → (s.b (tp d + R.tileFence) 0 = true ∨ (s.tile d).atRest = true) ∧
        s.outst.any (fun o => o.node == tileNode d) = false) →
      (128 ≤ d → d < 152 → (s.hub (d - 128)).flight = [] ∧ ∀ i, i < 4 → (s.port (4 * (d - 128) + i)).fails = []) →
      (152 ≤ d → d < 168 → s.domCond d (s.f (domAt d) 1 0) = true) → (168 ≤ d → d < 172 → s.hbQuiet (d - 168) = true) →
      exec (.domainDrainDone d) s = .next (s.domPut d 4 (s.domOrigin d)).settle) ∧
    (∀ d, let s1 := ({ s with wakeAsk := s.wakeAsk.filter (fun e => e != d) } : State).domPut d 1 (s.domOrigin d)
      d < 168 → s.domState d = 4 → s.f (domAt d) 1 0 = 1 →
      (s.wakeAsk.contains d = true ∨ s1.domCalled d = true →
        exec (.domainPowerOffDone d) s = .next (s1.domWakeStart d pwrAgent).settle) ∧
      (s.wakeAsk.contains d = false → s1.domCalled d = false →
        exec (.domainPowerOffDone d) s = .next (s1.domApplyHeld d).settle)) ∧
    (∀ d, let s1 := s.domPut d 0 (s.domOrigin d)
      d < 128 → s.domState d = 5 →
      exec (.domainWakeDone d) s = .next ((if s1.governed d then s1.floorTile d else s1).react (.woken d)).settle) ∧
    (∀ i : GovIn, let s1 := (({ s with govAt := s.now } : State).thermal i.temps).putF (pwp + R.pwrCapStat) 47 32 i.watts
      let lim := s1.f (pwp + R.pwrCap) 8 0
      let warm (t : Nat) : Bool :=
        i.temps.any (fun e => e.1 == tileNode t && decide ((8 * s1.f (pwp + R.pwrTherm) 7 0 : Int) ≤ e.2))
      let s2 := s1.govTiles.foldl (fun s t => s.floorTile t) s1
      let rest (b : Bool) (u : State) : State := (s2.govRest u s2.govTiles).foldl (fun s t => s.govTile t (warm t) b) u
      (dur s.govAt s.now < 10 * us → exec (.governorInterval i) s = .next s.settle) ∧
      (10 * us ≤ dur s.govAt s.now → s1.b (pwp + R.pwrCtl) 0 = false →
        exec (.governorInterval i) s = .next (s1.putB (pwp + R.pwrCapStat) 24 false).settle) ∧
      (10 * us ≤ dur s.govAt s.now → s1.b (pwp + R.pwrCtl) 0 = true → s1.b (pwp + R.pwrCtl) 1 = true → lim < i.watts →
        s1.govTiles.all (fun t => decide (s1.vnow t ≤ s1.f (pwp + R.pwrVlim) 9 0)) = false →
        exec (.governorInterval i) s = .next (((rest true (s2.inc (pwp + R.pwrCapStat) 63 48).capLower).putB
          (pwp + R.pwrCapStat) 24 true).putB (pwp + R.pwrCapStat) 25 false).settle) ∧
      (10 * us ≤ dur s.govAt s.now → s1.b (pwp + R.pwrCtl) 0 = true → s1.b (pwp + R.pwrCtl) 1 = false ∨ i.watts ≤ lim →
        exec (.governorInterval i) s =
          .next (((rest false (if i.watts + 10 < lim ∨ s1.b (pwp + R.pwrCtl) 1 = false then s2.capRestore else s2)).putB
            (pwp + R.pwrCapStat) 24 false).putB (pwp + R.pwrCapStat) 25 false).settle)) ∧
    (s.b (tmp + R.timeCtl) 2 = true → let s1 := s.putB (tmp + R.timeCtl) 2 false
      let t := s.reg (tmp + R.timeLoad)
      (s.now.toNat ≤ t.toNat → exec .packSyncEdge s =
        .next ((({ s1 with now := t } : State).inc (tmp + R.timeStat) 47 32).pageInt tmp 1).settle) ∧
      (t.toNat < s.now.toNat → exec .packSyncEdge s = .next ((s1.inc (tmp + R.timeStat) 63 48).fault tmp .config).settle)) ∧
    (s.timeRole = 1 → s.b (tmp + R.timeStat) 2 = false → exec .refLoss s =
      .next (((s.putF (tmp + R.timeStat) 2 0 4).pageInt tmp 0).fault tmp .timeout).settle) ∧
    (s.timeRole = 1 → s.b (tmp + R.timeStat) 0 = true → exec .timeLock s = .next (s.putB (tmp + R.timeStat) 1 true).settle) ∧
    (s.timeRole = 1 → s.b (tmp + R.timeStat) 0 = false → exec .referenceReturn s =
      .next (s.putF (tmp + R.timeStat) 2 0 1).settle) ∧
    (∀ (g n : Nat) (w : Word), g < 256 → let c := s.f (gaugeAt g) 15 0
      gaugePeriod c = some n →
      (dur (s.gauge g).last s.now < n → exec (.gaugeSample g w) s = .next s.settle) ∧
      (n ≤ dur (s.gauge g).last s.now →
        let v := min ((s.gaugeValue g c).getD w.toNat) 0xFFFFFFFF
        let b := gaugeBin v (s.f (gaugeAt g) 20 16)
        exec (.gaugeSample g w) s = .next ((s.updGauge g (fun x => { x with
          n := satAdd 48 x.n 1, lo := min x.lo v, hi := max x.hi v,
          bins := SMap.set 0 x.bins b (satAdd 32 (SMap.get 0 x.bins b) 1) })).updGauge g (fun x => { x with
          base := SMap.get 0 s.tally c, last := x.last + BitVec.ofNat 64 n })).settle)) ∧
    (exec .railExcursion s = .next ((s.fault pwp .timeout).direct pwp 3 3).settle) ∧
    (∀ n ch r c, n < 64 → ch < 32 → r < 256 → c < 16 →
      ∀ i k, (i, k) ∈ [(Instr.startEntryTake n, fun s => s.startTake n), (.ccwFetch n, fun s => s.ccwFetch n),
          (.ccwPost n, fun s => s.ccwPost n), (.ccwWrite n, fun s => s.ccwUnit n (fun c _ => c == 1)),
          (.itemFetch r, fun s => s.itemFetch r), (.dispatch c, fun s => s.dispatchTo c),
          (.interruptEntry c, fun s => s.interruptEntry c), (.dmaDescriptorBegin ch, fun s => s.dmaBegin ch),
          (.dmaComplete ch, fun s => s.dmaComplete ch), (.qmRecordPost, State.qmDrain), (.ledgerDrain, State.ledgerDrain)] →
        (s.slept (k s) = [] → s.l1Waits (k s) = false → exec i s = .next (k s).settle) ∧
        (s.slept (k s) = [] → s.l1Waits (k s) = true → exec i s = .next s.wakeLink.settle) ∧
        (∀ u, u ∈ s.slept (k s) → ∃ t : State, exec i s = .next t.settle ∧ Reaction.domWake (168 + u) ∈ t.reactions ∧ t.mem = s.mem ∧
          t.regs = s.regs ∧ t.ret = s.ret ∧ t.ken = s.ken ∧ t.dma = s.dma ∧ t.cores = s.cores ∧ t.ledger = s.ledger))

/-! ## Bamior links, the pack, the brace -/

/-- Messages of Bamior links complete. A message that arrives in LSEQ order is acknowledged and acts, under the
conditions that it names, with the next state written here. (R481, R482, R505, R506, R507, R509, R511.) -/
def Obligations.PackComplete : Prop :=
  ∀ (s : State) (l : Nat) (q : BitVec 16), s.porst = false → l < 98 → s.linkIsUp l = true →
    let s1 := s.updLink l (fun b => { b with recvSeq := b.recvSeq + 1, naked := false })
    (∀ f : BSyncF, s.parentLink ≠ l →
      let s2 := (s.updPort l (fun x => { x with lastSync := s.now })).updLink l (fun b => { b.ackTo (f.ack + 1) with
        tcredit := f.tcredit, peerTx := f.txTime, peerRx := f.rxTime })
      exec (.bsync l f) s = .next (s2.linkPump l (s2.link l).waitq.length).settle) ∧
    (∀ e, let s2 := (if (s.link l).naked then s.nakOut l else s).updLink l (fun b => b.ackTo e)
      exec (.nak l e) s = .next (((s2.link l).unacked.foldl (fun s e => s.sendMsg l e.1 e.2) s2).linkPump l
        (s2.link l).waitq.length).settle) ∧
    (q = (s.link l).recvSeq →
      (∀ t hops p, let s2 := s1.updLink l (fun b => { b with taken := b.taken + 1 })
        (dDev t.dest = s2.deviceId → exec (.token l q t hops) s =
          .next (s2.sendFrom (if l < 96 then pageNode .hub (l / 4) else pageNode .brc 0) t).settle) ∧
        (dDev t.dest ≠ s2.deviceId → hops ≠ 0 → s2.packPort (dDev t.dest) = some p →
          exec (.token l q t hops) s = .next (s2.linkSend p (.token t (hops - 1))).settle)) ∧
      (∀ b epoch, b < 16 → newer s1.leadEpoch epoch.toNat = false → exec (.arrive l q b epoch) s =
        .next ((s1.updBar b (fun x => { x with kids := if x.kids.contains l then x.kids else x.kids ++ [l] })).barTry b).settle) ∧
      (∀ b epoch (t : Word), b < 16 → newer s1.leadEpoch epoch.toNat = false → s1.now.toNat ≤ t.toNat →
        exec (.release l q b epoch t) s = .next ((s1.toKids (.release b epoch t)).updBar b
          (fun x => { x with till := some t, kids := [] })).settle) ∧
      (∀ off id data err t, s1.cfgApply off.toNat data = (err, t) →
        let s2 := t.toKids (.cfg (BitVec.ofNat 24 off.toNat) id data)
        exec (.cfg l q off id data) s = .next ({ s2 with pack := { s2.pack with
          bcOn := true, bcKids := s2.children, bcUp := some (l, id), bcErr := err } } : State).bcTry.settle) ∧
      (∀ id err, s1.pack.bcOn = true → s1.pack.bcUp = none → id = s1.pack.bcId - 1 → s1.pack.bcKids.contains l = true →
        exec (.cfgAck l q id err) s = .next ({ s1 with pack := { s1.pack with
          bcKids := s1.pack.bcKids.erase l, bcErr := s1.pack.bcErr || err } } : State).bcTry.settle) ∧
      (∀ src dst hops item p,
        (dst = s1.deviceId → exec (.msg l q src dst hops item) s = .next (s1.msgTake l src item).settle) ∧
        (dst ≠ s1.deviceId → hops ≠ 0 → s1.packPort dst = some p →
          exec (.msg l q src dst hops item) s = .next (s1.linkSend p (.msg src dst (hops - 1) item)).settle)) ∧
      (∀ src dst hops r, src = s1.deviceId → s1.b (kpk + R.packMsgCtl) 17 = true →
        exec (.msgAck l q src dst hops r) s =
          .next ((s1.putB (kpk + R.packMsgCtl) 17 false).putB (kpk + R.packMsgCtl) 18 r).settle) ∧
      (∀ src dst hops sub entry p ok t, dst = s1.deviceId → s1.remoteStart (sub % 64) entry = (ok, t) → t.packPort src = some p →
        exec (.rstart l q src dst hops sub entry) s = .next (t.linkSend p (.rstartAck src dst 15 sub (!ok))).settle) ∧
      (∀ src dst hops sub r, src = s1.deviceId →
        exec (.rstartAck l q src dst hops sub r) s = .next (s1.remoteAck dst sub r).settle) ∧
      (∀ id epoch, newer s1.leadEpoch epoch.toNat = false → newer epoch.toNat s1.leadEpoch = false →
        exec (.leadhb l q id epoch) s = .next (((({ s1 with pack := { s1.pack with leadAt := s1.now, miss := 0 } } : State).putF
          (kpk + R.packLead) 9 0 id.toNat).putF (kpk + R.packLead) 31 16 epoch.toNat).toKids (.leadhb id epoch)).settle))

/-- The pack's timers complete. Each timer of the pack and each LINKID exchange, under the conditions that it names,
answers the next state written here. (R504, R508, R510.) -/
def Obligations.PackTimersComplete : Prop :=
  ∀ (s : State), s.porst = false →
    (10 * us ≤ dur s.pack.leadAt s.now →
      let s1 := { s with pack := { s.pack with leadAt := s.now } }
      (s1.isLead = true → exec .leadhbInterval s = .next ((s1.putF (kpk + R.packLead) 9 0 s.deviceId).toKids
        (.leadhb (BitVec.ofNat 10 s.deviceId) (BitVec.ofNat 16 s.leadEpoch))).settle) ∧
      (s1.isLead = false → exec .leadhbInterval s =
        .next (({ s1 with pack := { s1.pack with miss := if s.b (kpk + R.packCtl) 36 then s.pack.miss + 1 else 0 } } : State).inc (kpk + R.packLead) 47 32).settle)) ∧
    (let c := s.reg (kpk + R.packCtl)
     let e := (s.leadEpoch + 1) % 65536
     let s1 := ((s.putF (kpk + R.packLead) 31 16 e).putF (kpk + R.packLead) 9 0 s.deviceId).putF (tmp + R.timeCtl) 1 0 1
     let s2 := { (s1.putF (kpk + R.packCtl) 11 10 1) with pack := { s1.pack with leadAt := s.now, miss := 0, alt := true } }
     bit c 36 = true → fld c 35 26 = s.deviceId → s.isLead = false → 3 ≤ s.pack.miss → exec .deputyTakeover s =
      .next ((s2.toKids (.leadhb (BitVec.ofNat 10 s.deviceId) (BitVec.ofNat 16 e))).barAgain).settle) ∧
    (∀ p serial (dev : BitVec 10), p < 96 → s.bamior p = true → (s.port p).phase = 4 → s.lnk p ≠ 4 →
      (dev.toNat = s.deviceId → exec (.bamiorLinkid p serial dev) s = .next (s.fault (pp p) .config).settle) ∧
      (dev.toNat ≠ s.deviceId → exec (.bamiorLinkid p serial dev) s =
        .next (((s.setReg (pp p + R.portLnkPeer) serial).updPort p (fun x => { x with idSeen := true })).tryUp p).settle)) ∧
    (∀ b t, b < 16 → (s.bar b).till = some t → t.toNat ≤ s.now.toNat →
      exec (.barrierReleaseTime b) s = .next (s.barRelease b).settle)

/-- Messages and links of the brace complete. Each message and timer of the brace, and each block time of a trained
brace link, under the conditions that it names, answers the next state written here; a brace link is UP once its
LINKID has come and 1,639 pack ticks have passed without an uncorrectable codeword (log entry 62). (R484, R486, R488,
R490, R491, R493, R495, R497, R498, R500, R501, R502.) -/
def Obligations.BraceComplete : Prop :=
  ∀ (s : State), s.porst = false →
    (∀ l q, 96 ≤ l → l < 98 → s.linkIsUp l = true → q = (s.link l).recvSeq →
      let s1 := s.updLink l (fun b => { b with recvSeq := b.recvSeq + 1, naked := false })
      (∀ f : HbF, f.level ≠ 3 → f.role ≠ 0 → s1.brcRole = 1 → newer f.gen.toNat s1.brcGen = false → exec (.hb l q f) s =
        .next (({ s1 with brace := { s1.brace with
          twinRole := f.role, twinGen := f.gen, twinRun := f.role == 1 || f.role == 3 || f.role == 6, hbSeen := true, misses := 0, hbAfter := true } } : State).putB (bp + R.brcStat)
          6 true).settle) ∧
      (∀ f : ReplayF, f.offset.toNat = bp + R.brcCmd → fld f.new 2 0 = 3 → s1.brcRole = 2 →
        exec (.replay l q f) s = .next ((s1.setRole 0).putB (bp + R.brcCtl) 0 false).settle) ∧
      (∀ f : ReplayF, f.offset.toNat ≠ bp + R.brcCmd ∨ fld f.new 2 0 ≠ 3 → s1.brcRole = 2 → orgClass f.origin = 0 → replays f.offset.toNat = true →
        exec (.replay l q f) s = .next (s1.controlWrite f.offset.toNat ⟨0x5000, .d64, f.new⟩).2.settle) ∧
      (∀ addr be line, let a := addr.toNat / 64 * 64
        let w := ((s1.wrEnabled a be (line.take 64) 0).stored a 64).visit a .ok
        s1.brcRole = 2 → region a = .hbm → (be ≠ BitVec.allOnes 64 → s1.lineBad a = false) →
        exec (.mirror l q addr be line) s = .next (if be = BitVec.allOnes 64 then w.clearLines a 64 else w).settle) ∧
      (∀ f : UnitResF, (s1.sub f.subch).ccw = none → exec (.unitres l q f) s =
        .next ({ s1 with ret := { s1.ret with results := s1.ret.results ++ [f] } } : State).settle) ∧
      (∀ f w, (s1.sub f.subch).ccw = some w → (s1.sub f.subch).unitWait = true → (s1.sub f.subch).opnum = f.opnum.toNat →
        exec (.unitres l q f) s = .next (({ s1 with ret := { s1.ret with results := s1.ret.results ++ [f] } } : State).takeResult
          f.subch w f).settle) ∧
      (∀ f : DigestF, let s2 := { s1 with brace := { s1.brace with theirs := s1.brace.theirs ++ [(f, 0)] } }
        exec (.digest l q f) s = .next (s2.matchSeals s2.brace.own.length).settle) ∧
      (s1.brcRole = 2 → exec (.fence l q) s = .next s1.takeover.settle ∧ ∀ g, exec (.swap l q g) s = .next s1.takeover.settle) ∧
      (s1.brcRole = 1 → exec (.fence l q) s =
        .next ({ (s1.setRole 3) with brace := { s1.brace with swapping := false } } : State).settle) ∧
      (s1.brcRole = 4 → exec (.syncDone l q) s = .next (s1.setRole 2).settle)) ∧
    (s.brcRole ≠ 0 → us * s.f (bp + R.brcEpoch) 10 8 ≤ dur s.brace.hbEnd s.now → s.brace.hbSeen = true →
      let s1 := ({ s with brace := { s.brace with hbEnd := s.now, hbSeen := false, misses := 0 } } : State).putB (bp + R.brcStat) 6 true
      exec .hbInterval s = .next (s1.bothLinks s1.hbOut).settle) ∧
    (s.brcRole ≠ 0 → us * s.f (bp + R.brcEpoch) 10 8 ≤ dur s.brace.hbEnd s.now → s.brace.hbSeen = false →
      let s1 := (({ s with brace := { s.brace with hbEnd := s.now, hbSeen := false, misses := s.brace.misses + 1 } } : State).inc
        (bp + R.brcEvt) 15 0).putB (bp + R.brcStat) 6 false
      exec .hbInterval s = .next (s1.bothLinks s1.hbOut).settle) ∧
    (3 ≤ s.brace.misses → s.brcRole = 2 → s.b (bp + R.brcCtl) 2 = true → exec .hbLoss s = .next s.takeover.settle) ∧
    (3 ≤ s.brace.misses → s.brcRole = 1 → exec .hbLoss s =
      .next ({ (s.setRole 3) with brace := { s.brace with swapping := false } } : State).settle) ∧
    (let iv := us * s.f (bp + R.brcEpoch) 5 0
     let m := s.f (bp + R.brcCtl) 11 8
     let aged : List (DigestF × Nat) := s.brace.theirs.map (fun e => (e.1, e.2 + 1))
     s.brace.epochEnd.toNat / iv < s.now.toNat / iv →
      (s.brace.own = [] → s.brcRole = 3 → (∀ e ∈ aged, e.2 < m) → exec .epochBoundary s =
        .next ({ s with brace := { s.brace with epochEnd := s.now, own := [], theirs := aged } } : State).settle) ∧
      (∀ f n, s.brace.own = [] → s.brcRole = 3 → s.brace.theirs = [(f, n)] → m ≤ n + 1 → exec .epochBoundary s =
        .next ((State.compareSeal.diverge { s with brace := { s.brace with epochEnd := s.now, own := [], theirs := [] } }
          f.seq.toNat true).fault bp .timeout).settle) ∧
      (∀ o, s.brace.own = [o] → o.sent = false → o.age < m → (∀ e ∈ aged, e.2 < m) → s.brcRole = 1 → s.braceLink.isSome = true →
        let f : DigestF := { seq := o.seq, a := o.a, n := o.n, value := o.value, ovf := o.ovf }
        let s1 := ({ s with brace := { s.brace with epochEnd := s.now, own := [o], theirs := aged } } : State).toTwin (.digest f)
        let s2 : State := { s1 with brace := { s1.brace with own := s1.brace.own.map (fun (o : Seal) => { o with sent := true }) } }
        exec .epochBoundary s = .next (s2.matchSeals s2.brace.own.length).settle)) ∧
    (∀ k serial run pref, k < 2 → (s.port (96 + k)).phase = 4 → s.linkIsUp (96 + k) = false → s.fuses.twin ≠ 0 →
      serial = s.fuses.twin →
      let s1 := { s.putB (bp + R.brcStat) 3 true with
        brace := { s.brace with twinSerial := serial, twinRun := run, twinPref := pref } }
      exec (.braceLinkUp k serial run pref) s = .next ((s1.updPort (96 + k) (fun x => { x with idSeen := true })).braceTry k).settle) ∧
    (∀ k, k < 2 → let l := 96 + k
      s.bracePhy l = true → (s.port l).phase = 4 → (s.port l).blk.isSome = true →
      exec (.downstreamBlockTime l) s = .next ((s.braceTry k).bamiorBlock l).settle ∧
      (s.linkIsUp l = false → (s.port l).idSeen = true → 1639 ≤ dur (s.port l).badAt s.now →
        let s1 := { s.putB (bp + R.brcStat) (4 + k) true with brace := { s.brace with misses := 0, hbEnd := s.now } }
        let s2 := s1.updPort l (fun x => { x with misses := 0 })
        s2.b (bp + R.brcCtl) 0 = false → s.braceTry k = s2.linkResume l)) ∧
    (let s1 := (s.setRole (if s.brace.hbAfter then 1 else 3))
     s.brcRole = 6 → s.notResumed = [] → exec .takeoverDeadline s =
      .next (({ s1 with ledger := { s1.ledger with sent := s1.ledger.next } } : State).pageInt bp 0).settle)

/-! ## Faults, the ledger, the host, boot -/

/-- Reaction timers, the ledger ring, the host and boot complete. Each command of the reaction timers, the ledger's
ring, the host's accesses and its link, and boot, under the conditions that it names, answers the next state written
here. (R517, R531, R532, R535, R536, R537, R541, R547, R551, R552, R554, R555.) -/
def Obligations.HostAndBootComplete : Prop :=
  ∀ (s : State), s.porst = false →
    (∀ page t, s.timer page = some t → t.toNat ≤ s.now.toNat → s.liveClasses page ≠ 0 →
      s.f (page + R.pgErrLevel) 1 0 < s.f (page + R.pgErrEn) 9 8 → exec (.reactionTimerExpire page) s =
      .next ((s.setTimer page none).setLevel page (s.f (page + R.pgErrLevel) 1 0 + 1) 2 (s.firstClass page)).settle) ∧
    (let lg := s.f (lgp + R.ledgRing) 4 0
     let p := s.ledger.drain.toNat
     let a := s.f (lgp + R.ledgRing) 47 20 * 2 ^ 20 + 64 * (p % 2 ^ lg)
     s.b (lgp + R.ledgRing) 5 = true → 0 < s.undrained → s.wfail.contains (lgp + R.ledgRing) = false →
     ∀ s1, s.memWrite a ((List.range 8).flatMap (fun i => leBytes 8 ((s.ledgerSlot (p % 4096)).word i).toNat)) = (.ok, s1) →
      let c := s.f (lgp + R.ledgCons) 31 0
      let p1 := (p + 1) % 2 ^ 32
      ((p + 2 ^ 32 - c) % 2 ^ 32 < 2 ^ lg → s.memAwake = true → exec .ledgerDrain s = .next ((s1.drainAt p1).ledgProdTo p1).settle) ∧
      (2 ^ lg ≤ (p + 2 ^ 32 - c) % 2 ^ 32 → s.memAwake = true → exec .ledgerDrain s = .next (((((s1.putF (lgp + R.ledgCons) 31 0
        ((c + 1) % 2 ^ 32)).inc (lgp + R.ledgCnt) 31 0)).drainAt p1).ledgProdTo p1).settle)) ∧
    (2 ≤ s.hostState → s.host.d3hot = false → s.host.held = [] →
      (∀ off (bytes : List Byte) a b, bytes ≠ [] → bytes.length ≤ 512 → s.hostMustWait 2 off bytes.length = false →
        barAddr 2 off = some a → barAddr 2 (off + bytes.length - 1) = some b → region a = .hbm ∨ region a = .shep →
        exec (.hostWrite 2 off bytes) s = .next (s.hostStore a bytes).settle) ∧
      (∀ off (bytes : List Byte) s1, bytes.length = 8 → off % 8 = 0 → off < 0x1000000 →
        s.hostMustWait 0 off bytes.length = false → s.controlWrite off ⟨0, .d64, BitVec.ofNat 64 (ofLe bytes)⟩ = (.ok, s1) →
        s1.parked.length ≤ s.parked.length → exec (.hostWrite 0 off bytes) s = .next s1.settle) ∧
      (∀ off v s1, s.hostParked = false → off % 8 = 0 → off < 0x1000000 → s.controlRead off ⟨0, .d64⟩ = (.ok, some v, s1) →
        exec (.hostRead 0 off 8) s = .next (s1.hostDone 0 off .ok (leBytes 8 v.toNat)).settle)) ∧
    (s.romReady = true →
      (fld (s.h2d 0) 15 0 = 2 →
        let g : Image := fun i => s.byte (shepBase + i)
        let e := imgCheck s.fuses g
        exec .romLoad s = .next (if e = 0 then (s.romAnswer 0 [BitVec.ofNat 64 (imgSvn g)]).handOff 2 g
          else (s.romFail e).romAnswer e []).settle) ∧
      (∀ k, fld (s.h2d 0) 15 0 = 0x10 → fld (s.h2d 1) 1 0 = k → s.fuses.keyValid.testBit k = false →
        let hash := (List.range 6).foldl (fun n i => n + (s.h2d (2 + i)).toNat * 2 ^ (64 * i)) 0
        let fu := { s.fuses with keyValid := s.fuses.keyValid + 2 ^ k, keyHash := SMap.set 0 s.fuses.keyHash k hash }
        exec .romProgramKey s = .next (({ s with fuses := fu } : State).romAnswer 0 []).settle) ∧
      (∀ k, fld (s.h2d 0) 15 0 = 0x11 → fld (s.h2d 1) 1 0 = k → s.fuses.keyValid.testBit k = true →
        (List.range 4).filter (fun i => s.fuses.keyValid.testBit i && !s.fuses.keyRevoked.testBit i) ≠ [k] →
        exec .romRevokeKey s = .next (({ s with fuses := { s.fuses with keyRevoked := s.fuses.keyRevoked ||| 2 ^ k } } :
          State).romAnswer 0 []).settle) ∧
      (∀ n, fld (s.h2d 0) 15 0 = 0x12 → fld (s.h2d 1) 6 0 = n → s.fuses.svnFloor ≤ n → n ≤ 64 → exec .romSetSvn s =
        .next (({ s with fuses := { s.fuses with svnFloor := n } } : State).romAnswer 0 []).settle)) ∧
    (∀ (x : RomSt) (r : BusResult), s.rom = some x →
      (x.hdrs = [] → x.todo = [] → 512 ≤ r.data.length → exec (.busTransferComplete 64 r) s =
        .next (({ s with rom := some { hdrs := [r.data.take 512] } } : State).flashRead (slotAt 1) 512).settle) ∧
      (∀ k l, let n := romSize (x.hdrs.getD k [])
        let s1 := s.wrBytes shepBase (r.data.take n)
        let e := imgCheck s.fuses s1.storeImage
        x.todo = k :: l → n ≤ r.data.length → exec (.busTransferComplete 64 r) s =
          .next (if e = 0 then ({ s1 with rom := none } : State).handOff k s1.storeImage
            else (s1.romFail e).romTry x.hdrs 2 l).settle)) ∧
    (∀ m0 m1 (r : UcieReport), let o := hop + R.hostLink
      let s1 := if 2 ≤ s.hostState then s.inc o 31 16 else s
      let s2 := (((s1.putF o 3 2 (b2n m0 + 2 * b2n m1)).putB o 4 (m0 != m1)).putF o 47 32 r.repaired).inc o 63 48 r.retries
      let s3 := if s.hostState = 3 then s2.leaveL1 else s2
      let s4 := { s3 with host := { s3.host with rate := [32, 24, 16, 12, 8, 4].getD r.failed 0 } }
      exec (.hostLinkTrain m0 m1 r) s = .next ((s4.setHostState 1).setHostState
        (if (m0 || m1) && decide (r.failed < 6) then 2 else 0)).settle) ∧
    (s.hostState = 2 → exec .l1Entry s = .next ((s.setHostState 3).domPut 173 1 pwrAgent).settle) ∧
    (s.hostState = 3 → s.host.l1At.isSome = true →
      let t := s.setHostState 2
      exec .l1Exit s = .next ({ t.domPut 173 0 pwrAgent with host := { t.host with l1At := none } } : State).settle) ∧
    (∀ v, v < 2048 → exec (.msixUnmask v) s = .next ((s.putB (msixAt v + 8) 32 false).msixPending v).settle) ∧
    (∀ u, u < 4 → exec (.hbmStackTrained u) s = .next (s.putB (hbp u + R.hbmcStat) 0 true).settle) ∧
    (∀ bm d3 en fm, exec (.hostConfigWrite bm d3 en fm) s = .next (({ s with host := { s.host with
      busMaster := bm, d3hot := d3, msixEn := en, funcMask := fm } } : State).msixAll).settle) ∧
    (∀ id data q l, takeFirst (fun q => q.req.txid == id && q.ofHost) s.inbox = some (q, l) →
      exec (.hostCompletion id data true) s = .next (({ s with inbox := l } : State).hostAnswer q .ok
        ((List.range (if q.opc = 2 ∨ q.opc = 128 then 64 else 8)).map (fun i => data.getD i 0))).settle)

/-! ## Register writes (R12 to R15, R528), by block -/

/-- Operations of TILE, GLB and HUB registers complete. A register write that takes effect and names an operation of
the fabric or of a stream answers the next state in which the ledger has recorded it, the operation has acted, and the
write is answered. (R12, R13, R15, R528, R122, R128, R145, R174, R582, R583.) -/
def Obligations.FabricRegistersComplete : Prop :=
  ∀ (s : State) (n : Nat) (w : RegW) (new : Word),
    (s.Takes .tile n R.tileMsCtl w new → wBit w 2 = true →
      exec (.forceRot n w) s = ((s.written .tile n R.tileMsCtl w new).rotTrigger n).acted w) ∧
    (s.Takes .tile n R.tileLoadCtl w new → wBit w 17 = true →
      exec (.tileLoadGo n w) s = ((s.written .tile n R.tileLoadCtl w new).loadGo n).acted w) ∧
    (s.Takes .tile n R.tileMsSpill w new →
      exec (.tileMsSpillWrite n w) s =
        ((s.written .tile n R.tileMsSpill w new).spillSet n (s.reg (tp n + R.tileMsSpill))).acted w) ∧
    (s.Takes .tile n R.tileFence w new → wBit w 0 = true → bit new 0 = true → s.b (tp n + R.tileFence) 0 = false →
      exec (.tileFence n w) s = ((s.written .tile n R.tileFence w new).fenceTile n).acted w) ∧
    (s.Takes .tile n R.tileExcCtl w new → wBit w 0 = true →
      exec (.excPop n w) s =
        ((s.logged .tile n R.tileExcCtl w new).updTile n (fun x => { x with exc := x.exc.drop 1 })).acted w) ∧
    (let c := wFld w 15 0
     s.Takes .glb 0 R.glbQmAbort w new →
      exec (.glbQmAbort w) s = ((s.logged .glb 0 R.glbQmAbort w new).abortCtx c (wFld w 31 16)).acted w) ∧
    (s.Takes .glb 0 R.glbRst w new → wBit w 0 = true → wFld w 31 16 = 0x0A5A →
      exec (.glbRst w) s =
        ({ s.logged .glb 0 R.glbRst w new with devReset := some (s.logged .glb 0 R.glbRst w new).now } : State).acted w) ∧
    (s.Takes .hub n R.hubStrmCtl w new → wBit w 0 = true → bit (sizeMask w.size) 0 = true → bit new 0 = true →
      s.runOk n = true → (s.logged .hub n R.hubStrmCtl w new).runOk n = true →
      exec (.streamRun n w) s = (((s.written .hub n R.hubStrmCtl w new).strmRun n).floorStream n).acted w) ∧
    (s.Takes .hub n R.hubStrmCtl w new → wZero w 0 = true → bit new 0 = false → s.b (hp n + R.hubStrmCtl) 0 = true →
      exec (.streamStop n w) s = ((s.written .hub n R.hubStrmCtl w new).strmStop n).acted w) ∧
    (let o := R.hubPltScr + 0x40 * (n % 4)
     let l := s.logged .hub (n / 4) o w new
     s.Takes .hub (n / 4) o w new → wBit w 31 = true →
      exec (.scrambleWrite n w) s = ((l.updPlate n (fun x => { x with
        scr := SMap.set 0 x.scr (wFld w 11 0) (wFld w 27 16) })).setReg (plt n R.hubPltScr)
          (BitVec.ofNat 64 ((wFld w 11 0 + 1) % 4096))).acted w)

/-- Operations of PORT and RET registers complete. A register write that takes effect and names an operation of a port
or of a subchannel answers the next state in which the ledger has recorded it, the operation has acted, and the write
is answered. (R12, R13, R15, R528, R263, R266, R284, R287.) -/
def Obligations.PortAndRetrieverRegistersComplete : Prop :=
  ∀ (s : State) (n : Nat) (w : RegW) (new : Word),
    (s.Takes .port n R.portFailCtl w new → bit new 0 = true → s.b (pp n + R.portFailCtl) 0 = false →
      exec (.portFailCtlWrite n w) s = ((s.written .port n R.portFailCtl w new).failEnable n).acted w) ∧
    (s.Takes .port n R.portFailCtl w new → bit new 0 = false →
      exec (.portFailCtlWrite n w) s = (s.written .port n R.portFailCtl w new).acted w) ∧
    (let l := s.logged .port n R.portLnkCtl w new
     s.Takes .port n R.portLnkCtl w new → wBit w 0 = true → bit new 0 = true → s.b (pp n + R.portLnkCtl) 0 = false →
      l.b (pp n + R.pgErrLevel) 2 = false → l.b (hp (n / 4) + R.pgErrLevel) 2 = false →
      exec (.linkEnable n w) s = ((s.written .port n R.portLnkCtl w new).retrain n false).acted w) ∧
    (let l := s.logged .port n R.portLnkCtl w new
     s.Takes .port n R.portLnkCtl w new → wBit w 3 = true → bit new 0 = true → s.b (pp n + R.portLnkCtl) 0 = true →
      l.b (pp n + R.pgErrLevel) 2 = false → l.b (hp (n / 4) + R.pgErrLevel) 2 = false →
      exec (.retrain n w) s = ((s.written .port n R.portLnkCtl w new).retrain n true).acted w) ∧
    (s.Takes .port n R.portLnkSwitch w new → wBit w 16 = true →
      exec (.switchSend n w) s = ((s.written .port n R.portLnkSwitch w new).switchSend n).acted w) ∧
    (let st := s.f (hp n + R.hubLnkSpare) 14 12
     let p := fld new 6 0
     s.Takes .hub n R.hubLnkSpare w new → wBit w 10 = true → st = 0 ∨ st = 4 → p / 4 = n → s.lnk p = 4 →
      (s.logged .hub n R.hubLnkSpare w new).lnk p = 4 →
      exec (.spareGo n w) s = ((s.written .hub n R.hubLnkSpare w new).spareGo n).acted w) ∧
    (s.Takes .ret n R.retScCtl w new → wBit w 0 = true → wBit w 3 = false →
      exec (.retRun n w) s = (s.written .ret n R.retScCtl w new).acted w) ∧
    (s.Takes .ret n R.retScCtl w new → wBit w 3 = true →
      exec (.retResume n w) s = ((s.written .ret n R.retScCtl w new).retResume n).acted w) ∧
    (let rung (t : State) : Prop := t.b (rtp n + R.retScCtl) 4 = false ∧
       doorbellOk (t.f (rtp n + R.retScSring) 4 0) (t.f (rtp n + R.retScSprod) 31 0) (t.f (rtp n + R.retScScons) 31 0)
         (wFld w 31 0) = true
     s.Takes .ret n R.retScSprod w new → rung s → rung (s.logged .ret n R.retScSprod w new) →
      exec (.retStartDoorbell n w) s =
        ((s.logged .ret n R.retScSprod w new).putF (rtp n + R.retScSprod) 31 0 (wFld w 31 0)).acted w) ∧
    (let armed (t : State) : Prop := let a := t.f (rtp 0 + R.retEmergChain) 47 0
       shepBase ≤ a ∧ a < shepBase + 0x800000 ∧ a % 16 = 0 ∧ t.b emc 9 = false ∧ t.b emc 8 = false
     s.Takes .ret 0 R.retEmergCtl w new → wBit w 8 = true → bit new 8 = true → armed s →
      armed (s.logged .ret 0 R.retEmergCtl w new) →
      exec (.emergArm w) s = (((s.logged .ret 0 R.retEmergCtl w new).putF emc 5 0 (fld new 5 0)).putB emc 8 true).acted w)

/-- Ring doorbells, ring set-up and DMA registers complete. A write of a ring's producer, configuration or consumer,
or of a DMA channel's registers, that takes effect answers the next state written here. (R363, R388, R393, R395, R420,
R528, R585.) -/
def Obligations.RingRegistersComplete : Prop :=
  ∀ (s : State) (n : Nat) (w : RegW) (new : Word),
    (let pg := 1 + n / 32
     let o := R.kenRingProd + 64 * (n % 32)
     let l := s.logged .ken pg o w new
     let v := wFld w 31 0
     let rung (t : State) : Prop := t.b (kr n) 6 = true ∧ t.b (kr n) 5 = false ∧
       doorbellOk (t.f (kr n) 4 0) (SMap.get 0 t.plast (kr n)) (t.f (kr n + 16) 31 0) v = true ∧
       (v + 2 ^ 32 - SMap.get 0 t.plast (kr n)) % 2 ^ 32 ≠ 0
     let room (t : State) : Prop := t.ken.heldDb.any (fun d => d.ring == n) = false ∧ (v + 2 ^ 32 - SMap.get 0 t.plast (kr n)) % 2 ^ 32 ≤ t.kenFree ∧
       t.b (kp + R.kenCtl) 0 = true
     let k := (v + 2 ^ 32 - SMap.get 0 l.plast (kr n)) % 2 ^ 32
     let kept : State := { l with plast := SMap.set 0 l.plast (kr n) v }
     s.Takes .ken pg o w new → rung s → rung l →
      (room s → room l → exec (.kenRingDoorbell n w) s =
        (((kept.putF (kr n + 8) 31 0 v).updKen (fun q => { q with resv := SMap.set 0 q.resv n (SMap.get 0 q.resv n + k) })).kenTrace
          1 0 n 0 0 0 0 k 0).acted w) ∧
      (orgClass w.origin = 1 → s.kenFree < (v + 2 ^ 32 - SMap.get 0 s.plast (kr n)) % 2 ^ 32 → l.kenFree < k →
        exec (.kenRingDoorbell n w) s =
          ((kept.updKen (fun q => { q with heldDb := q.heldDb ++ [{ ring := n, origin := w.origin, items := k, index := v }] })).updCore (w.origin.toNat % 4096)
            (fun c => { c with stall := true })).acted w)) ∧
    (let pg := 1 + n / 32
     let o := R.kenRingCfg + 64 * (n % 32)
     let l := s.logged .ken pg o w new
     s.Takes .ken pg o w new → w.size = .d64 → bit new 6 = true →
      let on : State := { s.written .ken pg o w new with wfail := l.wfail.filter (fun x => x != kr n) }
      exec (.kenRingConfig n w) s = ((on.kenRingOn n).kenRoom).acted w ∧
      exec (.ringConfigWrite (.kenOut n) w) s = ((on.kenRingOn n).kenRoom).acted w) ∧
    (∀ (r : RingId) (b : PKind) (p o : Nat) (c : Ring), ringConsumer r = some (b, p, o) →
      (∀ m, r ≠ .kenOut m) → (match r with | .probe k => k < 32 | _ => True) →
      c = (match r with | .kenTrace => kenTraceRing | .retComp m => retRing m | .failLog q => failRing q
                        | .probe k => prbRing k | _ => qmRing) →
      let l := s.logged b p o w new
      s.Takes b p o w new → s.consOk c (wFld w 31 0) = true → l.consOk c (wFld w 31 0) = true →
      exec (.ringConsumerWrite r w) s = (s.written b p o w new).acted w) ∧
    (s.Takes .dma n R.dmaRing w new →
      exec (.ringConfigWrite (.dma n) w) s =
        ((s.written .dma n R.dmaRing w new).ringStart (dp n + R.dmaRing) [dp n + R.dmaProd, dp n + R.dmaCons]).acted w) ∧
    (let l := s.logged .dma n R.dmaProd w new
     let rung (t : State) : Prop := t.dmaEn n = true ∧ doorbellOk (t.f (dp n + R.dmaRing) 4 0) (t.f (dp n + R.dmaProd) 31 0)
       (t.f (dp n + R.dmaCons) 31 0) (wFld w 31 0) = true
     s.Takes .dma n R.dmaProd w new → rung s → rung l →
      exec (.dmaDoorbell n w) s = (l.putF (dp n + R.dmaProd) 31 0 (wFld w 31 0)).acted w) ∧
    (s.Takes .dma n R.dmaCtl w new → wZero w 0 = true → s.b (dp n + R.dmaCtl) 0 = true → bit new 0 = false →
      exec (.dmaDisable n w) s = ((s.written .dma n R.dmaCtl w new).dmaStop n).acted w)

/-- Completions, thread commands and Bark register operations complete. A write of KEN_CDONE, KEN_THR_CMD or of a Bark
register that takes effect answers the next state written here. (R368, R374, R378, R390, R528.) -/
def Obligations.KennelRegistersComplete : Prop :=
  ∀ (s : State) (n : Nat) (w : RegW) (new : Word),
    (let l := s.logged .ken 0 R.kenCdone w new
     let c := w.origin.toNat % 4096
     let m := l.mbox c
     ∀ i j bs u, let v (i : Nat) : Word := BitVec.ofNat 64 (ofLe ((bs.drop (8 * i)).take 8))
      s.Takes .ken 0 R.kenCdone w new → orgClass w.origin = 1 → s.coreItem c = some j → l.coreItem c = some i →
      l.memRead (m + 32) 32 = (.ok, bs, u) →
      (wFld w 1 0 = 0 → w.size ≠ .hi32 → exec (.cdoneDone w) s =
        ((((u.kenIdle c).kenTraceItem 4 c i i.ring 0).kenFinish i (fld (v 0) 15 0) (v 1) (v 2) (v 3)).kenPreempt).acted w) ∧
      (wFld w 1 0 = 1 → (s.kc c).preempt = true → (l.kc c).preempt = true →
        let back : KItem := { i with
          w0 := setFld i.w0 15 0 (fld (v 0) 15 0), w1 := v 1, w2 := v 2, w3 := v 3, st := .ready }
        exec (.cdoneYield w) s =
          (((((u.kenIdle c).kenCopy back).updKen (fun k => { k with
            items := replFirst (fun x => x.id == i.id) (fun _ => back) k.items, ready := i.id :: k.ready })).kenTraceItem 6 c
              back i.ring 0).kenPreempt).acted w)) ∧
    (let l := s.logged .ken 0 R.kenThrCmd w new
     let t := wFld w 7 0
     s.Takes .ken 0 R.kenThrCmd w new →
      (∀ bs u, let v (i : Nat) : Word := BitVec.ofNat 64 (ofLe ((bs.drop (8 * i)).take 8))
        let read (x : KThread) : KThread := { x with
          prio := fld (v 0) 7 2, affinity := fld (v 0) 23 8, slice := fld (v 0) 39 24, context := v 1, wake := v 3 }
        wFld w 11 8 = 1 → (s.thr t).st = .free → (l.thr t).st = .free → l.memRead (l.tcb t) 32 = (.ok, bs, u) →
        exec (.thrCreate w) s = ((((u.updThr t read).thrReady t false)).kenPreempt).acted w) ∧
      (wFld w 11 8 = 6 → (∃ k, (s.thr t).st = .onEvent k) → (∃ k, (l.thr t).st = .onEvent k) →
        exec (.thrWake w) s = ((l.thrReady t false).kenPreempt).acted w) ∧
      (wFld w 11 8 = 6 → (∃ k, (s.thr t).st = .onTime k) → (∃ k, (l.thr t).st = .onTime k) →
        exec (.thrWake w) s = ((l.thrReady t false).kenPreempt).acted w) ∧
      (∀ c u e, s.coreThread w.origin = some e → l.coreThread w.origin = some (c, u) →
        let idle := l.kenIdle c
        let line := wFld w 17 12
        (wFld w 11 8 = 2 → exec (.thrExit w) s =
          ((idle.updThr u (fun x => { x with st := .free })).tcbWrite u 0 0 0).acted w) ∧
        (wFld w 11 8 = 3 → exec (.thrSwitch w) s = ((idle.thrReady u false).kenPreempt).acted w) ∧
        (wFld w 11 8 = 4 → bit l.ken.latches line = true → exec (.thrBlockEvent w) s =
          (((idle.updKen (fun k => { k with latches := setBit k.latches line false })).thrReady u true).kenPreempt).acted w) ∧
        (wFld w 11 8 = 4 → bit l.ken.latches line = false → exec (.thrBlockEvent w) s =
          (((idle.updThr u (fun x => { x with st := .onEvent line })).tcbWrite u 3 0 line).kenTrace 11 c 0 (l.thr u).prio 0 0
            u 0 0).acted w) ∧
        (wFld w 11 8 = 5 → (l.thr u).wake.toNat ≤ l.now.toNat → exec (.thrBlockTime w) s = ((idle.thrReady u true).kenPreempt).acted w) ∧
        (wFld w 11 8 = 5 → l.now.toNat < (l.thr u).wake.toNat → exec (.thrBlockTime w) s =
          (((idle.updThr u (fun x => { x with st := .onTime (l.thr u).wake })).tcbWrite u 3 0 0).kenTrace 11 c 0 (l.thr u).prio
            0 0 u 0 0).acted w))) ∧
    (s.Takes .bark 0 R.barkSwset w new →
      exec (.barkSwset w) s = ((s.logged .bark 0 R.barkSwset w new).bark (1216 + wFld w 5 0)).acted w) ∧
    (let o := R.barkSrc + 8 * (n % 256)
     let p := 1 + n / 256
     let cleared := (s.written .bark p o w new).putF (pageAt .bark p + o) 23 16 0
     s.Takes .bark p o w new → wBit w 24 = true → cleared.f (pageAt .bark p + o) 23 16 = 0 →
      exec (.barkDiscard n w) s = cleared.acted w)

/-- Operations of mesh, HBM, power and gauge registers complete. A register write that takes effect and names an
operation of the mesh, of an HBM controller, of a domain or of a gauge answers the next state written here. (R433,
R445, R447, R449, R453, R464, R474, R528.) -/
def Obligations.MeshAndPowerRegistersComplete : Prop :=
  ∀ (s : State) (n : Nat) (w : RegW) (new : Word),
    (s.Takes .noc n R.nocNiCtl w new → wBit w 1 = true → bit new 1 = true → s.b (pageAt .noc n + R.nocNiCtl) 1 = false →
      exec (.niIsolate n w) s = ((s.logged .noc n R.nocNiCtl w new).isolate n).acted w) ∧
    (let l := s.logged .noc n R.nocRtData w new
     let idx (t : State) : Nat := fld (t.reg (pageAt .noc n + R.nocRtSel)) 7 0
     let bank (t : State) : Nat := fld (t.reg (pageAt .noc n + R.nocRtSel)) 8 8
     let ok (t : State) : Prop := bank t ≠ b2n (t.niGen n) ∧
       (bit (placed w) 48 = false ∨ routeValid n (idx t) (fld (placed w) 47 0) = true)
     let k := routeKey n (bank l) (idx l)
     s.Takes .noc n R.nocRtData w new → ok s → ok l →
      exec (.routeTableWrite n w) s = ({ l with
        routes := SMap.set (routeReset k) l.routes k (placed w &&& 0x1FFFFFFFFFFFF) } : State).acted w) ∧
    (s.Takes .noc n R.nocRtrCtl w new →
      exec (.routerPortEnableWrite n w) s = (s.written .noc n R.nocRtrCtl w new).acted w) ∧
    (let t := s.written .noc 0 R.nocFence w new
     let o := pageAt .noc 0 + R.nocFence
     let moved (t : State) : State := { t with
       waiters := t.waiters.map (fun x : Waiter => { x with moved := x.moved || x.gen != t.b o 1 }) }
     s.Takes .noc 0 R.nocFence w new → wBit w 0 = true → s.b o 2 = false →
      exec (.routeFenceGo w) s = ((List.range 160).foldl (fun u m => u.putB (pageAt .noc m + R.nocNiCtl) 0 (t.b o 1))
        (((moved t).putB o 2 true).putB o 3 false)).acted w) ∧
    (s.Takes .hbmc n R.hbmcRetAdd w new → n < 4 → wBit w 0 = true →
      let t := s.written .hbmc n R.hbmcRetAdd w new
      exec (.retireAdd n w) s = (t.qualify n (t.f (hbp n + R.hbmcRetAdd) 34 12)).acted w) ∧
    (let l := s.logged .pwr 0 (R.pwrDom + 8 * n) w new
     let tgt := fld new 1 0
     let fin (t : State) : State := ((t.putF (domAt n) 5 5 (fld new 5 5)).putF (domAt n) 25 16 (fld new 25 16)).vHold n
     s.Takes .pwr 0 (R.pwrDom + 8 * n) w new → n < 176 → w.size ≠ .hi32 → bit (sizeMask w.size) 0 = true →
      (n = 173 → s.domState n < 3 → l.domState n < 3 →
        exec (.domainTargetWrite n w) s = (fin (l.putF (domAt n) 1 0 tgt)).acted w) ∧
      (n ≠ 173 → s.domState n = 0 → l.domState n = 0 → tgt ≠ 0 → s.domCond n tgt = true → l.domCond n tgt = true →
        exec (.domainTargetWrite n w) s = (fin (({ l.putF (domAt n) 1 0 tgt with
          domOrg := SMap.set 0 l.domOrg n (w.origin.toNat + 1) } : State).domPut n 3 w.origin)).acted w) ∧
      (n ≠ 173 → s.domState n = 1 ∨ s.domState n = 2 → l.domState n = 1 ∨ l.domState n = 2 → tgt = 0 →
        exec (.domainTargetWrite n w) s = (fin ((l.putF (domAt n) 1 0 0).domWakeStart n w.origin)).acted w)) ∧
    (let o := R.gaugeCfg + 8 * (n % 128)
     s.Takes .time (1 + n / 128) o w new →
      let t := s.written .time (1 + n / 128) o w new
      exec (.gaugeCfgWrite n w) s = ((t.updGauge n (fun x => { x with n := 0, lo := 0xFFFFFFFF, hi := 0, bins := [] })).updGauge n
        (fun x => { x with base := SMap.get 0 t.tally (t.f (gaugeAt n) 15 0), last := t.now })).acted w)

/-- Operations of page headers and of the ledger complete. A write of a page header's error and level registers, or of
the ledger's registers, that takes effect answers the next state written here. (R516, R517, R518, R519, R520, R521,
R522, R528, R532, R534.) -/
def Obligations.FaultRegistersComplete : Prop :=
  ∀ (s : State) (b : PKind) (p : Nat) (w : RegW) (new : Word), hasHeader b p = true → p < blkPages b →
    let page := pageAt b p
    (let o := page + R.pgErrStat
     let l := s.logged b p R.pgErrStat w new
     let left := l.f o 4 0 &&& (31 - wFld w 4 0 % 32)
     s.Takes b p R.pgErrStat w new → bit (sizeMask w.size) 0 = true →
      s.f o 4 0 &&& wFld w 4 0 &&& s.persist page = 0 → l.f o 4 0 &&& wFld w 4 0 &&& l.persist page = 0 →
      (left ≠ 0 → exec (.faultAck page w) s = (l.putF o 4 0 left).acted w) ∧
      (left = 0 → l.f (page + R.pgErrLevel) 1 0 = 0 →
        exec (.faultAck page w) s = ((l.putF o 4 0 0).setTimer page none).acted w) ∧
      (left = 0 → l.f (page + R.pgErrLevel) 1 0 ≠ 0 →
        exec (.faultAck page w) s = ((l.putF o 4 0 0).setLevel page 0 5 (l.firstClass page)).acted w)) ∧
    (s.Takes b p R.pgErrEn w new → exec (.errEnWrite page w) s =
      ((s.written b p R.pgErrEn w new).errEn page (fld (s.reg (page + R.pgErrEn)) 4 0)).acted w) ∧
    (let l := s.logged b p R.pgErrLevel w new
     s.Takes b p R.pgErrLevel w new → wFld w 5 4 ≠ 0 → l.f (page + R.pgErrLevel) 1 0 < wFld w 5 4 →
      exec (.levelRaise page w) s = (l.setLevel page (wFld w 5 4) 4 0).acted w) ∧
    (s.Takes b p R.pgErrInj w new → wFld w 47 32 ≠ 0 → wFld w 52 48 = 0 →
      exec (.injectArm page w) s = (s.written b p R.pgErrInj w new).acted w) ∧
    (s.Takes b p R.pgErrInj w new → wFld w 52 48 ≠ 0 →
      exec (.injectForce page w) s = ([Cls.correctable, .uncorrectable, .protocol, .timeout, .config].foldl
        (fun t c => if (wFld w 52 48).testBit c.idx then t.fault page c true else t) (s.written b p R.pgErrInj w new)).acted w) ∧
    (let o := lgp + R.ledgRing
     let l := s.logged .ledg 0 R.ledgRing w new
     s.Takes .ledg 0 R.ledgRing w new → w.size = .d64 → wBit w 5 = true → bit new 5 = true → s.b o 5 = false → l.b o 5 = false →
      fld new 47 20 * 2 ^ 20 % (2 ^ fld new 4 0 * 64) = 0 →
      exec (.ledgRingWrite w) s = (((({ l.setReg o new with wfail := l.wfail.filter (fun r => r != o) } : State).drainAt
        l.oldestSeq).putF (lgp + R.ledgProd) 31 0 l.oldestSeq).putF (lgp + R.ledgCons) 31 0 l.oldestSeq).acted w) ∧
    (let o := lgp + R.ledgCons
     let l := s.logged .ledg 0 R.ledgCons w new
     let c := wFld w 31 0
     let ok (t : State) : Prop :=
       (c + 2 ^ 32 - t.f o 31 0) % 2 ^ 32 ≤ (t.f (lgp + R.ledgProd) 31 0 + 2 ^ 32 - t.f o 31 0) % 2 ^ 32
     s.Takes .ledg 0 R.ledgCons w new → ok s → ok l → exec (.ledgConsWrite w) s = (l.putF o 31 0 c).acted w)

/-- Operations of PACK, BRC and HOST registers complete. A write of a pack, brace or host register that takes effect
and names an operation answers the next state written here. (R484, R495, R498, R501, R502, R509, R510, R511, R528,
R547.) -/
def Obligations.PackBraceHostRegistersComplete : Prop :=
  ∀ (s : State) (n : Nat) (w : RegW) (new : Word),
    (let l := s.logged .pack 0 R.packBcastCtl w new
     let off := l.f (kpk + R.packBcastAddr) 23 0
     let data := l.reg (kpk + R.packBcastData)
     let id := l.pack.bcId
     let ok (t : State) : Prop := t.isLead = true ∧ t.b (kpk + R.packBcastCtl) 1 = false
     let begun : State := { l.putF (kpk + R.packBcastCtl) 3 1 1 with
       pack := { l.pack with bcOn := true, bcKids := l.children, bcUp := none, bcErr := false, bcId := id + 1 } }
     s.Takes .pack 0 R.packBcastCtl w new → wBit w 0 = true → ok s → ok l →
      exec (.bcastGo w) s =
        ((begun.toKids (.cfg (BitVec.ofNat 24 off) id data)).react (.cfg off data)).acted w) ∧
    (let o := R.packBar + 8 * n
     let at_ (t : State) : State := (s.wrOf .pack 0 o w new).set t
     let ok (t : State) : Prop := (at_ t).b (barAt n) 6 = true ∧ (at_ t).b (barAt n) 8 = false
     s.Takes .pack 0 o w new → n < 16 → wBit w 7 = true → bit (s.reg (barAt n)) 8 = false → ok s →
      ok (s.logged .pack 0 o w new) →
      exec (.barrierArrive n w) s = (((s.written .pack 0 o w new).putB (barAt n) 8 true).barTry n).acted w) ∧
    (s.Takes .pack 0 R.packMsgCtl w new → wBit w 16 = true → bit (s.reg (kpk + R.packMsgCtl)) 17 = false →
      exec (.packMsgGo w) s = ((s.written .pack 0 R.packMsgCtl w new).msgGo).acted w) ∧
    (s.Takes .brc 0 R.brcCtl w new → w.size ≠ .hi32 → bit (s.reg (bp + R.brcCtl)) 0 = false → bit new 0 = true →
      exec (.brcEnable w) s = ((s.written .brc 0 R.brcCtl w new).brcEn).acted w) ∧
    (let l := s.logged .brc 0 R.brcCmd w new
     s.Takes .brc 0 R.brcCmd w new → bit (sizeMask w.size) 0 = true →
      (wFld w 2 0 = 1 → s.brcRole = 2 → l.brcRole = 2 → exec (.brcTakeover w) s = (l.takeover).acted w) ∧
      (wFld w 2 0 = 2 → s.braced = true → l.braced = true →
        exec (.brcSwap w) s = (({ l with brace := { l.brace with swapping := true } } : State).swapNow).acted w) ∧
      (wFld w 2 0 = 3 → s.brcRole = 2 → l.brcRole = 2 →
        let off := (l.setRole 0).putB (bp + R.brcCtl) 0 false
        exec (.brcDetach w) s = (off.bothLinks off.hbOut).acted w) ∧
      (wFld w 2 0 = 3 → s.brcRole = 1 → l.brcRole = 1 → exec (.brcDetach w) s =
        ((l.toTwin (.replay (l.ledgerSlot ((l.ledger.next - 1).toNat % 4096)))).solo).acted w) ∧
      (let calm (t : State) : Prop := t.brcRole = 1 ∧ t.brace.twinRole = 4 ∧
         (∀ h ∈ List.range 24, t.strmLive h = false) ∧ (∀ k ∈ List.range 64, t.subSt k = 0) ∧
         t.ctxFree + (t.ctxs.filter (fun e => e.2.teardown.isSome)).length = 65535
       wFld w 2 0 = 4 → calm s → calm l → exec (.brcResync w) s = (l.react .resync).acted w)) ∧
    (let l := s.logged .brc 0 R.brcSeal w new
     let c := wFld w 15 0
     let k := wFld w 23 16
     let acc := match l.brace.accs.find? (fun x => x.ctx == c && x.colour == k) with | some x => (x.a, x.n) | none => (0, 0)
     let o : Seal := { seq := BitVec.ofNat 32 (wFld w 55 24), a := acc.1, n := acc.2, value := l.reg (bp + R.brcSealVal),
                       ovf := l.brace.ovf.contains (c, k) }
     s.Takes .brc 0 R.brcSeal w new → wBit w 63 = true → s.brace.own.length < 1024 →
      l.brace.own.length < 1024 →
      exec (.brcSeal w) s = ({ l with brace := { l.brace with
        own := l.brace.own ++ [o], accs := l.brace.accs.filter (fun x => !(x.ctx == c && x.colour == k)),
        ovf := l.brace.ovf.filter (fun x => x != (c, k)) } } : State).acted w) ∧
    (let t := s.written .host 0 R.hostMbx w new
     let at_ (u : State) : State := (s.wrOf .host 0 R.hostMbx w new).set u
     let o := hop + R.hostMbx
     let l := s.logged .host 0 R.hostMbx w new
     s.Takes .host 0 R.hostMbx w new →
      (wFld w 5 0 = 2 → orgClass w.origin = 0 → (at_ s).b o 0 = false → (at_ l).b o 0 = false →
        exec (.h2dPost w) s = ((t.putB o 0 true).pageInt hop 0).acted w) ∧
      (wFld w 5 0 = 4 → orgClass w.origin ≠ 0 → exec (.h2dDone w) s = (t.putB o 0 false).acted w) ∧
      (wFld w 5 0 = 0x10 → orgClass w.origin ≠ 0 → (at_ s).b o 3 = false → (at_ l).b o 3 = false →
        exec (.d2hPost w) s = ((t.putB o 3 true).bark (1216 + t.f o 13 8)).acted w) ∧
      (wFld w 5 0 = 0x20 → orgClass w.origin = 0 → exec (.d2hDone w) s = ((t.putB o 3 false).pageInt hop 1).acted w))

/-- Every reset completes. Power-on reset and brown-out put the device in its power-on state with the queue, the fuses
and the answers given so far kept and the pins at their idle levels; the release of PORST_N or of a brown-out starts
boot where the other does not still hold the device; a function reset of each page begins and ends; a function-level
reset acts. (R17, R331, R387, R389, R421, R534, R549, R559, R571, R572, R582, R583.) -/
def Obligations.ResetsComplete : Prop :=
  ∀ (s : State) (n : Nat) (w : RegW) (new : Word),
    (exec .powerOnReset s = .next ({ (({} : State)) with
      pending := s.pending, out := s.out, freeCtr := s.freeCtr, fuses := s.fuses, pinLow := true,
      brown := s.brown } : State).pinsIdle) ∧
    (exec .brownOut s = .next ({ (({} : State)) with
      pending := s.pending, out := s.out, freeCtr := s.freeCtr, fuses := s.fuses, pinLow := s.pinLow,
      brown := true } : State).pinsIdle) ∧
    (∀ v : BitVec 2, s.porst = true → s.pinLow = true → s.brown = false → exec (.porstNRelease v) s =
      .next (({ s with
        fuses := { s.fuses with bootsel := v.toNat, strap := v.toNat }, porst := false, pinLow := false, now := 0 } :
        State).startBoot).settle) ∧
    (∀ v : BitVec 2, s.porst = true → s.pinLow = true → s.brown = true → exec (.porstNRelease v) s =
      .next { s with fuses := { s.fuses with strap := v.toNat }, pinLow := false }) ∧
    (s.porst = true → s.brown = true → s.pinLow = false → exec .brownOutRelease s =
      .next (({ s with
        fuses := { s.fuses with bootsel := s.fuses.strap }, porst := false, brown := false, now := 0 } :
        State).startBoot).settle) ∧
    (s.porst = true → s.brown = true → s.pinLow = true → exec .brownOutRelease s = .next { s with brown := false }) ∧
    (let resets (c : Instr) (b : PKind) (p : Nat) : Prop :=
       let l := s.logged b p R.pgCtl w new
       let begun : State := { l with frst := SMap.set none l.frst (pageAt b p) (some l.now) }
       let joined := if begun.f (pageAt b p + R.pgErrLevel) 1 0 < 2 then begun.putB (pageAt b p + R.pgErrLevel) 2 false
         else begun
       s.Takes b p R.pgCtl w new → wBit w 0 = true → s.frstBusy (pageAt b p) = false → l.frstBusy (pageAt b p) = false →
         exec c s = (if b == .hub && begun.b (pageAt b p + R.pgErrLevel) 2 && !joined.b (pageAt b p + R.pgErrLevel) 2 then
           (joined.blockReset b p).portsBack p else joined.blockReset b p).acted w
     resets (.tileFunctionReset n w) .tile n ∧ resets (.hubFunctionReset n w) .hub n ∧
     resets (.portFunctionReset n w) .port n ∧ resets (.retFunctionReset n w) .ret n ∧
     resets (.shepFunctionReset n w) .shep n ∧ resets (.dmaFunctionReset n w) .dma n ∧
     resets (.kenFunctionReset w) .ken 0 ∧ (n ≠ 0 → resets (.kenRingPageReset n w) .ken n) ∧
     resets (.barkFunctionReset w) .bark 0 ∧ (n < 5 → resets (.hbmcFunctionReset n w) .hbmc n) ∧
     resets (.ledgFunctionReset w) .ledg 0 ∧
     (∀ b p, hasHeader b p = true → ownReset b p = false → noFrst b = false → p < blkPages b →
       resets (.functionReset (pageAt b p) w) b p)) ∧
    (s.porst = false → s.frstBusy n = true →
      exec (.functionResetDone n) s = .next ({ s with frst := SMap.set none s.frst n none } : State).settle) ∧
    (s.porst = false → exec .functionLevelReset s = .next s.flr.settle)

/-- Plain register writes and reads complete. A write of a register without an operation of its own puts its fields
and is answered; a read answers the half read and clears the RC fields that it touches; a read of GAUGE_SNAP takes a
snapshot. (R12, R13, R15, R475, R578.) -/
def Obligations.ControlWindowComplete : Prop :=
  ∀ (s : State) (off : BitVec 24) (b : PKind) (p o : Nat),
    (∀ (w : RegW) (new : Word), off.toNat = pageAt b p + o → hookOf b p o = {} → s.Takes b p o w new →
      exec (.registerWrite off w) s = (s.written b p o w new).acted w) ∧
    (∀ r : RegR, off.toNat = pageAt b p + o → p < blkPages b → o < 0x1000 → o % 8 = 0 → s.porst = false →
      s.parks r.origin b p o = none → (orgClass r.origin == 4 && s.jtagClosed) = false →
      (decide (0x100 ≤ o) && s.frstBusy (pageAt b p)) = false → pageAt b p + o ≠ tmp + R.gaugeSnap →
      let fs := match regAt off.toNat with | some (d, _) => d.fields | none => []
      exec (.readClear off r) s =
        .next ((s.setReg off.toNat (clearRc fs (sizeMask r.size) (s.reg off.toNat))).emit
          (.reg r.origin .ok (halfOf r.size (s.view off.toNat)))).settle) ∧
    (∀ r : RegR, s.porst = false → s.parks r.origin .time 0 R.gaugeSnap = none → (orgClass r.origin == 4 && s.jtagClosed) = false →
      s.frstBusy tmp = false →
      exec (.gaugeSnap r) s = .next (s.gaugeTake.emit
        (.reg r.origin .ok (halfOf r.size (s.gaugeTake.view (tmp + R.gaugeSnap))))).settle)

/-- Integer instructions of two sources complete. For every core that fetches one of ADD, SUB, ADC, SBC, MUL, MULHS,
MULHU, DIVS, DIVU, REMS, REMU, AND, OR, XOR, ANDN or a shift or rotate whose operands it may read and write, the
command answers the next state in which the result is in the destination, the PSW holds the flags written here and the
instruction has retired. (R305, R307, R334, R335, Table 9.5, Table 9.7.) -/
def Obligations.ShepherdIntegersComplete : Prop :=
  ∀ (s : State) (c : Nat) (i : SIns) (bs : List Byte) (a b : Nat) (d : Loc) (cx : Cx),
    s.Fetched c i bs → s.Binary c i.n i.n i.n i a b d cx →
    let n := i.n
    let p := cx.x.psw
    let q := b2n (pswC p)
    let gives (r : Nat) (psw : Word) : Host.Outcome State Fault Refusal := (cx.give c n d psw r).ends c
    (i.op = 0x05 → exec (.shAddSub c) s = gives ((a + b) % 2 ^ (8 * n)) (flagsA p n a b 0)) ∧
    (i.op = 0x06 → exec (.shAddSub c) s = gives (subN n a b 0) (flagsS p n a b 0)) ∧
    (i.op = 0x07 → exec (.shAdcSbc c) s = gives ((a + b + q) % 2 ^ (8 * n)) (flagsA p n a b q)) ∧
    (i.op = 0x08 → exec (.shAdcSbc c) s = gives (subN n a b q) (flagsS p n a b q)) ∧
    (i.op = 0x09 → exec (.shMul c) s = gives (a * b % 2 ^ (8 * n)) (flagsMul p n a b)) ∧
    (i.op = 0x0A → exec (.shMulhsMulhu c) s = gives (mulHigh (8 * n) true a b) (flagsL p n (mulHigh (8 * n) true a b))) ∧
    (i.op = 0x0B → exec (.shMulhsMulhu c) s = gives (mulHigh (8 * n) false a b) (flagsL p n (mulHigh (8 * n) false a b))) ∧
    (i.op = 0x0C → exec (.shDivsDivuRemsRemu c) s =
      gives (divRem (8 * n) true a b).1 (flagsDiv p n true a b (divRem (8 * n) true a b).1)) ∧
    (i.op = 0x0D → exec (.shDivsDivuRemsRemu c) s =
      gives (divRem (8 * n) false a b).1 (flagsDiv p n false a b (divRem (8 * n) false a b).1)) ∧
    (i.op = 0x0E → exec (.shDivsDivuRemsRemu c) s =
      gives (divRem (8 * n) true a b).2 (flagsDiv p n true a b (divRem (8 * n) true a b).2)) ∧
    (i.op = 0x0F → exec (.shDivsDivuRemsRemu c) s =
      gives (divRem (8 * n) false a b).2 (flagsDiv p n false a b (divRem (8 * n) false a b).2)) ∧
    (i.op = 0x11 → exec (.shAndOrXorAndn c) s = gives (a &&& b) (flagsL p n (a &&& b))) ∧
    (i.op = 0x12 → exec (.shAndOrXorAndn c) s = gives (a ||| b) (flagsL p n (a ||| b))) ∧
    (i.op = 0x13 → exec (.shAndOrXorAndn c) s = gives (a ^^^ b) (flagsL p n (a ^^^ b))) ∧
    (i.op = 0x14 → exec (.shAndOrXorAndn c) s =
      gives (a &&& (2 ^ (8 * n) - 1 - b)) (flagsL p n (a &&& (2 ^ (8 * n) - 1 - b)))) ∧
    (0x16 ≤ i.op → i.op ≤ 0x1A → exec (.shShlShrSarRolRor c) s =
      let r := shiftOp i.op (8 * n) a (b % (8 * n))
      gives r.1 (flagsShift p n r.1 r.2))

/-- Moves, LEA, one-source integers and compares complete. For every core that fetches MOV, NEG, NOT, MOVZ, MOVS, CLZ,
POPC, LEA, CMP or TST whose operands it may access, the command answers the next state with the result and the flags
written here. (R305, R307, Table 9.5, Table 9.7.) -/
def Obligations.ShepherdMovesComplete : Prop :=
  (∀ (s : State) (c : Nat) (i : SIns) (bs : List Byte) (a : Nat) (d : Loc) (cx : Cx),
    s.Fetched c i bs → s.Unary c i.n i.n i a d cx →
    let n := i.n
    let p := cx.x.psw
    let gives (r : Nat) (psw : Word) : Host.Outcome State Fault Refusal := (cx.give c n d psw r).ends c
    (i.op = 0x01 → exec (.shMov c) s = gives a (flagsM p n a)) ∧
    (i.op = 0x10 → exec (.shNeg c) s = gives (subN n 0 a 0) (flagsS p n 0 a 0)) ∧
    (i.op = 0x15 → exec (.shNot c) s = gives (2 ^ (8 * n) - 1 - a) (flagsL p n (2 ^ (8 * n) - 1 - a)))) ∧
  (∀ (s : State) (c : Nat) (i : SIns) (bs : List Byte) (a : Nat) (d : Loc) (cx : Cx),
    s.Fetched c i bs → s.Unary c i.n 8 i a d cx →
    let n := i.n
    let p := cx.x.psw
    let gives (r : Nat) (psw : Word) : Host.Outcome State Fault Refusal := (cx.give c 8 d psw r).ends c
    (i.op = 0x02 → exec (.shMovzMovs c) s = gives a (flagsM p 8 a)) ∧
    (i.op = 0x03 → exec (.shMovzMovs c) s = gives (sext n a).toNat (flagsM p 8 (sext n a).toNat)) ∧
    (i.op = 0x1D → exec (.shClzPopc c) s = gives (clz (8 * n) a) (flagsL p 8 (clz (8 * n) a))) ∧
    (i.op = 0x1E → exec (.shClzPopc c) s = gives (popc (8 * n) a) (flagsL p 8 (popc (8 * n) a)))) ∧
  (∀ (s : State) (c : Nat) (i : SIns) (bs : List Byte) (a : Nat) (d : Loc) (cx cx1 : Cx),
    s.Fetched c i bs → i.op = 0x04 → SM.loc c 0 8 (i.opd 0) (s.start c i) = .ok (.mem a, cx1) →
    SM.dst c 1 8 (i.opd 1) cx1 = .ok (d, cx) →
    exec (.shLea c) s = (cx.give c 8 d cx.x.psw a).ends c) ∧
  (∀ (s : State) (c : Nat) (i : SIns) (bs : List Byte) (a b : Nat) (cx : Cx),
    s.Fetched c i bs → s.Pair c i.n i.n i a b cx →
    (i.op = 0x1B → exec (.shCmp c) s = (cx.flags (flagsS cx.x.psw i.n a b 0)).ends c) ∧
    (i.op = 0x1C → exec (.shTst c) s = (cx.flags (flagsL cx.x.psw i.n (a &&& b))).ends c))

/-- BFEXT, BFINS and BPERM complete. For every core that fetches BFEXT or BFINS with a width of 1 to 64, or BPERM, and
may access its operands, the command answers the next state with the result and the flags written here. (R307, Table
9.7.) -/
def Obligations.ShepherdFieldsComplete : Prop :=
  ∀ (s : State) (c : Nat) (i : SIns) (bs : List Byte) (a f : Nat) (cx cx1 : Cx),
    s.Fetched c i bs → s.Pair c 8 4 i a f cx1 →
    let pos := f % 64
    let w := f / 64 % 128
    (∀ d, i.op = 0x1F → 1 ≤ w → w ≤ 64 → SM.dst c 2 8 (i.opd 2) cx1 = .ok (d, cx) →
      exec (.shBfext c) s = (cx.give c 8 d (flagsL cx.x.psw 8 (a / 2 ^ pos % 2 ^ w)) (a / 2 ^ pos % 2 ^ w)).ends c) ∧
    (∀ d old cx2, i.op = 0x20 → 1 ≤ w → w ≤ 64 → SM.loc c 2 8 (i.opd 2) cx1 = .ok (d, cx2) →
      SM.get c 2 8 d cx2 = .ok (old, cx) → (∀ x, d = .mem x → SM.mayWrite c 2 x 8 cx = .ok ((), cx)) →
      let m := (2 ^ w - 1) * 2 ^ pos % 2 ^ 64
      let r := (old &&& (2 ^ 64 - 1 - m)) ||| (a * 2 ^ pos % 2 ^ 64 &&& m)
      exec (.shBfins c) s = (cx.give c 8 d (flagsL cx.x.psw 8 r) r).ends c) ∧
    (∀ d, i.op = 0x21 → SM.dst c 2 8 (i.opd 2) cx1 = .ok (d, cx) →
      exec (.shBperm c) s = (cx.give c 8 d (flagsL cx.x.psw 8 (bperm a f)) (bperm a f)).ends c)

/-- IEEE 754 and decimal instructions complete. For every core that fetches an IEEE 754 instruction whose raised flags
are not enabled, or DADD or DSUB of decimal operands, the command answers the next state with the result and with
FFLAGS, or Z, as written here. (R336, R337, R342, R343, R344, R345, R348, R349.) -/
def Obligations.ShepherdFloatsComplete : Prop :=
  (∀ (s : State) (c : Nat) (i : SIns) (bs : List Byte) (a b : Nat) (d : Loc) (cx : Cx),
    s.Fetched c i bs → s.Binary c i.n i.n i.n i a b d cx →
    let p := cx.x.psw
    let env := pswEnv p
    let m := fmtOf i.n
    let gives (r : Nat × Nat) : Host.Outcome State Fault Refusal := (cx.give c i.n d (addFflags p r.2) r.1).ends c
    let quiet (r : Nat × Nat) : Prop := r.2 &&& pswFten p = 0
    (i.op = 0x30 → quiet (m.add env a b) → exec (.shFaddFsubFmulFdiv c) s = gives (m.add env a b)) ∧
    (i.op = 0x31 → quiet (m.sub env a b) → exec (.shFaddFsubFmulFdiv c) s = gives (m.sub env a b)) ∧
    (i.op = 0x32 → quiet (m.mul env a b) → exec (.shFaddFsubFmulFdiv c) s = gives (m.mul env a b)) ∧
    (i.op = 0x33 → quiet (m.div env a b) → exec (.shFaddFsubFmulFdiv c) s = gives (m.div env a b)) ∧
    (i.op = 0x35 → quiet (m.minMax env false a b) → exec (.shFminFmax c) s = gives (m.minMax env false a b)) ∧
    (i.op = 0x36 → quiet (m.minMax env true a b) → exec (.shFminFmax c) s = gives (m.minMax env true a b))) ∧
  (∀ (s : State) (c : Nat) (i : SIns) (bs : List Byte) (m k a : Nat) (d : Loc) (cx : Cx),
    s.Fetched c i bs → s.Unary c m k i a d cx →
    let p := cx.x.psw
    let env := pswEnv p
    let f := fmtOf i.n
    let gives (r : Nat × Nat) : Host.Outcome State Fault Refusal := (cx.give c k d (addFflags p r.2) r.1).ends c
    let quiet (r : Nat × Nat) : Prop := r.2 &&& pswFten p = 0
    (i.op = 0x34 → m = i.n → k = i.n → quiet (f.sqrt env a) → exec (.shFsqrt c) s = gives (f.sqrt env a)) ∧
    (i.op = 0x38 → m = 8 → k = i.n → quiet (f.ofInt env.rm (sgn 64 a)) →
      exec (.shFcvtif c) s = gives (f.ofInt env.rm (sgn 64 a))) ∧
    (i.op = 0x39 → m = i.n → k = 8 → quiet (f.toInt env.rm env.ftz a) →
      exec (.shFcvtfi c) s = gives (f.toInt env.rm env.ftz a)) ∧
    (i.op = 0x3A → i.n = 4 → m = 4 → k = 8 → quiet (widen env a) → exec (.shFcvtff c) s = gives (widen env a)) ∧
    (i.op = 0x3A → i.n = 8 → m = 8 → k = 4 → quiet (narrow env a) → exec (.shFcvtff c) s = gives (narrow env a))) ∧
  (∀ (s : State) (c : Nat) (i : SIns) (bs : List Byte) (a b : Nat) (cx : Cx),
    s.Fetched c i bs → i.op = 0x37 → s.Pair c i.n i.n i a b cx →
    let p := cx.x.psw
    let ftz := (pswEnv p).ftz
    let un := (fmtOf i.n).rel ftz .un a b
    let eq := ((fmtOf i.n).rel ftz .eq a b).1
    let lt := ((fmtOf i.n).rel ftz .lt a b).1
    un.2 &&& pswFten p = 0 →
    exec (.shFcmp c) s = (cx.flags (addFflags (flagsFcmp p lt eq (!lt && !eq && !un.1) un.1) un.2)).ends c) ∧
  (∀ (s : State) (c : Nat) (i : SIns) (bs : List Byte) (a b : Nat) (d : Loc) (cx : Cx),
    s.Fetched c i bs → s.Binary c 8 8 8 i a b d cx → decOk a = true → decOk b = true →
    let gives (r : Nat) : Host.Outcome State Fault Refusal := (cx.give c 8 d (setBit cx.x.psw 2 (r / 16 == 0)) r).ends c
    (i.op = 0x3B → exec (.shDaddDsub c) s = gives (decAdd false a b)) ∧
    (i.op = 0x3C → exec (.shDaddDsub c) s = gives (decAdd true a b)))

/-- Branches, CALL, SIGNAL, WAITT and TRAP complete. For every core that fetches Bcc, CALL, SIGNAL, WAITT or TRAP and
may access its operands, the command answers the next state written here: a branch is taken or not, CALL pushes its
return address, SIGNAL signals the named cores, WAITT completes or waits, TRAP enters its vector. A WAITT whose time
has come completes. (R315, R317, R319, R320, R321.) -/
def Obligations.ShepherdControlComplete : Prop :=
  ∀ (s : State) (c : Nat) (i : SIns) (bs : List Byte), s.Fetched c i bs →
    (let o := i.opd 0
     let u := if o.updates then ((s.seen c).draw.1).toNat else 0
     let cx0 : Cx := if o.updates then { s.start c i with s := (s.seen c).draw.2 } else s.start c i
     let holds := condHolds (s.start c i).x.psw (4 * (i.op - 0x22) + i.sz)
     0x22 ≤ i.op → i.op ≤ 0x25 →
      (∀ t cx, holds = true → SM.targetOf c u o cx0 = .ok (t, cx) → exec (.shBcc c) s = Cx.ends { cx with npc := t } c) ∧
      (holds = false → o.updates = false → exec (.shBcc c) s = cx0.ends c) ∧
      (∀ l cx, holds = false → o.updates = true → SM.loc c 0 u o cx0 = .ok (l, cx) → exec (.shBcc c) s = cx.ends c)) ∧
    (∀ t cx1 cx, i.op = 0x26 → SM.targetOf c 8 (i.opd 0) (s.start c i) = .ok (t, cx1) →
      let sp := cx1.x.r 7 - 8
      let a := sp.toNat % 2 ^ 48
      SM.mayWrite c 15 a 8 cx1 = .ok ((), cx) →
      exec (.shCall c) s = Cx.ends { cx with x := cx.x.setR 7 sp, npc := t, post := cx.post ++ [fun (s : State) => s.coreWrite c a 8 cx.npc] } c) ∧
    (∀ m cx, i.op = 0x27 → SM.src c 0 2 (i.opd 0) (s.start c i) = .ok (m, cx) →
      exec (.shSignal c) s = Cx.ends { cx with post := cx.post ++
        [fun (s : State) => (List.range 16).foldl (fun s k => if m.testBit k then s.signal k else s) s] } c) ∧
    (∀ t cx, i.op = 0x28 → SM.src c 0 8 (i.opd 0) (s.start c i) = .ok (t, cx) →
      (t ≤ cx.s.now.toNat → exec (.shWaitt c) s = cx.ends c) ∧
      (cx.s.now.toNat < t → exec (.shWaitt c) s =
        .next (((cx.s.updCore c (fun x => { x with waitt := BitVec.ofNat 64 t })).setSt c 3).settle))) ∧
    (∀ k cx, i.op = 0x29 → SM.src c 0 1 (i.opd 0) (s.start c i) = .ok (k, cx) →
      exec (.shTrap c) s = Cx.ends { cx with post := cx.post ++ [fun (s : State) => s.takeTrap c
        { vec := .trap, sub := k, len := i.len, insn := BitVec.ofNat 64 (ofLe ((bs.take i.len).take 8)) } (s.core c).pc] } c) ∧
    (∀ (s0 : State) t cx, s0.porst = false → s = s0.setSt c 1 → (s0.core c).st = 3 → (s0.core c).wdTrap = false →
      (s0.core c).waitt.toNat ≤ s0.now.toNat → i.op = 0x28 → SM.src c 0 8 (i.opd 0) (s.start c i) = .ok (t, cx) →
      exec (.waittExpire c) s0 = cx.ends c)

/-- MOVSR, MOVRS and CAS complete. For every core that fetches MOVSR, MOVRS of a field that its mode may write, or CAS
of a word of HBM or of the Shepherd store, the command answers the next state written here. (R300, R301, R311.) -/
def Obligations.ShepherdSpecialsComplete : Prop :=
  ∀ (s : State) (c : Nat) (i : SIns) (bs : List Byte), s.Fetched c i bs →
    (∀ d cx, i.op = 0x2A → SM.dst c 1 8 (i.opd 1) (s.start c i) = .ok (d, cx) →
      exec (.shMovsr c) s = (cx.give c 8 d cx.x.psw (cx.s.special cx.x c (i.opd 0).sel).toNat).ends c) ∧
    (∀ n cx, i.op = 0x2B → SM.src c 0 8 (i.opd 0) (s.start c i) = .ok (n, cx) →
      let v : Word := BitVec.ofNat 64 n
      let k := (i.opd 1).sel
      (k = 0 → (cx.x.priv = true ∨ (v ^^^ cx.x.psw) &&& (pswBits &&& ~~~ pswUser) = 0) →
        exec (.shMovrs c) s = (cx.flags (v &&& pswBits)).ends c) ∧
      (k = 1 → exec (.shMovrs c) s = (cx.regs { cx.x with bk := BitVec.ofNat 32 n }).ends c) ∧
      (k = 2 → exec (.shMovrs c) s = (cx.regs { cx.x with vl := BitVec.ofNat 32 n }).ends c) ∧
      (k = 3 → exec (.shMovrs c) s = (cx.regs { cx.x with tbr := v &&& ~~~ 7 }).ends c) ∧
      (k = 4 → exec (.shMovrs c) s = (cx.regs { cx.x with ksp := v }).ends c) ∧
      (k = 6 → exec (.shMovrs c) s = Cx.ends { cx with post := cx.post ++ [fun (s : State) => s.wdReload c] } c) ∧
      (k = 5 ∨ 7 ≤ k → exec (.shMovrs c) s = cx.ends c)) ∧
    (∀ e ev nv a mv cx1 cx2 cx3 cx4 cx5 cx6 cx, i.op = 0x2C → SM.loc c 0 i.n (i.opd 0) (s.start c i) = .ok (e, cx1) →
      SM.get c 0 i.n e cx1 = .ok (ev, cx2) → (∀ x, e = .mem x → SM.mayWrite c 0 x i.n cx2 = .ok ((), cx2)) →
      SM.src c 1 i.n (i.opd 1) cx2 = .ok (nv, cx3) → SM.loc c 2 i.n (i.opd 2) cx3 = .ok (.mem a, cx4) →
      SM.check 2 a i.n cx4 = .ok ((), cx5) → (region a = .hbm ∨ region a = .shep) →
      SM.get c 2 i.n (.mem a) cx5 = .ok (mv, cx6) → SM.mayWrite c 2 a i.n cx6 = .ok ((), cx) →
      exec (.shCas c) s = (cx.give c i.n (if mv = ev then .mem a else e) (setBit cx.x.psw 2 (mv == ev))
        (if mv = ev then nv else mv)).ends c)

/-- SYS instructions complete. For every core that fetches NOP, RET, RTE, WAITSIG, FENCE, ICINV, BRK or STOP in a mode
that may execute it, and may read what it reads, the command answers the next state written here; ICINV empties the
instruction cache, and WAITSIG sleeps where no signal has come, unless a Bark source is already pending for the core,
and then it completes at once. (R309, R310, R318, R325, Table 9.8.) -/
def Obligations.ShepherdSystemComplete : Prop :=
  ∀ (s : State) (c : Nat) (i : SIns) (bs : List Byte), s.Fetched c i bs → i.op = 0 →
    let cx := s.start c i
    let a := (cx.x.r 7).toNat % 2 ^ 48
    (i.fn = 0 → exec (.sysNop c) s = cx.ends c) ∧
    (∀ t cx1, i.fn = 1 → SM.read c 15 a 8 cx = .ok (t, cx1) →
      exec (.sysRet c) s = Cx.ends { cx1 with x := cx1.x.setR 7 (cx1.x.r 7 + 8), npc := t % 2 ^ 48 } c) ∧
    (∀ l cx1, i.fn = 2 → SM.words c a 8 cx = .ok (l, cx1) →
      exec (.sysRte c) s = Cx.ends { cx1 with post := cx1.post ++ [fun (s : State) => s.returnFrame c a (fun k => l.getD k 0)] } c) ∧
    (i.fn = 3 → (cx.s.core c).sig ≠ 0 ∨ cx.s.barkWakes c = true → exec (.sysWaitsig c) s = Cx.ends { cx with post :=
      [fun (s : State) => s.updCore c (fun x => { x with sigcnt := x.sig, sig := 0 })] } c) ∧
    (i.fn = 3 → (cx.s.core c).sig = 0 → cx.s.barkWakes c = false →
      exec (.sysWaitsig c) s = .next (cx.s.setSt c 2).settle) ∧
    (i.fn = 4 → exec (.sysFence c) s = cx.ends c) ∧
    (i.fn = 5 → exec (.sysIcinv c) s = Cx.ends { cx with post :=
      [fun (s : State) => s.updCore c (fun x => { x with icache := [] })] } c) ∧
    (i.fn = 6 → exec (.sysBrk c) s = Cx.ends { cx with post := [fun (s : State) => s.takeTrap c
      { vec := .break, sub := 0, len := i.len, insn := BitVec.ofNat 64 (ofLe ((bs.take i.len).take 8)) } (s.core c).pc] } c) ∧
    (i.fn = 7 → exec (.sysStop c) s = Cx.ends { cx with post := [fun (s : State) => s.setSt c 4] } c)

/-- Watchdog expiry, SHEP_WDOG and START complete. The first expiry reloads the Watchdog and traps, at once, when the
core may take it, or when a core without power has woken; the second resets the core, restarts it where RESTART is 1
(a core without power once it has woken), and raises a timeout fault; a write of SHEP_WDOG reloads; START begins a
core that is in RESET or STOPPED. An expiry acts once the instant of the count's end is past (the model's reading of
R328, log entry 63). (R327, R328, R329, R330, R332.) -/
def Obligations.WatchdogAndStartComplete : Prop :=
  (∀ (s : State) (c : Nat) (t : Word), s.porst = false → c < 16 → (s.core c).wdAt = some t → t.toNat < s.now.toNat →
    (let s1 := (s.wdReload c).putB (shp c + R.shepWdogStat) 0 true
     let s2 := s1.wakeBark c
     s.b (shp c + R.shepWdogStat) 0 = false → s1.corePowered c = true →
      ((s2.core c).inside = false → exec (.watchdogExpiry c) s = .next (s2.wdTrapNow c).settle) ∧
      ((s2.core c).inside = true → exec (.watchdogExpiry c) s = .next (s2.updCore c (fun x => { x with wdTrap := true })).settle)) ∧
    (let s1 := (s.wdReload c).putB (shp c + R.shepWdogStat) 0 true
     s.b (shp c + R.shepWdogStat) 0 = false → s1.corePowered c = false → exec (.watchdogExpiry c) s =
      .next ((s1.updCore c (fun x => { x with wdTrap := true })).react (.domWake (152 + c))).settle) ∧
    (let s1 := (s.inc (shp c + R.shepWdogStat) 63 48).coreReset c
     let again := s.b (shp c + R.shepWdog) 2
     s.b (shp c + R.shepWdogStat) 0 = true →
      (s1.corePowered c = true → exec (.watchdogExpiry c) s =
        .next ((if again then (s1.coreStart c).2 else s1).fault (shp c) .timeout).settle) ∧
      (s1.corePowered c = false → exec (.watchdogExpiry c) s =
        .next (((s1.updCore c (fun x => { x with restart := again })).react (.domWake (152 + c))).fault (shp c) .timeout).settle))) ∧
  (∀ (s : State) (c : Nat) (w : RegW) (new : Word),
    (s.Takes .shep c R.shepWdog w new →
      exec (.wdogConfigWrite c w) s = ((s.written .shep c R.shepWdog w new).wdReload c).acted w) ∧
    (let l := s.logged .shep c R.shepCoreCtl w new
     let may (t : State) : Prop := ((t.core c).st = 0 ∨ (t.core c).st = 4) ∧ t.b (shp c + R.pgErrLevel) 2 = false ∧
       t.domOn (152 + c) = true
     s.Takes .shep c R.shepCoreCtl w new → wBit w 0 = true → may s → may l →
      let pc := BitVec.ofNat 48 (l.f (shp c + R.shepStartPc) 47 0)
      exec (.coreStart c w) s = ((l.updCore c (fun x => { x with pc := pc })).setSt c 1).acted w))

/-- Hatch moves and power commands complete. For every core that fetches SETVL, HFIGET, HFISET, VBCAST, VGET or VSET
with its unit powered and may access its operands, the command answers the next state written here (VBCAST with no
active element accesses no byte of its source); the unit wakes 400 ns after it is asked for, and powers down after
4,096 instructions without a Hatch instruction. (R351, R353, R357, R358.) -/
def Obligations.HatchMovesComplete : Prop :=
  (∀ (s : State) (c : Nat) (i : SIns) (bs : List Byte), s.Fetched c i bs → i.op = 0x3E →
    let n := i.n
    let d := (i.opd 0).vec!
    (∀ r l cx, i.fn = 0x00 → s.Unary c 8 8 i r l cx →
      let v := min r (16 / n)
      exec (.setvl c) s = (((cx.regs { cx.x with vl := BitVec.ofNat 32 v }).give c 8 l (flagsM cx.x.psw 8 v) v).endsHatch c)) ∧
    (∀ l cx, i.fn = 0x08 → SM.dst c 0 8 (i.opd 0) (s.start c i) = .ok (l, cx) →
      exec (.hfiget c) s = (cx.give c 8 l cx.x.psw cx.x.hfi.toNat).endsHatch c) ∧
    (∀ v cx, i.fn = 0x09 → SM.src c 0 8 (i.opd 0) (s.start c i) = .ok (v, cx) →
      exec (.hfiset c) s = (cx.regs { cx.x with hfi := BitVec.ofNat 64 v &&& ~~~ 0xFFC0 }).endsHatch c) ∧
    (∀ l cx, i.fn = 0x05 → (s.start c i).x.active n = 0 → SM.loc c 1 0 (i.opd 1) (s.start c i) = .ok (l, cx) →
      exec (.vbcast c) s = (cx.regs (cx.x.setV d (cx.x.vreg d))).endsHatch c) ∧
    (∀ v cx, i.fn = 0x05 → (s.start c i).x.active n ≠ 0 → SM.src c 1 n (i.opd 1) (s.start c i) = .ok (v, cx) →
      exec (.vbcast c) s = (cx.regs (cx.x.setV d
        ((List.range ((s.start c i).x.active n)).foldl (fun w k => setElem w n k v) (cx.x.vreg d)))).endsHatch c) ∧
    (∀ l cx, i.fn = 0x06 → SM.dst c 0 8 (i.opd 0) (s.start c i) = .ok (l, cx) →
      exec (.vget c) s = (cx.give c 8 l cx.x.psw (elem (cx.x.vreg (i.opd 1).vec!) n (i.opd 2).k!)).endsHatch c) ∧
    (∀ v cx, i.fn = 0x07 → SM.src c 1 n (i.opd 1) (s.start c i) = .ok (v, cx) →
      exec (.vset c) s = (cx.regs (cx.x.setV d (setElem (cx.x.vreg d) n (i.opd 2).k! v))).endsHatch c)) ∧
  (∀ (s : State) (c : Nat), s.porst = false →
    (∀ t, (s.core c).hatchReq = some t → 6400 ≤ dur t s.now → exec (.hatchWake c) s =
      .next (s.updCore c (fun x => { x with hatch := true, hatchReq := none, hatchUse := x.icount, mid := true })).settle) ∧
    ((s.core c).hatch = true → 4096 ≤ dur (s.core c).hatchUse (s.core c).icount → exec (.hatchPowerDown c) s =
      .next (s.updCore c (fun x => { x with hatch := false })).settle))

/-- Hatch loads and stores complete. For every core that fetches VLD, VST, VGATHER or VSCATTER and may access every
element in turn from the first that is due, the command answers the next state in which the elements are loaded or
stored and HATCH_FAULT_INDEX.VALID is 0. (R351, R355, R356, R357.) -/
def Obligations.HatchMemoryComplete : Prop :=
  ∀ (s : State) (c : Nat) (i : SIns) (bs : List Byte) (l : Loc) (cx cx1 : Cx), s.Fetched c i bs → i.op = 0x3E →
    let n := i.n
    let x := (s.start c i).x
    let hi := x.active n
    let k0 := if bit cx.x.hfi 5 ∧ fld cx.x.hfi 63 16 = (cx.s.core c).pc.toNat then fld cx.x.hfi 4 0 else 0
    let ks := List.range' k0 (hi - k0)
    let cleared (cx : Cx) : Cx := cx.regs { cx.x with hfi := setBit cx.x.hfi 5 false }
    let loaded (cx : Cx) (vs : List Nat) : Cx := cx.regs (cx.x.setElems (i.opd 0).vec! n (ks.zip vs))
    (i.fn = 0x01 → SM.loc c 1 (n * hi) (i.opd 1) (s.start c i) = .ok (l, cx) →
      (∀ o, l = .ws o → exec (.vld c) s = (cleared (loaded cx
        (ks.map (fun k => ofLe ((List.range n).map (fun j => cx.x.wsByte (o + n * k + j))))))).endsHatch c) ∧
      (∀ a vs, l = .mem a → SM.loads c 1 n (fun k => (a + n * k) % 2 ^ 48) ks cx = .ok (vs, cx1) →
        exec (.vld c) s = (cleared (loaded cx1 vs)).endsHatch c)) ∧
    (i.fn = 0x02 → SM.loc c 1 (n * hi) (i.opd 1) (s.start c i) = .ok (l, cx) →
      (∀ o, l = .ws o → exec (.vst c) s = (cleared (cx.regs
        (ks.foldl (fun y k => y.setWs (o + n * k) (leBytes n (elem (x.vreg (i.opd 0).vec!) n k))) cx.x))).endsHatch c) ∧
      (∀ a, l = .mem a → SM.stores c 1 n (fun k => (a + n * k) % 2 ^ 48) (x.vreg (i.opd 0).vec!) ks cx = .ok ((), cx1) →
        exec (.vst c) s = (cleared cx1).endsHatch c)) ∧
    (∀ a vs, i.fn = 0x03 → SM.loc c 2 (n * hi) (i.opd 2) (s.start c i) = .ok (.mem a, cx) →
      SM.loads c 2 n (fun k => (a + n * elem (x.vreg (i.opd 1).vec!) n k) % 2 ^ 48) ks cx = .ok (vs, cx1) →
      exec (.vgather c) s = (cleared (loaded cx1 vs)).endsHatch c) ∧
    (∀ a, i.fn = 0x04 → SM.loc c 2 (n * hi) (i.opd 2) (s.start c i) = .ok (.mem a, cx) →
      SM.stores c 2 n (fun k => (a + n * elem (x.vreg (i.opd 1).vec!) n k) % 2 ^ 48) (x.vreg (i.opd 0).vec!) ks cx =
        .ok ((), cx1) →
      exec (.vscatter c) s = (cleared cx1).endsHatch c)

/-- Hatch element instructions complete. For every core that fetches an element-wise Hatch instruction with its unit
powered, the command answers the next state in which each active element of the destination holds the result written
here and the others are kept; IEEE 754 ones complete where no raised flag is enabled. (R350, R351, R354, Table 10.5.)
-/
def Obligations.HatchElementsComplete : Prop :=
  ∀ (s : State) (c : Nat) (i : SIns) (bs : List Byte), s.Fetched c i bs → i.op = 0x3E →
    let n := i.n
    let w := 8 * n
    let x := (s.start c i).x
    let d := (i.opd 0).vec!
    let a := x.vreg (i.opd 1).vec!
    let b : BitVec 128 := match i.opd 2 with | .vec r => x.vreg r | _ => 0
    let k := (i.opd 2).k!
    let ks := List.range (x.active n)
    let gives (g : Nat → Nat → Nat) : Host.Outcome State Fault Refusal := ((s.start c i).regs
      (x.setV d (ks.foldl (fun v j => setElem v n j (g (elem a n j) (elem b n j))) (x.vreg d)))).endsHatch c
    let floats (g : Nat → Nat → Nat × Nat) (q : Host.Outcome State Fault Refusal) : Prop :=
      let res := ks.map (fun j => g (elem a n j) (elem b n j))
      let fl := res.foldl (fun f r => f ||| r.2) 0
      fl &&& pswFten x.psw = 0 → q =
        (((s.start c i).regs (x.setV d (res.zipIdx.foldl (fun v r => setElem v n r.2 r.1.1) (x.vreg d)))).flags
          (addFflags x.psw fl)).endsHatch c
    let m := fmtOf n
    let env := pswEnv x.psw
    (i.fn = 0x10 → exec (.vaddVsubVmul c) s = gives (fun a b => (a + b) % 2 ^ w)) ∧
    (i.fn = 0x11 → exec (.vaddVsubVmul c) s = gives (fun a b => subN n a b 0)) ∧
    (i.fn = 0x12 → exec (.vaddVsubVmul c) s = gives (fun a b => a * b % 2 ^ w)) ∧
    (i.fn = 0x13 → exec (.vaddssVsubss c) s = gives (fun a b => satS n (sgn w a + sgn w b))) ∧
    (i.fn = 0x14 → exec (.vaddssVsubss c) s = gives (fun a b => satS n (sgn w a - sgn w b))) ∧
    (i.fn = 0x15 → exec (.vaddsuVsubsu c) s = gives (fun a b => satU n ((a : Int) + b))) ∧
    (i.fn = 0x16 → exec (.vaddsuVsubsu c) s = gives (fun a b => satU n ((a : Int) - b))) ∧
    (i.fn = 0x17 → exec (.vmulhrs c) s =
      gives (fun a b => satS n ((sgn w a * sgn w b + (2 ^ (w - 2) : Nat)) / (2 ^ (w - 1) : Nat)))) ∧
    (i.fn = 0x18 → exec (.vrshr c) s = gives (fun a _ => unsgn w ((sgn w a + (2 ^ (k - 1) : Nat)) / (2 ^ k : Nat)))) ∧
    (i.fn = 0x19 → exec (.vshl c) s = gives (fun a _ => a * 2 ^ k % 2 ^ w)) ∧
    (i.fn = 0x1A → exec (.vminsVmaxsVminuVmaxu c) s = gives (fun a b => if sgn w a < sgn w b then a else b)) ∧
    (i.fn = 0x1B → exec (.vminsVmaxsVminuVmaxu c) s = gives (fun a b => if sgn w a < sgn w b then b else a)) ∧
    (i.fn = 0x1C → exec (.vminsVmaxsVminuVmaxu c) s = gives (fun a b => min a b)) ∧
    (i.fn = 0x1D → exec (.vminsVmaxsVminuVmaxu c) s = gives (fun a b => max a b)) ∧
    (i.fn = 0x20 → exec (.vandVorVxor c) s = gives (fun a b => a &&& b)) ∧
    (i.fn = 0x21 → exec (.vandVorVxor c) s = gives (fun a b => a ||| b)) ∧
    (i.fn = 0x22 → exec (.vandVorVxor c) s = gives (fun a b => a ^^^ b)) ∧
    (i.fn = 0x24 → exec (.vcmpeqVcmpltVcmpltu c) s = gives (fun a b => if a = b then 2 ^ w - 1 else 0)) ∧
    (i.fn = 0x25 → exec (.vcmpeqVcmpltVcmpltu c) s = gives (fun a b => if sgn w a < sgn w b then 2 ^ w - 1 else 0)) ∧
    (i.fn = 0x26 → exec (.vcmpeqVcmpltVcmpltu c) s = gives (fun a b => if a < b then 2 ^ w - 1 else 0)) ∧
    (i.fn = 0x30 → floats (fun a b => m.add env a b) (exec (.vfaddVfsubVfmul c) s)) ∧
    (i.fn = 0x31 → floats (fun a b => m.sub env a b) (exec (.vfaddVfsubVfmul c) s)) ∧
    (i.fn = 0x32 → floats (fun a b => m.mul env a b) (exec (.vfaddVfsubVfmul c) s)) ∧
    (i.fn = 0x33 → floats (fun a b => m.minMax env false a b) (exec (.vfminVfmax c) s)) ∧
    (i.fn = 0x34 → floats (fun a b => m.minMax env true a b) (exec (.vfminVfmax c) s))

/-- A step takes the command at the front of the queue. A step of a state with command c in front of its queue is exec
of c on the state with the queue's rest. On an empty queue pack time advances by one tick once PORST_N is released,
and nothing happens before (the model's choice, log entry 1). The table gives no row any bits, so no word spells a
command. (R8, R571, 00_scope.md.) -/
def Obligations.StepTakesFront : Prop :=
  (∀ (c : Instr) (s : State), step { s with pending := c :: s.pending } = exec c s) ∧
  (∀ s : State, s.pending = [] → s.porst = false → step s = .next { s with now := s.now + 1 }) ∧
  (∀ s : State, s.pending = [] → s.porst = true → step s = .next s) ∧
  (∀ (s : State) (n w : Nat), s.withFetchWord n w = s)

/-- The state after reset. In State.reset PORST_N is low (the model's choice, log entry 6), the queue and the ledger
are empty, every core is in RESET with PSW 0x0300_0000 and its other registers 0, and every register of the control
window reads its reset value. (R331, Table 9.11, Table 0.2.) -/
def Obligations.ResetState : Prop :=
  let s := State.reset
  s.porst = true ∧ s.pending = [] ∧ s.ledger.next = 0 ∧ s.ctxNext = 1 ∧
  (∀ c, (s.core c).st = 0 ∧ (s.core c).psw = 0x3000000 ∧ (s.core c).pc = 0 ∧ (s.core c).tbr = 0 ∧ (s.core c).icount = 0 ∧
    (s.core c).sig = 0 ∧ (s.core c).wdAt = none ∧ ∀ r, (s.core c).r r = 0) ∧
  (∀ o, s.reg o = regReset o)

/-- While PORST_N is low nothing moves. In a state with PORST_N low every command but power-on reset, PORST_N release
and the two of a brown-out leaves the state as it is, and a step that takes no such command keeps PORST_N low and
changes nothing but the queue. (R571, R572, R17.) -/
def Obligations.HeldInReset : Prop :=
  let frees : Instr → Bool := fun c => match c with
    | .powerOnReset | .brownOut | .porstNRelease _ | .brownOutRelease => true
    | _ => false
  (∀ (c : Instr) (s : State), s.porst = true → frees c = false → exec c s = .next s) ∧
  (∀ s t : State, s.porst = true → (∀ c rest, s.pending = c :: rest → frees c = false) → step s = .next t →
    t.porst = true ∧ t = { s with pending := s.pending.tail })

/-- Every command goes on, a reserved DMA operation apart. No command faults, whatever the state and its operands:
exec answers a next state, or refuses a COPY, FILL or PROOF of a DMA channel whose oldest unfinished descriptor has
the reserved OP 3 (log entry 21). (R414.) -/
def Obligations.CommandsGoOn : Prop :=
  ∀ (c : Instr) (s : State),
    Safe (exec c s) ∨
    (exec c s = .refused .reservedDescriptor ∧ s.porst = false ∧
      ∃ ch, s.dmaOp3 ch = true ∧ (c = .dmaCopy ch ∨ c = .dmaFill ch ∨ c = .dmaProof ch))

/-- HBM addresses and controllers correspond one to one. For every address of the HBM range, its controller is the XOR
of its fifteen 2-bit groups, its local address is as R425 says and below 22.5 GiB, and the two give the address back.
For every controller and local address below 22.5 GiB, the address is formed with the one value of b that makes the
XOR the controller, and gives both back. (R425.) -/
def Obligations.HbmAddresses : Prop :=
  (∀ a, a < hbmEnd →
    hbmUnit a = ((List.range 15).map (fun i => a / 2 ^ (8 + 2 * i) % 4)).foldl Nat.xor 0 ∧ hbmUnit a < 4 ∧
    hbmLocal a = a / 2 ^ 10 % 2 ^ 28 * 256 + a % 256 ∧ hbmLocal a < 24159191040 ∧
    hbmDevice (hbmUnit a) (hbmLocal a) = a) ∧
  (∀ u l, u < 4 → l < 24159191040 →
    ∃ b, b < 4 ∧ hbmDevice u l = l / 256 * 1024 + b * 256 + l % 256 ∧ hbmUnit (hbmDevice u l) = u ∧
      hbmLocal (hbmDevice u l) = l)

/-- A 32-bit write changes only its half of a register. Registers are 64 bits wide; an access of 8 bytes addresses all
of one, an access of 4 bytes its lower half at the register's offset or its upper half at offset + 4, of which a read
returns the half addressed; every write that takes effect leaves the bits outside its half as they were. (R13.) -/
def Obligations.HalfWrites : Prop :=
  (sizeMask .d64 = BitVec.allOnes 64 ∧ sizeMask .lo32 = 0xFFFFFFFF ∧ sizeMask .hi32 = 0xFFFFFFFF00000000) ∧
  (∀ a, ctlPart a 8 = .d64 ∧ (a % 8 = 0 → ctlPart a 4 = .lo32) ∧ (a % 8 = 4 → ctlPart a 4 = .hi32)) ∧
  (∀ v, halfOf .d64 v = v ∧ halfOf .lo32 v = BitVec.ofNat 64 (fld v 31 0) ∧ halfOf .hi32 v = BitVec.ofNat 64 (fld v 63 32)) ∧
  (∀ (s : State) (b : PKind) (p o : Nat) (w : RegW) (new : Word), s.Takes b p o w new →
    ((s.written b p o w new).reg (pageAt b p + o)) &&& ~~~ sizeMask w.size =
      ((s.logged b p o w new).reg (pageAt b p + o)) &&& ~~~ sizeMask w.size)

/-- Workspace operands. A WS specifier names the bytes from 16 × s + 8 × H; the operand is read and written without a
trap as n consecutive bytes from there, and a write changes neither other bytes of the workspace nor a general
register. (R302.) -/
def Obligations.WorkspaceOperands : Prop :=
  (∀ (sp : Nat) (b : Byte), sp / 16 = 1 → opdOf sp [b] = .ws (16 * b.toNat + 8 * (sp / 8 % 2))) ∧
  (∀ (c k n off : Nat) (cx : Cx), SM.src c k n (.ws off) cx =
      .ok (ofLe ((List.range n).map (fun i => cx.x.wsByte (off + i))), cx) ∧
    SM.dst c k n (.ws off) cx = .ok (.ws off, cx)) ∧
  (∀ (c n off v : Nat) (p : Word) (cx : Cx),
    (∀ i, i < n → (cx.give c n (.ws off) p v).x.wsByte (off + i) = BitVec.ofNat 8 (v / 2 ^ (8 * i))) ∧
    (∀ i, i < off ∨ off + n ≤ i → (cx.give c n (.ws off) p v).x.wsByte i = cx.x.wsByte i) ∧
    ∀ r, (cx.give c n (.ws off) p v).x.r r = cx.x.r r)

/-- The frame of a register write. A write of a register without an operation of its own changes no other register but
PG_LEDG_SEQ of its page and, where the ledger ring is full, LEDG_CNT and LEDG_PROD; no byte of memory, core, tile,
hub, port, subchannel, hold, DMA channel, Kennel state, link or brace state changes; and the ledger holds one more
record, of the write as it was applied. (R15, R528, R529, R531.) -/
def Obligations.RegisterWriteFrame : Prop :=
  ∀ (s : State) (off : BitVec 24) (b : PKind) (p o : Nat) (w : RegW) (new : Word),
    off.toNat = pageAt b p + o → hookOf b p o = {} → s.Takes b p o w new →
    ∃ t : State, exec (.registerWrite off w) s = t.acted w ∧
      (∀ x, x ≠ pageAt b p + o → x ≠ pageAt b p + R.pgLedgSeq → x ≠ pageAt .ledg 0 + R.ledgCnt →
        x ≠ pageAt .ledg 0 + R.ledgProd → t.reg x = s.reg x) ∧
      (∀ a, t.byte a = s.byte a) ∧ t.cores = s.cores ∧ t.tiles = s.tiles ∧ t.hubs = s.hubs ∧ t.ports = s.ports ∧
      t.ret = s.ret ∧ t.holds = s.holds ∧ t.dma = s.dma ∧ t.ken = s.ken ∧ t.links = s.links ∧ t.brace = s.brace ∧
      t.ledger.next = s.ledger.next + 1 ∧
      (let r : LRec := SMap.get {} t.ledger.recs (s.ledger.next.toNat % 4096)
       r.seq = s.ledger.next.toNat ∧ r.kind = 0 ∧ r.applied = true ∧ r.origin = w.origin ∧ r.time = s.now ∧
       r.off = off.toNat ∧ r.old = s.view off.toNat ∧ r.data = placed w)

/-- The frame of ADD and SUB. What ADD and SUB of a core change: the destination, zero above the operand in a
register; the four flags; the PC and ICOUNT. Every other register, special register, vector register, workspace byte,
other core and byte of memory is as it was after the operands were read. A result in HBM or in the Shepherd store
changes the bytes from the destination address on, and no other. (R304, R305, R307, Table 9.5.) -/
def Obligations.ShepherdFrame : Prop :=
  ∀ (s : State) (c : Nat) (i : SIns) (bs : List Byte) (a b : Nat) (d : Loc) (cx : Cx),
    s.Fetched c i bs → s.Binary c i.n i.n i.n i a b d cx → cx.post = [] → (cx.s.core c).wdTrap = false →
    (∀ e, d = .mem e → region e = .hbm ∨ region e = .shep) → (i.op = 0x05 ∨ i.op = 0x06) →
    let n := i.n
    let r := if i.op = 0x05 then (a + b) % 2 ^ (8 * n) else subN n a b 0
    ∃ t : State, exec (.shAddSub c) s = .next t.settle ∧
      (∀ k, d = .reg k → (t.core c).r k = BitVec.ofNat 64 r) ∧
      (∀ j, d ≠ .reg j → (t.core c).r j = cx.x.r j) ∧
      (∀ o, d = .ws o → ∀ j, j < o ∨ o + n ≤ j → (t.core c).wsByte j = cx.x.wsByte j) ∧
      ((∀ o, d ≠ .ws o) → (t.core c).ws = cx.x.ws) ∧
      fld (t.core c).psw 63 4 = fld cx.x.psw 63 4 ∧ (t.core c).bk = cx.x.bk ∧ (t.core c).vl = cx.x.vl ∧
      (t.core c).tbr = cx.x.tbr ∧ (t.core c).ksp = cx.x.ksp ∧ (t.core c).hfi = cx.x.hfi ∧ (t.core c).v = cx.x.v ∧
      (t.core c).sigcnt = (cx.s.core c).sigcnt ∧ (t.core c).icount = (cx.s.core c).icount + 1 ∧
      (t.core c).pc = BitVec.ofNat 48 cx.npc ∧
      (∀ m, m ≠ c → t.core m = cx.s.core m) ∧
      ((∀ e, d ≠ .mem e) → ∀ x, t.byte x = cx.s.byte x) ∧
      (∀ e, d = .mem e → cx.s.engineStatus e n true = .ok →
        (∀ x, x < e ∨ e + n ≤ x → t.byte x = cx.s.byte x) ∧
        ∀ j, j < n → t.byte (e + j) = BitVec.ofNat 8 (r / 2 ^ (8 * j)))

/-- C, V, Z and N of sums and differences. For operands of 1, 2, 4 and 8 bytes and a carry or borrow, class A and
class S set C to the carry out or the borrow, V exactly where the signed sum or difference leaves the signed range, Z
where the result is 0, N to its sign bit, and keep the rest of the PSW. (Table 9.5, R300.) -/
def Obligations.FlagArithmetic : Prop :=
  ∀ (psw : Word) (n a b k : Nat), n ∈ [1, 2, 4, 8] → a < 2 ^ (8 * n) → b < 2 ^ (8 * n) → k ≤ 1 →
    let w := 8 * n
    let lim : Int := (2 ^ (w - 1) : Nat)
    let out (v : Int) : Bool := decide (v < -lim ∨ lim ≤ v)
    (let p := flagsA psw n a b k
     let r := (a + b + k) % 2 ^ w
     pswC p = decide (2 ^ w ≤ a + b + k) ∧ pswV p = out (sgn w a + sgn w b + k) ∧ pswZ p = decide (r = 0) ∧
     pswN p = decide (2 ^ (w - 1) ≤ r) ∧ fld p 63 4 = fld psw 63 4) ∧
    (let p := flagsS psw n a b k
     let r := subN n a b k
     pswC p = decide (a < b + k) ∧ pswV p = out (sgn w a - sgn w b - k) ∧ pswZ p = decide (r = 0) ∧
     pswN p = decide (2 ^ (w - 1) ≤ r) ∧ fld p 63 4 = fld psw 63 4)

/-- Taking a trap. Where the selected stack is aligned and the frame and the handler address can be accessed, taking a
trap writes the eight words of the frame at the selected stack − 64, sets B7 to that address and PRIV to 1, keeps the
other PSW fields and registers, goes on at the address held at TBR + 8 × vector, and changes no other byte of memory.
(R323, R324, Table 9.10.) -/
def Obligations.TrapEntry : Prop :=
  ∀ (s : State) (c : Nat) (i : TrapInfo) (pc : BitVec 48) (s1 s2 : State) (bs : List Byte),
    let x := s.core c
    let sp := (if x.priv then x.r 7 else x.ksp) - 64
    let e := sp.toNat % 2 ^ 48
    let words : List Word := [pc.zeroExtend 64, x.psw, i.word2, i.addr, x.r 7, x.bk.zeroExtend 64, i.insn, s.now]
    sp.toNat % 8 = 0 →
    (s.inc (shp c + R.shepCoreStat) 63 32).memWrite e (words.flatMap (fun w => leBytes 8 w.toNat)) = (.ok, s1) →
    (s1.updCore c (fun y => { y.setR 7 sp with psw := setBit y.psw 25 true })).memRead
      ((x.tbr.toNat + 8 * i.vec.num) % 2 ^ 48) 8 = (.ok, bs, s2) →
    let t := s.takeTrap c i pc
    (t.core c).r 7 = sp ∧ (t.core c).psw = setBit x.psw 25 true ∧ (t.core c).pc = BitVec.ofNat 48 (ofLe bs) ∧
    (t.core c).st = 1 ∧ (∀ j, j ≠ 7 → (t.core c).r j = x.r j) ∧ (t.core c).bk = x.bk ∧ (t.core c).ksp = x.ksp ∧
    (t.core c).tbr = x.tbr ∧ (t.core c).ws = x.ws ∧ (t.core c).v = x.v ∧
    (∀ k, k < 8 → t.rd64 (e + 8 * k) = words.getD k 0) ∧
    (∀ a, a < e ∨ e + 64 ≤ a → t.byte a = s.byte a)

/-- The frame of a firing. A firing of COPY, CONST, ADD, SUB, MUL, AND, OR, XOR, ANDN or a shift or rotate changes no
byte of memory, core, hub, Plate, port, subchannel, hold, waiter, DMA channel, Kennel, pack or brace state, nor the
contexts' free list or the time, before what the command sets going. (R77, R82.) -/
def Obligations.FiringFrame : Prop :=
  ∀ (s : State) (t p : Nat) (f : Firing), s.Fires t p f →
    let kept (o : Host.Outcome State Fault Refusal) : Prop := ∃ u : State, o = .next u.settle ∧ (∀ a, u.byte a = s.byte a) ∧
      u.cores = s.cores ∧ u.hubs = s.hubs ∧ u.plates = s.plates ∧ u.ports = s.ports ∧ u.ret = s.ret ∧ u.holds = s.holds ∧
      u.waiters = s.waiters ∧ u.dma = s.dma ∧ u.ken = s.ken ∧ u.pack = s.pack ∧ u.brace = s.brace ∧
      u.ctxNext = s.ctxNext ∧ u.ctxTail = s.ctxTail ∧ u.now = s.now
    (sOp f.slot = 1 → kept (exec (.copy t p) s)) ∧
    (sOp f.slot = 3 → kept (exec (.const t p) s)) ∧
    (sOp f.slot = 0x100 ∨ sOp f.slot = 0x101 → kept (exec (.addSub t p) s)) ∧
    (sOp f.slot = 0x102 → kept (exec (.mul t p) s)) ∧
    (0x110 ≤ sOp f.slot → sOp f.slot ≤ 0x113 → kept (exec (.andOrXorAndn t p) s)) ∧
    (0x115 ≤ sOp f.slot → sOp f.slot ≤ 0x119 → kept (exec (.shlShrSarRolRor t p) s))

/-- The routes after reset are valid and lead back. For all pairs of nodes the route that reset fills into bank 0 is
valid under R440 and ends at its node, its reversal ends at the source, and the entry of bank 1 is invalid. (R439,
R440, R444.) -/
def Obligations.DefaultRoutes : Prop :=
  ∀ src dst, src < 160 → dst < 160 →
    routeValid src dst (xyRoute src dst) = true ∧ routeEnd dst (rrouteOf (xyRoute src dst)) = some src ∧
    State.reset.route src 0 dst = BitVec.ofNat 64 (xyRoute src dst + 2 ^ 48) ∧ State.reset.route src 1 dst = 0

/-- Faults of Shepherd instructions. RTE, ICINV and STOP in user mode trap with PRIVILEGE; an ADD or SUB whose first
operand faults takes that trap, with the state as it was but for the trap; an FDIV that raises an enabled exception
traps with FP and the raised flags; a fetch from an HBM controller without power waits, and asks for its wake. (R301, R308, R321, R322, R345.) -/
def Obligations.ShepherdFaults : Prop :=
  ∀ (s : State) (c : Nat) (i : SIns) (bs : List Byte),
    (s.coreReady c = true → (s.core c).wdTrap = false → s.fetchWaits c = none → (s.seen c).fetchBytes c (s.core c).pc.toNat 12 = (bs, none) →
      decodeShep bs = .ins i → i.op = 0 → (s.core c).priv = false →
      let traps : Host.Outcome State Fault Refusal :=
        .next ((s.seen c).shTrap c .privilege (some 0) 15 0 (some i.len) bs).settle
      (i.fn = 2 → exec (.sysRte c) s = traps) ∧ (i.fn = 5 → exec (.sysIcinv c) s = traps) ∧
      (i.fn = 7 → exec (.sysStop c) s = traps)) ∧
    (∀ s1, s.coreReady c = true → (s.core c).wdTrap = false → s.fetchWaits c = some s1 →
      exec (.shAddSub c) s = .next s1.settle ∧ exec (.sysRte c) s = .next s1.settle) ∧
    (∀ vec sub k a s1, s.Fetched c i bs → (i.op = 0x05 ∨ i.op = 0x06) →
      SM.src c 0 i.n (i.opd 0) (s.start c i) = .error (.trap vec sub k a s1) →
      exec (.shAddSub c) s = .next (s1.shTrap c vec sub k a (some i.len) bs).settle) ∧
    (∀ a b d cx, s.Fetched c i bs → s.Binary c i.n i.n i.n i a b d cx → i.op = 0x33 →
      let r := (fmtOf i.n).div (pswEnv cx.x.psw) a b
      r.2 &&& pswFten cx.x.psw ≠ 0 →
      exec (.shFaddFsubFmulFdiv c) s = .next (cx.s.shTrap c .fp (some r.2) 15 0 (some i.len) bs).settle)
end

