-- ==== Sys2Proof/Laws/State.lean ====
section
/-! SUPPORT. One lemma for each field and each update of State: every field but the one that the update names stays. -/

namespace Sys2Proof.Machine

variable (s : State)

/-! ## setReg -/

@[simp] theorem State.setReg_pending (o : Nat) (w : Word) : (s.setReg o w).pending = s.pending := rfl
@[simp] theorem State.setReg_mem (o : Nat) (w : Word) : (s.setReg o w).mem = s.mem := rfl
@[simp] theorem State.setReg_out (o : Nat) (w : Word) : (s.setReg o w).out = s.out := rfl
@[simp] theorem State.setReg_reactions (o : Nat) (w : Word) : (s.setReg o w).reactions = s.reactions := rfl
@[simp] theorem State.setReg_freeCtr (o : Nat) (w : Word) : (s.setReg o w).freeCtr = s.freeCtr := rfl
@[simp] theorem State.setReg_now (o : Nat) (w : Word) : (s.setReg o w).now = s.now := rfl
@[simp] theorem State.setReg_porst (o : Nat) (w : Word) : (s.setReg o w).porst = s.porst := rfl
@[simp] theorem State.setReg_brown (o : Nat) (w : Word) : (s.setReg o w).brown = s.brown := rfl
@[simp] theorem State.setReg_pinLow (o : Nat) (w : Word) : (s.setReg o w).pinLow = s.pinLow := rfl
@[simp] theorem State.setReg_rom (o : Nat) (w : Word) : (s.setReg o w).rom = s.rom := rfl
@[simp] theorem State.setReg_turns (o : Nat) (w : Word) : (s.setReg o w).turns = s.turns := rfl
@[simp] theorem State.setReg_wakeAsk (o : Nat) (w : Word) : (s.setReg o w).wakeAsk = s.wakeAsk := rfl
@[simp] theorem State.setReg_govAt (o : Nat) (w : Word) : (s.setReg o w).govAt = s.govAt := rfl
@[simp] theorem State.setReg_capFrom (o : Nat) (w : Word) : (s.setReg o w).capFrom = s.capFrom := rfl
@[simp] theorem State.setReg_fuses (o : Nat) (w : Word) : (s.setReg o w).fuses = s.fuses := rfl
@[simp] theorem State.setReg_ledger (o : Nat) (w : Word) : (s.setReg o w).ledger = s.ledger := rfl
@[simp] theorem State.setReg_timers (o : Nat) (w : Word) : (s.setReg o w).timers = s.timers := rfl
@[simp] theorem State.setReg_frst (o : Nat) (w : Word) : (s.setReg o w).frst = s.frst := rfl
@[simp] theorem State.setReg_devReset (o : Nat) (w : Word) : (s.setReg o w).devReset = s.devReset := rfl
@[simp] theorem State.setReg_parked (o : Nat) (w : Word) : (s.setReg o w).parked = s.parked := rfl
@[simp] theorem State.setReg_host (o : Nat) (w : Word) : (s.setReg o w).host = s.host := rfl
@[simp] theorem State.setReg_wfail (o : Nat) (w : Word) : (s.setReg o w).wfail = s.wfail := rfl
@[simp] theorem State.setReg_plast (o : Nat) (w : Word) : (s.setReg o w).plast = s.plast := rfl
@[simp] theorem State.setReg_failArr (o : Nat) (w : Word) : (s.setReg o w).failArr = s.failArr := rfl
@[simp] theorem State.setReg_tally (o : Nat) (w : Word) : (s.setReg o w).tally = s.tally := rfl
@[simp] theorem State.setReg_tiles (o : Nat) (w : Word) : (s.setReg o w).tiles = s.tiles := rfl
@[simp] theorem State.setReg_ctxNext (o : Nat) (w : Word) : (s.setReg o w).ctxNext = s.ctxNext := rfl
@[simp] theorem State.setReg_ctxTail (o : Nat) (w : Word) : (s.setReg o w).ctxTail = s.ctxTail := rfl
@[simp] theorem State.setReg_ctxQueue (o : Nat) (w : Word) : (s.setReg o w).ctxQueue = s.ctxQueue := rfl
@[simp] theorem State.setReg_ctxs (o : Nat) (w : Word) : (s.setReg o w).ctxs = s.ctxs := rfl
@[simp] theorem State.setReg_qmHeld (o : Nat) (w : Word) : (s.setReg o w).qmHeld = s.qmHeld := rfl
@[simp] theorem State.setReg_bufs (o : Nat) (w : Word) : (s.setReg o w).bufs = s.bufs := rfl
@[simp] theorem State.setReg_heldFlits (o : Nat) (w : Word) : (s.setReg o w).heldFlits = s.heldFlits := rfl
@[simp] theorem State.setReg_flitId (o : Nat) (w : Word) : (s.setReg o w).flitId = s.flitId := rfl
@[simp] theorem State.setReg_routes (o : Nat) (w : Word) : (s.setReg o w).routes = s.routes := rfl
@[simp] theorem State.setReg_outst (o : Nat) (w : Word) : (s.setReg o w).outst = s.outst := rfl
@[simp] theorem State.setReg_txNext (o : Nat) (w : Word) : (s.setReg o w).txNext = s.txNext := rfl
@[simp] theorem State.setReg_inbox (o : Nat) (w : Word) : (s.setReg o w).inbox = s.inbox := rfl
@[simp] theorem State.setReg_wakeFlits (o : Nat) (w : Word) : (s.setReg o w).wakeFlits = s.wakeFlits := rfl
@[simp] theorem State.setReg_wakeSince (o : Nat) (w : Word) : (s.setReg o w).wakeSince = s.wakeSince := rfl
@[simp] theorem State.setReg_prbCnt (o : Nat) (w : Word) : (s.setReg o w).prbCnt = s.prbCnt := rfl
@[simp] theorem State.setReg_domOrg (o : Nat) (w : Word) : (s.setReg o w).domOrg = s.domOrg := rfl
@[simp] theorem State.setReg_domHeld (o : Nat) (w : Word) : (s.setReg o w).domHeld = s.domHeld := rfl
@[simp] theorem State.setReg_niDest (o : Nat) (w : Word) : (s.setReg o w).niDest = s.niDest := rfl
@[simp] theorem State.setReg_hbmc (o : Nat) (w : Word) : (s.setReg o w).hbmc = s.hbmc := rfl
@[simp] theorem State.setReg_holds (o : Nat) (w : Word) : (s.setReg o w).holds = s.holds := rfl
@[simp] theorem State.setReg_waiters (o : Nat) (w : Word) : (s.setReg o w).waiters = s.waiters := rfl
@[simp] theorem State.setReg_notices (o : Nat) (w : Word) : (s.setReg o w).notices = s.notices := rfl
@[simp] theorem State.setReg_dma (o : Nat) (w : Word) : (s.setReg o w).dma = s.dma := rfl
@[simp] theorem State.setReg_ken (o : Nat) (w : Word) : (s.setReg o w).ken = s.ken := rfl
@[simp] theorem State.setReg_cores (o : Nat) (w : Word) : (s.setReg o w).cores = s.cores := rfl
@[simp] theorem State.setReg_hubs (o : Nat) (w : Word) : (s.setReg o w).hubs = s.hubs := rfl
@[simp] theorem State.setReg_plates (o : Nat) (w : Word) : (s.setReg o w).plates = s.plates := rfl
@[simp] theorem State.setReg_ports (o : Nat) (w : Word) : (s.setReg o w).ports = s.ports := rfl
@[simp] theorem State.setReg_links (o : Nat) (w : Word) : (s.setReg o w).links = s.links := rfl
@[simp] theorem State.setReg_packRt (o : Nat) (w : Word) : (s.setReg o w).packRt = s.packRt := rfl
@[simp] theorem State.setReg_brace (o : Nat) (w : Word) : (s.setReg o w).brace = s.brace := rfl
@[simp] theorem State.setReg_pack (o : Nat) (w : Word) : (s.setReg o w).pack = s.pack := rfl
@[simp] theorem State.setReg_gauges (o : Nat) (w : Word) : (s.setReg o w).gauges = s.gauges := rfl
@[simp] theorem State.setReg_timeOffs (o : Nat) (w : Word) : (s.setReg o w).timeOffs = s.timeOffs := rfl
@[simp] theorem State.setReg_ret (o : Nat) (w : Word) : (s.setReg o w).ret = s.ret := rfl
@[simp] theorem State.setReg_tripHot (o : Nat) (w : Word) : (s.setReg o w).tripHot = s.tripHot := rfl

/-! ## putF -/

@[simp] theorem State.putF_pending (o hi lo v : Nat) : (s.putF o hi lo v).pending = s.pending := rfl
@[simp] theorem State.putF_mem (o hi lo v : Nat) : (s.putF o hi lo v).mem = s.mem := rfl
@[simp] theorem State.putF_out (o hi lo v : Nat) : (s.putF o hi lo v).out = s.out := rfl
@[simp] theorem State.putF_reactions (o hi lo v : Nat) : (s.putF o hi lo v).reactions = s.reactions := rfl
@[simp] theorem State.putF_freeCtr (o hi lo v : Nat) : (s.putF o hi lo v).freeCtr = s.freeCtr := rfl
@[simp] theorem State.putF_now (o hi lo v : Nat) : (s.putF o hi lo v).now = s.now := rfl
@[simp] theorem State.putF_porst (o hi lo v : Nat) : (s.putF o hi lo v).porst = s.porst := rfl
@[simp] theorem State.putF_brown (o hi lo v : Nat) : (s.putF o hi lo v).brown = s.brown := rfl
@[simp] theorem State.putF_pinLow (o hi lo v : Nat) : (s.putF o hi lo v).pinLow = s.pinLow := rfl
@[simp] theorem State.putF_rom (o hi lo v : Nat) : (s.putF o hi lo v).rom = s.rom := rfl
@[simp] theorem State.putF_turns (o hi lo v : Nat) : (s.putF o hi lo v).turns = s.turns := rfl
@[simp] theorem State.putF_wakeAsk (o hi lo v : Nat) : (s.putF o hi lo v).wakeAsk = s.wakeAsk := rfl
@[simp] theorem State.putF_govAt (o hi lo v : Nat) : (s.putF o hi lo v).govAt = s.govAt := rfl
@[simp] theorem State.putF_capFrom (o hi lo v : Nat) : (s.putF o hi lo v).capFrom = s.capFrom := rfl
@[simp] theorem State.putF_fuses (o hi lo v : Nat) : (s.putF o hi lo v).fuses = s.fuses := rfl
@[simp] theorem State.putF_ledger (o hi lo v : Nat) : (s.putF o hi lo v).ledger = s.ledger := rfl
@[simp] theorem State.putF_timers (o hi lo v : Nat) : (s.putF o hi lo v).timers = s.timers := rfl
@[simp] theorem State.putF_frst (o hi lo v : Nat) : (s.putF o hi lo v).frst = s.frst := rfl
@[simp] theorem State.putF_devReset (o hi lo v : Nat) : (s.putF o hi lo v).devReset = s.devReset := rfl
@[simp] theorem State.putF_parked (o hi lo v : Nat) : (s.putF o hi lo v).parked = s.parked := rfl
@[simp] theorem State.putF_host (o hi lo v : Nat) : (s.putF o hi lo v).host = s.host := rfl
@[simp] theorem State.putF_wfail (o hi lo v : Nat) : (s.putF o hi lo v).wfail = s.wfail := rfl
@[simp] theorem State.putF_plast (o hi lo v : Nat) : (s.putF o hi lo v).plast = s.plast := rfl
@[simp] theorem State.putF_failArr (o hi lo v : Nat) : (s.putF o hi lo v).failArr = s.failArr := rfl
@[simp] theorem State.putF_tally (o hi lo v : Nat) : (s.putF o hi lo v).tally = s.tally := rfl
@[simp] theorem State.putF_tiles (o hi lo v : Nat) : (s.putF o hi lo v).tiles = s.tiles := rfl
@[simp] theorem State.putF_ctxNext (o hi lo v : Nat) : (s.putF o hi lo v).ctxNext = s.ctxNext := rfl
@[simp] theorem State.putF_ctxTail (o hi lo v : Nat) : (s.putF o hi lo v).ctxTail = s.ctxTail := rfl
@[simp] theorem State.putF_ctxQueue (o hi lo v : Nat) : (s.putF o hi lo v).ctxQueue = s.ctxQueue := rfl
@[simp] theorem State.putF_ctxs (o hi lo v : Nat) : (s.putF o hi lo v).ctxs = s.ctxs := rfl
@[simp] theorem State.putF_qmHeld (o hi lo v : Nat) : (s.putF o hi lo v).qmHeld = s.qmHeld := rfl
@[simp] theorem State.putF_bufs (o hi lo v : Nat) : (s.putF o hi lo v).bufs = s.bufs := rfl
@[simp] theorem State.putF_heldFlits (o hi lo v : Nat) : (s.putF o hi lo v).heldFlits = s.heldFlits := rfl
@[simp] theorem State.putF_flitId (o hi lo v : Nat) : (s.putF o hi lo v).flitId = s.flitId := rfl
@[simp] theorem State.putF_routes (o hi lo v : Nat) : (s.putF o hi lo v).routes = s.routes := rfl
@[simp] theorem State.putF_outst (o hi lo v : Nat) : (s.putF o hi lo v).outst = s.outst := rfl
@[simp] theorem State.putF_txNext (o hi lo v : Nat) : (s.putF o hi lo v).txNext = s.txNext := rfl
@[simp] theorem State.putF_inbox (o hi lo v : Nat) : (s.putF o hi lo v).inbox = s.inbox := rfl
@[simp] theorem State.putF_wakeFlits (o hi lo v : Nat) : (s.putF o hi lo v).wakeFlits = s.wakeFlits := rfl
@[simp] theorem State.putF_wakeSince (o hi lo v : Nat) : (s.putF o hi lo v).wakeSince = s.wakeSince := rfl
@[simp] theorem State.putF_prbCnt (o hi lo v : Nat) : (s.putF o hi lo v).prbCnt = s.prbCnt := rfl
@[simp] theorem State.putF_domOrg (o hi lo v : Nat) : (s.putF o hi lo v).domOrg = s.domOrg := rfl
@[simp] theorem State.putF_domHeld (o hi lo v : Nat) : (s.putF o hi lo v).domHeld = s.domHeld := rfl
@[simp] theorem State.putF_niDest (o hi lo v : Nat) : (s.putF o hi lo v).niDest = s.niDest := rfl
@[simp] theorem State.putF_hbmc (o hi lo v : Nat) : (s.putF o hi lo v).hbmc = s.hbmc := rfl
@[simp] theorem State.putF_holds (o hi lo v : Nat) : (s.putF o hi lo v).holds = s.holds := rfl
@[simp] theorem State.putF_waiters (o hi lo v : Nat) : (s.putF o hi lo v).waiters = s.waiters := rfl
@[simp] theorem State.putF_notices (o hi lo v : Nat) : (s.putF o hi lo v).notices = s.notices := rfl
@[simp] theorem State.putF_dma (o hi lo v : Nat) : (s.putF o hi lo v).dma = s.dma := rfl
@[simp] theorem State.putF_ken (o hi lo v : Nat) : (s.putF o hi lo v).ken = s.ken := rfl
@[simp] theorem State.putF_cores (o hi lo v : Nat) : (s.putF o hi lo v).cores = s.cores := rfl
@[simp] theorem State.putF_hubs (o hi lo v : Nat) : (s.putF o hi lo v).hubs = s.hubs := rfl
@[simp] theorem State.putF_plates (o hi lo v : Nat) : (s.putF o hi lo v).plates = s.plates := rfl
@[simp] theorem State.putF_ports (o hi lo v : Nat) : (s.putF o hi lo v).ports = s.ports := rfl
@[simp] theorem State.putF_links (o hi lo v : Nat) : (s.putF o hi lo v).links = s.links := rfl
@[simp] theorem State.putF_packRt (o hi lo v : Nat) : (s.putF o hi lo v).packRt = s.packRt := rfl
@[simp] theorem State.putF_brace (o hi lo v : Nat) : (s.putF o hi lo v).brace = s.brace := rfl
@[simp] theorem State.putF_pack (o hi lo v : Nat) : (s.putF o hi lo v).pack = s.pack := rfl
@[simp] theorem State.putF_gauges (o hi lo v : Nat) : (s.putF o hi lo v).gauges = s.gauges := rfl
@[simp] theorem State.putF_timeOffs (o hi lo v : Nat) : (s.putF o hi lo v).timeOffs = s.timeOffs := rfl
@[simp] theorem State.putF_ret (o hi lo v : Nat) : (s.putF o hi lo v).ret = s.ret := rfl
@[simp] theorem State.putF_tripHot (o hi lo v : Nat) : (s.putF o hi lo v).tripHot = s.tripHot := rfl

/-! ## putB -/

@[simp] theorem State.putB_pending (o i : Nat) (v : Bool) : (s.putB o i v).pending = s.pending := rfl
@[simp] theorem State.putB_mem (o i : Nat) (v : Bool) : (s.putB o i v).mem = s.mem := rfl
@[simp] theorem State.putB_out (o i : Nat) (v : Bool) : (s.putB o i v).out = s.out := rfl
@[simp] theorem State.putB_reactions (o i : Nat) (v : Bool) : (s.putB o i v).reactions = s.reactions := rfl
@[simp] theorem State.putB_freeCtr (o i : Nat) (v : Bool) : (s.putB o i v).freeCtr = s.freeCtr := rfl
@[simp] theorem State.putB_now (o i : Nat) (v : Bool) : (s.putB o i v).now = s.now := rfl
@[simp] theorem State.putB_porst (o i : Nat) (v : Bool) : (s.putB o i v).porst = s.porst := rfl
@[simp] theorem State.putB_brown (o i : Nat) (v : Bool) : (s.putB o i v).brown = s.brown := rfl
@[simp] theorem State.putB_pinLow (o i : Nat) (v : Bool) : (s.putB o i v).pinLow = s.pinLow := rfl
@[simp] theorem State.putB_rom (o i : Nat) (v : Bool) : (s.putB o i v).rom = s.rom := rfl
@[simp] theorem State.putB_turns (o i : Nat) (v : Bool) : (s.putB o i v).turns = s.turns := rfl
@[simp] theorem State.putB_wakeAsk (o i : Nat) (v : Bool) : (s.putB o i v).wakeAsk = s.wakeAsk := rfl
@[simp] theorem State.putB_govAt (o i : Nat) (v : Bool) : (s.putB o i v).govAt = s.govAt := rfl
@[simp] theorem State.putB_capFrom (o i : Nat) (v : Bool) : (s.putB o i v).capFrom = s.capFrom := rfl
@[simp] theorem State.putB_fuses (o i : Nat) (v : Bool) : (s.putB o i v).fuses = s.fuses := rfl
@[simp] theorem State.putB_ledger (o i : Nat) (v : Bool) : (s.putB o i v).ledger = s.ledger := rfl
@[simp] theorem State.putB_timers (o i : Nat) (v : Bool) : (s.putB o i v).timers = s.timers := rfl
@[simp] theorem State.putB_frst (o i : Nat) (v : Bool) : (s.putB o i v).frst = s.frst := rfl
@[simp] theorem State.putB_devReset (o i : Nat) (v : Bool) : (s.putB o i v).devReset = s.devReset := rfl
@[simp] theorem State.putB_parked (o i : Nat) (v : Bool) : (s.putB o i v).parked = s.parked := rfl
@[simp] theorem State.putB_host (o i : Nat) (v : Bool) : (s.putB o i v).host = s.host := rfl
@[simp] theorem State.putB_wfail (o i : Nat) (v : Bool) : (s.putB o i v).wfail = s.wfail := rfl
@[simp] theorem State.putB_plast (o i : Nat) (v : Bool) : (s.putB o i v).plast = s.plast := rfl
@[simp] theorem State.putB_failArr (o i : Nat) (v : Bool) : (s.putB o i v).failArr = s.failArr := rfl
@[simp] theorem State.putB_tally (o i : Nat) (v : Bool) : (s.putB o i v).tally = s.tally := rfl
@[simp] theorem State.putB_tiles (o i : Nat) (v : Bool) : (s.putB o i v).tiles = s.tiles := rfl
@[simp] theorem State.putB_ctxNext (o i : Nat) (v : Bool) : (s.putB o i v).ctxNext = s.ctxNext := rfl
@[simp] theorem State.putB_ctxTail (o i : Nat) (v : Bool) : (s.putB o i v).ctxTail = s.ctxTail := rfl
@[simp] theorem State.putB_ctxQueue (o i : Nat) (v : Bool) : (s.putB o i v).ctxQueue = s.ctxQueue := rfl
@[simp] theorem State.putB_ctxs (o i : Nat) (v : Bool) : (s.putB o i v).ctxs = s.ctxs := rfl
@[simp] theorem State.putB_qmHeld (o i : Nat) (v : Bool) : (s.putB o i v).qmHeld = s.qmHeld := rfl
@[simp] theorem State.putB_bufs (o i : Nat) (v : Bool) : (s.putB o i v).bufs = s.bufs := rfl
@[simp] theorem State.putB_heldFlits (o i : Nat) (v : Bool) : (s.putB o i v).heldFlits = s.heldFlits := rfl
@[simp] theorem State.putB_flitId (o i : Nat) (v : Bool) : (s.putB o i v).flitId = s.flitId := rfl
@[simp] theorem State.putB_routes (o i : Nat) (v : Bool) : (s.putB o i v).routes = s.routes := rfl
@[simp] theorem State.putB_outst (o i : Nat) (v : Bool) : (s.putB o i v).outst = s.outst := rfl
@[simp] theorem State.putB_txNext (o i : Nat) (v : Bool) : (s.putB o i v).txNext = s.txNext := rfl
@[simp] theorem State.putB_inbox (o i : Nat) (v : Bool) : (s.putB o i v).inbox = s.inbox := rfl
@[simp] theorem State.putB_wakeFlits (o i : Nat) (v : Bool) : (s.putB o i v).wakeFlits = s.wakeFlits := rfl
@[simp] theorem State.putB_wakeSince (o i : Nat) (v : Bool) : (s.putB o i v).wakeSince = s.wakeSince := rfl
@[simp] theorem State.putB_prbCnt (o i : Nat) (v : Bool) : (s.putB o i v).prbCnt = s.prbCnt := rfl
@[simp] theorem State.putB_domOrg (o i : Nat) (v : Bool) : (s.putB o i v).domOrg = s.domOrg := rfl
@[simp] theorem State.putB_domHeld (o i : Nat) (v : Bool) : (s.putB o i v).domHeld = s.domHeld := rfl
@[simp] theorem State.putB_niDest (o i : Nat) (v : Bool) : (s.putB o i v).niDest = s.niDest := rfl
@[simp] theorem State.putB_hbmc (o i : Nat) (v : Bool) : (s.putB o i v).hbmc = s.hbmc := rfl
@[simp] theorem State.putB_holds (o i : Nat) (v : Bool) : (s.putB o i v).holds = s.holds := rfl
@[simp] theorem State.putB_waiters (o i : Nat) (v : Bool) : (s.putB o i v).waiters = s.waiters := rfl
@[simp] theorem State.putB_notices (o i : Nat) (v : Bool) : (s.putB o i v).notices = s.notices := rfl
@[simp] theorem State.putB_dma (o i : Nat) (v : Bool) : (s.putB o i v).dma = s.dma := rfl
@[simp] theorem State.putB_ken (o i : Nat) (v : Bool) : (s.putB o i v).ken = s.ken := rfl
@[simp] theorem State.putB_cores (o i : Nat) (v : Bool) : (s.putB o i v).cores = s.cores := rfl
@[simp] theorem State.putB_hubs (o i : Nat) (v : Bool) : (s.putB o i v).hubs = s.hubs := rfl
@[simp] theorem State.putB_plates (o i : Nat) (v : Bool) : (s.putB o i v).plates = s.plates := rfl
@[simp] theorem State.putB_ports (o i : Nat) (v : Bool) : (s.putB o i v).ports = s.ports := rfl
@[simp] theorem State.putB_links (o i : Nat) (v : Bool) : (s.putB o i v).links = s.links := rfl
@[simp] theorem State.putB_packRt (o i : Nat) (v : Bool) : (s.putB o i v).packRt = s.packRt := rfl
@[simp] theorem State.putB_brace (o i : Nat) (v : Bool) : (s.putB o i v).brace = s.brace := rfl
@[simp] theorem State.putB_pack (o i : Nat) (v : Bool) : (s.putB o i v).pack = s.pack := rfl
@[simp] theorem State.putB_gauges (o i : Nat) (v : Bool) : (s.putB o i v).gauges = s.gauges := rfl
@[simp] theorem State.putB_timeOffs (o i : Nat) (v : Bool) : (s.putB o i v).timeOffs = s.timeOffs := rfl
@[simp] theorem State.putB_ret (o i : Nat) (v : Bool) : (s.putB o i v).ret = s.ret := rfl
@[simp] theorem State.putB_tripHot (o i : Nat) (v : Bool) : (s.putB o i v).tripHot = s.tripHot := rfl

/-! ## inc -/

@[simp] theorem State.inc_pending (o hi lo n : Nat) : (s.inc o hi lo n).pending = s.pending := rfl
@[simp] theorem State.inc_mem (o hi lo n : Nat) : (s.inc o hi lo n).mem = s.mem := rfl
@[simp] theorem State.inc_out (o hi lo n : Nat) : (s.inc o hi lo n).out = s.out := rfl
@[simp] theorem State.inc_reactions (o hi lo n : Nat) : (s.inc o hi lo n).reactions = s.reactions := rfl
@[simp] theorem State.inc_freeCtr (o hi lo n : Nat) : (s.inc o hi lo n).freeCtr = s.freeCtr := rfl
@[simp] theorem State.inc_now (o hi lo n : Nat) : (s.inc o hi lo n).now = s.now := rfl
@[simp] theorem State.inc_porst (o hi lo n : Nat) : (s.inc o hi lo n).porst = s.porst := rfl
@[simp] theorem State.inc_brown (o hi lo n : Nat) : (s.inc o hi lo n).brown = s.brown := rfl
@[simp] theorem State.inc_pinLow (o hi lo n : Nat) : (s.inc o hi lo n).pinLow = s.pinLow := rfl
@[simp] theorem State.inc_rom (o hi lo n : Nat) : (s.inc o hi lo n).rom = s.rom := rfl
@[simp] theorem State.inc_turns (o hi lo n : Nat) : (s.inc o hi lo n).turns = s.turns := rfl
@[simp] theorem State.inc_wakeAsk (o hi lo n : Nat) : (s.inc o hi lo n).wakeAsk = s.wakeAsk := rfl
@[simp] theorem State.inc_govAt (o hi lo n : Nat) : (s.inc o hi lo n).govAt = s.govAt := rfl
@[simp] theorem State.inc_capFrom (o hi lo n : Nat) : (s.inc o hi lo n).capFrom = s.capFrom := rfl
@[simp] theorem State.inc_fuses (o hi lo n : Nat) : (s.inc o hi lo n).fuses = s.fuses := rfl
@[simp] theorem State.inc_ledger (o hi lo n : Nat) : (s.inc o hi lo n).ledger = s.ledger := rfl
@[simp] theorem State.inc_timers (o hi lo n : Nat) : (s.inc o hi lo n).timers = s.timers := rfl
@[simp] theorem State.inc_frst (o hi lo n : Nat) : (s.inc o hi lo n).frst = s.frst := rfl
@[simp] theorem State.inc_devReset (o hi lo n : Nat) : (s.inc o hi lo n).devReset = s.devReset := rfl
@[simp] theorem State.inc_parked (o hi lo n : Nat) : (s.inc o hi lo n).parked = s.parked := rfl
@[simp] theorem State.inc_host (o hi lo n : Nat) : (s.inc o hi lo n).host = s.host := rfl
@[simp] theorem State.inc_wfail (o hi lo n : Nat) : (s.inc o hi lo n).wfail = s.wfail := rfl
@[simp] theorem State.inc_plast (o hi lo n : Nat) : (s.inc o hi lo n).plast = s.plast := rfl
@[simp] theorem State.inc_failArr (o hi lo n : Nat) : (s.inc o hi lo n).failArr = s.failArr := rfl
@[simp] theorem State.inc_tally (o hi lo n : Nat) : (s.inc o hi lo n).tally = s.tally := rfl
@[simp] theorem State.inc_tiles (o hi lo n : Nat) : (s.inc o hi lo n).tiles = s.tiles := rfl
@[simp] theorem State.inc_ctxNext (o hi lo n : Nat) : (s.inc o hi lo n).ctxNext = s.ctxNext := rfl
@[simp] theorem State.inc_ctxTail (o hi lo n : Nat) : (s.inc o hi lo n).ctxTail = s.ctxTail := rfl
@[simp] theorem State.inc_ctxQueue (o hi lo n : Nat) : (s.inc o hi lo n).ctxQueue = s.ctxQueue := rfl
@[simp] theorem State.inc_ctxs (o hi lo n : Nat) : (s.inc o hi lo n).ctxs = s.ctxs := rfl
@[simp] theorem State.inc_qmHeld (o hi lo n : Nat) : (s.inc o hi lo n).qmHeld = s.qmHeld := rfl
@[simp] theorem State.inc_bufs (o hi lo n : Nat) : (s.inc o hi lo n).bufs = s.bufs := rfl
@[simp] theorem State.inc_heldFlits (o hi lo n : Nat) : (s.inc o hi lo n).heldFlits = s.heldFlits := rfl
@[simp] theorem State.inc_flitId (o hi lo n : Nat) : (s.inc o hi lo n).flitId = s.flitId := rfl
@[simp] theorem State.inc_routes (o hi lo n : Nat) : (s.inc o hi lo n).routes = s.routes := rfl
@[simp] theorem State.inc_outst (o hi lo n : Nat) : (s.inc o hi lo n).outst = s.outst := rfl
@[simp] theorem State.inc_txNext (o hi lo n : Nat) : (s.inc o hi lo n).txNext = s.txNext := rfl
@[simp] theorem State.inc_inbox (o hi lo n : Nat) : (s.inc o hi lo n).inbox = s.inbox := rfl
@[simp] theorem State.inc_wakeFlits (o hi lo n : Nat) : (s.inc o hi lo n).wakeFlits = s.wakeFlits := rfl
@[simp] theorem State.inc_wakeSince (o hi lo n : Nat) : (s.inc o hi lo n).wakeSince = s.wakeSince := rfl
@[simp] theorem State.inc_prbCnt (o hi lo n : Nat) : (s.inc o hi lo n).prbCnt = s.prbCnt := rfl
@[simp] theorem State.inc_domOrg (o hi lo n : Nat) : (s.inc o hi lo n).domOrg = s.domOrg := rfl
@[simp] theorem State.inc_domHeld (o hi lo n : Nat) : (s.inc o hi lo n).domHeld = s.domHeld := rfl
@[simp] theorem State.inc_niDest (o hi lo n : Nat) : (s.inc o hi lo n).niDest = s.niDest := rfl
@[simp] theorem State.inc_hbmc (o hi lo n : Nat) : (s.inc o hi lo n).hbmc = s.hbmc := rfl
@[simp] theorem State.inc_holds (o hi lo n : Nat) : (s.inc o hi lo n).holds = s.holds := rfl
@[simp] theorem State.inc_waiters (o hi lo n : Nat) : (s.inc o hi lo n).waiters = s.waiters := rfl
@[simp] theorem State.inc_notices (o hi lo n : Nat) : (s.inc o hi lo n).notices = s.notices := rfl
@[simp] theorem State.inc_dma (o hi lo n : Nat) : (s.inc o hi lo n).dma = s.dma := rfl
@[simp] theorem State.inc_ken (o hi lo n : Nat) : (s.inc o hi lo n).ken = s.ken := rfl
@[simp] theorem State.inc_cores (o hi lo n : Nat) : (s.inc o hi lo n).cores = s.cores := rfl
@[simp] theorem State.inc_hubs (o hi lo n : Nat) : (s.inc o hi lo n).hubs = s.hubs := rfl
@[simp] theorem State.inc_plates (o hi lo n : Nat) : (s.inc o hi lo n).plates = s.plates := rfl
@[simp] theorem State.inc_ports (o hi lo n : Nat) : (s.inc o hi lo n).ports = s.ports := rfl
@[simp] theorem State.inc_links (o hi lo n : Nat) : (s.inc o hi lo n).links = s.links := rfl
@[simp] theorem State.inc_packRt (o hi lo n : Nat) : (s.inc o hi lo n).packRt = s.packRt := rfl
@[simp] theorem State.inc_brace (o hi lo n : Nat) : (s.inc o hi lo n).brace = s.brace := rfl
@[simp] theorem State.inc_pack (o hi lo n : Nat) : (s.inc o hi lo n).pack = s.pack := rfl
@[simp] theorem State.inc_gauges (o hi lo n : Nat) : (s.inc o hi lo n).gauges = s.gauges := rfl
@[simp] theorem State.inc_timeOffs (o hi lo n : Nat) : (s.inc o hi lo n).timeOffs = s.timeOffs := rfl
@[simp] theorem State.inc_ret (o hi lo n : Nat) : (s.inc o hi lo n).ret = s.ret := rfl
@[simp] theorem State.inc_tripHot (o hi lo n : Nat) : (s.inc o hi lo n).tripHot = s.tripHot := rfl

/-! ## resetRegs -/

@[simp] theorem State.resetRegs_pending (p lo hi : Nat) (k : List Nat) : (s.resetRegs p lo hi k).pending = s.pending := rfl
@[simp] theorem State.resetRegs_mem (p lo hi : Nat) (k : List Nat) : (s.resetRegs p lo hi k).mem = s.mem := rfl
@[simp] theorem State.resetRegs_out (p lo hi : Nat) (k : List Nat) : (s.resetRegs p lo hi k).out = s.out := rfl
@[simp] theorem State.resetRegs_reactions (p lo hi : Nat) (k : List Nat) : (s.resetRegs p lo hi k).reactions = s.reactions := rfl
@[simp] theorem State.resetRegs_freeCtr (p lo hi : Nat) (k : List Nat) : (s.resetRegs p lo hi k).freeCtr = s.freeCtr := rfl
@[simp] theorem State.resetRegs_now (p lo hi : Nat) (k : List Nat) : (s.resetRegs p lo hi k).now = s.now := rfl
@[simp] theorem State.resetRegs_porst (p lo hi : Nat) (k : List Nat) : (s.resetRegs p lo hi k).porst = s.porst := rfl
@[simp] theorem State.resetRegs_brown (p lo hi : Nat) (k : List Nat) : (s.resetRegs p lo hi k).brown = s.brown := rfl
@[simp] theorem State.resetRegs_pinLow (p lo hi : Nat) (k : List Nat) : (s.resetRegs p lo hi k).pinLow = s.pinLow := rfl
@[simp] theorem State.resetRegs_rom (p lo hi : Nat) (k : List Nat) : (s.resetRegs p lo hi k).rom = s.rom := rfl
@[simp] theorem State.resetRegs_turns (p lo hi : Nat) (k : List Nat) : (s.resetRegs p lo hi k).turns = s.turns := rfl
@[simp] theorem State.resetRegs_wakeAsk (p lo hi : Nat) (k : List Nat) : (s.resetRegs p lo hi k).wakeAsk = s.wakeAsk := rfl
@[simp] theorem State.resetRegs_govAt (p lo hi : Nat) (k : List Nat) : (s.resetRegs p lo hi k).govAt = s.govAt := rfl
@[simp] theorem State.resetRegs_capFrom (p lo hi : Nat) (k : List Nat) : (s.resetRegs p lo hi k).capFrom = s.capFrom := rfl
@[simp] theorem State.resetRegs_fuses (p lo hi : Nat) (k : List Nat) : (s.resetRegs p lo hi k).fuses = s.fuses := rfl
@[simp] theorem State.resetRegs_ledger (p lo hi : Nat) (k : List Nat) : (s.resetRegs p lo hi k).ledger = s.ledger := rfl
@[simp] theorem State.resetRegs_timers (p lo hi : Nat) (k : List Nat) : (s.resetRegs p lo hi k).timers = s.timers := rfl
@[simp] theorem State.resetRegs_frst (p lo hi : Nat) (k : List Nat) : (s.resetRegs p lo hi k).frst = s.frst := rfl
@[simp] theorem State.resetRegs_devReset (p lo hi : Nat) (k : List Nat) : (s.resetRegs p lo hi k).devReset = s.devReset := rfl
@[simp] theorem State.resetRegs_parked (p lo hi : Nat) (k : List Nat) : (s.resetRegs p lo hi k).parked = s.parked := rfl
@[simp] theorem State.resetRegs_host (p lo hi : Nat) (k : List Nat) : (s.resetRegs p lo hi k).host = s.host := rfl
@[simp] theorem State.resetRegs_wfail (p lo hi : Nat) (k : List Nat) : (s.resetRegs p lo hi k).wfail = s.wfail := rfl
@[simp] theorem State.resetRegs_plast (p lo hi : Nat) (k : List Nat) : (s.resetRegs p lo hi k).plast = s.plast := rfl
@[simp] theorem State.resetRegs_failArr (p lo hi : Nat) (k : List Nat) : (s.resetRegs p lo hi k).failArr = s.failArr := rfl
@[simp] theorem State.resetRegs_tally (p lo hi : Nat) (k : List Nat) : (s.resetRegs p lo hi k).tally = s.tally := rfl
@[simp] theorem State.resetRegs_tiles (p lo hi : Nat) (k : List Nat) : (s.resetRegs p lo hi k).tiles = s.tiles := rfl
@[simp] theorem State.resetRegs_ctxNext (p lo hi : Nat) (k : List Nat) : (s.resetRegs p lo hi k).ctxNext = s.ctxNext := rfl
@[simp] theorem State.resetRegs_ctxTail (p lo hi : Nat) (k : List Nat) : (s.resetRegs p lo hi k).ctxTail = s.ctxTail := rfl
@[simp] theorem State.resetRegs_ctxQueue (p lo hi : Nat) (k : List Nat) : (s.resetRegs p lo hi k).ctxQueue = s.ctxQueue := rfl
@[simp] theorem State.resetRegs_ctxs (p lo hi : Nat) (k : List Nat) : (s.resetRegs p lo hi k).ctxs = s.ctxs := rfl
@[simp] theorem State.resetRegs_qmHeld (p lo hi : Nat) (k : List Nat) : (s.resetRegs p lo hi k).qmHeld = s.qmHeld := rfl
@[simp] theorem State.resetRegs_bufs (p lo hi : Nat) (k : List Nat) : (s.resetRegs p lo hi k).bufs = s.bufs := rfl
@[simp] theorem State.resetRegs_heldFlits (p lo hi : Nat) (k : List Nat) : (s.resetRegs p lo hi k).heldFlits = s.heldFlits := rfl
@[simp] theorem State.resetRegs_flitId (p lo hi : Nat) (k : List Nat) : (s.resetRegs p lo hi k).flitId = s.flitId := rfl
@[simp] theorem State.resetRegs_routes (p lo hi : Nat) (k : List Nat) : (s.resetRegs p lo hi k).routes = s.routes := rfl
@[simp] theorem State.resetRegs_outst (p lo hi : Nat) (k : List Nat) : (s.resetRegs p lo hi k).outst = s.outst := rfl
@[simp] theorem State.resetRegs_txNext (p lo hi : Nat) (k : List Nat) : (s.resetRegs p lo hi k).txNext = s.txNext := rfl
@[simp] theorem State.resetRegs_inbox (p lo hi : Nat) (k : List Nat) : (s.resetRegs p lo hi k).inbox = s.inbox := rfl
@[simp] theorem State.resetRegs_wakeFlits (p lo hi : Nat) (k : List Nat) : (s.resetRegs p lo hi k).wakeFlits = s.wakeFlits := rfl
@[simp] theorem State.resetRegs_wakeSince (p lo hi : Nat) (k : List Nat) : (s.resetRegs p lo hi k).wakeSince = s.wakeSince := rfl
@[simp] theorem State.resetRegs_prbCnt (p lo hi : Nat) (k : List Nat) : (s.resetRegs p lo hi k).prbCnt = s.prbCnt := rfl
@[simp] theorem State.resetRegs_domOrg (p lo hi : Nat) (k : List Nat) : (s.resetRegs p lo hi k).domOrg = s.domOrg := rfl
@[simp] theorem State.resetRegs_domHeld (p lo hi : Nat) (k : List Nat) : (s.resetRegs p lo hi k).domHeld = s.domHeld := rfl
@[simp] theorem State.resetRegs_niDest (p lo hi : Nat) (k : List Nat) : (s.resetRegs p lo hi k).niDest = s.niDest := rfl
@[simp] theorem State.resetRegs_hbmc (p lo hi : Nat) (k : List Nat) : (s.resetRegs p lo hi k).hbmc = s.hbmc := rfl
@[simp] theorem State.resetRegs_holds (p lo hi : Nat) (k : List Nat) : (s.resetRegs p lo hi k).holds = s.holds := rfl
@[simp] theorem State.resetRegs_waiters (p lo hi : Nat) (k : List Nat) : (s.resetRegs p lo hi k).waiters = s.waiters := rfl
@[simp] theorem State.resetRegs_notices (p lo hi : Nat) (k : List Nat) : (s.resetRegs p lo hi k).notices = s.notices := rfl
@[simp] theorem State.resetRegs_dma (p lo hi : Nat) (k : List Nat) : (s.resetRegs p lo hi k).dma = s.dma := rfl
@[simp] theorem State.resetRegs_ken (p lo hi : Nat) (k : List Nat) : (s.resetRegs p lo hi k).ken = s.ken := rfl
@[simp] theorem State.resetRegs_cores (p lo hi : Nat) (k : List Nat) : (s.resetRegs p lo hi k).cores = s.cores := rfl
@[simp] theorem State.resetRegs_hubs (p lo hi : Nat) (k : List Nat) : (s.resetRegs p lo hi k).hubs = s.hubs := rfl
@[simp] theorem State.resetRegs_plates (p lo hi : Nat) (k : List Nat) : (s.resetRegs p lo hi k).plates = s.plates := rfl
@[simp] theorem State.resetRegs_ports (p lo hi : Nat) (k : List Nat) : (s.resetRegs p lo hi k).ports = s.ports := rfl
@[simp] theorem State.resetRegs_links (p lo hi : Nat) (k : List Nat) : (s.resetRegs p lo hi k).links = s.links := rfl
@[simp] theorem State.resetRegs_packRt (p lo hi : Nat) (k : List Nat) : (s.resetRegs p lo hi k).packRt = s.packRt := rfl
@[simp] theorem State.resetRegs_brace (p lo hi : Nat) (k : List Nat) : (s.resetRegs p lo hi k).brace = s.brace := rfl
@[simp] theorem State.resetRegs_pack (p lo hi : Nat) (k : List Nat) : (s.resetRegs p lo hi k).pack = s.pack := rfl
@[simp] theorem State.resetRegs_gauges (p lo hi : Nat) (k : List Nat) : (s.resetRegs p lo hi k).gauges = s.gauges := rfl
@[simp] theorem State.resetRegs_timeOffs (p lo hi : Nat) (k : List Nat) : (s.resetRegs p lo hi k).timeOffs = s.timeOffs := rfl
@[simp] theorem State.resetRegs_ret (p lo hi : Nat) (k : List Nat) : (s.resetRegs p lo hi k).ret = s.ret := rfl
@[simp] theorem State.resetRegs_tripHot (p lo hi : Nat) (k : List Nat) : (s.resetRegs p lo hi k).tripHot = s.tripHot := rfl

/-! ## emit -/

@[simp] theorem State.emit_pending (x : Out) : (s.emit x).pending = s.pending := rfl
@[simp] theorem State.emit_regs (x : Out) : (s.emit x).regs = s.regs := rfl
@[simp] theorem State.emit_mem (x : Out) : (s.emit x).mem = s.mem := rfl
@[simp] theorem State.emit_reactions (x : Out) : (s.emit x).reactions = s.reactions := rfl
@[simp] theorem State.emit_freeCtr (x : Out) : (s.emit x).freeCtr = s.freeCtr := rfl
@[simp] theorem State.emit_now (x : Out) : (s.emit x).now = s.now := rfl
@[simp] theorem State.emit_porst (x : Out) : (s.emit x).porst = s.porst := rfl
@[simp] theorem State.emit_brown (x : Out) : (s.emit x).brown = s.brown := rfl
@[simp] theorem State.emit_pinLow (x : Out) : (s.emit x).pinLow = s.pinLow := rfl
@[simp] theorem State.emit_rom (x : Out) : (s.emit x).rom = s.rom := rfl
@[simp] theorem State.emit_turns (x : Out) : (s.emit x).turns = s.turns := rfl
@[simp] theorem State.emit_wakeAsk (x : Out) : (s.emit x).wakeAsk = s.wakeAsk := rfl
@[simp] theorem State.emit_govAt (x : Out) : (s.emit x).govAt = s.govAt := rfl
@[simp] theorem State.emit_capFrom (x : Out) : (s.emit x).capFrom = s.capFrom := rfl
@[simp] theorem State.emit_fuses (x : Out) : (s.emit x).fuses = s.fuses := rfl
@[simp] theorem State.emit_ledger (x : Out) : (s.emit x).ledger = s.ledger := rfl
@[simp] theorem State.emit_timers (x : Out) : (s.emit x).timers = s.timers := rfl
@[simp] theorem State.emit_frst (x : Out) : (s.emit x).frst = s.frst := rfl
@[simp] theorem State.emit_devReset (x : Out) : (s.emit x).devReset = s.devReset := rfl
@[simp] theorem State.emit_parked (x : Out) : (s.emit x).parked = s.parked := rfl
@[simp] theorem State.emit_host (x : Out) : (s.emit x).host = s.host := rfl
@[simp] theorem State.emit_wfail (x : Out) : (s.emit x).wfail = s.wfail := rfl
@[simp] theorem State.emit_plast (x : Out) : (s.emit x).plast = s.plast := rfl
@[simp] theorem State.emit_failArr (x : Out) : (s.emit x).failArr = s.failArr := rfl
@[simp] theorem State.emit_tally (x : Out) : (s.emit x).tally = s.tally := rfl
@[simp] theorem State.emit_tiles (x : Out) : (s.emit x).tiles = s.tiles := rfl
@[simp] theorem State.emit_ctxNext (x : Out) : (s.emit x).ctxNext = s.ctxNext := rfl
@[simp] theorem State.emit_ctxTail (x : Out) : (s.emit x).ctxTail = s.ctxTail := rfl
@[simp] theorem State.emit_ctxQueue (x : Out) : (s.emit x).ctxQueue = s.ctxQueue := rfl
@[simp] theorem State.emit_ctxs (x : Out) : (s.emit x).ctxs = s.ctxs := rfl
@[simp] theorem State.emit_qmHeld (x : Out) : (s.emit x).qmHeld = s.qmHeld := rfl
@[simp] theorem State.emit_bufs (x : Out) : (s.emit x).bufs = s.bufs := rfl
@[simp] theorem State.emit_heldFlits (x : Out) : (s.emit x).heldFlits = s.heldFlits := rfl
@[simp] theorem State.emit_flitId (x : Out) : (s.emit x).flitId = s.flitId := rfl
@[simp] theorem State.emit_routes (x : Out) : (s.emit x).routes = s.routes := rfl
@[simp] theorem State.emit_outst (x : Out) : (s.emit x).outst = s.outst := rfl
@[simp] theorem State.emit_txNext (x : Out) : (s.emit x).txNext = s.txNext := rfl
@[simp] theorem State.emit_inbox (x : Out) : (s.emit x).inbox = s.inbox := rfl
@[simp] theorem State.emit_wakeFlits (x : Out) : (s.emit x).wakeFlits = s.wakeFlits := rfl
@[simp] theorem State.emit_wakeSince (x : Out) : (s.emit x).wakeSince = s.wakeSince := rfl
@[simp] theorem State.emit_prbCnt (x : Out) : (s.emit x).prbCnt = s.prbCnt := rfl
@[simp] theorem State.emit_domOrg (x : Out) : (s.emit x).domOrg = s.domOrg := rfl
@[simp] theorem State.emit_domHeld (x : Out) : (s.emit x).domHeld = s.domHeld := rfl
@[simp] theorem State.emit_niDest (x : Out) : (s.emit x).niDest = s.niDest := rfl
@[simp] theorem State.emit_hbmc (x : Out) : (s.emit x).hbmc = s.hbmc := rfl
@[simp] theorem State.emit_holds (x : Out) : (s.emit x).holds = s.holds := rfl
@[simp] theorem State.emit_waiters (x : Out) : (s.emit x).waiters = s.waiters := rfl
@[simp] theorem State.emit_notices (x : Out) : (s.emit x).notices = s.notices := rfl
@[simp] theorem State.emit_dma (x : Out) : (s.emit x).dma = s.dma := rfl
@[simp] theorem State.emit_ken (x : Out) : (s.emit x).ken = s.ken := rfl
@[simp] theorem State.emit_cores (x : Out) : (s.emit x).cores = s.cores := rfl
@[simp] theorem State.emit_hubs (x : Out) : (s.emit x).hubs = s.hubs := rfl
@[simp] theorem State.emit_plates (x : Out) : (s.emit x).plates = s.plates := rfl
@[simp] theorem State.emit_ports (x : Out) : (s.emit x).ports = s.ports := rfl
@[simp] theorem State.emit_links (x : Out) : (s.emit x).links = s.links := rfl
@[simp] theorem State.emit_packRt (x : Out) : (s.emit x).packRt = s.packRt := rfl
@[simp] theorem State.emit_brace (x : Out) : (s.emit x).brace = s.brace := rfl
@[simp] theorem State.emit_pack (x : Out) : (s.emit x).pack = s.pack := rfl
@[simp] theorem State.emit_gauges (x : Out) : (s.emit x).gauges = s.gauges := rfl
@[simp] theorem State.emit_timeOffs (x : Out) : (s.emit x).timeOffs = s.timeOffs := rfl
@[simp] theorem State.emit_ret (x : Out) : (s.emit x).ret = s.ret := rfl
@[simp] theorem State.emit_tripHot (x : Out) : (s.emit x).tripHot = s.tripHot := rfl

/-! ## react -/

@[simp] theorem State.react_pending (r : Reaction) : (s.react r).pending = s.pending := rfl
@[simp] theorem State.react_regs (r : Reaction) : (s.react r).regs = s.regs := rfl
@[simp] theorem State.react_mem (r : Reaction) : (s.react r).mem = s.mem := rfl
@[simp] theorem State.react_out (r : Reaction) : (s.react r).out = s.out := rfl
@[simp] theorem State.react_freeCtr (r : Reaction) : (s.react r).freeCtr = s.freeCtr := rfl
@[simp] theorem State.react_now (r : Reaction) : (s.react r).now = s.now := rfl
@[simp] theorem State.react_porst (r : Reaction) : (s.react r).porst = s.porst := rfl
@[simp] theorem State.react_brown (r : Reaction) : (s.react r).brown = s.brown := rfl
@[simp] theorem State.react_pinLow (r : Reaction) : (s.react r).pinLow = s.pinLow := rfl
@[simp] theorem State.react_rom (r : Reaction) : (s.react r).rom = s.rom := rfl
@[simp] theorem State.react_turns (r : Reaction) : (s.react r).turns = s.turns := rfl
@[simp] theorem State.react_wakeAsk (r : Reaction) : (s.react r).wakeAsk = s.wakeAsk := rfl
@[simp] theorem State.react_govAt (r : Reaction) : (s.react r).govAt = s.govAt := rfl
@[simp] theorem State.react_capFrom (r : Reaction) : (s.react r).capFrom = s.capFrom := rfl
@[simp] theorem State.react_fuses (r : Reaction) : (s.react r).fuses = s.fuses := rfl
@[simp] theorem State.react_ledger (r : Reaction) : (s.react r).ledger = s.ledger := rfl
@[simp] theorem State.react_timers (r : Reaction) : (s.react r).timers = s.timers := rfl
@[simp] theorem State.react_frst (r : Reaction) : (s.react r).frst = s.frst := rfl
@[simp] theorem State.react_devReset (r : Reaction) : (s.react r).devReset = s.devReset := rfl
@[simp] theorem State.react_parked (r : Reaction) : (s.react r).parked = s.parked := rfl
@[simp] theorem State.react_host (r : Reaction) : (s.react r).host = s.host := rfl
@[simp] theorem State.react_wfail (r : Reaction) : (s.react r).wfail = s.wfail := rfl
@[simp] theorem State.react_plast (r : Reaction) : (s.react r).plast = s.plast := rfl
@[simp] theorem State.react_failArr (r : Reaction) : (s.react r).failArr = s.failArr := rfl
@[simp] theorem State.react_tally (r : Reaction) : (s.react r).tally = s.tally := rfl
@[simp] theorem State.react_tiles (r : Reaction) : (s.react r).tiles = s.tiles := rfl
@[simp] theorem State.react_ctxNext (r : Reaction) : (s.react r).ctxNext = s.ctxNext := rfl
@[simp] theorem State.react_ctxTail (r : Reaction) : (s.react r).ctxTail = s.ctxTail := rfl
@[simp] theorem State.react_ctxQueue (r : Reaction) : (s.react r).ctxQueue = s.ctxQueue := rfl
@[simp] theorem State.react_ctxs (r : Reaction) : (s.react r).ctxs = s.ctxs := rfl
@[simp] theorem State.react_qmHeld (r : Reaction) : (s.react r).qmHeld = s.qmHeld := rfl
@[simp] theorem State.react_bufs (r : Reaction) : (s.react r).bufs = s.bufs := rfl
@[simp] theorem State.react_heldFlits (r : Reaction) : (s.react r).heldFlits = s.heldFlits := rfl
@[simp] theorem State.react_flitId (r : Reaction) : (s.react r).flitId = s.flitId := rfl
@[simp] theorem State.react_routes (r : Reaction) : (s.react r).routes = s.routes := rfl
@[simp] theorem State.react_outst (r : Reaction) : (s.react r).outst = s.outst := rfl
@[simp] theorem State.react_txNext (r : Reaction) : (s.react r).txNext = s.txNext := rfl
@[simp] theorem State.react_inbox (r : Reaction) : (s.react r).inbox = s.inbox := rfl
@[simp] theorem State.react_wakeFlits (r : Reaction) : (s.react r).wakeFlits = s.wakeFlits := rfl
@[simp] theorem State.react_wakeSince (r : Reaction) : (s.react r).wakeSince = s.wakeSince := rfl
@[simp] theorem State.react_prbCnt (r : Reaction) : (s.react r).prbCnt = s.prbCnt := rfl
@[simp] theorem State.react_domOrg (r : Reaction) : (s.react r).domOrg = s.domOrg := rfl
@[simp] theorem State.react_domHeld (r : Reaction) : (s.react r).domHeld = s.domHeld := rfl
@[simp] theorem State.react_niDest (r : Reaction) : (s.react r).niDest = s.niDest := rfl
@[simp] theorem State.react_hbmc (r : Reaction) : (s.react r).hbmc = s.hbmc := rfl
@[simp] theorem State.react_holds (r : Reaction) : (s.react r).holds = s.holds := rfl
@[simp] theorem State.react_waiters (r : Reaction) : (s.react r).waiters = s.waiters := rfl
@[simp] theorem State.react_notices (r : Reaction) : (s.react r).notices = s.notices := rfl
@[simp] theorem State.react_dma (r : Reaction) : (s.react r).dma = s.dma := rfl
@[simp] theorem State.react_ken (r : Reaction) : (s.react r).ken = s.ken := rfl
@[simp] theorem State.react_cores (r : Reaction) : (s.react r).cores = s.cores := rfl
@[simp] theorem State.react_hubs (r : Reaction) : (s.react r).hubs = s.hubs := rfl
@[simp] theorem State.react_plates (r : Reaction) : (s.react r).plates = s.plates := rfl
@[simp] theorem State.react_ports (r : Reaction) : (s.react r).ports = s.ports := rfl
@[simp] theorem State.react_links (r : Reaction) : (s.react r).links = s.links := rfl
@[simp] theorem State.react_packRt (r : Reaction) : (s.react r).packRt = s.packRt := rfl
@[simp] theorem State.react_brace (r : Reaction) : (s.react r).brace = s.brace := rfl
@[simp] theorem State.react_pack (r : Reaction) : (s.react r).pack = s.pack := rfl
@[simp] theorem State.react_gauges (r : Reaction) : (s.react r).gauges = s.gauges := rfl
@[simp] theorem State.react_timeOffs (r : Reaction) : (s.react r).timeOffs = s.timeOffs := rfl
@[simp] theorem State.react_ret (r : Reaction) : (s.react r).ret = s.ret := rfl
@[simp] theorem State.react_tripHot (r : Reaction) : (s.react r).tripHot = s.tripHot := rfl

/-! ## wrByte -/

@[simp] theorem State.wrByte_pending (a : Nat) (b : Byte) : (s.wrByte a b).pending = s.pending := rfl
@[simp] theorem State.wrByte_regs (a : Nat) (b : Byte) : (s.wrByte a b).regs = s.regs := rfl
@[simp] theorem State.wrByte_out (a : Nat) (b : Byte) : (s.wrByte a b).out = s.out := rfl
@[simp] theorem State.wrByte_reactions (a : Nat) (b : Byte) : (s.wrByte a b).reactions = s.reactions := rfl
@[simp] theorem State.wrByte_freeCtr (a : Nat) (b : Byte) : (s.wrByte a b).freeCtr = s.freeCtr := rfl
@[simp] theorem State.wrByte_now (a : Nat) (b : Byte) : (s.wrByte a b).now = s.now := rfl
@[simp] theorem State.wrByte_porst (a : Nat) (b : Byte) : (s.wrByte a b).porst = s.porst := rfl
@[simp] theorem State.wrByte_brown (a : Nat) (b : Byte) : (s.wrByte a b).brown = s.brown := rfl
@[simp] theorem State.wrByte_pinLow (a : Nat) (b : Byte) : (s.wrByte a b).pinLow = s.pinLow := rfl
@[simp] theorem State.wrByte_rom (a : Nat) (b : Byte) : (s.wrByte a b).rom = s.rom := rfl
@[simp] theorem State.wrByte_turns (a : Nat) (b : Byte) : (s.wrByte a b).turns = s.turns := rfl
@[simp] theorem State.wrByte_wakeAsk (a : Nat) (b : Byte) : (s.wrByte a b).wakeAsk = s.wakeAsk := rfl
@[simp] theorem State.wrByte_govAt (a : Nat) (b : Byte) : (s.wrByte a b).govAt = s.govAt := rfl
@[simp] theorem State.wrByte_capFrom (a : Nat) (b : Byte) : (s.wrByte a b).capFrom = s.capFrom := rfl
@[simp] theorem State.wrByte_fuses (a : Nat) (b : Byte) : (s.wrByte a b).fuses = s.fuses := rfl
@[simp] theorem State.wrByte_ledger (a : Nat) (b : Byte) : (s.wrByte a b).ledger = s.ledger := rfl
@[simp] theorem State.wrByte_timers (a : Nat) (b : Byte) : (s.wrByte a b).timers = s.timers := rfl
@[simp] theorem State.wrByte_frst (a : Nat) (b : Byte) : (s.wrByte a b).frst = s.frst := rfl
@[simp] theorem State.wrByte_devReset (a : Nat) (b : Byte) : (s.wrByte a b).devReset = s.devReset := rfl
@[simp] theorem State.wrByte_parked (a : Nat) (b : Byte) : (s.wrByte a b).parked = s.parked := rfl
@[simp] theorem State.wrByte_host (a : Nat) (b : Byte) : (s.wrByte a b).host = s.host := rfl
@[simp] theorem State.wrByte_wfail (a : Nat) (b : Byte) : (s.wrByte a b).wfail = s.wfail := rfl
@[simp] theorem State.wrByte_plast (a : Nat) (b : Byte) : (s.wrByte a b).plast = s.plast := rfl
@[simp] theorem State.wrByte_failArr (a : Nat) (b : Byte) : (s.wrByte a b).failArr = s.failArr := rfl
@[simp] theorem State.wrByte_tally (a : Nat) (b : Byte) : (s.wrByte a b).tally = s.tally := rfl
@[simp] theorem State.wrByte_tiles (a : Nat) (b : Byte) : (s.wrByte a b).tiles = s.tiles := rfl
@[simp] theorem State.wrByte_ctxNext (a : Nat) (b : Byte) : (s.wrByte a b).ctxNext = s.ctxNext := rfl
@[simp] theorem State.wrByte_ctxTail (a : Nat) (b : Byte) : (s.wrByte a b).ctxTail = s.ctxTail := rfl
@[simp] theorem State.wrByte_ctxQueue (a : Nat) (b : Byte) : (s.wrByte a b).ctxQueue = s.ctxQueue := rfl
@[simp] theorem State.wrByte_ctxs (a : Nat) (b : Byte) : (s.wrByte a b).ctxs = s.ctxs := rfl
@[simp] theorem State.wrByte_qmHeld (a : Nat) (b : Byte) : (s.wrByte a b).qmHeld = s.qmHeld := rfl
@[simp] theorem State.wrByte_bufs (a : Nat) (b : Byte) : (s.wrByte a b).bufs = s.bufs := rfl
@[simp] theorem State.wrByte_heldFlits (a : Nat) (b : Byte) : (s.wrByte a b).heldFlits = s.heldFlits := rfl
@[simp] theorem State.wrByte_flitId (a : Nat) (b : Byte) : (s.wrByte a b).flitId = s.flitId := rfl
@[simp] theorem State.wrByte_routes (a : Nat) (b : Byte) : (s.wrByte a b).routes = s.routes := rfl
@[simp] theorem State.wrByte_outst (a : Nat) (b : Byte) : (s.wrByte a b).outst = s.outst := rfl
@[simp] theorem State.wrByte_txNext (a : Nat) (b : Byte) : (s.wrByte a b).txNext = s.txNext := rfl
@[simp] theorem State.wrByte_inbox (a : Nat) (b : Byte) : (s.wrByte a b).inbox = s.inbox := rfl
@[simp] theorem State.wrByte_wakeFlits (a : Nat) (b : Byte) : (s.wrByte a b).wakeFlits = s.wakeFlits := rfl
@[simp] theorem State.wrByte_wakeSince (a : Nat) (b : Byte) : (s.wrByte a b).wakeSince = s.wakeSince := rfl
@[simp] theorem State.wrByte_prbCnt (a : Nat) (b : Byte) : (s.wrByte a b).prbCnt = s.prbCnt := rfl
@[simp] theorem State.wrByte_domOrg (a : Nat) (b : Byte) : (s.wrByte a b).domOrg = s.domOrg := rfl
@[simp] theorem State.wrByte_domHeld (a : Nat) (b : Byte) : (s.wrByte a b).domHeld = s.domHeld := rfl
@[simp] theorem State.wrByte_niDest (a : Nat) (b : Byte) : (s.wrByte a b).niDest = s.niDest := rfl
@[simp] theorem State.wrByte_hbmc (a : Nat) (b : Byte) : (s.wrByte a b).hbmc = s.hbmc := rfl
@[simp] theorem State.wrByte_holds (a : Nat) (b : Byte) : (s.wrByte a b).holds = s.holds := rfl
@[simp] theorem State.wrByte_waiters (a : Nat) (b : Byte) : (s.wrByte a b).waiters = s.waiters := rfl
@[simp] theorem State.wrByte_notices (a : Nat) (b : Byte) : (s.wrByte a b).notices = s.notices := rfl
@[simp] theorem State.wrByte_dma (a : Nat) (b : Byte) : (s.wrByte a b).dma = s.dma := rfl
@[simp] theorem State.wrByte_ken (a : Nat) (b : Byte) : (s.wrByte a b).ken = s.ken := rfl
@[simp] theorem State.wrByte_cores (a : Nat) (b : Byte) : (s.wrByte a b).cores = s.cores := rfl
@[simp] theorem State.wrByte_hubs (a : Nat) (b : Byte) : (s.wrByte a b).hubs = s.hubs := rfl
@[simp] theorem State.wrByte_plates (a : Nat) (b : Byte) : (s.wrByte a b).plates = s.plates := rfl
@[simp] theorem State.wrByte_ports (a : Nat) (b : Byte) : (s.wrByte a b).ports = s.ports := rfl
@[simp] theorem State.wrByte_links (a : Nat) (b : Byte) : (s.wrByte a b).links = s.links := rfl
@[simp] theorem State.wrByte_packRt (a : Nat) (b : Byte) : (s.wrByte a b).packRt = s.packRt := rfl
@[simp] theorem State.wrByte_brace (a : Nat) (b : Byte) : (s.wrByte a b).brace = s.brace := rfl
@[simp] theorem State.wrByte_pack (a : Nat) (b : Byte) : (s.wrByte a b).pack = s.pack := rfl
@[simp] theorem State.wrByte_gauges (a : Nat) (b : Byte) : (s.wrByte a b).gauges = s.gauges := rfl
@[simp] theorem State.wrByte_timeOffs (a : Nat) (b : Byte) : (s.wrByte a b).timeOffs = s.timeOffs := rfl
@[simp] theorem State.wrByte_ret (a : Nat) (b : Byte) : (s.wrByte a b).ret = s.ret := rfl
@[simp] theorem State.wrByte_tripHot (a : Nat) (b : Byte) : (s.wrByte a b).tripHot = s.tripHot := rfl

/-! ## updHb -/

@[simp] theorem State.updHb_pending (u : Nat) (g : Hbmc → Hbmc) : (s.updHb u g).pending = s.pending := rfl
@[simp] theorem State.updHb_regs (u : Nat) (g : Hbmc → Hbmc) : (s.updHb u g).regs = s.regs := rfl
@[simp] theorem State.updHb_mem (u : Nat) (g : Hbmc → Hbmc) : (s.updHb u g).mem = s.mem := rfl
@[simp] theorem State.updHb_out (u : Nat) (g : Hbmc → Hbmc) : (s.updHb u g).out = s.out := rfl
@[simp] theorem State.updHb_reactions (u : Nat) (g : Hbmc → Hbmc) : (s.updHb u g).reactions = s.reactions := rfl
@[simp] theorem State.updHb_freeCtr (u : Nat) (g : Hbmc → Hbmc) : (s.updHb u g).freeCtr = s.freeCtr := rfl
@[simp] theorem State.updHb_now (u : Nat) (g : Hbmc → Hbmc) : (s.updHb u g).now = s.now := rfl
@[simp] theorem State.updHb_porst (u : Nat) (g : Hbmc → Hbmc) : (s.updHb u g).porst = s.porst := rfl
@[simp] theorem State.updHb_brown (u : Nat) (g : Hbmc → Hbmc) : (s.updHb u g).brown = s.brown := rfl
@[simp] theorem State.updHb_pinLow (u : Nat) (g : Hbmc → Hbmc) : (s.updHb u g).pinLow = s.pinLow := rfl
@[simp] theorem State.updHb_rom (u : Nat) (g : Hbmc → Hbmc) : (s.updHb u g).rom = s.rom := rfl
@[simp] theorem State.updHb_turns (u : Nat) (g : Hbmc → Hbmc) : (s.updHb u g).turns = s.turns := rfl
@[simp] theorem State.updHb_wakeAsk (u : Nat) (g : Hbmc → Hbmc) : (s.updHb u g).wakeAsk = s.wakeAsk := rfl
@[simp] theorem State.updHb_govAt (u : Nat) (g : Hbmc → Hbmc) : (s.updHb u g).govAt = s.govAt := rfl
@[simp] theorem State.updHb_capFrom (u : Nat) (g : Hbmc → Hbmc) : (s.updHb u g).capFrom = s.capFrom := rfl
@[simp] theorem State.updHb_fuses (u : Nat) (g : Hbmc → Hbmc) : (s.updHb u g).fuses = s.fuses := rfl
@[simp] theorem State.updHb_ledger (u : Nat) (g : Hbmc → Hbmc) : (s.updHb u g).ledger = s.ledger := rfl
@[simp] theorem State.updHb_timers (u : Nat) (g : Hbmc → Hbmc) : (s.updHb u g).timers = s.timers := rfl
@[simp] theorem State.updHb_frst (u : Nat) (g : Hbmc → Hbmc) : (s.updHb u g).frst = s.frst := rfl
@[simp] theorem State.updHb_devReset (u : Nat) (g : Hbmc → Hbmc) : (s.updHb u g).devReset = s.devReset := rfl
@[simp] theorem State.updHb_parked (u : Nat) (g : Hbmc → Hbmc) : (s.updHb u g).parked = s.parked := rfl
@[simp] theorem State.updHb_host (u : Nat) (g : Hbmc → Hbmc) : (s.updHb u g).host = s.host := rfl
@[simp] theorem State.updHb_wfail (u : Nat) (g : Hbmc → Hbmc) : (s.updHb u g).wfail = s.wfail := rfl
@[simp] theorem State.updHb_plast (u : Nat) (g : Hbmc → Hbmc) : (s.updHb u g).plast = s.plast := rfl
@[simp] theorem State.updHb_failArr (u : Nat) (g : Hbmc → Hbmc) : (s.updHb u g).failArr = s.failArr := rfl
@[simp] theorem State.updHb_tally (u : Nat) (g : Hbmc → Hbmc) : (s.updHb u g).tally = s.tally := rfl
@[simp] theorem State.updHb_tiles (u : Nat) (g : Hbmc → Hbmc) : (s.updHb u g).tiles = s.tiles := rfl
@[simp] theorem State.updHb_ctxNext (u : Nat) (g : Hbmc → Hbmc) : (s.updHb u g).ctxNext = s.ctxNext := rfl
@[simp] theorem State.updHb_ctxTail (u : Nat) (g : Hbmc → Hbmc) : (s.updHb u g).ctxTail = s.ctxTail := rfl
@[simp] theorem State.updHb_ctxQueue (u : Nat) (g : Hbmc → Hbmc) : (s.updHb u g).ctxQueue = s.ctxQueue := rfl
@[simp] theorem State.updHb_ctxs (u : Nat) (g : Hbmc → Hbmc) : (s.updHb u g).ctxs = s.ctxs := rfl
@[simp] theorem State.updHb_qmHeld (u : Nat) (g : Hbmc → Hbmc) : (s.updHb u g).qmHeld = s.qmHeld := rfl
@[simp] theorem State.updHb_bufs (u : Nat) (g : Hbmc → Hbmc) : (s.updHb u g).bufs = s.bufs := rfl
@[simp] theorem State.updHb_heldFlits (u : Nat) (g : Hbmc → Hbmc) : (s.updHb u g).heldFlits = s.heldFlits := rfl
@[simp] theorem State.updHb_flitId (u : Nat) (g : Hbmc → Hbmc) : (s.updHb u g).flitId = s.flitId := rfl
@[simp] theorem State.updHb_routes (u : Nat) (g : Hbmc → Hbmc) : (s.updHb u g).routes = s.routes := rfl
@[simp] theorem State.updHb_outst (u : Nat) (g : Hbmc → Hbmc) : (s.updHb u g).outst = s.outst := rfl
@[simp] theorem State.updHb_txNext (u : Nat) (g : Hbmc → Hbmc) : (s.updHb u g).txNext = s.txNext := rfl
@[simp] theorem State.updHb_inbox (u : Nat) (g : Hbmc → Hbmc) : (s.updHb u g).inbox = s.inbox := rfl
@[simp] theorem State.updHb_wakeFlits (u : Nat) (g : Hbmc → Hbmc) : (s.updHb u g).wakeFlits = s.wakeFlits := rfl
@[simp] theorem State.updHb_wakeSince (u : Nat) (g : Hbmc → Hbmc) : (s.updHb u g).wakeSince = s.wakeSince := rfl
@[simp] theorem State.updHb_prbCnt (u : Nat) (g : Hbmc → Hbmc) : (s.updHb u g).prbCnt = s.prbCnt := rfl
@[simp] theorem State.updHb_domOrg (u : Nat) (g : Hbmc → Hbmc) : (s.updHb u g).domOrg = s.domOrg := rfl
@[simp] theorem State.updHb_domHeld (u : Nat) (g : Hbmc → Hbmc) : (s.updHb u g).domHeld = s.domHeld := rfl
@[simp] theorem State.updHb_niDest (u : Nat) (g : Hbmc → Hbmc) : (s.updHb u g).niDest = s.niDest := rfl
@[simp] theorem State.updHb_holds (u : Nat) (g : Hbmc → Hbmc) : (s.updHb u g).holds = s.holds := rfl
@[simp] theorem State.updHb_waiters (u : Nat) (g : Hbmc → Hbmc) : (s.updHb u g).waiters = s.waiters := rfl
@[simp] theorem State.updHb_notices (u : Nat) (g : Hbmc → Hbmc) : (s.updHb u g).notices = s.notices := rfl
@[simp] theorem State.updHb_dma (u : Nat) (g : Hbmc → Hbmc) : (s.updHb u g).dma = s.dma := rfl
@[simp] theorem State.updHb_ken (u : Nat) (g : Hbmc → Hbmc) : (s.updHb u g).ken = s.ken := rfl
@[simp] theorem State.updHb_cores (u : Nat) (g : Hbmc → Hbmc) : (s.updHb u g).cores = s.cores := rfl
@[simp] theorem State.updHb_hubs (u : Nat) (g : Hbmc → Hbmc) : (s.updHb u g).hubs = s.hubs := rfl
@[simp] theorem State.updHb_plates (u : Nat) (g : Hbmc → Hbmc) : (s.updHb u g).plates = s.plates := rfl
@[simp] theorem State.updHb_ports (u : Nat) (g : Hbmc → Hbmc) : (s.updHb u g).ports = s.ports := rfl
@[simp] theorem State.updHb_links (u : Nat) (g : Hbmc → Hbmc) : (s.updHb u g).links = s.links := rfl
@[simp] theorem State.updHb_packRt (u : Nat) (g : Hbmc → Hbmc) : (s.updHb u g).packRt = s.packRt := rfl
@[simp] theorem State.updHb_brace (u : Nat) (g : Hbmc → Hbmc) : (s.updHb u g).brace = s.brace := rfl
@[simp] theorem State.updHb_pack (u : Nat) (g : Hbmc → Hbmc) : (s.updHb u g).pack = s.pack := rfl
@[simp] theorem State.updHb_gauges (u : Nat) (g : Hbmc → Hbmc) : (s.updHb u g).gauges = s.gauges := rfl
@[simp] theorem State.updHb_timeOffs (u : Nat) (g : Hbmc → Hbmc) : (s.updHb u g).timeOffs = s.timeOffs := rfl
@[simp] theorem State.updHb_ret (u : Nat) (g : Hbmc → Hbmc) : (s.updHb u g).ret = s.ret := rfl
@[simp] theorem State.updHb_tripHot (u : Nat) (g : Hbmc → Hbmc) : (s.updHb u g).tripHot = s.tripHot := rfl

/-! ## setTimer -/

@[simp] theorem State.setTimer_pending (p : Nat) (t : Option Word) : (s.setTimer p t).pending = s.pending := rfl
@[simp] theorem State.setTimer_regs (p : Nat) (t : Option Word) : (s.setTimer p t).regs = s.regs := rfl
@[simp] theorem State.setTimer_mem (p : Nat) (t : Option Word) : (s.setTimer p t).mem = s.mem := rfl
@[simp] theorem State.setTimer_out (p : Nat) (t : Option Word) : (s.setTimer p t).out = s.out := rfl
@[simp] theorem State.setTimer_reactions (p : Nat) (t : Option Word) : (s.setTimer p t).reactions = s.reactions := rfl
@[simp] theorem State.setTimer_freeCtr (p : Nat) (t : Option Word) : (s.setTimer p t).freeCtr = s.freeCtr := rfl
@[simp] theorem State.setTimer_now (p : Nat) (t : Option Word) : (s.setTimer p t).now = s.now := rfl
@[simp] theorem State.setTimer_porst (p : Nat) (t : Option Word) : (s.setTimer p t).porst = s.porst := rfl
@[simp] theorem State.setTimer_brown (p : Nat) (t : Option Word) : (s.setTimer p t).brown = s.brown := rfl
@[simp] theorem State.setTimer_pinLow (p : Nat) (t : Option Word) : (s.setTimer p t).pinLow = s.pinLow := rfl
@[simp] theorem State.setTimer_rom (p : Nat) (t : Option Word) : (s.setTimer p t).rom = s.rom := rfl
@[simp] theorem State.setTimer_turns (p : Nat) (t : Option Word) : (s.setTimer p t).turns = s.turns := rfl
@[simp] theorem State.setTimer_wakeAsk (p : Nat) (t : Option Word) : (s.setTimer p t).wakeAsk = s.wakeAsk := rfl
@[simp] theorem State.setTimer_govAt (p : Nat) (t : Option Word) : (s.setTimer p t).govAt = s.govAt := rfl
@[simp] theorem State.setTimer_capFrom (p : Nat) (t : Option Word) : (s.setTimer p t).capFrom = s.capFrom := rfl
@[simp] theorem State.setTimer_fuses (p : Nat) (t : Option Word) : (s.setTimer p t).fuses = s.fuses := rfl
@[simp] theorem State.setTimer_ledger (p : Nat) (t : Option Word) : (s.setTimer p t).ledger = s.ledger := rfl
@[simp] theorem State.setTimer_frst (p : Nat) (t : Option Word) : (s.setTimer p t).frst = s.frst := rfl
@[simp] theorem State.setTimer_devReset (p : Nat) (t : Option Word) : (s.setTimer p t).devReset = s.devReset := rfl
@[simp] theorem State.setTimer_parked (p : Nat) (t : Option Word) : (s.setTimer p t).parked = s.parked := rfl
@[simp] theorem State.setTimer_host (p : Nat) (t : Option Word) : (s.setTimer p t).host = s.host := rfl
@[simp] theorem State.setTimer_wfail (p : Nat) (t : Option Word) : (s.setTimer p t).wfail = s.wfail := rfl
@[simp] theorem State.setTimer_plast (p : Nat) (t : Option Word) : (s.setTimer p t).plast = s.plast := rfl
@[simp] theorem State.setTimer_failArr (p : Nat) (t : Option Word) : (s.setTimer p t).failArr = s.failArr := rfl
@[simp] theorem State.setTimer_tally (p : Nat) (t : Option Word) : (s.setTimer p t).tally = s.tally := rfl
@[simp] theorem State.setTimer_tiles (p : Nat) (t : Option Word) : (s.setTimer p t).tiles = s.tiles := rfl
@[simp] theorem State.setTimer_ctxNext (p : Nat) (t : Option Word) : (s.setTimer p t).ctxNext = s.ctxNext := rfl
@[simp] theorem State.setTimer_ctxTail (p : Nat) (t : Option Word) : (s.setTimer p t).ctxTail = s.ctxTail := rfl
@[simp] theorem State.setTimer_ctxQueue (p : Nat) (t : Option Word) : (s.setTimer p t).ctxQueue = s.ctxQueue := rfl
@[simp] theorem State.setTimer_ctxs (p : Nat) (t : Option Word) : (s.setTimer p t).ctxs = s.ctxs := rfl
@[simp] theorem State.setTimer_qmHeld (p : Nat) (t : Option Word) : (s.setTimer p t).qmHeld = s.qmHeld := rfl
@[simp] theorem State.setTimer_bufs (p : Nat) (t : Option Word) : (s.setTimer p t).bufs = s.bufs := rfl
@[simp] theorem State.setTimer_heldFlits (p : Nat) (t : Option Word) : (s.setTimer p t).heldFlits = s.heldFlits := rfl
@[simp] theorem State.setTimer_flitId (p : Nat) (t : Option Word) : (s.setTimer p t).flitId = s.flitId := rfl
@[simp] theorem State.setTimer_routes (p : Nat) (t : Option Word) : (s.setTimer p t).routes = s.routes := rfl
@[simp] theorem State.setTimer_outst (p : Nat) (t : Option Word) : (s.setTimer p t).outst = s.outst := rfl
@[simp] theorem State.setTimer_txNext (p : Nat) (t : Option Word) : (s.setTimer p t).txNext = s.txNext := rfl
@[simp] theorem State.setTimer_inbox (p : Nat) (t : Option Word) : (s.setTimer p t).inbox = s.inbox := rfl
@[simp] theorem State.setTimer_wakeFlits (p : Nat) (t : Option Word) : (s.setTimer p t).wakeFlits = s.wakeFlits := rfl
@[simp] theorem State.setTimer_wakeSince (p : Nat) (t : Option Word) : (s.setTimer p t).wakeSince = s.wakeSince := rfl
@[simp] theorem State.setTimer_prbCnt (p : Nat) (t : Option Word) : (s.setTimer p t).prbCnt = s.prbCnt := rfl
@[simp] theorem State.setTimer_domOrg (p : Nat) (t : Option Word) : (s.setTimer p t).domOrg = s.domOrg := rfl
@[simp] theorem State.setTimer_domHeld (p : Nat) (t : Option Word) : (s.setTimer p t).domHeld = s.domHeld := rfl
@[simp] theorem State.setTimer_niDest (p : Nat) (t : Option Word) : (s.setTimer p t).niDest = s.niDest := rfl
@[simp] theorem State.setTimer_hbmc (p : Nat) (t : Option Word) : (s.setTimer p t).hbmc = s.hbmc := rfl
@[simp] theorem State.setTimer_holds (p : Nat) (t : Option Word) : (s.setTimer p t).holds = s.holds := rfl
@[simp] theorem State.setTimer_waiters (p : Nat) (t : Option Word) : (s.setTimer p t).waiters = s.waiters := rfl
@[simp] theorem State.setTimer_notices (p : Nat) (t : Option Word) : (s.setTimer p t).notices = s.notices := rfl
@[simp] theorem State.setTimer_dma (p : Nat) (t : Option Word) : (s.setTimer p t).dma = s.dma := rfl
@[simp] theorem State.setTimer_ken (p : Nat) (t : Option Word) : (s.setTimer p t).ken = s.ken := rfl
@[simp] theorem State.setTimer_cores (p : Nat) (t : Option Word) : (s.setTimer p t).cores = s.cores := rfl
@[simp] theorem State.setTimer_hubs (p : Nat) (t : Option Word) : (s.setTimer p t).hubs = s.hubs := rfl
@[simp] theorem State.setTimer_plates (p : Nat) (t : Option Word) : (s.setTimer p t).plates = s.plates := rfl
@[simp] theorem State.setTimer_ports (p : Nat) (t : Option Word) : (s.setTimer p t).ports = s.ports := rfl
@[simp] theorem State.setTimer_links (p : Nat) (t : Option Word) : (s.setTimer p t).links = s.links := rfl
@[simp] theorem State.setTimer_packRt (p : Nat) (t : Option Word) : (s.setTimer p t).packRt = s.packRt := rfl
@[simp] theorem State.setTimer_brace (p : Nat) (t : Option Word) : (s.setTimer p t).brace = s.brace := rfl
@[simp] theorem State.setTimer_pack (p : Nat) (t : Option Word) : (s.setTimer p t).pack = s.pack := rfl
@[simp] theorem State.setTimer_gauges (p : Nat) (t : Option Word) : (s.setTimer p t).gauges = s.gauges := rfl
@[simp] theorem State.setTimer_timeOffs (p : Nat) (t : Option Word) : (s.setTimer p t).timeOffs = s.timeOffs := rfl
@[simp] theorem State.setTimer_ret (p : Nat) (t : Option Word) : (s.setTimer p t).ret = s.ret := rfl
@[simp] theorem State.setTimer_tripHot (p : Nat) (t : Option Word) : (s.setTimer p t).tripHot = s.tripHot := rfl

/-! ## updTile -/

@[simp] theorem State.updTile_pending (t : Nat) (g : Tile → Tile) : (s.updTile t g).pending = s.pending := rfl
@[simp] theorem State.updTile_regs (t : Nat) (g : Tile → Tile) : (s.updTile t g).regs = s.regs := rfl
@[simp] theorem State.updTile_mem (t : Nat) (g : Tile → Tile) : (s.updTile t g).mem = s.mem := rfl
@[simp] theorem State.updTile_out (t : Nat) (g : Tile → Tile) : (s.updTile t g).out = s.out := rfl
@[simp] theorem State.updTile_reactions (t : Nat) (g : Tile → Tile) : (s.updTile t g).reactions = s.reactions := rfl
@[simp] theorem State.updTile_freeCtr (t : Nat) (g : Tile → Tile) : (s.updTile t g).freeCtr = s.freeCtr := rfl
@[simp] theorem State.updTile_now (t : Nat) (g : Tile → Tile) : (s.updTile t g).now = s.now := rfl
@[simp] theorem State.updTile_porst (t : Nat) (g : Tile → Tile) : (s.updTile t g).porst = s.porst := rfl
@[simp] theorem State.updTile_brown (t : Nat) (g : Tile → Tile) : (s.updTile t g).brown = s.brown := rfl
@[simp] theorem State.updTile_pinLow (t : Nat) (g : Tile → Tile) : (s.updTile t g).pinLow = s.pinLow := rfl
@[simp] theorem State.updTile_rom (t : Nat) (g : Tile → Tile) : (s.updTile t g).rom = s.rom := rfl
@[simp] theorem State.updTile_turns (t : Nat) (g : Tile → Tile) : (s.updTile t g).turns = s.turns := rfl
@[simp] theorem State.updTile_wakeAsk (t : Nat) (g : Tile → Tile) : (s.updTile t g).wakeAsk = s.wakeAsk := rfl
@[simp] theorem State.updTile_govAt (t : Nat) (g : Tile → Tile) : (s.updTile t g).govAt = s.govAt := rfl
@[simp] theorem State.updTile_capFrom (t : Nat) (g : Tile → Tile) : (s.updTile t g).capFrom = s.capFrom := rfl
@[simp] theorem State.updTile_fuses (t : Nat) (g : Tile → Tile) : (s.updTile t g).fuses = s.fuses := rfl
@[simp] theorem State.updTile_ledger (t : Nat) (g : Tile → Tile) : (s.updTile t g).ledger = s.ledger := rfl
@[simp] theorem State.updTile_timers (t : Nat) (g : Tile → Tile) : (s.updTile t g).timers = s.timers := rfl
@[simp] theorem State.updTile_frst (t : Nat) (g : Tile → Tile) : (s.updTile t g).frst = s.frst := rfl
@[simp] theorem State.updTile_devReset (t : Nat) (g : Tile → Tile) : (s.updTile t g).devReset = s.devReset := rfl
@[simp] theorem State.updTile_parked (t : Nat) (g : Tile → Tile) : (s.updTile t g).parked = s.parked := rfl
@[simp] theorem State.updTile_host (t : Nat) (g : Tile → Tile) : (s.updTile t g).host = s.host := rfl
@[simp] theorem State.updTile_wfail (t : Nat) (g : Tile → Tile) : (s.updTile t g).wfail = s.wfail := rfl
@[simp] theorem State.updTile_plast (t : Nat) (g : Tile → Tile) : (s.updTile t g).plast = s.plast := rfl
@[simp] theorem State.updTile_failArr (t : Nat) (g : Tile → Tile) : (s.updTile t g).failArr = s.failArr := rfl
@[simp] theorem State.updTile_tally (t : Nat) (g : Tile → Tile) : (s.updTile t g).tally = s.tally := rfl
@[simp] theorem State.updTile_ctxNext (t : Nat) (g : Tile → Tile) : (s.updTile t g).ctxNext = s.ctxNext := rfl
@[simp] theorem State.updTile_ctxTail (t : Nat) (g : Tile → Tile) : (s.updTile t g).ctxTail = s.ctxTail := rfl
@[simp] theorem State.updTile_ctxQueue (t : Nat) (g : Tile → Tile) : (s.updTile t g).ctxQueue = s.ctxQueue := rfl
@[simp] theorem State.updTile_ctxs (t : Nat) (g : Tile → Tile) : (s.updTile t g).ctxs = s.ctxs := rfl
@[simp] theorem State.updTile_qmHeld (t : Nat) (g : Tile → Tile) : (s.updTile t g).qmHeld = s.qmHeld := rfl
@[simp] theorem State.updTile_bufs (t : Nat) (g : Tile → Tile) : (s.updTile t g).bufs = s.bufs := rfl
@[simp] theorem State.updTile_heldFlits (t : Nat) (g : Tile → Tile) : (s.updTile t g).heldFlits = s.heldFlits := rfl
@[simp] theorem State.updTile_flitId (t : Nat) (g : Tile → Tile) : (s.updTile t g).flitId = s.flitId := rfl
@[simp] theorem State.updTile_routes (t : Nat) (g : Tile → Tile) : (s.updTile t g).routes = s.routes := rfl
@[simp] theorem State.updTile_outst (t : Nat) (g : Tile → Tile) : (s.updTile t g).outst = s.outst := rfl
@[simp] theorem State.updTile_txNext (t : Nat) (g : Tile → Tile) : (s.updTile t g).txNext = s.txNext := rfl
@[simp] theorem State.updTile_inbox (t : Nat) (g : Tile → Tile) : (s.updTile t g).inbox = s.inbox := rfl
@[simp] theorem State.updTile_wakeFlits (t : Nat) (g : Tile → Tile) : (s.updTile t g).wakeFlits = s.wakeFlits := rfl
@[simp] theorem State.updTile_wakeSince (t : Nat) (g : Tile → Tile) : (s.updTile t g).wakeSince = s.wakeSince := rfl
@[simp] theorem State.updTile_prbCnt (t : Nat) (g : Tile → Tile) : (s.updTile t g).prbCnt = s.prbCnt := rfl
@[simp] theorem State.updTile_domOrg (t : Nat) (g : Tile → Tile) : (s.updTile t g).domOrg = s.domOrg := rfl
@[simp] theorem State.updTile_domHeld (t : Nat) (g : Tile → Tile) : (s.updTile t g).domHeld = s.domHeld := rfl
@[simp] theorem State.updTile_niDest (t : Nat) (g : Tile → Tile) : (s.updTile t g).niDest = s.niDest := rfl
@[simp] theorem State.updTile_hbmc (t : Nat) (g : Tile → Tile) : (s.updTile t g).hbmc = s.hbmc := rfl
@[simp] theorem State.updTile_holds (t : Nat) (g : Tile → Tile) : (s.updTile t g).holds = s.holds := rfl
@[simp] theorem State.updTile_waiters (t : Nat) (g : Tile → Tile) : (s.updTile t g).waiters = s.waiters := rfl
@[simp] theorem State.updTile_notices (t : Nat) (g : Tile → Tile) : (s.updTile t g).notices = s.notices := rfl
@[simp] theorem State.updTile_dma (t : Nat) (g : Tile → Tile) : (s.updTile t g).dma = s.dma := rfl
@[simp] theorem State.updTile_ken (t : Nat) (g : Tile → Tile) : (s.updTile t g).ken = s.ken := rfl
@[simp] theorem State.updTile_cores (t : Nat) (g : Tile → Tile) : (s.updTile t g).cores = s.cores := rfl
@[simp] theorem State.updTile_hubs (t : Nat) (g : Tile → Tile) : (s.updTile t g).hubs = s.hubs := rfl
@[simp] theorem State.updTile_plates (t : Nat) (g : Tile → Tile) : (s.updTile t g).plates = s.plates := rfl
@[simp] theorem State.updTile_ports (t : Nat) (g : Tile → Tile) : (s.updTile t g).ports = s.ports := rfl
@[simp] theorem State.updTile_links (t : Nat) (g : Tile → Tile) : (s.updTile t g).links = s.links := rfl
@[simp] theorem State.updTile_packRt (t : Nat) (g : Tile → Tile) : (s.updTile t g).packRt = s.packRt := rfl
@[simp] theorem State.updTile_brace (t : Nat) (g : Tile → Tile) : (s.updTile t g).brace = s.brace := rfl
@[simp] theorem State.updTile_pack (t : Nat) (g : Tile → Tile) : (s.updTile t g).pack = s.pack := rfl
@[simp] theorem State.updTile_gauges (t : Nat) (g : Tile → Tile) : (s.updTile t g).gauges = s.gauges := rfl
@[simp] theorem State.updTile_timeOffs (t : Nat) (g : Tile → Tile) : (s.updTile t g).timeOffs = s.timeOffs := rfl
@[simp] theorem State.updTile_ret (t : Nat) (g : Tile → Tile) : (s.updTile t g).ret = s.ret := rfl
@[simp] theorem State.updTile_tripHot (t : Nat) (g : Tile → Tile) : (s.updTile t g).tripHot = s.tripHot := rfl

/-! ## updPe -/

@[simp] theorem State.updPe_pending (t p : Nat) (g : PeSt → PeSt) : (s.updPe t p g).pending = s.pending := rfl
@[simp] theorem State.updPe_regs (t p : Nat) (g : PeSt → PeSt) : (s.updPe t p g).regs = s.regs := rfl
@[simp] theorem State.updPe_mem (t p : Nat) (g : PeSt → PeSt) : (s.updPe t p g).mem = s.mem := rfl
@[simp] theorem State.updPe_out (t p : Nat) (g : PeSt → PeSt) : (s.updPe t p g).out = s.out := rfl
@[simp] theorem State.updPe_reactions (t p : Nat) (g : PeSt → PeSt) : (s.updPe t p g).reactions = s.reactions := rfl
@[simp] theorem State.updPe_freeCtr (t p : Nat) (g : PeSt → PeSt) : (s.updPe t p g).freeCtr = s.freeCtr := rfl
@[simp] theorem State.updPe_now (t p : Nat) (g : PeSt → PeSt) : (s.updPe t p g).now = s.now := rfl
@[simp] theorem State.updPe_porst (t p : Nat) (g : PeSt → PeSt) : (s.updPe t p g).porst = s.porst := rfl
@[simp] theorem State.updPe_brown (t p : Nat) (g : PeSt → PeSt) : (s.updPe t p g).brown = s.brown := rfl
@[simp] theorem State.updPe_pinLow (t p : Nat) (g : PeSt → PeSt) : (s.updPe t p g).pinLow = s.pinLow := rfl
@[simp] theorem State.updPe_rom (t p : Nat) (g : PeSt → PeSt) : (s.updPe t p g).rom = s.rom := rfl
@[simp] theorem State.updPe_turns (t p : Nat) (g : PeSt → PeSt) : (s.updPe t p g).turns = s.turns := rfl
@[simp] theorem State.updPe_wakeAsk (t p : Nat) (g : PeSt → PeSt) : (s.updPe t p g).wakeAsk = s.wakeAsk := rfl
@[simp] theorem State.updPe_govAt (t p : Nat) (g : PeSt → PeSt) : (s.updPe t p g).govAt = s.govAt := rfl
@[simp] theorem State.updPe_capFrom (t p : Nat) (g : PeSt → PeSt) : (s.updPe t p g).capFrom = s.capFrom := rfl
@[simp] theorem State.updPe_fuses (t p : Nat) (g : PeSt → PeSt) : (s.updPe t p g).fuses = s.fuses := rfl
@[simp] theorem State.updPe_ledger (t p : Nat) (g : PeSt → PeSt) : (s.updPe t p g).ledger = s.ledger := rfl
@[simp] theorem State.updPe_timers (t p : Nat) (g : PeSt → PeSt) : (s.updPe t p g).timers = s.timers := rfl
@[simp] theorem State.updPe_frst (t p : Nat) (g : PeSt → PeSt) : (s.updPe t p g).frst = s.frst := rfl
@[simp] theorem State.updPe_devReset (t p : Nat) (g : PeSt → PeSt) : (s.updPe t p g).devReset = s.devReset := rfl
@[simp] theorem State.updPe_parked (t p : Nat) (g : PeSt → PeSt) : (s.updPe t p g).parked = s.parked := rfl
@[simp] theorem State.updPe_host (t p : Nat) (g : PeSt → PeSt) : (s.updPe t p g).host = s.host := rfl
@[simp] theorem State.updPe_wfail (t p : Nat) (g : PeSt → PeSt) : (s.updPe t p g).wfail = s.wfail := rfl
@[simp] theorem State.updPe_plast (t p : Nat) (g : PeSt → PeSt) : (s.updPe t p g).plast = s.plast := rfl
@[simp] theorem State.updPe_failArr (t p : Nat) (g : PeSt → PeSt) : (s.updPe t p g).failArr = s.failArr := rfl
@[simp] theorem State.updPe_tally (t p : Nat) (g : PeSt → PeSt) : (s.updPe t p g).tally = s.tally := rfl
@[simp] theorem State.updPe_ctxNext (t p : Nat) (g : PeSt → PeSt) : (s.updPe t p g).ctxNext = s.ctxNext := rfl
@[simp] theorem State.updPe_ctxTail (t p : Nat) (g : PeSt → PeSt) : (s.updPe t p g).ctxTail = s.ctxTail := rfl
@[simp] theorem State.updPe_ctxQueue (t p : Nat) (g : PeSt → PeSt) : (s.updPe t p g).ctxQueue = s.ctxQueue := rfl
@[simp] theorem State.updPe_ctxs (t p : Nat) (g : PeSt → PeSt) : (s.updPe t p g).ctxs = s.ctxs := rfl
@[simp] theorem State.updPe_qmHeld (t p : Nat) (g : PeSt → PeSt) : (s.updPe t p g).qmHeld = s.qmHeld := rfl
@[simp] theorem State.updPe_bufs (t p : Nat) (g : PeSt → PeSt) : (s.updPe t p g).bufs = s.bufs := rfl
@[simp] theorem State.updPe_heldFlits (t p : Nat) (g : PeSt → PeSt) : (s.updPe t p g).heldFlits = s.heldFlits := rfl
@[simp] theorem State.updPe_flitId (t p : Nat) (g : PeSt → PeSt) : (s.updPe t p g).flitId = s.flitId := rfl
@[simp] theorem State.updPe_routes (t p : Nat) (g : PeSt → PeSt) : (s.updPe t p g).routes = s.routes := rfl
@[simp] theorem State.updPe_outst (t p : Nat) (g : PeSt → PeSt) : (s.updPe t p g).outst = s.outst := rfl
@[simp] theorem State.updPe_txNext (t p : Nat) (g : PeSt → PeSt) : (s.updPe t p g).txNext = s.txNext := rfl
@[simp] theorem State.updPe_inbox (t p : Nat) (g : PeSt → PeSt) : (s.updPe t p g).inbox = s.inbox := rfl
@[simp] theorem State.updPe_wakeFlits (t p : Nat) (g : PeSt → PeSt) : (s.updPe t p g).wakeFlits = s.wakeFlits := rfl
@[simp] theorem State.updPe_wakeSince (t p : Nat) (g : PeSt → PeSt) : (s.updPe t p g).wakeSince = s.wakeSince := rfl
@[simp] theorem State.updPe_prbCnt (t p : Nat) (g : PeSt → PeSt) : (s.updPe t p g).prbCnt = s.prbCnt := rfl
@[simp] theorem State.updPe_domOrg (t p : Nat) (g : PeSt → PeSt) : (s.updPe t p g).domOrg = s.domOrg := rfl
@[simp] theorem State.updPe_domHeld (t p : Nat) (g : PeSt → PeSt) : (s.updPe t p g).domHeld = s.domHeld := rfl
@[simp] theorem State.updPe_niDest (t p : Nat) (g : PeSt → PeSt) : (s.updPe t p g).niDest = s.niDest := rfl
@[simp] theorem State.updPe_hbmc (t p : Nat) (g : PeSt → PeSt) : (s.updPe t p g).hbmc = s.hbmc := rfl
@[simp] theorem State.updPe_holds (t p : Nat) (g : PeSt → PeSt) : (s.updPe t p g).holds = s.holds := rfl
@[simp] theorem State.updPe_waiters (t p : Nat) (g : PeSt → PeSt) : (s.updPe t p g).waiters = s.waiters := rfl
@[simp] theorem State.updPe_notices (t p : Nat) (g : PeSt → PeSt) : (s.updPe t p g).notices = s.notices := rfl
@[simp] theorem State.updPe_dma (t p : Nat) (g : PeSt → PeSt) : (s.updPe t p g).dma = s.dma := rfl
@[simp] theorem State.updPe_ken (t p : Nat) (g : PeSt → PeSt) : (s.updPe t p g).ken = s.ken := rfl
@[simp] theorem State.updPe_cores (t p : Nat) (g : PeSt → PeSt) : (s.updPe t p g).cores = s.cores := rfl
@[simp] theorem State.updPe_hubs (t p : Nat) (g : PeSt → PeSt) : (s.updPe t p g).hubs = s.hubs := rfl
@[simp] theorem State.updPe_plates (t p : Nat) (g : PeSt → PeSt) : (s.updPe t p g).plates = s.plates := rfl
@[simp] theorem State.updPe_ports (t p : Nat) (g : PeSt → PeSt) : (s.updPe t p g).ports = s.ports := rfl
@[simp] theorem State.updPe_links (t p : Nat) (g : PeSt → PeSt) : (s.updPe t p g).links = s.links := rfl
@[simp] theorem State.updPe_packRt (t p : Nat) (g : PeSt → PeSt) : (s.updPe t p g).packRt = s.packRt := rfl
@[simp] theorem State.updPe_brace (t p : Nat) (g : PeSt → PeSt) : (s.updPe t p g).brace = s.brace := rfl
@[simp] theorem State.updPe_pack (t p : Nat) (g : PeSt → PeSt) : (s.updPe t p g).pack = s.pack := rfl
@[simp] theorem State.updPe_gauges (t p : Nat) (g : PeSt → PeSt) : (s.updPe t p g).gauges = s.gauges := rfl
@[simp] theorem State.updPe_timeOffs (t p : Nat) (g : PeSt → PeSt) : (s.updPe t p g).timeOffs = s.timeOffs := rfl
@[simp] theorem State.updPe_ret (t p : Nat) (g : PeSt → PeSt) : (s.updPe t p g).ret = s.ret := rfl
@[simp] theorem State.updPe_tripHot (t p : Nat) (g : PeSt → PeSt) : (s.updPe t p g).tripHot = s.tripHot := rfl

/-! ## updCtx -/

@[simp] theorem State.updCtx_pending (c : Nat) (g : CtxSt → CtxSt) : (s.updCtx c g).pending = s.pending := rfl
@[simp] theorem State.updCtx_regs (c : Nat) (g : CtxSt → CtxSt) : (s.updCtx c g).regs = s.regs := rfl
@[simp] theorem State.updCtx_mem (c : Nat) (g : CtxSt → CtxSt) : (s.updCtx c g).mem = s.mem := rfl
@[simp] theorem State.updCtx_out (c : Nat) (g : CtxSt → CtxSt) : (s.updCtx c g).out = s.out := rfl
@[simp] theorem State.updCtx_reactions (c : Nat) (g : CtxSt → CtxSt) : (s.updCtx c g).reactions = s.reactions := rfl
@[simp] theorem State.updCtx_freeCtr (c : Nat) (g : CtxSt → CtxSt) : (s.updCtx c g).freeCtr = s.freeCtr := rfl
@[simp] theorem State.updCtx_now (c : Nat) (g : CtxSt → CtxSt) : (s.updCtx c g).now = s.now := rfl
@[simp] theorem State.updCtx_porst (c : Nat) (g : CtxSt → CtxSt) : (s.updCtx c g).porst = s.porst := rfl
@[simp] theorem State.updCtx_brown (c : Nat) (g : CtxSt → CtxSt) : (s.updCtx c g).brown = s.brown := rfl
@[simp] theorem State.updCtx_pinLow (c : Nat) (g : CtxSt → CtxSt) : (s.updCtx c g).pinLow = s.pinLow := rfl
@[simp] theorem State.updCtx_rom (c : Nat) (g : CtxSt → CtxSt) : (s.updCtx c g).rom = s.rom := rfl
@[simp] theorem State.updCtx_turns (c : Nat) (g : CtxSt → CtxSt) : (s.updCtx c g).turns = s.turns := rfl
@[simp] theorem State.updCtx_wakeAsk (c : Nat) (g : CtxSt → CtxSt) : (s.updCtx c g).wakeAsk = s.wakeAsk := rfl
@[simp] theorem State.updCtx_govAt (c : Nat) (g : CtxSt → CtxSt) : (s.updCtx c g).govAt = s.govAt := rfl
@[simp] theorem State.updCtx_capFrom (c : Nat) (g : CtxSt → CtxSt) : (s.updCtx c g).capFrom = s.capFrom := rfl
@[simp] theorem State.updCtx_fuses (c : Nat) (g : CtxSt → CtxSt) : (s.updCtx c g).fuses = s.fuses := rfl
@[simp] theorem State.updCtx_ledger (c : Nat) (g : CtxSt → CtxSt) : (s.updCtx c g).ledger = s.ledger := rfl
@[simp] theorem State.updCtx_timers (c : Nat) (g : CtxSt → CtxSt) : (s.updCtx c g).timers = s.timers := rfl
@[simp] theorem State.updCtx_frst (c : Nat) (g : CtxSt → CtxSt) : (s.updCtx c g).frst = s.frst := rfl
@[simp] theorem State.updCtx_devReset (c : Nat) (g : CtxSt → CtxSt) : (s.updCtx c g).devReset = s.devReset := rfl
@[simp] theorem State.updCtx_parked (c : Nat) (g : CtxSt → CtxSt) : (s.updCtx c g).parked = s.parked := rfl
@[simp] theorem State.updCtx_host (c : Nat) (g : CtxSt → CtxSt) : (s.updCtx c g).host = s.host := rfl
@[simp] theorem State.updCtx_wfail (c : Nat) (g : CtxSt → CtxSt) : (s.updCtx c g).wfail = s.wfail := rfl
@[simp] theorem State.updCtx_plast (c : Nat) (g : CtxSt → CtxSt) : (s.updCtx c g).plast = s.plast := rfl
@[simp] theorem State.updCtx_failArr (c : Nat) (g : CtxSt → CtxSt) : (s.updCtx c g).failArr = s.failArr := rfl
@[simp] theorem State.updCtx_tally (c : Nat) (g : CtxSt → CtxSt) : (s.updCtx c g).tally = s.tally := rfl
@[simp] theorem State.updCtx_tiles (c : Nat) (g : CtxSt → CtxSt) : (s.updCtx c g).tiles = s.tiles := rfl
@[simp] theorem State.updCtx_ctxNext (c : Nat) (g : CtxSt → CtxSt) : (s.updCtx c g).ctxNext = s.ctxNext := rfl
@[simp] theorem State.updCtx_ctxTail (c : Nat) (g : CtxSt → CtxSt) : (s.updCtx c g).ctxTail = s.ctxTail := rfl
@[simp] theorem State.updCtx_ctxQueue (c : Nat) (g : CtxSt → CtxSt) : (s.updCtx c g).ctxQueue = s.ctxQueue := rfl
@[simp] theorem State.updCtx_qmHeld (c : Nat) (g : CtxSt → CtxSt) : (s.updCtx c g).qmHeld = s.qmHeld := rfl
@[simp] theorem State.updCtx_bufs (c : Nat) (g : CtxSt → CtxSt) : (s.updCtx c g).bufs = s.bufs := rfl
@[simp] theorem State.updCtx_heldFlits (c : Nat) (g : CtxSt → CtxSt) : (s.updCtx c g).heldFlits = s.heldFlits := rfl
@[simp] theorem State.updCtx_flitId (c : Nat) (g : CtxSt → CtxSt) : (s.updCtx c g).flitId = s.flitId := rfl
@[simp] theorem State.updCtx_routes (c : Nat) (g : CtxSt → CtxSt) : (s.updCtx c g).routes = s.routes := rfl
@[simp] theorem State.updCtx_outst (c : Nat) (g : CtxSt → CtxSt) : (s.updCtx c g).outst = s.outst := rfl
@[simp] theorem State.updCtx_txNext (c : Nat) (g : CtxSt → CtxSt) : (s.updCtx c g).txNext = s.txNext := rfl
@[simp] theorem State.updCtx_inbox (c : Nat) (g : CtxSt → CtxSt) : (s.updCtx c g).inbox = s.inbox := rfl
@[simp] theorem State.updCtx_wakeFlits (c : Nat) (g : CtxSt → CtxSt) : (s.updCtx c g).wakeFlits = s.wakeFlits := rfl
@[simp] theorem State.updCtx_wakeSince (c : Nat) (g : CtxSt → CtxSt) : (s.updCtx c g).wakeSince = s.wakeSince := rfl
@[simp] theorem State.updCtx_prbCnt (c : Nat) (g : CtxSt → CtxSt) : (s.updCtx c g).prbCnt = s.prbCnt := rfl
@[simp] theorem State.updCtx_domOrg (c : Nat) (g : CtxSt → CtxSt) : (s.updCtx c g).domOrg = s.domOrg := rfl
@[simp] theorem State.updCtx_domHeld (c : Nat) (g : CtxSt → CtxSt) : (s.updCtx c g).domHeld = s.domHeld := rfl
@[simp] theorem State.updCtx_niDest (c : Nat) (g : CtxSt → CtxSt) : (s.updCtx c g).niDest = s.niDest := rfl
@[simp] theorem State.updCtx_hbmc (c : Nat) (g : CtxSt → CtxSt) : (s.updCtx c g).hbmc = s.hbmc := rfl
@[simp] theorem State.updCtx_holds (c : Nat) (g : CtxSt → CtxSt) : (s.updCtx c g).holds = s.holds := rfl
@[simp] theorem State.updCtx_waiters (c : Nat) (g : CtxSt → CtxSt) : (s.updCtx c g).waiters = s.waiters := rfl
@[simp] theorem State.updCtx_notices (c : Nat) (g : CtxSt → CtxSt) : (s.updCtx c g).notices = s.notices := rfl
@[simp] theorem State.updCtx_dma (c : Nat) (g : CtxSt → CtxSt) : (s.updCtx c g).dma = s.dma := rfl
@[simp] theorem State.updCtx_ken (c : Nat) (g : CtxSt → CtxSt) : (s.updCtx c g).ken = s.ken := rfl
@[simp] theorem State.updCtx_cores (c : Nat) (g : CtxSt → CtxSt) : (s.updCtx c g).cores = s.cores := rfl
@[simp] theorem State.updCtx_hubs (c : Nat) (g : CtxSt → CtxSt) : (s.updCtx c g).hubs = s.hubs := rfl
@[simp] theorem State.updCtx_plates (c : Nat) (g : CtxSt → CtxSt) : (s.updCtx c g).plates = s.plates := rfl
@[simp] theorem State.updCtx_ports (c : Nat) (g : CtxSt → CtxSt) : (s.updCtx c g).ports = s.ports := rfl
@[simp] theorem State.updCtx_links (c : Nat) (g : CtxSt → CtxSt) : (s.updCtx c g).links = s.links := rfl
@[simp] theorem State.updCtx_packRt (c : Nat) (g : CtxSt → CtxSt) : (s.updCtx c g).packRt = s.packRt := rfl
@[simp] theorem State.updCtx_brace (c : Nat) (g : CtxSt → CtxSt) : (s.updCtx c g).brace = s.brace := rfl
@[simp] theorem State.updCtx_pack (c : Nat) (g : CtxSt → CtxSt) : (s.updCtx c g).pack = s.pack := rfl
@[simp] theorem State.updCtx_gauges (c : Nat) (g : CtxSt → CtxSt) : (s.updCtx c g).gauges = s.gauges := rfl
@[simp] theorem State.updCtx_timeOffs (c : Nat) (g : CtxSt → CtxSt) : (s.updCtx c g).timeOffs = s.timeOffs := rfl
@[simp] theorem State.updCtx_ret (c : Nat) (g : CtxSt → CtxSt) : (s.updCtx c g).ret = s.ret := rfl
@[simp] theorem State.updCtx_tripHot (c : Nat) (g : CtxSt → CtxSt) : (s.updCtx c g).tripHot = s.tripHot := rfl

/-! ## setBuf -/

@[simp] theorem State.setBuf_pending (k : Nat) (l : List Flit) : (s.setBuf k l).pending = s.pending := rfl
@[simp] theorem State.setBuf_regs (k : Nat) (l : List Flit) : (s.setBuf k l).regs = s.regs := rfl
@[simp] theorem State.setBuf_mem (k : Nat) (l : List Flit) : (s.setBuf k l).mem = s.mem := rfl
@[simp] theorem State.setBuf_out (k : Nat) (l : List Flit) : (s.setBuf k l).out = s.out := rfl
@[simp] theorem State.setBuf_reactions (k : Nat) (l : List Flit) : (s.setBuf k l).reactions = s.reactions := rfl
@[simp] theorem State.setBuf_freeCtr (k : Nat) (l : List Flit) : (s.setBuf k l).freeCtr = s.freeCtr := rfl
@[simp] theorem State.setBuf_now (k : Nat) (l : List Flit) : (s.setBuf k l).now = s.now := rfl
@[simp] theorem State.setBuf_porst (k : Nat) (l : List Flit) : (s.setBuf k l).porst = s.porst := rfl
@[simp] theorem State.setBuf_brown (k : Nat) (l : List Flit) : (s.setBuf k l).brown = s.brown := rfl
@[simp] theorem State.setBuf_pinLow (k : Nat) (l : List Flit) : (s.setBuf k l).pinLow = s.pinLow := rfl
@[simp] theorem State.setBuf_rom (k : Nat) (l : List Flit) : (s.setBuf k l).rom = s.rom := rfl
@[simp] theorem State.setBuf_turns (k : Nat) (l : List Flit) : (s.setBuf k l).turns = s.turns := rfl
@[simp] theorem State.setBuf_wakeAsk (k : Nat) (l : List Flit) : (s.setBuf k l).wakeAsk = s.wakeAsk := rfl
@[simp] theorem State.setBuf_govAt (k : Nat) (l : List Flit) : (s.setBuf k l).govAt = s.govAt := rfl
@[simp] theorem State.setBuf_capFrom (k : Nat) (l : List Flit) : (s.setBuf k l).capFrom = s.capFrom := rfl
@[simp] theorem State.setBuf_fuses (k : Nat) (l : List Flit) : (s.setBuf k l).fuses = s.fuses := rfl
@[simp] theorem State.setBuf_ledger (k : Nat) (l : List Flit) : (s.setBuf k l).ledger = s.ledger := rfl
@[simp] theorem State.setBuf_timers (k : Nat) (l : List Flit) : (s.setBuf k l).timers = s.timers := rfl
@[simp] theorem State.setBuf_frst (k : Nat) (l : List Flit) : (s.setBuf k l).frst = s.frst := rfl
@[simp] theorem State.setBuf_devReset (k : Nat) (l : List Flit) : (s.setBuf k l).devReset = s.devReset := rfl
@[simp] theorem State.setBuf_parked (k : Nat) (l : List Flit) : (s.setBuf k l).parked = s.parked := rfl
@[simp] theorem State.setBuf_host (k : Nat) (l : List Flit) : (s.setBuf k l).host = s.host := rfl
@[simp] theorem State.setBuf_wfail (k : Nat) (l : List Flit) : (s.setBuf k l).wfail = s.wfail := rfl
@[simp] theorem State.setBuf_plast (k : Nat) (l : List Flit) : (s.setBuf k l).plast = s.plast := rfl
@[simp] theorem State.setBuf_failArr (k : Nat) (l : List Flit) : (s.setBuf k l).failArr = s.failArr := rfl
@[simp] theorem State.setBuf_tally (k : Nat) (l : List Flit) : (s.setBuf k l).tally = s.tally := rfl
@[simp] theorem State.setBuf_tiles (k : Nat) (l : List Flit) : (s.setBuf k l).tiles = s.tiles := rfl
@[simp] theorem State.setBuf_ctxNext (k : Nat) (l : List Flit) : (s.setBuf k l).ctxNext = s.ctxNext := rfl
@[simp] theorem State.setBuf_ctxTail (k : Nat) (l : List Flit) : (s.setBuf k l).ctxTail = s.ctxTail := rfl
@[simp] theorem State.setBuf_ctxQueue (k : Nat) (l : List Flit) : (s.setBuf k l).ctxQueue = s.ctxQueue := rfl
@[simp] theorem State.setBuf_ctxs (k : Nat) (l : List Flit) : (s.setBuf k l).ctxs = s.ctxs := rfl
@[simp] theorem State.setBuf_qmHeld (k : Nat) (l : List Flit) : (s.setBuf k l).qmHeld = s.qmHeld := rfl
@[simp] theorem State.setBuf_heldFlits (k : Nat) (l : List Flit) : (s.setBuf k l).heldFlits = s.heldFlits := rfl
@[simp] theorem State.setBuf_flitId (k : Nat) (l : List Flit) : (s.setBuf k l).flitId = s.flitId := rfl
@[simp] theorem State.setBuf_routes (k : Nat) (l : List Flit) : (s.setBuf k l).routes = s.routes := rfl
@[simp] theorem State.setBuf_outst (k : Nat) (l : List Flit) : (s.setBuf k l).outst = s.outst := rfl
@[simp] theorem State.setBuf_txNext (k : Nat) (l : List Flit) : (s.setBuf k l).txNext = s.txNext := rfl
@[simp] theorem State.setBuf_inbox (k : Nat) (l : List Flit) : (s.setBuf k l).inbox = s.inbox := rfl
@[simp] theorem State.setBuf_wakeFlits (k : Nat) (l : List Flit) : (s.setBuf k l).wakeFlits = s.wakeFlits := rfl
@[simp] theorem State.setBuf_wakeSince (k : Nat) (l : List Flit) : (s.setBuf k l).wakeSince = s.wakeSince := rfl
@[simp] theorem State.setBuf_prbCnt (k : Nat) (l : List Flit) : (s.setBuf k l).prbCnt = s.prbCnt := rfl
@[simp] theorem State.setBuf_domOrg (k : Nat) (l : List Flit) : (s.setBuf k l).domOrg = s.domOrg := rfl
@[simp] theorem State.setBuf_domHeld (k : Nat) (l : List Flit) : (s.setBuf k l).domHeld = s.domHeld := rfl
@[simp] theorem State.setBuf_niDest (k : Nat) (l : List Flit) : (s.setBuf k l).niDest = s.niDest := rfl
@[simp] theorem State.setBuf_hbmc (k : Nat) (l : List Flit) : (s.setBuf k l).hbmc = s.hbmc := rfl
@[simp] theorem State.setBuf_holds (k : Nat) (l : List Flit) : (s.setBuf k l).holds = s.holds := rfl
@[simp] theorem State.setBuf_waiters (k : Nat) (l : List Flit) : (s.setBuf k l).waiters = s.waiters := rfl
@[simp] theorem State.setBuf_notices (k : Nat) (l : List Flit) : (s.setBuf k l).notices = s.notices := rfl
@[simp] theorem State.setBuf_dma (k : Nat) (l : List Flit) : (s.setBuf k l).dma = s.dma := rfl
@[simp] theorem State.setBuf_ken (k : Nat) (l : List Flit) : (s.setBuf k l).ken = s.ken := rfl
@[simp] theorem State.setBuf_cores (k : Nat) (l : List Flit) : (s.setBuf k l).cores = s.cores := rfl
@[simp] theorem State.setBuf_hubs (k : Nat) (l : List Flit) : (s.setBuf k l).hubs = s.hubs := rfl
@[simp] theorem State.setBuf_plates (k : Nat) (l : List Flit) : (s.setBuf k l).plates = s.plates := rfl
@[simp] theorem State.setBuf_ports (k : Nat) (l : List Flit) : (s.setBuf k l).ports = s.ports := rfl
@[simp] theorem State.setBuf_links (k : Nat) (l : List Flit) : (s.setBuf k l).links = s.links := rfl
@[simp] theorem State.setBuf_packRt (k : Nat) (l : List Flit) : (s.setBuf k l).packRt = s.packRt := rfl
@[simp] theorem State.setBuf_brace (k : Nat) (l : List Flit) : (s.setBuf k l).brace = s.brace := rfl
@[simp] theorem State.setBuf_pack (k : Nat) (l : List Flit) : (s.setBuf k l).pack = s.pack := rfl
@[simp] theorem State.setBuf_gauges (k : Nat) (l : List Flit) : (s.setBuf k l).gauges = s.gauges := rfl
@[simp] theorem State.setBuf_timeOffs (k : Nat) (l : List Flit) : (s.setBuf k l).timeOffs = s.timeOffs := rfl
@[simp] theorem State.setBuf_ret (k : Nat) (l : List Flit) : (s.setBuf k l).ret = s.ret := rfl
@[simp] theorem State.setBuf_tripHot (k : Nat) (l : List Flit) : (s.setBuf k l).tripHot = s.tripHot := rfl

/-! ## updHub -/

@[simp] theorem State.updHub_pending (h : Nat) (g : Hub → Hub) : (s.updHub h g).pending = s.pending := rfl
@[simp] theorem State.updHub_regs (h : Nat) (g : Hub → Hub) : (s.updHub h g).regs = s.regs := rfl
@[simp] theorem State.updHub_mem (h : Nat) (g : Hub → Hub) : (s.updHub h g).mem = s.mem := rfl
@[simp] theorem State.updHub_out (h : Nat) (g : Hub → Hub) : (s.updHub h g).out = s.out := rfl
@[simp] theorem State.updHub_reactions (h : Nat) (g : Hub → Hub) : (s.updHub h g).reactions = s.reactions := rfl
@[simp] theorem State.updHub_freeCtr (h : Nat) (g : Hub → Hub) : (s.updHub h g).freeCtr = s.freeCtr := rfl
@[simp] theorem State.updHub_now (h : Nat) (g : Hub → Hub) : (s.updHub h g).now = s.now := rfl
@[simp] theorem State.updHub_porst (h : Nat) (g : Hub → Hub) : (s.updHub h g).porst = s.porst := rfl
@[simp] theorem State.updHub_brown (h : Nat) (g : Hub → Hub) : (s.updHub h g).brown = s.brown := rfl
@[simp] theorem State.updHub_pinLow (h : Nat) (g : Hub → Hub) : (s.updHub h g).pinLow = s.pinLow := rfl
@[simp] theorem State.updHub_rom (h : Nat) (g : Hub → Hub) : (s.updHub h g).rom = s.rom := rfl
@[simp] theorem State.updHub_turns (h : Nat) (g : Hub → Hub) : (s.updHub h g).turns = s.turns := rfl
@[simp] theorem State.updHub_wakeAsk (h : Nat) (g : Hub → Hub) : (s.updHub h g).wakeAsk = s.wakeAsk := rfl
@[simp] theorem State.updHub_govAt (h : Nat) (g : Hub → Hub) : (s.updHub h g).govAt = s.govAt := rfl
@[simp] theorem State.updHub_capFrom (h : Nat) (g : Hub → Hub) : (s.updHub h g).capFrom = s.capFrom := rfl
@[simp] theorem State.updHub_fuses (h : Nat) (g : Hub → Hub) : (s.updHub h g).fuses = s.fuses := rfl
@[simp] theorem State.updHub_ledger (h : Nat) (g : Hub → Hub) : (s.updHub h g).ledger = s.ledger := rfl
@[simp] theorem State.updHub_timers (h : Nat) (g : Hub → Hub) : (s.updHub h g).timers = s.timers := rfl
@[simp] theorem State.updHub_frst (h : Nat) (g : Hub → Hub) : (s.updHub h g).frst = s.frst := rfl
@[simp] theorem State.updHub_devReset (h : Nat) (g : Hub → Hub) : (s.updHub h g).devReset = s.devReset := rfl
@[simp] theorem State.updHub_parked (h : Nat) (g : Hub → Hub) : (s.updHub h g).parked = s.parked := rfl
@[simp] theorem State.updHub_host (h : Nat) (g : Hub → Hub) : (s.updHub h g).host = s.host := rfl
@[simp] theorem State.updHub_wfail (h : Nat) (g : Hub → Hub) : (s.updHub h g).wfail = s.wfail := rfl
@[simp] theorem State.updHub_plast (h : Nat) (g : Hub → Hub) : (s.updHub h g).plast = s.plast := rfl
@[simp] theorem State.updHub_failArr (h : Nat) (g : Hub → Hub) : (s.updHub h g).failArr = s.failArr := rfl
@[simp] theorem State.updHub_tally (h : Nat) (g : Hub → Hub) : (s.updHub h g).tally = s.tally := rfl
@[simp] theorem State.updHub_tiles (h : Nat) (g : Hub → Hub) : (s.updHub h g).tiles = s.tiles := rfl
@[simp] theorem State.updHub_ctxNext (h : Nat) (g : Hub → Hub) : (s.updHub h g).ctxNext = s.ctxNext := rfl
@[simp] theorem State.updHub_ctxTail (h : Nat) (g : Hub → Hub) : (s.updHub h g).ctxTail = s.ctxTail := rfl
@[simp] theorem State.updHub_ctxQueue (h : Nat) (g : Hub → Hub) : (s.updHub h g).ctxQueue = s.ctxQueue := rfl
@[simp] theorem State.updHub_ctxs (h : Nat) (g : Hub → Hub) : (s.updHub h g).ctxs = s.ctxs := rfl
@[simp] theorem State.updHub_qmHeld (h : Nat) (g : Hub → Hub) : (s.updHub h g).qmHeld = s.qmHeld := rfl
@[simp] theorem State.updHub_bufs (h : Nat) (g : Hub → Hub) : (s.updHub h g).bufs = s.bufs := rfl
@[simp] theorem State.updHub_heldFlits (h : Nat) (g : Hub → Hub) : (s.updHub h g).heldFlits = s.heldFlits := rfl
@[simp] theorem State.updHub_flitId (h : Nat) (g : Hub → Hub) : (s.updHub h g).flitId = s.flitId := rfl
@[simp] theorem State.updHub_routes (h : Nat) (g : Hub → Hub) : (s.updHub h g).routes = s.routes := rfl
@[simp] theorem State.updHub_outst (h : Nat) (g : Hub → Hub) : (s.updHub h g).outst = s.outst := rfl
@[simp] theorem State.updHub_txNext (h : Nat) (g : Hub → Hub) : (s.updHub h g).txNext = s.txNext := rfl
@[simp] theorem State.updHub_inbox (h : Nat) (g : Hub → Hub) : (s.updHub h g).inbox = s.inbox := rfl
@[simp] theorem State.updHub_wakeFlits (h : Nat) (g : Hub → Hub) : (s.updHub h g).wakeFlits = s.wakeFlits := rfl
@[simp] theorem State.updHub_wakeSince (h : Nat) (g : Hub → Hub) : (s.updHub h g).wakeSince = s.wakeSince := rfl
@[simp] theorem State.updHub_prbCnt (h : Nat) (g : Hub → Hub) : (s.updHub h g).prbCnt = s.prbCnt := rfl
@[simp] theorem State.updHub_domOrg (h : Nat) (g : Hub → Hub) : (s.updHub h g).domOrg = s.domOrg := rfl
@[simp] theorem State.updHub_domHeld (h : Nat) (g : Hub → Hub) : (s.updHub h g).domHeld = s.domHeld := rfl
@[simp] theorem State.updHub_niDest (h : Nat) (g : Hub → Hub) : (s.updHub h g).niDest = s.niDest := rfl
@[simp] theorem State.updHub_hbmc (h : Nat) (g : Hub → Hub) : (s.updHub h g).hbmc = s.hbmc := rfl
@[simp] theorem State.updHub_holds (h : Nat) (g : Hub → Hub) : (s.updHub h g).holds = s.holds := rfl
@[simp] theorem State.updHub_waiters (h : Nat) (g : Hub → Hub) : (s.updHub h g).waiters = s.waiters := rfl
@[simp] theorem State.updHub_notices (h : Nat) (g : Hub → Hub) : (s.updHub h g).notices = s.notices := rfl
@[simp] theorem State.updHub_dma (h : Nat) (g : Hub → Hub) : (s.updHub h g).dma = s.dma := rfl
@[simp] theorem State.updHub_ken (h : Nat) (g : Hub → Hub) : (s.updHub h g).ken = s.ken := rfl
@[simp] theorem State.updHub_cores (h : Nat) (g : Hub → Hub) : (s.updHub h g).cores = s.cores := rfl
@[simp] theorem State.updHub_plates (h : Nat) (g : Hub → Hub) : (s.updHub h g).plates = s.plates := rfl
@[simp] theorem State.updHub_ports (h : Nat) (g : Hub → Hub) : (s.updHub h g).ports = s.ports := rfl
@[simp] theorem State.updHub_links (h : Nat) (g : Hub → Hub) : (s.updHub h g).links = s.links := rfl
@[simp] theorem State.updHub_packRt (h : Nat) (g : Hub → Hub) : (s.updHub h g).packRt = s.packRt := rfl
@[simp] theorem State.updHub_brace (h : Nat) (g : Hub → Hub) : (s.updHub h g).brace = s.brace := rfl
@[simp] theorem State.updHub_pack (h : Nat) (g : Hub → Hub) : (s.updHub h g).pack = s.pack := rfl
@[simp] theorem State.updHub_gauges (h : Nat) (g : Hub → Hub) : (s.updHub h g).gauges = s.gauges := rfl
@[simp] theorem State.updHub_timeOffs (h : Nat) (g : Hub → Hub) : (s.updHub h g).timeOffs = s.timeOffs := rfl
@[simp] theorem State.updHub_ret (h : Nat) (g : Hub → Hub) : (s.updHub h g).ret = s.ret := rfl
@[simp] theorem State.updHub_tripHot (h : Nat) (g : Hub → Hub) : (s.updHub h g).tripHot = s.tripHot := rfl

/-! ## updPlate -/

@[simp] theorem State.updPlate_pending (p : Nat) (g : Plate → Plate) : (s.updPlate p g).pending = s.pending := rfl
@[simp] theorem State.updPlate_regs (p : Nat) (g : Plate → Plate) : (s.updPlate p g).regs = s.regs := rfl
@[simp] theorem State.updPlate_mem (p : Nat) (g : Plate → Plate) : (s.updPlate p g).mem = s.mem := rfl
@[simp] theorem State.updPlate_out (p : Nat) (g : Plate → Plate) : (s.updPlate p g).out = s.out := rfl
@[simp] theorem State.updPlate_reactions (p : Nat) (g : Plate → Plate) : (s.updPlate p g).reactions = s.reactions := rfl
@[simp] theorem State.updPlate_freeCtr (p : Nat) (g : Plate → Plate) : (s.updPlate p g).freeCtr = s.freeCtr := rfl
@[simp] theorem State.updPlate_now (p : Nat) (g : Plate → Plate) : (s.updPlate p g).now = s.now := rfl
@[simp] theorem State.updPlate_porst (p : Nat) (g : Plate → Plate) : (s.updPlate p g).porst = s.porst := rfl
@[simp] theorem State.updPlate_brown (p : Nat) (g : Plate → Plate) : (s.updPlate p g).brown = s.brown := rfl
@[simp] theorem State.updPlate_pinLow (p : Nat) (g : Plate → Plate) : (s.updPlate p g).pinLow = s.pinLow := rfl
@[simp] theorem State.updPlate_rom (p : Nat) (g : Plate → Plate) : (s.updPlate p g).rom = s.rom := rfl
@[simp] theorem State.updPlate_turns (p : Nat) (g : Plate → Plate) : (s.updPlate p g).turns = s.turns := rfl
@[simp] theorem State.updPlate_wakeAsk (p : Nat) (g : Plate → Plate) : (s.updPlate p g).wakeAsk = s.wakeAsk := rfl
@[simp] theorem State.updPlate_govAt (p : Nat) (g : Plate → Plate) : (s.updPlate p g).govAt = s.govAt := rfl
@[simp] theorem State.updPlate_capFrom (p : Nat) (g : Plate → Plate) : (s.updPlate p g).capFrom = s.capFrom := rfl
@[simp] theorem State.updPlate_fuses (p : Nat) (g : Plate → Plate) : (s.updPlate p g).fuses = s.fuses := rfl
@[simp] theorem State.updPlate_ledger (p : Nat) (g : Plate → Plate) : (s.updPlate p g).ledger = s.ledger := rfl
@[simp] theorem State.updPlate_timers (p : Nat) (g : Plate → Plate) : (s.updPlate p g).timers = s.timers := rfl
@[simp] theorem State.updPlate_frst (p : Nat) (g : Plate → Plate) : (s.updPlate p g).frst = s.frst := rfl
@[simp] theorem State.updPlate_devReset (p : Nat) (g : Plate → Plate) : (s.updPlate p g).devReset = s.devReset := rfl
@[simp] theorem State.updPlate_parked (p : Nat) (g : Plate → Plate) : (s.updPlate p g).parked = s.parked := rfl
@[simp] theorem State.updPlate_host (p : Nat) (g : Plate → Plate) : (s.updPlate p g).host = s.host := rfl
@[simp] theorem State.updPlate_wfail (p : Nat) (g : Plate → Plate) : (s.updPlate p g).wfail = s.wfail := rfl
@[simp] theorem State.updPlate_plast (p : Nat) (g : Plate → Plate) : (s.updPlate p g).plast = s.plast := rfl
@[simp] theorem State.updPlate_failArr (p : Nat) (g : Plate → Plate) : (s.updPlate p g).failArr = s.failArr := rfl
@[simp] theorem State.updPlate_tally (p : Nat) (g : Plate → Plate) : (s.updPlate p g).tally = s.tally := rfl
@[simp] theorem State.updPlate_tiles (p : Nat) (g : Plate → Plate) : (s.updPlate p g).tiles = s.tiles := rfl
@[simp] theorem State.updPlate_ctxNext (p : Nat) (g : Plate → Plate) : (s.updPlate p g).ctxNext = s.ctxNext := rfl
@[simp] theorem State.updPlate_ctxTail (p : Nat) (g : Plate → Plate) : (s.updPlate p g).ctxTail = s.ctxTail := rfl
@[simp] theorem State.updPlate_ctxQueue (p : Nat) (g : Plate → Plate) : (s.updPlate p g).ctxQueue = s.ctxQueue := rfl
@[simp] theorem State.updPlate_ctxs (p : Nat) (g : Plate → Plate) : (s.updPlate p g).ctxs = s.ctxs := rfl
@[simp] theorem State.updPlate_qmHeld (p : Nat) (g : Plate → Plate) : (s.updPlate p g).qmHeld = s.qmHeld := rfl
@[simp] theorem State.updPlate_bufs (p : Nat) (g : Plate → Plate) : (s.updPlate p g).bufs = s.bufs := rfl
@[simp] theorem State.updPlate_heldFlits (p : Nat) (g : Plate → Plate) : (s.updPlate p g).heldFlits = s.heldFlits := rfl
@[simp] theorem State.updPlate_flitId (p : Nat) (g : Plate → Plate) : (s.updPlate p g).flitId = s.flitId := rfl
@[simp] theorem State.updPlate_routes (p : Nat) (g : Plate → Plate) : (s.updPlate p g).routes = s.routes := rfl
@[simp] theorem State.updPlate_outst (p : Nat) (g : Plate → Plate) : (s.updPlate p g).outst = s.outst := rfl
@[simp] theorem State.updPlate_txNext (p : Nat) (g : Plate → Plate) : (s.updPlate p g).txNext = s.txNext := rfl
@[simp] theorem State.updPlate_inbox (p : Nat) (g : Plate → Plate) : (s.updPlate p g).inbox = s.inbox := rfl
@[simp] theorem State.updPlate_wakeFlits (p : Nat) (g : Plate → Plate) : (s.updPlate p g).wakeFlits = s.wakeFlits := rfl
@[simp] theorem State.updPlate_wakeSince (p : Nat) (g : Plate → Plate) : (s.updPlate p g).wakeSince = s.wakeSince := rfl
@[simp] theorem State.updPlate_prbCnt (p : Nat) (g : Plate → Plate) : (s.updPlate p g).prbCnt = s.prbCnt := rfl
@[simp] theorem State.updPlate_domOrg (p : Nat) (g : Plate → Plate) : (s.updPlate p g).domOrg = s.domOrg := rfl
@[simp] theorem State.updPlate_domHeld (p : Nat) (g : Plate → Plate) : (s.updPlate p g).domHeld = s.domHeld := rfl
@[simp] theorem State.updPlate_niDest (p : Nat) (g : Plate → Plate) : (s.updPlate p g).niDest = s.niDest := rfl
@[simp] theorem State.updPlate_hbmc (p : Nat) (g : Plate → Plate) : (s.updPlate p g).hbmc = s.hbmc := rfl
@[simp] theorem State.updPlate_holds (p : Nat) (g : Plate → Plate) : (s.updPlate p g).holds = s.holds := rfl
@[simp] theorem State.updPlate_waiters (p : Nat) (g : Plate → Plate) : (s.updPlate p g).waiters = s.waiters := rfl
@[simp] theorem State.updPlate_notices (p : Nat) (g : Plate → Plate) : (s.updPlate p g).notices = s.notices := rfl
@[simp] theorem State.updPlate_dma (p : Nat) (g : Plate → Plate) : (s.updPlate p g).dma = s.dma := rfl
@[simp] theorem State.updPlate_ken (p : Nat) (g : Plate → Plate) : (s.updPlate p g).ken = s.ken := rfl
@[simp] theorem State.updPlate_cores (p : Nat) (g : Plate → Plate) : (s.updPlate p g).cores = s.cores := rfl
@[simp] theorem State.updPlate_hubs (p : Nat) (g : Plate → Plate) : (s.updPlate p g).hubs = s.hubs := rfl
@[simp] theorem State.updPlate_ports (p : Nat) (g : Plate → Plate) : (s.updPlate p g).ports = s.ports := rfl
@[simp] theorem State.updPlate_links (p : Nat) (g : Plate → Plate) : (s.updPlate p g).links = s.links := rfl
@[simp] theorem State.updPlate_packRt (p : Nat) (g : Plate → Plate) : (s.updPlate p g).packRt = s.packRt := rfl
@[simp] theorem State.updPlate_brace (p : Nat) (g : Plate → Plate) : (s.updPlate p g).brace = s.brace := rfl
@[simp] theorem State.updPlate_pack (p : Nat) (g : Plate → Plate) : (s.updPlate p g).pack = s.pack := rfl
@[simp] theorem State.updPlate_gauges (p : Nat) (g : Plate → Plate) : (s.updPlate p g).gauges = s.gauges := rfl
@[simp] theorem State.updPlate_timeOffs (p : Nat) (g : Plate → Plate) : (s.updPlate p g).timeOffs = s.timeOffs := rfl
@[simp] theorem State.updPlate_ret (p : Nat) (g : Plate → Plate) : (s.updPlate p g).ret = s.ret := rfl
@[simp] theorem State.updPlate_tripHot (p : Nat) (g : Plate → Plate) : (s.updPlate p g).tripHot = s.tripHot := rfl

/-! ## updPort -/

@[simp] theorem State.updPort_pending (p : Nat) (g : PortSt → PortSt) : (s.updPort p g).pending = s.pending := rfl
@[simp] theorem State.updPort_regs (p : Nat) (g : PortSt → PortSt) : (s.updPort p g).regs = s.regs := rfl
@[simp] theorem State.updPort_mem (p : Nat) (g : PortSt → PortSt) : (s.updPort p g).mem = s.mem := rfl
@[simp] theorem State.updPort_out (p : Nat) (g : PortSt → PortSt) : (s.updPort p g).out = s.out := rfl
@[simp] theorem State.updPort_reactions (p : Nat) (g : PortSt → PortSt) : (s.updPort p g).reactions = s.reactions := rfl
@[simp] theorem State.updPort_freeCtr (p : Nat) (g : PortSt → PortSt) : (s.updPort p g).freeCtr = s.freeCtr := rfl
@[simp] theorem State.updPort_now (p : Nat) (g : PortSt → PortSt) : (s.updPort p g).now = s.now := rfl
@[simp] theorem State.updPort_porst (p : Nat) (g : PortSt → PortSt) : (s.updPort p g).porst = s.porst := rfl
@[simp] theorem State.updPort_brown (p : Nat) (g : PortSt → PortSt) : (s.updPort p g).brown = s.brown := rfl
@[simp] theorem State.updPort_pinLow (p : Nat) (g : PortSt → PortSt) : (s.updPort p g).pinLow = s.pinLow := rfl
@[simp] theorem State.updPort_rom (p : Nat) (g : PortSt → PortSt) : (s.updPort p g).rom = s.rom := rfl
@[simp] theorem State.updPort_turns (p : Nat) (g : PortSt → PortSt) : (s.updPort p g).turns = s.turns := rfl
@[simp] theorem State.updPort_wakeAsk (p : Nat) (g : PortSt → PortSt) : (s.updPort p g).wakeAsk = s.wakeAsk := rfl
@[simp] theorem State.updPort_govAt (p : Nat) (g : PortSt → PortSt) : (s.updPort p g).govAt = s.govAt := rfl
@[simp] theorem State.updPort_capFrom (p : Nat) (g : PortSt → PortSt) : (s.updPort p g).capFrom = s.capFrom := rfl
@[simp] theorem State.updPort_fuses (p : Nat) (g : PortSt → PortSt) : (s.updPort p g).fuses = s.fuses := rfl
@[simp] theorem State.updPort_ledger (p : Nat) (g : PortSt → PortSt) : (s.updPort p g).ledger = s.ledger := rfl
@[simp] theorem State.updPort_timers (p : Nat) (g : PortSt → PortSt) : (s.updPort p g).timers = s.timers := rfl
@[simp] theorem State.updPort_frst (p : Nat) (g : PortSt → PortSt) : (s.updPort p g).frst = s.frst := rfl
@[simp] theorem State.updPort_devReset (p : Nat) (g : PortSt → PortSt) : (s.updPort p g).devReset = s.devReset := rfl
@[simp] theorem State.updPort_parked (p : Nat) (g : PortSt → PortSt) : (s.updPort p g).parked = s.parked := rfl
@[simp] theorem State.updPort_host (p : Nat) (g : PortSt → PortSt) : (s.updPort p g).host = s.host := rfl
@[simp] theorem State.updPort_wfail (p : Nat) (g : PortSt → PortSt) : (s.updPort p g).wfail = s.wfail := rfl
@[simp] theorem State.updPort_plast (p : Nat) (g : PortSt → PortSt) : (s.updPort p g).plast = s.plast := rfl
@[simp] theorem State.updPort_failArr (p : Nat) (g : PortSt → PortSt) : (s.updPort p g).failArr = s.failArr := rfl
@[simp] theorem State.updPort_tally (p : Nat) (g : PortSt → PortSt) : (s.updPort p g).tally = s.tally := rfl
@[simp] theorem State.updPort_tiles (p : Nat) (g : PortSt → PortSt) : (s.updPort p g).tiles = s.tiles := rfl
@[simp] theorem State.updPort_ctxNext (p : Nat) (g : PortSt → PortSt) : (s.updPort p g).ctxNext = s.ctxNext := rfl
@[simp] theorem State.updPort_ctxTail (p : Nat) (g : PortSt → PortSt) : (s.updPort p g).ctxTail = s.ctxTail := rfl
@[simp] theorem State.updPort_ctxQueue (p : Nat) (g : PortSt → PortSt) : (s.updPort p g).ctxQueue = s.ctxQueue := rfl
@[simp] theorem State.updPort_ctxs (p : Nat) (g : PortSt → PortSt) : (s.updPort p g).ctxs = s.ctxs := rfl
@[simp] theorem State.updPort_qmHeld (p : Nat) (g : PortSt → PortSt) : (s.updPort p g).qmHeld = s.qmHeld := rfl
@[simp] theorem State.updPort_bufs (p : Nat) (g : PortSt → PortSt) : (s.updPort p g).bufs = s.bufs := rfl
@[simp] theorem State.updPort_heldFlits (p : Nat) (g : PortSt → PortSt) : (s.updPort p g).heldFlits = s.heldFlits := rfl
@[simp] theorem State.updPort_flitId (p : Nat) (g : PortSt → PortSt) : (s.updPort p g).flitId = s.flitId := rfl
@[simp] theorem State.updPort_routes (p : Nat) (g : PortSt → PortSt) : (s.updPort p g).routes = s.routes := rfl
@[simp] theorem State.updPort_outst (p : Nat) (g : PortSt → PortSt) : (s.updPort p g).outst = s.outst := rfl
@[simp] theorem State.updPort_txNext (p : Nat) (g : PortSt → PortSt) : (s.updPort p g).txNext = s.txNext := rfl
@[simp] theorem State.updPort_inbox (p : Nat) (g : PortSt → PortSt) : (s.updPort p g).inbox = s.inbox := rfl
@[simp] theorem State.updPort_wakeFlits (p : Nat) (g : PortSt → PortSt) : (s.updPort p g).wakeFlits = s.wakeFlits := rfl
@[simp] theorem State.updPort_wakeSince (p : Nat) (g : PortSt → PortSt) : (s.updPort p g).wakeSince = s.wakeSince := rfl
@[simp] theorem State.updPort_prbCnt (p : Nat) (g : PortSt → PortSt) : (s.updPort p g).prbCnt = s.prbCnt := rfl
@[simp] theorem State.updPort_domOrg (p : Nat) (g : PortSt → PortSt) : (s.updPort p g).domOrg = s.domOrg := rfl
@[simp] theorem State.updPort_domHeld (p : Nat) (g : PortSt → PortSt) : (s.updPort p g).domHeld = s.domHeld := rfl
@[simp] theorem State.updPort_niDest (p : Nat) (g : PortSt → PortSt) : (s.updPort p g).niDest = s.niDest := rfl
@[simp] theorem State.updPort_hbmc (p : Nat) (g : PortSt → PortSt) : (s.updPort p g).hbmc = s.hbmc := rfl
@[simp] theorem State.updPort_holds (p : Nat) (g : PortSt → PortSt) : (s.updPort p g).holds = s.holds := rfl
@[simp] theorem State.updPort_waiters (p : Nat) (g : PortSt → PortSt) : (s.updPort p g).waiters = s.waiters := rfl
@[simp] theorem State.updPort_notices (p : Nat) (g : PortSt → PortSt) : (s.updPort p g).notices = s.notices := rfl
@[simp] theorem State.updPort_dma (p : Nat) (g : PortSt → PortSt) : (s.updPort p g).dma = s.dma := rfl
@[simp] theorem State.updPort_ken (p : Nat) (g : PortSt → PortSt) : (s.updPort p g).ken = s.ken := rfl
@[simp] theorem State.updPort_cores (p : Nat) (g : PortSt → PortSt) : (s.updPort p g).cores = s.cores := rfl
@[simp] theorem State.updPort_hubs (p : Nat) (g : PortSt → PortSt) : (s.updPort p g).hubs = s.hubs := rfl
@[simp] theorem State.updPort_plates (p : Nat) (g : PortSt → PortSt) : (s.updPort p g).plates = s.plates := rfl
@[simp] theorem State.updPort_links (p : Nat) (g : PortSt → PortSt) : (s.updPort p g).links = s.links := rfl
@[simp] theorem State.updPort_packRt (p : Nat) (g : PortSt → PortSt) : (s.updPort p g).packRt = s.packRt := rfl
@[simp] theorem State.updPort_brace (p : Nat) (g : PortSt → PortSt) : (s.updPort p g).brace = s.brace := rfl
@[simp] theorem State.updPort_pack (p : Nat) (g : PortSt → PortSt) : (s.updPort p g).pack = s.pack := rfl
@[simp] theorem State.updPort_gauges (p : Nat) (g : PortSt → PortSt) : (s.updPort p g).gauges = s.gauges := rfl
@[simp] theorem State.updPort_timeOffs (p : Nat) (g : PortSt → PortSt) : (s.updPort p g).timeOffs = s.timeOffs := rfl
@[simp] theorem State.updPort_ret (p : Nat) (g : PortSt → PortSt) : (s.updPort p g).ret = s.ret := rfl
@[simp] theorem State.updPort_tripHot (p : Nat) (g : PortSt → PortSt) : (s.updPort p g).tripHot = s.tripHot := rfl

/-! ## updCore -/

@[simp] theorem State.updCore_pending (c : Nat) (g : Shep → Shep) : (s.updCore c g).pending = s.pending := rfl
@[simp] theorem State.updCore_regs (c : Nat) (g : Shep → Shep) : (s.updCore c g).regs = s.regs := rfl
@[simp] theorem State.updCore_mem (c : Nat) (g : Shep → Shep) : (s.updCore c g).mem = s.mem := rfl
@[simp] theorem State.updCore_out (c : Nat) (g : Shep → Shep) : (s.updCore c g).out = s.out := rfl
@[simp] theorem State.updCore_reactions (c : Nat) (g : Shep → Shep) : (s.updCore c g).reactions = s.reactions := rfl
@[simp] theorem State.updCore_freeCtr (c : Nat) (g : Shep → Shep) : (s.updCore c g).freeCtr = s.freeCtr := rfl
@[simp] theorem State.updCore_now (c : Nat) (g : Shep → Shep) : (s.updCore c g).now = s.now := rfl
@[simp] theorem State.updCore_porst (c : Nat) (g : Shep → Shep) : (s.updCore c g).porst = s.porst := rfl
@[simp] theorem State.updCore_brown (c : Nat) (g : Shep → Shep) : (s.updCore c g).brown = s.brown := rfl
@[simp] theorem State.updCore_pinLow (c : Nat) (g : Shep → Shep) : (s.updCore c g).pinLow = s.pinLow := rfl
@[simp] theorem State.updCore_rom (c : Nat) (g : Shep → Shep) : (s.updCore c g).rom = s.rom := rfl
@[simp] theorem State.updCore_turns (c : Nat) (g : Shep → Shep) : (s.updCore c g).turns = s.turns := rfl
@[simp] theorem State.updCore_wakeAsk (c : Nat) (g : Shep → Shep) : (s.updCore c g).wakeAsk = s.wakeAsk := rfl
@[simp] theorem State.updCore_govAt (c : Nat) (g : Shep → Shep) : (s.updCore c g).govAt = s.govAt := rfl
@[simp] theorem State.updCore_capFrom (c : Nat) (g : Shep → Shep) : (s.updCore c g).capFrom = s.capFrom := rfl
@[simp] theorem State.updCore_fuses (c : Nat) (g : Shep → Shep) : (s.updCore c g).fuses = s.fuses := rfl
@[simp] theorem State.updCore_ledger (c : Nat) (g : Shep → Shep) : (s.updCore c g).ledger = s.ledger := rfl
@[simp] theorem State.updCore_timers (c : Nat) (g : Shep → Shep) : (s.updCore c g).timers = s.timers := rfl
@[simp] theorem State.updCore_frst (c : Nat) (g : Shep → Shep) : (s.updCore c g).frst = s.frst := rfl
@[simp] theorem State.updCore_devReset (c : Nat) (g : Shep → Shep) : (s.updCore c g).devReset = s.devReset := rfl
@[simp] theorem State.updCore_parked (c : Nat) (g : Shep → Shep) : (s.updCore c g).parked = s.parked := rfl
@[simp] theorem State.updCore_host (c : Nat) (g : Shep → Shep) : (s.updCore c g).host = s.host := rfl
@[simp] theorem State.updCore_wfail (c : Nat) (g : Shep → Shep) : (s.updCore c g).wfail = s.wfail := rfl
@[simp] theorem State.updCore_plast (c : Nat) (g : Shep → Shep) : (s.updCore c g).plast = s.plast := rfl
@[simp] theorem State.updCore_failArr (c : Nat) (g : Shep → Shep) : (s.updCore c g).failArr = s.failArr := rfl
@[simp] theorem State.updCore_tally (c : Nat) (g : Shep → Shep) : (s.updCore c g).tally = s.tally := rfl
@[simp] theorem State.updCore_tiles (c : Nat) (g : Shep → Shep) : (s.updCore c g).tiles = s.tiles := rfl
@[simp] theorem State.updCore_ctxNext (c : Nat) (g : Shep → Shep) : (s.updCore c g).ctxNext = s.ctxNext := rfl
@[simp] theorem State.updCore_ctxTail (c : Nat) (g : Shep → Shep) : (s.updCore c g).ctxTail = s.ctxTail := rfl
@[simp] theorem State.updCore_ctxQueue (c : Nat) (g : Shep → Shep) : (s.updCore c g).ctxQueue = s.ctxQueue := rfl
@[simp] theorem State.updCore_ctxs (c : Nat) (g : Shep → Shep) : (s.updCore c g).ctxs = s.ctxs := rfl
@[simp] theorem State.updCore_qmHeld (c : Nat) (g : Shep → Shep) : (s.updCore c g).qmHeld = s.qmHeld := rfl
@[simp] theorem State.updCore_bufs (c : Nat) (g : Shep → Shep) : (s.updCore c g).bufs = s.bufs := rfl
@[simp] theorem State.updCore_heldFlits (c : Nat) (g : Shep → Shep) : (s.updCore c g).heldFlits = s.heldFlits := rfl
@[simp] theorem State.updCore_flitId (c : Nat) (g : Shep → Shep) : (s.updCore c g).flitId = s.flitId := rfl
@[simp] theorem State.updCore_routes (c : Nat) (g : Shep → Shep) : (s.updCore c g).routes = s.routes := rfl
@[simp] theorem State.updCore_outst (c : Nat) (g : Shep → Shep) : (s.updCore c g).outst = s.outst := rfl
@[simp] theorem State.updCore_txNext (c : Nat) (g : Shep → Shep) : (s.updCore c g).txNext = s.txNext := rfl
@[simp] theorem State.updCore_inbox (c : Nat) (g : Shep → Shep) : (s.updCore c g).inbox = s.inbox := rfl
@[simp] theorem State.updCore_wakeFlits (c : Nat) (g : Shep → Shep) : (s.updCore c g).wakeFlits = s.wakeFlits := rfl
@[simp] theorem State.updCore_wakeSince (c : Nat) (g : Shep → Shep) : (s.updCore c g).wakeSince = s.wakeSince := rfl
@[simp] theorem State.updCore_prbCnt (c : Nat) (g : Shep → Shep) : (s.updCore c g).prbCnt = s.prbCnt := rfl
@[simp] theorem State.updCore_domOrg (c : Nat) (g : Shep → Shep) : (s.updCore c g).domOrg = s.domOrg := rfl
@[simp] theorem State.updCore_domHeld (c : Nat) (g : Shep → Shep) : (s.updCore c g).domHeld = s.domHeld := rfl
@[simp] theorem State.updCore_niDest (c : Nat) (g : Shep → Shep) : (s.updCore c g).niDest = s.niDest := rfl
@[simp] theorem State.updCore_hbmc (c : Nat) (g : Shep → Shep) : (s.updCore c g).hbmc = s.hbmc := rfl
@[simp] theorem State.updCore_holds (c : Nat) (g : Shep → Shep) : (s.updCore c g).holds = s.holds := rfl
@[simp] theorem State.updCore_waiters (c : Nat) (g : Shep → Shep) : (s.updCore c g).waiters = s.waiters := rfl
@[simp] theorem State.updCore_notices (c : Nat) (g : Shep → Shep) : (s.updCore c g).notices = s.notices := rfl
@[simp] theorem State.updCore_dma (c : Nat) (g : Shep → Shep) : (s.updCore c g).dma = s.dma := rfl
@[simp] theorem State.updCore_ken (c : Nat) (g : Shep → Shep) : (s.updCore c g).ken = s.ken := rfl
@[simp] theorem State.updCore_hubs (c : Nat) (g : Shep → Shep) : (s.updCore c g).hubs = s.hubs := rfl
@[simp] theorem State.updCore_plates (c : Nat) (g : Shep → Shep) : (s.updCore c g).plates = s.plates := rfl
@[simp] theorem State.updCore_ports (c : Nat) (g : Shep → Shep) : (s.updCore c g).ports = s.ports := rfl
@[simp] theorem State.updCore_links (c : Nat) (g : Shep → Shep) : (s.updCore c g).links = s.links := rfl
@[simp] theorem State.updCore_packRt (c : Nat) (g : Shep → Shep) : (s.updCore c g).packRt = s.packRt := rfl
@[simp] theorem State.updCore_brace (c : Nat) (g : Shep → Shep) : (s.updCore c g).brace = s.brace := rfl
@[simp] theorem State.updCore_pack (c : Nat) (g : Shep → Shep) : (s.updCore c g).pack = s.pack := rfl
@[simp] theorem State.updCore_gauges (c : Nat) (g : Shep → Shep) : (s.updCore c g).gauges = s.gauges := rfl
@[simp] theorem State.updCore_timeOffs (c : Nat) (g : Shep → Shep) : (s.updCore c g).timeOffs = s.timeOffs := rfl
@[simp] theorem State.updCore_ret (c : Nat) (g : Shep → Shep) : (s.updCore c g).ret = s.ret := rfl
@[simp] theorem State.updCore_tripHot (c : Nat) (g : Shep → Shep) : (s.updCore c g).tripHot = s.tripHot := rfl

/-! ## updKen -/

@[simp] theorem State.updKen_pending (g : Kennel → Kennel) : (s.updKen g).pending = s.pending := rfl
@[simp] theorem State.updKen_regs (g : Kennel → Kennel) : (s.updKen g).regs = s.regs := rfl
@[simp] theorem State.updKen_mem (g : Kennel → Kennel) : (s.updKen g).mem = s.mem := rfl
@[simp] theorem State.updKen_out (g : Kennel → Kennel) : (s.updKen g).out = s.out := rfl
@[simp] theorem State.updKen_reactions (g : Kennel → Kennel) : (s.updKen g).reactions = s.reactions := rfl
@[simp] theorem State.updKen_freeCtr (g : Kennel → Kennel) : (s.updKen g).freeCtr = s.freeCtr := rfl
@[simp] theorem State.updKen_now (g : Kennel → Kennel) : (s.updKen g).now = s.now := rfl
@[simp] theorem State.updKen_porst (g : Kennel → Kennel) : (s.updKen g).porst = s.porst := rfl
@[simp] theorem State.updKen_brown (g : Kennel → Kennel) : (s.updKen g).brown = s.brown := rfl
@[simp] theorem State.updKen_pinLow (g : Kennel → Kennel) : (s.updKen g).pinLow = s.pinLow := rfl
@[simp] theorem State.updKen_rom (g : Kennel → Kennel) : (s.updKen g).rom = s.rom := rfl
@[simp] theorem State.updKen_turns (g : Kennel → Kennel) : (s.updKen g).turns = s.turns := rfl
@[simp] theorem State.updKen_wakeAsk (g : Kennel → Kennel) : (s.updKen g).wakeAsk = s.wakeAsk := rfl
@[simp] theorem State.updKen_govAt (g : Kennel → Kennel) : (s.updKen g).govAt = s.govAt := rfl
@[simp] theorem State.updKen_capFrom (g : Kennel → Kennel) : (s.updKen g).capFrom = s.capFrom := rfl
@[simp] theorem State.updKen_fuses (g : Kennel → Kennel) : (s.updKen g).fuses = s.fuses := rfl
@[simp] theorem State.updKen_ledger (g : Kennel → Kennel) : (s.updKen g).ledger = s.ledger := rfl
@[simp] theorem State.updKen_timers (g : Kennel → Kennel) : (s.updKen g).timers = s.timers := rfl
@[simp] theorem State.updKen_frst (g : Kennel → Kennel) : (s.updKen g).frst = s.frst := rfl
@[simp] theorem State.updKen_devReset (g : Kennel → Kennel) : (s.updKen g).devReset = s.devReset := rfl
@[simp] theorem State.updKen_parked (g : Kennel → Kennel) : (s.updKen g).parked = s.parked := rfl
@[simp] theorem State.updKen_host (g : Kennel → Kennel) : (s.updKen g).host = s.host := rfl
@[simp] theorem State.updKen_wfail (g : Kennel → Kennel) : (s.updKen g).wfail = s.wfail := rfl
@[simp] theorem State.updKen_plast (g : Kennel → Kennel) : (s.updKen g).plast = s.plast := rfl
@[simp] theorem State.updKen_failArr (g : Kennel → Kennel) : (s.updKen g).failArr = s.failArr := rfl
@[simp] theorem State.updKen_tally (g : Kennel → Kennel) : (s.updKen g).tally = s.tally := rfl
@[simp] theorem State.updKen_tiles (g : Kennel → Kennel) : (s.updKen g).tiles = s.tiles := rfl
@[simp] theorem State.updKen_ctxNext (g : Kennel → Kennel) : (s.updKen g).ctxNext = s.ctxNext := rfl
@[simp] theorem State.updKen_ctxTail (g : Kennel → Kennel) : (s.updKen g).ctxTail = s.ctxTail := rfl
@[simp] theorem State.updKen_ctxQueue (g : Kennel → Kennel) : (s.updKen g).ctxQueue = s.ctxQueue := rfl
@[simp] theorem State.updKen_ctxs (g : Kennel → Kennel) : (s.updKen g).ctxs = s.ctxs := rfl
@[simp] theorem State.updKen_qmHeld (g : Kennel → Kennel) : (s.updKen g).qmHeld = s.qmHeld := rfl
@[simp] theorem State.updKen_bufs (g : Kennel → Kennel) : (s.updKen g).bufs = s.bufs := rfl
@[simp] theorem State.updKen_heldFlits (g : Kennel → Kennel) : (s.updKen g).heldFlits = s.heldFlits := rfl
@[simp] theorem State.updKen_flitId (g : Kennel → Kennel) : (s.updKen g).flitId = s.flitId := rfl
@[simp] theorem State.updKen_routes (g : Kennel → Kennel) : (s.updKen g).routes = s.routes := rfl
@[simp] theorem State.updKen_outst (g : Kennel → Kennel) : (s.updKen g).outst = s.outst := rfl
@[simp] theorem State.updKen_txNext (g : Kennel → Kennel) : (s.updKen g).txNext = s.txNext := rfl
@[simp] theorem State.updKen_inbox (g : Kennel → Kennel) : (s.updKen g).inbox = s.inbox := rfl
@[simp] theorem State.updKen_wakeFlits (g : Kennel → Kennel) : (s.updKen g).wakeFlits = s.wakeFlits := rfl
@[simp] theorem State.updKen_wakeSince (g : Kennel → Kennel) : (s.updKen g).wakeSince = s.wakeSince := rfl
@[simp] theorem State.updKen_prbCnt (g : Kennel → Kennel) : (s.updKen g).prbCnt = s.prbCnt := rfl
@[simp] theorem State.updKen_domOrg (g : Kennel → Kennel) : (s.updKen g).domOrg = s.domOrg := rfl
@[simp] theorem State.updKen_domHeld (g : Kennel → Kennel) : (s.updKen g).domHeld = s.domHeld := rfl
@[simp] theorem State.updKen_niDest (g : Kennel → Kennel) : (s.updKen g).niDest = s.niDest := rfl
@[simp] theorem State.updKen_hbmc (g : Kennel → Kennel) : (s.updKen g).hbmc = s.hbmc := rfl
@[simp] theorem State.updKen_holds (g : Kennel → Kennel) : (s.updKen g).holds = s.holds := rfl
@[simp] theorem State.updKen_waiters (g : Kennel → Kennel) : (s.updKen g).waiters = s.waiters := rfl
@[simp] theorem State.updKen_notices (g : Kennel → Kennel) : (s.updKen g).notices = s.notices := rfl
@[simp] theorem State.updKen_dma (g : Kennel → Kennel) : (s.updKen g).dma = s.dma := rfl
@[simp] theorem State.updKen_cores (g : Kennel → Kennel) : (s.updKen g).cores = s.cores := rfl
@[simp] theorem State.updKen_hubs (g : Kennel → Kennel) : (s.updKen g).hubs = s.hubs := rfl
@[simp] theorem State.updKen_plates (g : Kennel → Kennel) : (s.updKen g).plates = s.plates := rfl
@[simp] theorem State.updKen_ports (g : Kennel → Kennel) : (s.updKen g).ports = s.ports := rfl
@[simp] theorem State.updKen_links (g : Kennel → Kennel) : (s.updKen g).links = s.links := rfl
@[simp] theorem State.updKen_packRt (g : Kennel → Kennel) : (s.updKen g).packRt = s.packRt := rfl
@[simp] theorem State.updKen_brace (g : Kennel → Kennel) : (s.updKen g).brace = s.brace := rfl
@[simp] theorem State.updKen_pack (g : Kennel → Kennel) : (s.updKen g).pack = s.pack := rfl
@[simp] theorem State.updKen_gauges (g : Kennel → Kennel) : (s.updKen g).gauges = s.gauges := rfl
@[simp] theorem State.updKen_timeOffs (g : Kennel → Kennel) : (s.updKen g).timeOffs = s.timeOffs := rfl
@[simp] theorem State.updKen_ret (g : Kennel → Kennel) : (s.updKen g).ret = s.ret := rfl
@[simp] theorem State.updKen_tripHot (g : Kennel → Kennel) : (s.updKen g).tripHot = s.tripHot := rfl

/-! ## updKc -/

@[simp] theorem State.updKc_pending (c : Nat) (g : KCore → KCore) : (s.updKc c g).pending = s.pending := rfl
@[simp] theorem State.updKc_regs (c : Nat) (g : KCore → KCore) : (s.updKc c g).regs = s.regs := rfl
@[simp] theorem State.updKc_mem (c : Nat) (g : KCore → KCore) : (s.updKc c g).mem = s.mem := rfl
@[simp] theorem State.updKc_out (c : Nat) (g : KCore → KCore) : (s.updKc c g).out = s.out := rfl
@[simp] theorem State.updKc_reactions (c : Nat) (g : KCore → KCore) : (s.updKc c g).reactions = s.reactions := rfl
@[simp] theorem State.updKc_freeCtr (c : Nat) (g : KCore → KCore) : (s.updKc c g).freeCtr = s.freeCtr := rfl
@[simp] theorem State.updKc_now (c : Nat) (g : KCore → KCore) : (s.updKc c g).now = s.now := rfl
@[simp] theorem State.updKc_porst (c : Nat) (g : KCore → KCore) : (s.updKc c g).porst = s.porst := rfl
@[simp] theorem State.updKc_brown (c : Nat) (g : KCore → KCore) : (s.updKc c g).brown = s.brown := rfl
@[simp] theorem State.updKc_pinLow (c : Nat) (g : KCore → KCore) : (s.updKc c g).pinLow = s.pinLow := rfl
@[simp] theorem State.updKc_rom (c : Nat) (g : KCore → KCore) : (s.updKc c g).rom = s.rom := rfl
@[simp] theorem State.updKc_turns (c : Nat) (g : KCore → KCore) : (s.updKc c g).turns = s.turns := rfl
@[simp] theorem State.updKc_wakeAsk (c : Nat) (g : KCore → KCore) : (s.updKc c g).wakeAsk = s.wakeAsk := rfl
@[simp] theorem State.updKc_govAt (c : Nat) (g : KCore → KCore) : (s.updKc c g).govAt = s.govAt := rfl
@[simp] theorem State.updKc_capFrom (c : Nat) (g : KCore → KCore) : (s.updKc c g).capFrom = s.capFrom := rfl
@[simp] theorem State.updKc_fuses (c : Nat) (g : KCore → KCore) : (s.updKc c g).fuses = s.fuses := rfl
@[simp] theorem State.updKc_ledger (c : Nat) (g : KCore → KCore) : (s.updKc c g).ledger = s.ledger := rfl
@[simp] theorem State.updKc_timers (c : Nat) (g : KCore → KCore) : (s.updKc c g).timers = s.timers := rfl
@[simp] theorem State.updKc_frst (c : Nat) (g : KCore → KCore) : (s.updKc c g).frst = s.frst := rfl
@[simp] theorem State.updKc_devReset (c : Nat) (g : KCore → KCore) : (s.updKc c g).devReset = s.devReset := rfl
@[simp] theorem State.updKc_parked (c : Nat) (g : KCore → KCore) : (s.updKc c g).parked = s.parked := rfl
@[simp] theorem State.updKc_host (c : Nat) (g : KCore → KCore) : (s.updKc c g).host = s.host := rfl
@[simp] theorem State.updKc_wfail (c : Nat) (g : KCore → KCore) : (s.updKc c g).wfail = s.wfail := rfl
@[simp] theorem State.updKc_plast (c : Nat) (g : KCore → KCore) : (s.updKc c g).plast = s.plast := rfl
@[simp] theorem State.updKc_failArr (c : Nat) (g : KCore → KCore) : (s.updKc c g).failArr = s.failArr := rfl
@[simp] theorem State.updKc_tally (c : Nat) (g : KCore → KCore) : (s.updKc c g).tally = s.tally := rfl
@[simp] theorem State.updKc_tiles (c : Nat) (g : KCore → KCore) : (s.updKc c g).tiles = s.tiles := rfl
@[simp] theorem State.updKc_ctxNext (c : Nat) (g : KCore → KCore) : (s.updKc c g).ctxNext = s.ctxNext := rfl
@[simp] theorem State.updKc_ctxTail (c : Nat) (g : KCore → KCore) : (s.updKc c g).ctxTail = s.ctxTail := rfl
@[simp] theorem State.updKc_ctxQueue (c : Nat) (g : KCore → KCore) : (s.updKc c g).ctxQueue = s.ctxQueue := rfl
@[simp] theorem State.updKc_ctxs (c : Nat) (g : KCore → KCore) : (s.updKc c g).ctxs = s.ctxs := rfl
@[simp] theorem State.updKc_qmHeld (c : Nat) (g : KCore → KCore) : (s.updKc c g).qmHeld = s.qmHeld := rfl
@[simp] theorem State.updKc_bufs (c : Nat) (g : KCore → KCore) : (s.updKc c g).bufs = s.bufs := rfl
@[simp] theorem State.updKc_heldFlits (c : Nat) (g : KCore → KCore) : (s.updKc c g).heldFlits = s.heldFlits := rfl
@[simp] theorem State.updKc_flitId (c : Nat) (g : KCore → KCore) : (s.updKc c g).flitId = s.flitId := rfl
@[simp] theorem State.updKc_routes (c : Nat) (g : KCore → KCore) : (s.updKc c g).routes = s.routes := rfl
@[simp] theorem State.updKc_outst (c : Nat) (g : KCore → KCore) : (s.updKc c g).outst = s.outst := rfl
@[simp] theorem State.updKc_txNext (c : Nat) (g : KCore → KCore) : (s.updKc c g).txNext = s.txNext := rfl
@[simp] theorem State.updKc_inbox (c : Nat) (g : KCore → KCore) : (s.updKc c g).inbox = s.inbox := rfl
@[simp] theorem State.updKc_wakeFlits (c : Nat) (g : KCore → KCore) : (s.updKc c g).wakeFlits = s.wakeFlits := rfl
@[simp] theorem State.updKc_wakeSince (c : Nat) (g : KCore → KCore) : (s.updKc c g).wakeSince = s.wakeSince := rfl
@[simp] theorem State.updKc_prbCnt (c : Nat) (g : KCore → KCore) : (s.updKc c g).prbCnt = s.prbCnt := rfl
@[simp] theorem State.updKc_domOrg (c : Nat) (g : KCore → KCore) : (s.updKc c g).domOrg = s.domOrg := rfl
@[simp] theorem State.updKc_domHeld (c : Nat) (g : KCore → KCore) : (s.updKc c g).domHeld = s.domHeld := rfl
@[simp] theorem State.updKc_niDest (c : Nat) (g : KCore → KCore) : (s.updKc c g).niDest = s.niDest := rfl
@[simp] theorem State.updKc_hbmc (c : Nat) (g : KCore → KCore) : (s.updKc c g).hbmc = s.hbmc := rfl
@[simp] theorem State.updKc_holds (c : Nat) (g : KCore → KCore) : (s.updKc c g).holds = s.holds := rfl
@[simp] theorem State.updKc_waiters (c : Nat) (g : KCore → KCore) : (s.updKc c g).waiters = s.waiters := rfl
@[simp] theorem State.updKc_notices (c : Nat) (g : KCore → KCore) : (s.updKc c g).notices = s.notices := rfl
@[simp] theorem State.updKc_dma (c : Nat) (g : KCore → KCore) : (s.updKc c g).dma = s.dma := rfl
@[simp] theorem State.updKc_cores (c : Nat) (g : KCore → KCore) : (s.updKc c g).cores = s.cores := rfl
@[simp] theorem State.updKc_hubs (c : Nat) (g : KCore → KCore) : (s.updKc c g).hubs = s.hubs := rfl
@[simp] theorem State.updKc_plates (c : Nat) (g : KCore → KCore) : (s.updKc c g).plates = s.plates := rfl
@[simp] theorem State.updKc_ports (c : Nat) (g : KCore → KCore) : (s.updKc c g).ports = s.ports := rfl
@[simp] theorem State.updKc_links (c : Nat) (g : KCore → KCore) : (s.updKc c g).links = s.links := rfl
@[simp] theorem State.updKc_packRt (c : Nat) (g : KCore → KCore) : (s.updKc c g).packRt = s.packRt := rfl
@[simp] theorem State.updKc_brace (c : Nat) (g : KCore → KCore) : (s.updKc c g).brace = s.brace := rfl
@[simp] theorem State.updKc_pack (c : Nat) (g : KCore → KCore) : (s.updKc c g).pack = s.pack := rfl
@[simp] theorem State.updKc_gauges (c : Nat) (g : KCore → KCore) : (s.updKc c g).gauges = s.gauges := rfl
@[simp] theorem State.updKc_timeOffs (c : Nat) (g : KCore → KCore) : (s.updKc c g).timeOffs = s.timeOffs := rfl
@[simp] theorem State.updKc_ret (c : Nat) (g : KCore → KCore) : (s.updKc c g).ret = s.ret := rfl
@[simp] theorem State.updKc_tripHot (c : Nat) (g : KCore → KCore) : (s.updKc c g).tripHot = s.tripHot := rfl

/-! ## updThr -/

@[simp] theorem State.updThr_pending (t : Nat) (g : KThread → KThread) : (s.updThr t g).pending = s.pending := rfl
@[simp] theorem State.updThr_regs (t : Nat) (g : KThread → KThread) : (s.updThr t g).regs = s.regs := rfl
@[simp] theorem State.updThr_mem (t : Nat) (g : KThread → KThread) : (s.updThr t g).mem = s.mem := rfl
@[simp] theorem State.updThr_out (t : Nat) (g : KThread → KThread) : (s.updThr t g).out = s.out := rfl
@[simp] theorem State.updThr_reactions (t : Nat) (g : KThread → KThread) : (s.updThr t g).reactions = s.reactions := rfl
@[simp] theorem State.updThr_freeCtr (t : Nat) (g : KThread → KThread) : (s.updThr t g).freeCtr = s.freeCtr := rfl
@[simp] theorem State.updThr_now (t : Nat) (g : KThread → KThread) : (s.updThr t g).now = s.now := rfl
@[simp] theorem State.updThr_porst (t : Nat) (g : KThread → KThread) : (s.updThr t g).porst = s.porst := rfl
@[simp] theorem State.updThr_brown (t : Nat) (g : KThread → KThread) : (s.updThr t g).brown = s.brown := rfl
@[simp] theorem State.updThr_pinLow (t : Nat) (g : KThread → KThread) : (s.updThr t g).pinLow = s.pinLow := rfl
@[simp] theorem State.updThr_rom (t : Nat) (g : KThread → KThread) : (s.updThr t g).rom = s.rom := rfl
@[simp] theorem State.updThr_turns (t : Nat) (g : KThread → KThread) : (s.updThr t g).turns = s.turns := rfl
@[simp] theorem State.updThr_wakeAsk (t : Nat) (g : KThread → KThread) : (s.updThr t g).wakeAsk = s.wakeAsk := rfl
@[simp] theorem State.updThr_govAt (t : Nat) (g : KThread → KThread) : (s.updThr t g).govAt = s.govAt := rfl
@[simp] theorem State.updThr_capFrom (t : Nat) (g : KThread → KThread) : (s.updThr t g).capFrom = s.capFrom := rfl
@[simp] theorem State.updThr_fuses (t : Nat) (g : KThread → KThread) : (s.updThr t g).fuses = s.fuses := rfl
@[simp] theorem State.updThr_ledger (t : Nat) (g : KThread → KThread) : (s.updThr t g).ledger = s.ledger := rfl
@[simp] theorem State.updThr_timers (t : Nat) (g : KThread → KThread) : (s.updThr t g).timers = s.timers := rfl
@[simp] theorem State.updThr_frst (t : Nat) (g : KThread → KThread) : (s.updThr t g).frst = s.frst := rfl
@[simp] theorem State.updThr_devReset (t : Nat) (g : KThread → KThread) : (s.updThr t g).devReset = s.devReset := rfl
@[simp] theorem State.updThr_parked (t : Nat) (g : KThread → KThread) : (s.updThr t g).parked = s.parked := rfl
@[simp] theorem State.updThr_host (t : Nat) (g : KThread → KThread) : (s.updThr t g).host = s.host := rfl
@[simp] theorem State.updThr_wfail (t : Nat) (g : KThread → KThread) : (s.updThr t g).wfail = s.wfail := rfl
@[simp] theorem State.updThr_plast (t : Nat) (g : KThread → KThread) : (s.updThr t g).plast = s.plast := rfl
@[simp] theorem State.updThr_failArr (t : Nat) (g : KThread → KThread) : (s.updThr t g).failArr = s.failArr := rfl
@[simp] theorem State.updThr_tally (t : Nat) (g : KThread → KThread) : (s.updThr t g).tally = s.tally := rfl
@[simp] theorem State.updThr_tiles (t : Nat) (g : KThread → KThread) : (s.updThr t g).tiles = s.tiles := rfl
@[simp] theorem State.updThr_ctxNext (t : Nat) (g : KThread → KThread) : (s.updThr t g).ctxNext = s.ctxNext := rfl
@[simp] theorem State.updThr_ctxTail (t : Nat) (g : KThread → KThread) : (s.updThr t g).ctxTail = s.ctxTail := rfl
@[simp] theorem State.updThr_ctxQueue (t : Nat) (g : KThread → KThread) : (s.updThr t g).ctxQueue = s.ctxQueue := rfl
@[simp] theorem State.updThr_ctxs (t : Nat) (g : KThread → KThread) : (s.updThr t g).ctxs = s.ctxs := rfl
@[simp] theorem State.updThr_qmHeld (t : Nat) (g : KThread → KThread) : (s.updThr t g).qmHeld = s.qmHeld := rfl
@[simp] theorem State.updThr_bufs (t : Nat) (g : KThread → KThread) : (s.updThr t g).bufs = s.bufs := rfl
@[simp] theorem State.updThr_heldFlits (t : Nat) (g : KThread → KThread) : (s.updThr t g).heldFlits = s.heldFlits := rfl
@[simp] theorem State.updThr_flitId (t : Nat) (g : KThread → KThread) : (s.updThr t g).flitId = s.flitId := rfl
@[simp] theorem State.updThr_routes (t : Nat) (g : KThread → KThread) : (s.updThr t g).routes = s.routes := rfl
@[simp] theorem State.updThr_outst (t : Nat) (g : KThread → KThread) : (s.updThr t g).outst = s.outst := rfl
@[simp] theorem State.updThr_txNext (t : Nat) (g : KThread → KThread) : (s.updThr t g).txNext = s.txNext := rfl
@[simp] theorem State.updThr_inbox (t : Nat) (g : KThread → KThread) : (s.updThr t g).inbox = s.inbox := rfl
@[simp] theorem State.updThr_wakeFlits (t : Nat) (g : KThread → KThread) : (s.updThr t g).wakeFlits = s.wakeFlits := rfl
@[simp] theorem State.updThr_wakeSince (t : Nat) (g : KThread → KThread) : (s.updThr t g).wakeSince = s.wakeSince := rfl
@[simp] theorem State.updThr_prbCnt (t : Nat) (g : KThread → KThread) : (s.updThr t g).prbCnt = s.prbCnt := rfl
@[simp] theorem State.updThr_domOrg (t : Nat) (g : KThread → KThread) : (s.updThr t g).domOrg = s.domOrg := rfl
@[simp] theorem State.updThr_domHeld (t : Nat) (g : KThread → KThread) : (s.updThr t g).domHeld = s.domHeld := rfl
@[simp] theorem State.updThr_niDest (t : Nat) (g : KThread → KThread) : (s.updThr t g).niDest = s.niDest := rfl
@[simp] theorem State.updThr_hbmc (t : Nat) (g : KThread → KThread) : (s.updThr t g).hbmc = s.hbmc := rfl
@[simp] theorem State.updThr_holds (t : Nat) (g : KThread → KThread) : (s.updThr t g).holds = s.holds := rfl
@[simp] theorem State.updThr_waiters (t : Nat) (g : KThread → KThread) : (s.updThr t g).waiters = s.waiters := rfl
@[simp] theorem State.updThr_notices (t : Nat) (g : KThread → KThread) : (s.updThr t g).notices = s.notices := rfl
@[simp] theorem State.updThr_dma (t : Nat) (g : KThread → KThread) : (s.updThr t g).dma = s.dma := rfl
@[simp] theorem State.updThr_cores (t : Nat) (g : KThread → KThread) : (s.updThr t g).cores = s.cores := rfl
@[simp] theorem State.updThr_hubs (t : Nat) (g : KThread → KThread) : (s.updThr t g).hubs = s.hubs := rfl
@[simp] theorem State.updThr_plates (t : Nat) (g : KThread → KThread) : (s.updThr t g).plates = s.plates := rfl
@[simp] theorem State.updThr_ports (t : Nat) (g : KThread → KThread) : (s.updThr t g).ports = s.ports := rfl
@[simp] theorem State.updThr_links (t : Nat) (g : KThread → KThread) : (s.updThr t g).links = s.links := rfl
@[simp] theorem State.updThr_packRt (t : Nat) (g : KThread → KThread) : (s.updThr t g).packRt = s.packRt := rfl
@[simp] theorem State.updThr_brace (t : Nat) (g : KThread → KThread) : (s.updThr t g).brace = s.brace := rfl
@[simp] theorem State.updThr_pack (t : Nat) (g : KThread → KThread) : (s.updThr t g).pack = s.pack := rfl
@[simp] theorem State.updThr_gauges (t : Nat) (g : KThread → KThread) : (s.updThr t g).gauges = s.gauges := rfl
@[simp] theorem State.updThr_timeOffs (t : Nat) (g : KThread → KThread) : (s.updThr t g).timeOffs = s.timeOffs := rfl
@[simp] theorem State.updThr_ret (t : Nat) (g : KThread → KThread) : (s.updThr t g).ret = s.ret := rfl
@[simp] theorem State.updThr_tripHot (t : Nat) (g : KThread → KThread) : (s.updThr t g).tripHot = s.tripHot := rfl

/-! ## updDma -/

@[simp] theorem State.updDma_pending (c : Nat) (g : Dma → Dma) : (s.updDma c g).pending = s.pending := rfl
@[simp] theorem State.updDma_regs (c : Nat) (g : Dma → Dma) : (s.updDma c g).regs = s.regs := rfl
@[simp] theorem State.updDma_mem (c : Nat) (g : Dma → Dma) : (s.updDma c g).mem = s.mem := rfl
@[simp] theorem State.updDma_out (c : Nat) (g : Dma → Dma) : (s.updDma c g).out = s.out := rfl
@[simp] theorem State.updDma_reactions (c : Nat) (g : Dma → Dma) : (s.updDma c g).reactions = s.reactions := rfl
@[simp] theorem State.updDma_freeCtr (c : Nat) (g : Dma → Dma) : (s.updDma c g).freeCtr = s.freeCtr := rfl
@[simp] theorem State.updDma_now (c : Nat) (g : Dma → Dma) : (s.updDma c g).now = s.now := rfl
@[simp] theorem State.updDma_porst (c : Nat) (g : Dma → Dma) : (s.updDma c g).porst = s.porst := rfl
@[simp] theorem State.updDma_brown (c : Nat) (g : Dma → Dma) : (s.updDma c g).brown = s.brown := rfl
@[simp] theorem State.updDma_pinLow (c : Nat) (g : Dma → Dma) : (s.updDma c g).pinLow = s.pinLow := rfl
@[simp] theorem State.updDma_rom (c : Nat) (g : Dma → Dma) : (s.updDma c g).rom = s.rom := rfl
@[simp] theorem State.updDma_turns (c : Nat) (g : Dma → Dma) : (s.updDma c g).turns = s.turns := rfl
@[simp] theorem State.updDma_wakeAsk (c : Nat) (g : Dma → Dma) : (s.updDma c g).wakeAsk = s.wakeAsk := rfl
@[simp] theorem State.updDma_govAt (c : Nat) (g : Dma → Dma) : (s.updDma c g).govAt = s.govAt := rfl
@[simp] theorem State.updDma_capFrom (c : Nat) (g : Dma → Dma) : (s.updDma c g).capFrom = s.capFrom := rfl
@[simp] theorem State.updDma_fuses (c : Nat) (g : Dma → Dma) : (s.updDma c g).fuses = s.fuses := rfl
@[simp] theorem State.updDma_ledger (c : Nat) (g : Dma → Dma) : (s.updDma c g).ledger = s.ledger := rfl
@[simp] theorem State.updDma_timers (c : Nat) (g : Dma → Dma) : (s.updDma c g).timers = s.timers := rfl
@[simp] theorem State.updDma_frst (c : Nat) (g : Dma → Dma) : (s.updDma c g).frst = s.frst := rfl
@[simp] theorem State.updDma_devReset (c : Nat) (g : Dma → Dma) : (s.updDma c g).devReset = s.devReset := rfl
@[simp] theorem State.updDma_parked (c : Nat) (g : Dma → Dma) : (s.updDma c g).parked = s.parked := rfl
@[simp] theorem State.updDma_host (c : Nat) (g : Dma → Dma) : (s.updDma c g).host = s.host := rfl
@[simp] theorem State.updDma_wfail (c : Nat) (g : Dma → Dma) : (s.updDma c g).wfail = s.wfail := rfl
@[simp] theorem State.updDma_plast (c : Nat) (g : Dma → Dma) : (s.updDma c g).plast = s.plast := rfl
@[simp] theorem State.updDma_failArr (c : Nat) (g : Dma → Dma) : (s.updDma c g).failArr = s.failArr := rfl
@[simp] theorem State.updDma_tally (c : Nat) (g : Dma → Dma) : (s.updDma c g).tally = s.tally := rfl
@[simp] theorem State.updDma_tiles (c : Nat) (g : Dma → Dma) : (s.updDma c g).tiles = s.tiles := rfl
@[simp] theorem State.updDma_ctxNext (c : Nat) (g : Dma → Dma) : (s.updDma c g).ctxNext = s.ctxNext := rfl
@[simp] theorem State.updDma_ctxTail (c : Nat) (g : Dma → Dma) : (s.updDma c g).ctxTail = s.ctxTail := rfl
@[simp] theorem State.updDma_ctxQueue (c : Nat) (g : Dma → Dma) : (s.updDma c g).ctxQueue = s.ctxQueue := rfl
@[simp] theorem State.updDma_ctxs (c : Nat) (g : Dma → Dma) : (s.updDma c g).ctxs = s.ctxs := rfl
@[simp] theorem State.updDma_qmHeld (c : Nat) (g : Dma → Dma) : (s.updDma c g).qmHeld = s.qmHeld := rfl
@[simp] theorem State.updDma_bufs (c : Nat) (g : Dma → Dma) : (s.updDma c g).bufs = s.bufs := rfl
@[simp] theorem State.updDma_heldFlits (c : Nat) (g : Dma → Dma) : (s.updDma c g).heldFlits = s.heldFlits := rfl
@[simp] theorem State.updDma_flitId (c : Nat) (g : Dma → Dma) : (s.updDma c g).flitId = s.flitId := rfl
@[simp] theorem State.updDma_routes (c : Nat) (g : Dma → Dma) : (s.updDma c g).routes = s.routes := rfl
@[simp] theorem State.updDma_outst (c : Nat) (g : Dma → Dma) : (s.updDma c g).outst = s.outst := rfl
@[simp] theorem State.updDma_txNext (c : Nat) (g : Dma → Dma) : (s.updDma c g).txNext = s.txNext := rfl
@[simp] theorem State.updDma_inbox (c : Nat) (g : Dma → Dma) : (s.updDma c g).inbox = s.inbox := rfl
@[simp] theorem State.updDma_wakeFlits (c : Nat) (g : Dma → Dma) : (s.updDma c g).wakeFlits = s.wakeFlits := rfl
@[simp] theorem State.updDma_wakeSince (c : Nat) (g : Dma → Dma) : (s.updDma c g).wakeSince = s.wakeSince := rfl
@[simp] theorem State.updDma_prbCnt (c : Nat) (g : Dma → Dma) : (s.updDma c g).prbCnt = s.prbCnt := rfl
@[simp] theorem State.updDma_domOrg (c : Nat) (g : Dma → Dma) : (s.updDma c g).domOrg = s.domOrg := rfl
@[simp] theorem State.updDma_domHeld (c : Nat) (g : Dma → Dma) : (s.updDma c g).domHeld = s.domHeld := rfl
@[simp] theorem State.updDma_niDest (c : Nat) (g : Dma → Dma) : (s.updDma c g).niDest = s.niDest := rfl
@[simp] theorem State.updDma_hbmc (c : Nat) (g : Dma → Dma) : (s.updDma c g).hbmc = s.hbmc := rfl
@[simp] theorem State.updDma_holds (c : Nat) (g : Dma → Dma) : (s.updDma c g).holds = s.holds := rfl
@[simp] theorem State.updDma_waiters (c : Nat) (g : Dma → Dma) : (s.updDma c g).waiters = s.waiters := rfl
@[simp] theorem State.updDma_notices (c : Nat) (g : Dma → Dma) : (s.updDma c g).notices = s.notices := rfl
@[simp] theorem State.updDma_ken (c : Nat) (g : Dma → Dma) : (s.updDma c g).ken = s.ken := rfl
@[simp] theorem State.updDma_cores (c : Nat) (g : Dma → Dma) : (s.updDma c g).cores = s.cores := rfl
@[simp] theorem State.updDma_hubs (c : Nat) (g : Dma → Dma) : (s.updDma c g).hubs = s.hubs := rfl
@[simp] theorem State.updDma_plates (c : Nat) (g : Dma → Dma) : (s.updDma c g).plates = s.plates := rfl
@[simp] theorem State.updDma_ports (c : Nat) (g : Dma → Dma) : (s.updDma c g).ports = s.ports := rfl
@[simp] theorem State.updDma_links (c : Nat) (g : Dma → Dma) : (s.updDma c g).links = s.links := rfl
@[simp] theorem State.updDma_packRt (c : Nat) (g : Dma → Dma) : (s.updDma c g).packRt = s.packRt := rfl
@[simp] theorem State.updDma_brace (c : Nat) (g : Dma → Dma) : (s.updDma c g).brace = s.brace := rfl
@[simp] theorem State.updDma_pack (c : Nat) (g : Dma → Dma) : (s.updDma c g).pack = s.pack := rfl
@[simp] theorem State.updDma_gauges (c : Nat) (g : Dma → Dma) : (s.updDma c g).gauges = s.gauges := rfl
@[simp] theorem State.updDma_timeOffs (c : Nat) (g : Dma → Dma) : (s.updDma c g).timeOffs = s.timeOffs := rfl
@[simp] theorem State.updDma_ret (c : Nat) (g : Dma → Dma) : (s.updDma c g).ret = s.ret := rfl
@[simp] theorem State.updDma_tripHot (c : Nat) (g : Dma → Dma) : (s.updDma c g).tripHot = s.tripHot := rfl

/-! ## updLink -/

@[simp] theorem State.updLink_pending (l : Nat) (g : BLink → BLink) : (s.updLink l g).pending = s.pending := rfl
@[simp] theorem State.updLink_regs (l : Nat) (g : BLink → BLink) : (s.updLink l g).regs = s.regs := rfl
@[simp] theorem State.updLink_mem (l : Nat) (g : BLink → BLink) : (s.updLink l g).mem = s.mem := rfl
@[simp] theorem State.updLink_out (l : Nat) (g : BLink → BLink) : (s.updLink l g).out = s.out := rfl
@[simp] theorem State.updLink_reactions (l : Nat) (g : BLink → BLink) : (s.updLink l g).reactions = s.reactions := rfl
@[simp] theorem State.updLink_freeCtr (l : Nat) (g : BLink → BLink) : (s.updLink l g).freeCtr = s.freeCtr := rfl
@[simp] theorem State.updLink_now (l : Nat) (g : BLink → BLink) : (s.updLink l g).now = s.now := rfl
@[simp] theorem State.updLink_porst (l : Nat) (g : BLink → BLink) : (s.updLink l g).porst = s.porst := rfl
@[simp] theorem State.updLink_brown (l : Nat) (g : BLink → BLink) : (s.updLink l g).brown = s.brown := rfl
@[simp] theorem State.updLink_pinLow (l : Nat) (g : BLink → BLink) : (s.updLink l g).pinLow = s.pinLow := rfl
@[simp] theorem State.updLink_rom (l : Nat) (g : BLink → BLink) : (s.updLink l g).rom = s.rom := rfl
@[simp] theorem State.updLink_turns (l : Nat) (g : BLink → BLink) : (s.updLink l g).turns = s.turns := rfl
@[simp] theorem State.updLink_wakeAsk (l : Nat) (g : BLink → BLink) : (s.updLink l g).wakeAsk = s.wakeAsk := rfl
@[simp] theorem State.updLink_govAt (l : Nat) (g : BLink → BLink) : (s.updLink l g).govAt = s.govAt := rfl
@[simp] theorem State.updLink_capFrom (l : Nat) (g : BLink → BLink) : (s.updLink l g).capFrom = s.capFrom := rfl
@[simp] theorem State.updLink_fuses (l : Nat) (g : BLink → BLink) : (s.updLink l g).fuses = s.fuses := rfl
@[simp] theorem State.updLink_ledger (l : Nat) (g : BLink → BLink) : (s.updLink l g).ledger = s.ledger := rfl
@[simp] theorem State.updLink_timers (l : Nat) (g : BLink → BLink) : (s.updLink l g).timers = s.timers := rfl
@[simp] theorem State.updLink_frst (l : Nat) (g : BLink → BLink) : (s.updLink l g).frst = s.frst := rfl
@[simp] theorem State.updLink_devReset (l : Nat) (g : BLink → BLink) : (s.updLink l g).devReset = s.devReset := rfl
@[simp] theorem State.updLink_parked (l : Nat) (g : BLink → BLink) : (s.updLink l g).parked = s.parked := rfl
@[simp] theorem State.updLink_host (l : Nat) (g : BLink → BLink) : (s.updLink l g).host = s.host := rfl
@[simp] theorem State.updLink_wfail (l : Nat) (g : BLink → BLink) : (s.updLink l g).wfail = s.wfail := rfl
@[simp] theorem State.updLink_plast (l : Nat) (g : BLink → BLink) : (s.updLink l g).plast = s.plast := rfl
@[simp] theorem State.updLink_failArr (l : Nat) (g : BLink → BLink) : (s.updLink l g).failArr = s.failArr := rfl
@[simp] theorem State.updLink_tally (l : Nat) (g : BLink → BLink) : (s.updLink l g).tally = s.tally := rfl
@[simp] theorem State.updLink_tiles (l : Nat) (g : BLink → BLink) : (s.updLink l g).tiles = s.tiles := rfl
@[simp] theorem State.updLink_ctxNext (l : Nat) (g : BLink → BLink) : (s.updLink l g).ctxNext = s.ctxNext := rfl
@[simp] theorem State.updLink_ctxTail (l : Nat) (g : BLink → BLink) : (s.updLink l g).ctxTail = s.ctxTail := rfl
@[simp] theorem State.updLink_ctxQueue (l : Nat) (g : BLink → BLink) : (s.updLink l g).ctxQueue = s.ctxQueue := rfl
@[simp] theorem State.updLink_ctxs (l : Nat) (g : BLink → BLink) : (s.updLink l g).ctxs = s.ctxs := rfl
@[simp] theorem State.updLink_qmHeld (l : Nat) (g : BLink → BLink) : (s.updLink l g).qmHeld = s.qmHeld := rfl
@[simp] theorem State.updLink_bufs (l : Nat) (g : BLink → BLink) : (s.updLink l g).bufs = s.bufs := rfl
@[simp] theorem State.updLink_heldFlits (l : Nat) (g : BLink → BLink) : (s.updLink l g).heldFlits = s.heldFlits := rfl
@[simp] theorem State.updLink_flitId (l : Nat) (g : BLink → BLink) : (s.updLink l g).flitId = s.flitId := rfl
@[simp] theorem State.updLink_routes (l : Nat) (g : BLink → BLink) : (s.updLink l g).routes = s.routes := rfl
@[simp] theorem State.updLink_outst (l : Nat) (g : BLink → BLink) : (s.updLink l g).outst = s.outst := rfl
@[simp] theorem State.updLink_txNext (l : Nat) (g : BLink → BLink) : (s.updLink l g).txNext = s.txNext := rfl
@[simp] theorem State.updLink_inbox (l : Nat) (g : BLink → BLink) : (s.updLink l g).inbox = s.inbox := rfl
@[simp] theorem State.updLink_wakeFlits (l : Nat) (g : BLink → BLink) : (s.updLink l g).wakeFlits = s.wakeFlits := rfl
@[simp] theorem State.updLink_wakeSince (l : Nat) (g : BLink → BLink) : (s.updLink l g).wakeSince = s.wakeSince := rfl
@[simp] theorem State.updLink_prbCnt (l : Nat) (g : BLink → BLink) : (s.updLink l g).prbCnt = s.prbCnt := rfl
@[simp] theorem State.updLink_domOrg (l : Nat) (g : BLink → BLink) : (s.updLink l g).domOrg = s.domOrg := rfl
@[simp] theorem State.updLink_domHeld (l : Nat) (g : BLink → BLink) : (s.updLink l g).domHeld = s.domHeld := rfl
@[simp] theorem State.updLink_niDest (l : Nat) (g : BLink → BLink) : (s.updLink l g).niDest = s.niDest := rfl
@[simp] theorem State.updLink_hbmc (l : Nat) (g : BLink → BLink) : (s.updLink l g).hbmc = s.hbmc := rfl
@[simp] theorem State.updLink_holds (l : Nat) (g : BLink → BLink) : (s.updLink l g).holds = s.holds := rfl
@[simp] theorem State.updLink_waiters (l : Nat) (g : BLink → BLink) : (s.updLink l g).waiters = s.waiters := rfl
@[simp] theorem State.updLink_notices (l : Nat) (g : BLink → BLink) : (s.updLink l g).notices = s.notices := rfl
@[simp] theorem State.updLink_dma (l : Nat) (g : BLink → BLink) : (s.updLink l g).dma = s.dma := rfl
@[simp] theorem State.updLink_ken (l : Nat) (g : BLink → BLink) : (s.updLink l g).ken = s.ken := rfl
@[simp] theorem State.updLink_cores (l : Nat) (g : BLink → BLink) : (s.updLink l g).cores = s.cores := rfl
@[simp] theorem State.updLink_hubs (l : Nat) (g : BLink → BLink) : (s.updLink l g).hubs = s.hubs := rfl
@[simp] theorem State.updLink_plates (l : Nat) (g : BLink → BLink) : (s.updLink l g).plates = s.plates := rfl
@[simp] theorem State.updLink_ports (l : Nat) (g : BLink → BLink) : (s.updLink l g).ports = s.ports := rfl
@[simp] theorem State.updLink_packRt (l : Nat) (g : BLink → BLink) : (s.updLink l g).packRt = s.packRt := rfl
@[simp] theorem State.updLink_brace (l : Nat) (g : BLink → BLink) : (s.updLink l g).brace = s.brace := rfl
@[simp] theorem State.updLink_pack (l : Nat) (g : BLink → BLink) : (s.updLink l g).pack = s.pack := rfl
@[simp] theorem State.updLink_gauges (l : Nat) (g : BLink → BLink) : (s.updLink l g).gauges = s.gauges := rfl
@[simp] theorem State.updLink_timeOffs (l : Nat) (g : BLink → BLink) : (s.updLink l g).timeOffs = s.timeOffs := rfl
@[simp] theorem State.updLink_ret (l : Nat) (g : BLink → BLink) : (s.updLink l g).ret = s.ret := rfl
@[simp] theorem State.updLink_tripHot (l : Nat) (g : BLink → BLink) : (s.updLink l g).tripHot = s.tripHot := rfl

/-! ## updBar -/

@[simp] theorem State.updBar_pending (b : Nat) (g : BarSt → BarSt) : (s.updBar b g).pending = s.pending := rfl
@[simp] theorem State.updBar_regs (b : Nat) (g : BarSt → BarSt) : (s.updBar b g).regs = s.regs := rfl
@[simp] theorem State.updBar_mem (b : Nat) (g : BarSt → BarSt) : (s.updBar b g).mem = s.mem := rfl
@[simp] theorem State.updBar_out (b : Nat) (g : BarSt → BarSt) : (s.updBar b g).out = s.out := rfl
@[simp] theorem State.updBar_reactions (b : Nat) (g : BarSt → BarSt) : (s.updBar b g).reactions = s.reactions := rfl
@[simp] theorem State.updBar_freeCtr (b : Nat) (g : BarSt → BarSt) : (s.updBar b g).freeCtr = s.freeCtr := rfl
@[simp] theorem State.updBar_now (b : Nat) (g : BarSt → BarSt) : (s.updBar b g).now = s.now := rfl
@[simp] theorem State.updBar_porst (b : Nat) (g : BarSt → BarSt) : (s.updBar b g).porst = s.porst := rfl
@[simp] theorem State.updBar_brown (b : Nat) (g : BarSt → BarSt) : (s.updBar b g).brown = s.brown := rfl
@[simp] theorem State.updBar_pinLow (b : Nat) (g : BarSt → BarSt) : (s.updBar b g).pinLow = s.pinLow := rfl
@[simp] theorem State.updBar_rom (b : Nat) (g : BarSt → BarSt) : (s.updBar b g).rom = s.rom := rfl
@[simp] theorem State.updBar_turns (b : Nat) (g : BarSt → BarSt) : (s.updBar b g).turns = s.turns := rfl
@[simp] theorem State.updBar_wakeAsk (b : Nat) (g : BarSt → BarSt) : (s.updBar b g).wakeAsk = s.wakeAsk := rfl
@[simp] theorem State.updBar_govAt (b : Nat) (g : BarSt → BarSt) : (s.updBar b g).govAt = s.govAt := rfl
@[simp] theorem State.updBar_capFrom (b : Nat) (g : BarSt → BarSt) : (s.updBar b g).capFrom = s.capFrom := rfl
@[simp] theorem State.updBar_fuses (b : Nat) (g : BarSt → BarSt) : (s.updBar b g).fuses = s.fuses := rfl
@[simp] theorem State.updBar_ledger (b : Nat) (g : BarSt → BarSt) : (s.updBar b g).ledger = s.ledger := rfl
@[simp] theorem State.updBar_timers (b : Nat) (g : BarSt → BarSt) : (s.updBar b g).timers = s.timers := rfl
@[simp] theorem State.updBar_frst (b : Nat) (g : BarSt → BarSt) : (s.updBar b g).frst = s.frst := rfl
@[simp] theorem State.updBar_devReset (b : Nat) (g : BarSt → BarSt) : (s.updBar b g).devReset = s.devReset := rfl
@[simp] theorem State.updBar_parked (b : Nat) (g : BarSt → BarSt) : (s.updBar b g).parked = s.parked := rfl
@[simp] theorem State.updBar_host (b : Nat) (g : BarSt → BarSt) : (s.updBar b g).host = s.host := rfl
@[simp] theorem State.updBar_wfail (b : Nat) (g : BarSt → BarSt) : (s.updBar b g).wfail = s.wfail := rfl
@[simp] theorem State.updBar_plast (b : Nat) (g : BarSt → BarSt) : (s.updBar b g).plast = s.plast := rfl
@[simp] theorem State.updBar_failArr (b : Nat) (g : BarSt → BarSt) : (s.updBar b g).failArr = s.failArr := rfl
@[simp] theorem State.updBar_tally (b : Nat) (g : BarSt → BarSt) : (s.updBar b g).tally = s.tally := rfl
@[simp] theorem State.updBar_tiles (b : Nat) (g : BarSt → BarSt) : (s.updBar b g).tiles = s.tiles := rfl
@[simp] theorem State.updBar_ctxNext (b : Nat) (g : BarSt → BarSt) : (s.updBar b g).ctxNext = s.ctxNext := rfl
@[simp] theorem State.updBar_ctxTail (b : Nat) (g : BarSt → BarSt) : (s.updBar b g).ctxTail = s.ctxTail := rfl
@[simp] theorem State.updBar_ctxQueue (b : Nat) (g : BarSt → BarSt) : (s.updBar b g).ctxQueue = s.ctxQueue := rfl
@[simp] theorem State.updBar_ctxs (b : Nat) (g : BarSt → BarSt) : (s.updBar b g).ctxs = s.ctxs := rfl
@[simp] theorem State.updBar_qmHeld (b : Nat) (g : BarSt → BarSt) : (s.updBar b g).qmHeld = s.qmHeld := rfl
@[simp] theorem State.updBar_bufs (b : Nat) (g : BarSt → BarSt) : (s.updBar b g).bufs = s.bufs := rfl
@[simp] theorem State.updBar_heldFlits (b : Nat) (g : BarSt → BarSt) : (s.updBar b g).heldFlits = s.heldFlits := rfl
@[simp] theorem State.updBar_flitId (b : Nat) (g : BarSt → BarSt) : (s.updBar b g).flitId = s.flitId := rfl
@[simp] theorem State.updBar_routes (b : Nat) (g : BarSt → BarSt) : (s.updBar b g).routes = s.routes := rfl
@[simp] theorem State.updBar_outst (b : Nat) (g : BarSt → BarSt) : (s.updBar b g).outst = s.outst := rfl
@[simp] theorem State.updBar_txNext (b : Nat) (g : BarSt → BarSt) : (s.updBar b g).txNext = s.txNext := rfl
@[simp] theorem State.updBar_inbox (b : Nat) (g : BarSt → BarSt) : (s.updBar b g).inbox = s.inbox := rfl
@[simp] theorem State.updBar_wakeFlits (b : Nat) (g : BarSt → BarSt) : (s.updBar b g).wakeFlits = s.wakeFlits := rfl
@[simp] theorem State.updBar_wakeSince (b : Nat) (g : BarSt → BarSt) : (s.updBar b g).wakeSince = s.wakeSince := rfl
@[simp] theorem State.updBar_prbCnt (b : Nat) (g : BarSt → BarSt) : (s.updBar b g).prbCnt = s.prbCnt := rfl
@[simp] theorem State.updBar_domOrg (b : Nat) (g : BarSt → BarSt) : (s.updBar b g).domOrg = s.domOrg := rfl
@[simp] theorem State.updBar_domHeld (b : Nat) (g : BarSt → BarSt) : (s.updBar b g).domHeld = s.domHeld := rfl
@[simp] theorem State.updBar_niDest (b : Nat) (g : BarSt → BarSt) : (s.updBar b g).niDest = s.niDest := rfl
@[simp] theorem State.updBar_hbmc (b : Nat) (g : BarSt → BarSt) : (s.updBar b g).hbmc = s.hbmc := rfl
@[simp] theorem State.updBar_holds (b : Nat) (g : BarSt → BarSt) : (s.updBar b g).holds = s.holds := rfl
@[simp] theorem State.updBar_waiters (b : Nat) (g : BarSt → BarSt) : (s.updBar b g).waiters = s.waiters := rfl
@[simp] theorem State.updBar_notices (b : Nat) (g : BarSt → BarSt) : (s.updBar b g).notices = s.notices := rfl
@[simp] theorem State.updBar_dma (b : Nat) (g : BarSt → BarSt) : (s.updBar b g).dma = s.dma := rfl
@[simp] theorem State.updBar_ken (b : Nat) (g : BarSt → BarSt) : (s.updBar b g).ken = s.ken := rfl
@[simp] theorem State.updBar_cores (b : Nat) (g : BarSt → BarSt) : (s.updBar b g).cores = s.cores := rfl
@[simp] theorem State.updBar_hubs (b : Nat) (g : BarSt → BarSt) : (s.updBar b g).hubs = s.hubs := rfl
@[simp] theorem State.updBar_plates (b : Nat) (g : BarSt → BarSt) : (s.updBar b g).plates = s.plates := rfl
@[simp] theorem State.updBar_ports (b : Nat) (g : BarSt → BarSt) : (s.updBar b g).ports = s.ports := rfl
@[simp] theorem State.updBar_links (b : Nat) (g : BarSt → BarSt) : (s.updBar b g).links = s.links := rfl
@[simp] theorem State.updBar_packRt (b : Nat) (g : BarSt → BarSt) : (s.updBar b g).packRt = s.packRt := rfl
@[simp] theorem State.updBar_brace (b : Nat) (g : BarSt → BarSt) : (s.updBar b g).brace = s.brace := rfl
@[simp] theorem State.updBar_gauges (b : Nat) (g : BarSt → BarSt) : (s.updBar b g).gauges = s.gauges := rfl
@[simp] theorem State.updBar_timeOffs (b : Nat) (g : BarSt → BarSt) : (s.updBar b g).timeOffs = s.timeOffs := rfl
@[simp] theorem State.updBar_ret (b : Nat) (g : BarSt → BarSt) : (s.updBar b g).ret = s.ret := rfl
@[simp] theorem State.updBar_tripHot (b : Nat) (g : BarSt → BarSt) : (s.updBar b g).tripHot = s.tripHot := rfl

/-! ## updSub -/

@[simp] theorem State.updSub_pending (n : Nat) (g : SubCh → SubCh) : (s.updSub n g).pending = s.pending := rfl
@[simp] theorem State.updSub_regs (n : Nat) (g : SubCh → SubCh) : (s.updSub n g).regs = s.regs := rfl
@[simp] theorem State.updSub_mem (n : Nat) (g : SubCh → SubCh) : (s.updSub n g).mem = s.mem := rfl
@[simp] theorem State.updSub_out (n : Nat) (g : SubCh → SubCh) : (s.updSub n g).out = s.out := rfl
@[simp] theorem State.updSub_reactions (n : Nat) (g : SubCh → SubCh) : (s.updSub n g).reactions = s.reactions := rfl
@[simp] theorem State.updSub_freeCtr (n : Nat) (g : SubCh → SubCh) : (s.updSub n g).freeCtr = s.freeCtr := rfl
@[simp] theorem State.updSub_now (n : Nat) (g : SubCh → SubCh) : (s.updSub n g).now = s.now := rfl
@[simp] theorem State.updSub_porst (n : Nat) (g : SubCh → SubCh) : (s.updSub n g).porst = s.porst := rfl
@[simp] theorem State.updSub_brown (n : Nat) (g : SubCh → SubCh) : (s.updSub n g).brown = s.brown := rfl
@[simp] theorem State.updSub_pinLow (n : Nat) (g : SubCh → SubCh) : (s.updSub n g).pinLow = s.pinLow := rfl
@[simp] theorem State.updSub_rom (n : Nat) (g : SubCh → SubCh) : (s.updSub n g).rom = s.rom := rfl
@[simp] theorem State.updSub_turns (n : Nat) (g : SubCh → SubCh) : (s.updSub n g).turns = s.turns := rfl
@[simp] theorem State.updSub_wakeAsk (n : Nat) (g : SubCh → SubCh) : (s.updSub n g).wakeAsk = s.wakeAsk := rfl
@[simp] theorem State.updSub_govAt (n : Nat) (g : SubCh → SubCh) : (s.updSub n g).govAt = s.govAt := rfl
@[simp] theorem State.updSub_capFrom (n : Nat) (g : SubCh → SubCh) : (s.updSub n g).capFrom = s.capFrom := rfl
@[simp] theorem State.updSub_fuses (n : Nat) (g : SubCh → SubCh) : (s.updSub n g).fuses = s.fuses := rfl
@[simp] theorem State.updSub_ledger (n : Nat) (g : SubCh → SubCh) : (s.updSub n g).ledger = s.ledger := rfl
@[simp] theorem State.updSub_timers (n : Nat) (g : SubCh → SubCh) : (s.updSub n g).timers = s.timers := rfl
@[simp] theorem State.updSub_frst (n : Nat) (g : SubCh → SubCh) : (s.updSub n g).frst = s.frst := rfl
@[simp] theorem State.updSub_devReset (n : Nat) (g : SubCh → SubCh) : (s.updSub n g).devReset = s.devReset := rfl
@[simp] theorem State.updSub_parked (n : Nat) (g : SubCh → SubCh) : (s.updSub n g).parked = s.parked := rfl
@[simp] theorem State.updSub_host (n : Nat) (g : SubCh → SubCh) : (s.updSub n g).host = s.host := rfl
@[simp] theorem State.updSub_wfail (n : Nat) (g : SubCh → SubCh) : (s.updSub n g).wfail = s.wfail := rfl
@[simp] theorem State.updSub_plast (n : Nat) (g : SubCh → SubCh) : (s.updSub n g).plast = s.plast := rfl
@[simp] theorem State.updSub_failArr (n : Nat) (g : SubCh → SubCh) : (s.updSub n g).failArr = s.failArr := rfl
@[simp] theorem State.updSub_tally (n : Nat) (g : SubCh → SubCh) : (s.updSub n g).tally = s.tally := rfl
@[simp] theorem State.updSub_tiles (n : Nat) (g : SubCh → SubCh) : (s.updSub n g).tiles = s.tiles := rfl
@[simp] theorem State.updSub_ctxNext (n : Nat) (g : SubCh → SubCh) : (s.updSub n g).ctxNext = s.ctxNext := rfl
@[simp] theorem State.updSub_ctxTail (n : Nat) (g : SubCh → SubCh) : (s.updSub n g).ctxTail = s.ctxTail := rfl
@[simp] theorem State.updSub_ctxQueue (n : Nat) (g : SubCh → SubCh) : (s.updSub n g).ctxQueue = s.ctxQueue := rfl
@[simp] theorem State.updSub_ctxs (n : Nat) (g : SubCh → SubCh) : (s.updSub n g).ctxs = s.ctxs := rfl
@[simp] theorem State.updSub_qmHeld (n : Nat) (g : SubCh → SubCh) : (s.updSub n g).qmHeld = s.qmHeld := rfl
@[simp] theorem State.updSub_bufs (n : Nat) (g : SubCh → SubCh) : (s.updSub n g).bufs = s.bufs := rfl
@[simp] theorem State.updSub_heldFlits (n : Nat) (g : SubCh → SubCh) : (s.updSub n g).heldFlits = s.heldFlits := rfl
@[simp] theorem State.updSub_flitId (n : Nat) (g : SubCh → SubCh) : (s.updSub n g).flitId = s.flitId := rfl
@[simp] theorem State.updSub_routes (n : Nat) (g : SubCh → SubCh) : (s.updSub n g).routes = s.routes := rfl
@[simp] theorem State.updSub_outst (n : Nat) (g : SubCh → SubCh) : (s.updSub n g).outst = s.outst := rfl
@[simp] theorem State.updSub_txNext (n : Nat) (g : SubCh → SubCh) : (s.updSub n g).txNext = s.txNext := rfl
@[simp] theorem State.updSub_inbox (n : Nat) (g : SubCh → SubCh) : (s.updSub n g).inbox = s.inbox := rfl
@[simp] theorem State.updSub_wakeFlits (n : Nat) (g : SubCh → SubCh) : (s.updSub n g).wakeFlits = s.wakeFlits := rfl
@[simp] theorem State.updSub_wakeSince (n : Nat) (g : SubCh → SubCh) : (s.updSub n g).wakeSince = s.wakeSince := rfl
@[simp] theorem State.updSub_prbCnt (n : Nat) (g : SubCh → SubCh) : (s.updSub n g).prbCnt = s.prbCnt := rfl
@[simp] theorem State.updSub_domOrg (n : Nat) (g : SubCh → SubCh) : (s.updSub n g).domOrg = s.domOrg := rfl
@[simp] theorem State.updSub_domHeld (n : Nat) (g : SubCh → SubCh) : (s.updSub n g).domHeld = s.domHeld := rfl
@[simp] theorem State.updSub_niDest (n : Nat) (g : SubCh → SubCh) : (s.updSub n g).niDest = s.niDest := rfl
@[simp] theorem State.updSub_hbmc (n : Nat) (g : SubCh → SubCh) : (s.updSub n g).hbmc = s.hbmc := rfl
@[simp] theorem State.updSub_holds (n : Nat) (g : SubCh → SubCh) : (s.updSub n g).holds = s.holds := rfl
@[simp] theorem State.updSub_waiters (n : Nat) (g : SubCh → SubCh) : (s.updSub n g).waiters = s.waiters := rfl
@[simp] theorem State.updSub_notices (n : Nat) (g : SubCh → SubCh) : (s.updSub n g).notices = s.notices := rfl
@[simp] theorem State.updSub_dma (n : Nat) (g : SubCh → SubCh) : (s.updSub n g).dma = s.dma := rfl
@[simp] theorem State.updSub_ken (n : Nat) (g : SubCh → SubCh) : (s.updSub n g).ken = s.ken := rfl
@[simp] theorem State.updSub_cores (n : Nat) (g : SubCh → SubCh) : (s.updSub n g).cores = s.cores := rfl
@[simp] theorem State.updSub_hubs (n : Nat) (g : SubCh → SubCh) : (s.updSub n g).hubs = s.hubs := rfl
@[simp] theorem State.updSub_plates (n : Nat) (g : SubCh → SubCh) : (s.updSub n g).plates = s.plates := rfl
@[simp] theorem State.updSub_ports (n : Nat) (g : SubCh → SubCh) : (s.updSub n g).ports = s.ports := rfl
@[simp] theorem State.updSub_links (n : Nat) (g : SubCh → SubCh) : (s.updSub n g).links = s.links := rfl
@[simp] theorem State.updSub_packRt (n : Nat) (g : SubCh → SubCh) : (s.updSub n g).packRt = s.packRt := rfl
@[simp] theorem State.updSub_brace (n : Nat) (g : SubCh → SubCh) : (s.updSub n g).brace = s.brace := rfl
@[simp] theorem State.updSub_pack (n : Nat) (g : SubCh → SubCh) : (s.updSub n g).pack = s.pack := rfl
@[simp] theorem State.updSub_gauges (n : Nat) (g : SubCh → SubCh) : (s.updSub n g).gauges = s.gauges := rfl
@[simp] theorem State.updSub_timeOffs (n : Nat) (g : SubCh → SubCh) : (s.updSub n g).timeOffs = s.timeOffs := rfl
@[simp] theorem State.updSub_tripHot (n : Nat) (g : SubCh → SubCh) : (s.updSub n g).tripHot = s.tripHot := rfl

/-! ## updGauge -/

@[simp] theorem State.updGauge_pending (n : Nat) (g : GaugeSt → GaugeSt) : (s.updGauge n g).pending = s.pending := rfl
@[simp] theorem State.updGauge_regs (n : Nat) (g : GaugeSt → GaugeSt) : (s.updGauge n g).regs = s.regs := rfl
@[simp] theorem State.updGauge_mem (n : Nat) (g : GaugeSt → GaugeSt) : (s.updGauge n g).mem = s.mem := rfl
@[simp] theorem State.updGauge_out (n : Nat) (g : GaugeSt → GaugeSt) : (s.updGauge n g).out = s.out := rfl
@[simp] theorem State.updGauge_reactions (n : Nat) (g : GaugeSt → GaugeSt) : (s.updGauge n g).reactions = s.reactions := rfl
@[simp] theorem State.updGauge_freeCtr (n : Nat) (g : GaugeSt → GaugeSt) : (s.updGauge n g).freeCtr = s.freeCtr := rfl
@[simp] theorem State.updGauge_now (n : Nat) (g : GaugeSt → GaugeSt) : (s.updGauge n g).now = s.now := rfl
@[simp] theorem State.updGauge_porst (n : Nat) (g : GaugeSt → GaugeSt) : (s.updGauge n g).porst = s.porst := rfl
@[simp] theorem State.updGauge_brown (n : Nat) (g : GaugeSt → GaugeSt) : (s.updGauge n g).brown = s.brown := rfl
@[simp] theorem State.updGauge_pinLow (n : Nat) (g : GaugeSt → GaugeSt) : (s.updGauge n g).pinLow = s.pinLow := rfl
@[simp] theorem State.updGauge_rom (n : Nat) (g : GaugeSt → GaugeSt) : (s.updGauge n g).rom = s.rom := rfl
@[simp] theorem State.updGauge_turns (n : Nat) (g : GaugeSt → GaugeSt) : (s.updGauge n g).turns = s.turns := rfl
@[simp] theorem State.updGauge_wakeAsk (n : Nat) (g : GaugeSt → GaugeSt) : (s.updGauge n g).wakeAsk = s.wakeAsk := rfl
@[simp] theorem State.updGauge_govAt (n : Nat) (g : GaugeSt → GaugeSt) : (s.updGauge n g).govAt = s.govAt := rfl
@[simp] theorem State.updGauge_capFrom (n : Nat) (g : GaugeSt → GaugeSt) : (s.updGauge n g).capFrom = s.capFrom := rfl
@[simp] theorem State.updGauge_fuses (n : Nat) (g : GaugeSt → GaugeSt) : (s.updGauge n g).fuses = s.fuses := rfl
@[simp] theorem State.updGauge_ledger (n : Nat) (g : GaugeSt → GaugeSt) : (s.updGauge n g).ledger = s.ledger := rfl
@[simp] theorem State.updGauge_timers (n : Nat) (g : GaugeSt → GaugeSt) : (s.updGauge n g).timers = s.timers := rfl
@[simp] theorem State.updGauge_frst (n : Nat) (g : GaugeSt → GaugeSt) : (s.updGauge n g).frst = s.frst := rfl
@[simp] theorem State.updGauge_devReset (n : Nat) (g : GaugeSt → GaugeSt) : (s.updGauge n g).devReset = s.devReset := rfl
@[simp] theorem State.updGauge_parked (n : Nat) (g : GaugeSt → GaugeSt) : (s.updGauge n g).parked = s.parked := rfl
@[simp] theorem State.updGauge_host (n : Nat) (g : GaugeSt → GaugeSt) : (s.updGauge n g).host = s.host := rfl
@[simp] theorem State.updGauge_wfail (n : Nat) (g : GaugeSt → GaugeSt) : (s.updGauge n g).wfail = s.wfail := rfl
@[simp] theorem State.updGauge_plast (n : Nat) (g : GaugeSt → GaugeSt) : (s.updGauge n g).plast = s.plast := rfl
@[simp] theorem State.updGauge_failArr (n : Nat) (g : GaugeSt → GaugeSt) : (s.updGauge n g).failArr = s.failArr := rfl
@[simp] theorem State.updGauge_tally (n : Nat) (g : GaugeSt → GaugeSt) : (s.updGauge n g).tally = s.tally := rfl
@[simp] theorem State.updGauge_tiles (n : Nat) (g : GaugeSt → GaugeSt) : (s.updGauge n g).tiles = s.tiles := rfl
@[simp] theorem State.updGauge_ctxNext (n : Nat) (g : GaugeSt → GaugeSt) : (s.updGauge n g).ctxNext = s.ctxNext := rfl
@[simp] theorem State.updGauge_ctxTail (n : Nat) (g : GaugeSt → GaugeSt) : (s.updGauge n g).ctxTail = s.ctxTail := rfl
@[simp] theorem State.updGauge_ctxQueue (n : Nat) (g : GaugeSt → GaugeSt) : (s.updGauge n g).ctxQueue = s.ctxQueue := rfl
@[simp] theorem State.updGauge_ctxs (n : Nat) (g : GaugeSt → GaugeSt) : (s.updGauge n g).ctxs = s.ctxs := rfl
@[simp] theorem State.updGauge_qmHeld (n : Nat) (g : GaugeSt → GaugeSt) : (s.updGauge n g).qmHeld = s.qmHeld := rfl
@[simp] theorem State.updGauge_bufs (n : Nat) (g : GaugeSt → GaugeSt) : (s.updGauge n g).bufs = s.bufs := rfl
@[simp] theorem State.updGauge_heldFlits (n : Nat) (g : GaugeSt → GaugeSt) : (s.updGauge n g).heldFlits = s.heldFlits := rfl
@[simp] theorem State.updGauge_flitId (n : Nat) (g : GaugeSt → GaugeSt) : (s.updGauge n g).flitId = s.flitId := rfl
@[simp] theorem State.updGauge_routes (n : Nat) (g : GaugeSt → GaugeSt) : (s.updGauge n g).routes = s.routes := rfl
@[simp] theorem State.updGauge_outst (n : Nat) (g : GaugeSt → GaugeSt) : (s.updGauge n g).outst = s.outst := rfl
@[simp] theorem State.updGauge_txNext (n : Nat) (g : GaugeSt → GaugeSt) : (s.updGauge n g).txNext = s.txNext := rfl
@[simp] theorem State.updGauge_inbox (n : Nat) (g : GaugeSt → GaugeSt) : (s.updGauge n g).inbox = s.inbox := rfl
@[simp] theorem State.updGauge_wakeFlits (n : Nat) (g : GaugeSt → GaugeSt) : (s.updGauge n g).wakeFlits = s.wakeFlits := rfl
@[simp] theorem State.updGauge_wakeSince (n : Nat) (g : GaugeSt → GaugeSt) : (s.updGauge n g).wakeSince = s.wakeSince := rfl
@[simp] theorem State.updGauge_prbCnt (n : Nat) (g : GaugeSt → GaugeSt) : (s.updGauge n g).prbCnt = s.prbCnt := rfl
@[simp] theorem State.updGauge_domOrg (n : Nat) (g : GaugeSt → GaugeSt) : (s.updGauge n g).domOrg = s.domOrg := rfl
@[simp] theorem State.updGauge_domHeld (n : Nat) (g : GaugeSt → GaugeSt) : (s.updGauge n g).domHeld = s.domHeld := rfl
@[simp] theorem State.updGauge_niDest (n : Nat) (g : GaugeSt → GaugeSt) : (s.updGauge n g).niDest = s.niDest := rfl
@[simp] theorem State.updGauge_hbmc (n : Nat) (g : GaugeSt → GaugeSt) : (s.updGauge n g).hbmc = s.hbmc := rfl
@[simp] theorem State.updGauge_holds (n : Nat) (g : GaugeSt → GaugeSt) : (s.updGauge n g).holds = s.holds := rfl
@[simp] theorem State.updGauge_waiters (n : Nat) (g : GaugeSt → GaugeSt) : (s.updGauge n g).waiters = s.waiters := rfl
@[simp] theorem State.updGauge_notices (n : Nat) (g : GaugeSt → GaugeSt) : (s.updGauge n g).notices = s.notices := rfl
@[simp] theorem State.updGauge_dma (n : Nat) (g : GaugeSt → GaugeSt) : (s.updGauge n g).dma = s.dma := rfl
@[simp] theorem State.updGauge_ken (n : Nat) (g : GaugeSt → GaugeSt) : (s.updGauge n g).ken = s.ken := rfl
@[simp] theorem State.updGauge_cores (n : Nat) (g : GaugeSt → GaugeSt) : (s.updGauge n g).cores = s.cores := rfl
@[simp] theorem State.updGauge_hubs (n : Nat) (g : GaugeSt → GaugeSt) : (s.updGauge n g).hubs = s.hubs := rfl
@[simp] theorem State.updGauge_plates (n : Nat) (g : GaugeSt → GaugeSt) : (s.updGauge n g).plates = s.plates := rfl
@[simp] theorem State.updGauge_ports (n : Nat) (g : GaugeSt → GaugeSt) : (s.updGauge n g).ports = s.ports := rfl
@[simp] theorem State.updGauge_links (n : Nat) (g : GaugeSt → GaugeSt) : (s.updGauge n g).links = s.links := rfl
@[simp] theorem State.updGauge_packRt (n : Nat) (g : GaugeSt → GaugeSt) : (s.updGauge n g).packRt = s.packRt := rfl
@[simp] theorem State.updGauge_brace (n : Nat) (g : GaugeSt → GaugeSt) : (s.updGauge n g).brace = s.brace := rfl
@[simp] theorem State.updGauge_pack (n : Nat) (g : GaugeSt → GaugeSt) : (s.updGauge n g).pack = s.pack := rfl
@[simp] theorem State.updGauge_timeOffs (n : Nat) (g : GaugeSt → GaugeSt) : (s.updGauge n g).timeOffs = s.timeOffs := rfl
@[simp] theorem State.updGauge_ret (n : Nat) (g : GaugeSt → GaugeSt) : (s.updGauge n g).ret = s.ret := rfl
@[simp] theorem State.updGauge_tripHot (n : Nat) (g : GaugeSt → GaugeSt) : (s.updGauge n g).tripHot = s.tripHot := rfl

end Sys2Proof.Machine
end

