-- ==== Sys2Proof/Laws/Command.lean ====
section
/-! SUPPORT. What a command's shape makes of it: the end of a command, the acts of a unit, and register writes that take
effect. -/

namespace Sys2Proof.Machine

/-! ## The end of a command -/

theorem settle_porst {s : State} (h : s.porst = true) : s.settle = s := by simp [State.settle, h]

theorem settle_quiet {s : State} (h : s.quiet = true) : s.settle = s := by simp [State.settle, h]

theorem done_next (s : State) : done s = .next s.settle := rfl

theorem act_porst {s : State} (h : s.porst = true) (k : State → State) : act s k = .next s := by
  simp [act, done, h, settle_porst h]

theorem act_live {s : State} (h : s.porst = false) (k : State → State) : act s k = .next (k s).settle := by
  simp [act, done, h]

theorem actOn_porst {s : State} (h : s.porst = true) (ok : Bool) (k : State → State) : actOn ok s k = .next s := by
  simp [actOn, done, h, settle_porst h]

theorem actOn_live {s : State} (h : s.porst = false) {ok : Bool} (hk : ok = true) (k : State → State) :
    actOn ok s k = .next (k s).settle := by
  simp [actOn, done, h, hk]

/-! ## Steps of engines (R450, R462) -/

theorem State.slept_awake {s : State} (h : s.memAwake = true) (s1 : State) : s.slept s1 = [] := by
  simp only [State.memAwake, Bool.and_eq_true, List.all_eq_true] at h
  exact List.filter_eq_nil_iff.mpr (fun u hu => by simp [h.1 u hu])

theorem State.l1Waits_awake {s : State} (h : s.memAwake = true) (s1 : State) : s.l1Waits s1 = false := by
  simp only [State.memAwake, Bool.and_eq_true, Bool.not_eq_true'] at h
  simp [State.l1Waits, h.2]

theorem State.slept_self (s : State) : s.slept s = [] := by simp [State.slept]

theorem State.l1Waits_self (s : State) : s.l1Waits s = false := by simp [State.l1Waits]

theorem State.orWaits_goes {s s1 : State} (h : s.slept s1 = []) (hl : s.l1Waits s1 = false) : s.orWaits s1 = s1 := by
  rw [State.orWaits, h, hl]

/-- A step of an engine whose accesses meet no controller without power and no link in L1 is the step itself. -/
theorem engOn_goes {s : State} (h : s.porst = false) {ok : Bool} (hk : ok = true) {k : State → State} (hs : s.slept (k s) = [])
    (hl : s.l1Waits (k s) = false) : engOn ok s k = .next (k s).settle := by
  rw [engOn, actOn_live h hk, State.orWaits_goes hs hl]

/-- With all controllers on and the link out of L1 every step of an engine is taken. -/
theorem engOn_awake {s : State} (h : s.porst = false) (ha : s.memAwake = true) {ok : Bool} (hk : ok = true) (k : State → State) :
    engOn ok s k = .next (k s).settle :=
  engOn_goes h hk (State.slept_awake ha _) (State.l1Waits_awake ha _)

/-- A step of an engine whose access meets a controller without power changes nothing but that it asks for the wake. -/
theorem State.orWaits_asks {s s1 : State} {u : Nat} (h : u ∈ s.slept s1) :
    ∃ w l, s.orWaits s1 = { s with wakeSince := w, reactions := s.reactions ++ l } ∧ Reaction.domWake (168 + u) ∈ l := by
  cases hl : s.slept s1 with
  | nil => simp [hl] at h
  | cons a l =>
    refine ⟨_, (a :: l).map (fun u => Reaction.domWake (168 + u)), by rw [State.orWaits, hl], ?_⟩
    rw [hl] at h
    exact List.mem_map.mpr ⟨u, h, rfl⟩

theorem engOn_waits {s : State} (h : s.porst = false) {ok : Bool} (hk : ok = true) {k : State → State} {u : Nat}
    (hu : u ∈ s.slept (k s)) : ∃ t : State, engOn ok s k = .next t.settle ∧ Reaction.domWake (168 + u) ∈ t.reactions ∧
      ∃ w l, t = { s with wakeSince := w, reactions := l } := by
  obtain ⟨w, l, e, hm⟩ := State.orWaits_asks hu
  exact ⟨s.orWaits (k s), by rw [engOn, actOn_live h hk], by rw [e]; exact List.mem_append_right _ hm, w, _, e⟩

/-- A step of an engine that meets the link in L1 changes nothing but that the link begins its exit. -/
theorem engOn_exits {s : State} (h : s.porst = false) {ok : Bool} (hk : ok = true) {k : State → State} (hs : s.slept (k s) = [])
    (hl : s.l1Waits (k s) = true) : engOn ok s k = .next s.wakeLink.settle := by
  rw [engOn, actOn_live h hk, State.orWaits, hs, hl]

/-! ## Pages of the control window (R557) -/

/-- No two blocks share an offset (Table 17.10). -/
theorem blocks_disjoint : ∀ x ∈ blocks, ∀ y ∈ blocks, x ≠ y →
    blkBase x + blkPages x * 0x1000 ≤ blkBase y ∨ blkBase y + blkPages y * 0x1000 ≤ blkBase x := by decide

theorem find_only {α : Type} (f : α → Bool) (l : List α) (a : α) (ha : a ∈ l) (ht : f a = true)
    (hf : ∀ x ∈ l, f x = true → x = a) : l.find? f = some a := by
  induction l with
  | nil => simp at ha
  | cons x l ih =>
    by_cases hx : f x = true
    · rw [List.find?_cons_of_pos hx, hf x (by simp) hx]
    · rw [List.find?_cons_of_neg hx]
      refine ih ?_ (fun y hy => hf y (by simp [hy]))
      rcases List.mem_cons.mp ha with rfl | h
      · exact absurd ht hx
      · exact h

theorem mem_blocks {b : PKind} {p : Nat} (hp : p < blkPages b) : b ∈ blocks := by
  cases b <;> first | decide | exact absurd hp (by simp [blkPages])

theorem pageOf_pageAt {b : PKind} {p o : Nat} (hp : p < blkPages b) (ho : o < 0x1000) :
    pageOf (pageAt b p + o) = some (b, p) := by
  have hb := mem_blocks hp
  have hlt : p * 0x1000 + 0x1000 ≤ blkPages b * 0x1000 := by omega
  have hfind : blocks.find? (fun x => decide (blkBase x ≤ pageAt b p + o) &&
      decide (pageAt b p + o < blkBase x + blkPages x * 0x1000)) = some b := by
    refine find_only _ _ b hb ?_ (fun x hx h => ?_)
    · rw [Bool.and_eq_true]
      exact ⟨decide_eq_true (by unfold pageAt; omega), decide_eq_true (by unfold pageAt; omega)⟩
    · by_contra hne
      rw [Bool.and_eq_true] at h
      have h1 := of_decide_eq_true h.1
      have h2 := of_decide_eq_true h.2
      unfold pageAt at h1 h2
      rcases blocks_disjoint x hx b hb hne with h' | h' <;> omega
  have hdiv : (pageAt b p + o - blkBase b) / 0x1000 = p := by simp only [pageAt]; omega
  simp only [pageOf, hfind, hdiv]

theorem pageAt_mod (b : PKind) (p o : Nat) (ho : o < 0x1000) : (pageAt b p + o) % 0x1000 = o := by
  cases b <;> simp [pageAt, blkBase] <;> omega

/-! ## While PORST_N is low -/

theorem writeRow_porst {s : State} (h : s.porst = true) (o : Nat) (w : RegW) (k : Hook) : s.writeRow o w k = s := by
  simp [State.writeRow, h]

theorem pageRow_porst {s : State} (h : s.porst = true) (b : PKind) (p o : Nat) (w : RegW) (k : Hook) :
    s.pageRow b p o w k = s := by simp [State.pageRow, writeRow_porst h]

theorem readRow_porst {s : State} (h : s.porst = true) (o : Nat) (r : RegR) : s.readRow o r = s := by
  simp [State.readRow, h]

theorem wrRow_porst {s : State} (h : s.porst = true) (b : PKind) (p o : Nat) (w : RegW) : wrRow s b p o w = .next s := by
  simp [wrRow, done, pageRow_porst h, settle_porst h]

theorem opRow_porst {s : State} (h : s.porst = true) (ok : Bool) (b : PKind) (p o : Nat) (w : RegW) :
    opRow ok s b p o w = .next s := by
  unfold opRow; split <;> simp [wrRow_porst h, done, settle_porst h]

theorem hdrRow_porst {s : State} (h : s.porst = true) (ok : Bool) (p o : Nat) (w : RegW) : hdrRow ok p o w s = .next s := by
  unfold hdrRow; split <;> simp [opRow_porst h, done, settle_porst h]

theorem shRun_porst {s : State} (h : s.porst = true) (c : Nat) (r : Nat → Nat → Bool) (l : Bool) (b : SIns → SM Unit) :
    s.shRun c r l b = s := by simp [State.shRun, State.coreReady, h]

/-! ## Writes that take effect -/

/-- A write of a register without read-only bits addresses what its size says. -/
theorem wrMask_all {b : PKind} {p o : Nat} {w : RegW} (h : (hookOf b p o).ro = 0) : wrMask b p o w = sizeMask w.size := by
  have h0 : ~~~(0 : Word) = BitVec.allOnes 64 := by decide
  rw [wrMask, h, h0, BitVec.and_allOnes]

/-- A write that takes effect: the ledger has recorded it, and the register's hook acts on that state. -/
theorem regApply_takes {s : State} {b : PKind} {p o : Nat} {w : RegW} {new : Word} (h : s.Takes b p o w new)
    (hr : ((hookOf b p o).run (s.wrOf b p o w new) s).1 = true) :
    s.regApply b p (pageAt b p + o) w (hookOf b p o) =
      ((hookOf b p o).run (s.wrOf b p o w new) (s.logged b p o w new)).2 := by
  have hf := h.fields
  have hk := h.kept
  have hb := h.bar
  unfold State.wrOf wrMask at hk hb hr
  unfold wrMask at hf
  unfold State.wrOf State.regApply State.logged wrMask
  have h0 : ~~~(0 : Word) = BitVec.allOnes 64 := by decide
  simp only [hf, hk, h0, BitVec.and_allOnes, hb, h.host, h.jtag, pageAt_mod b p o h.off, h.frst, hr, Bool.or_self,
    Bool.not_false, Bool.and_self, if_true, Bool.false_eq_true, if_false, Bool.false_and, bne_self_eq_false, Bool.true_or]

/-- A write command that takes effect is answered. -/
theorem pageRow_takes {s : State} {b : PKind} {p o : Nat} {w : RegW} {new : Word} (h : s.Takes b p o w new)
    (hr : ((hookOf b p o).run (s.wrOf b p o w new) s).1 = true) :
    s.pageRow b p o w (hookOf b p o) =
      (((hookOf b p o).run (s.wrOf b p o w new) (s.logged b p o w new)).2).answered w := by
  have ha : (pageAt b p + o) % 8 = 0 := by
    have := h.align
    cases b <;> simp only [pageAt, blkBase] <;> omega
  unfold State.pageRow State.writeRow State.regWrite
  simp only [h.page, h.porst, pageOf_pageAt h.page h.off, pageAt_mod b p o h.off, ha, h.awake, if_true, if_false,
    Bool.false_eq_true, ne_eq, not_true_eq_false, regApply_takes h hr]
  rfl

/-- A row that is a register write. -/
theorem wrRow_takes {s : State} {b : PKind} {p o : Nat} {w : RegW} {new : Word} (h : s.Takes b p o w new)
    (hr : ((hookOf b p o).run (s.wrOf b p o w new) s).1 = true) :
    wrRow s b p o w =
      .next ((((hookOf b p o).run (s.wrOf b p o w new) (s.logged b p o w new)).2).answered w).settle := by
  simp only [wrRow, done, pageRow_takes h hr]

/-- A row that is an operation of a register, where the write names the operation. -/
theorem opRow_takes {s : State} {b : PKind} {p o : Nat} {w : RegW} {new : Word} {ok : Bool} (hok : ok = true)
    (h : s.Takes b p o w new) (hr : ((hookOf b p o).run (s.wrOf b p o w new) s).1 = true) :
    opRow ok s b p o w =
      .next ((((hookOf b p o).run (s.wrOf b p o w new) (s.logged b p o w new)).2).answered w).settle := by
  simp only [opRow, hok, if_true, wrRow_takes h hr]

end Sys2Proof.Machine
end

