-- ==== Sys2Proof/Laws/Exec.lean ====
section
/-! SUPPORT. Each command executes as its own meaning. -/

namespace Sys2Proof.Machine

@[simp] theorem exec_powerOnReset (s : State) : exec .powerOnReset s = execPowerOnReset s := rfl
@[simp] theorem exec_porstNRelease (bootsel : BitVec 2) (s : State) : exec (.porstNRelease bootsel) s = execPorstNRelease bootsel s := rfl
@[simp] theorem exec_glbRst (w : RegW) (s : State) : exec (.glbRst w) s = execGlbRst w s := rfl
@[simp] theorem exec_functionReset (page : Nat) (w : RegW) (s : State) : exec (.functionReset page w) s = execFunctionReset page w s := rfl
@[simp] theorem exec_functionResetDone (page : Nat) (s : State) : exec (.functionResetDone page) s = execFunctionResetDone page s := rfl
@[simp] theorem exec_tileFunctionReset (tile : Nat) (w : RegW) (s : State) : exec (.tileFunctionReset tile w) s = execTileFunctionReset tile w s := rfl
@[simp] theorem exec_hubFunctionReset (hub : Nat) (w : RegW) (s : State) : exec (.hubFunctionReset hub w) s = execHubFunctionReset hub w s := rfl
@[simp] theorem exec_portFunctionReset (port : Nat) (w : RegW) (s : State) : exec (.portFunctionReset port w) s = execPortFunctionReset port w s := rfl
@[simp] theorem exec_retFunctionReset (n : Nat) (w : RegW) (s : State) : exec (.retFunctionReset n w) s = execRetFunctionReset n w s := rfl
@[simp] theorem exec_shepFunctionReset (core : Nat) (w : RegW) (s : State) : exec (.shepFunctionReset core w) s = execShepFunctionReset core w s := rfl
@[simp] theorem exec_dmaFunctionReset (ch : Nat) (w : RegW) (s : State) : exec (.dmaFunctionReset ch w) s = execDmaFunctionReset ch w s := rfl
@[simp] theorem exec_kenFunctionReset (w : RegW) (s : State) : exec (.kenFunctionReset w) s = execKenFunctionReset w s := rfl
@[simp] theorem exec_kenRingPageReset (page : Nat) (w : RegW) (s : State) : exec (.kenRingPageReset page w) s = execKenRingPageReset page w s := rfl
@[simp] theorem exec_barkFunctionReset (w : RegW) (s : State) : exec (.barkFunctionReset w) s = execBarkFunctionReset w s := rfl
@[simp] theorem exec_hbmcFunctionReset (u : Nat) (w : RegW) (s : State) : exec (.hbmcFunctionReset u w) s = execHbmcFunctionReset u w s := rfl
@[simp] theorem exec_ledgFunctionReset (w : RegW) (s : State) : exec (.ledgFunctionReset w) s = execLedgFunctionReset w s := rfl
@[simp] theorem exec_functionLevelReset (s : State) : exec .functionLevelReset s = execFunctionLevelReset s := rfl
@[simp] theorem exec_registerWrite (off : BitVec 24) (w : RegW) (s : State) : exec (.registerWrite off w) s = execRegisterWrite off w s := rfl
@[simp] theorem exec_readClear (off : BitVec 24) (r : RegR) (s : State) : exec (.readClear off r) s = execReadClear off r s := rfl
@[simp] theorem exec_tokenEnterTile (tile src : Nat) (s : State) : exec (.tokenEnterTile tile src) s = execTokenEnterTile tile src s := rfl
@[simp] theorem exec_spillDelayExpire (tile pe : Nat) (s : State) : exec (.spillDelayExpire tile pe) s = execSpillDelayExpire tile pe s := rfl
@[simp] theorem exec_queueChainRefill (tile pe : Nat) (s : State) : exec (.queueChainRefill tile pe) s = execQueueChainRefill tile pe s := rfl
@[simp] theorem exec_tokenMatch (tile pe : Nat) (slotEcc : Ecc) (r : MsRead) (s : State) : exec (.tokenMatch tile pe slotEcc r) s = execTokenMatch tile pe slotEcc r s := rfl
@[simp] theorem exec_flush (tile pe : Nat) (s : State) : exec (.flush tile pe) s = execFlush tile pe s := rfl
@[simp] theorem exec_flushAll (tile pe : Nat) (s : State) : exec (.flushAll tile pe) s = execFlushAll tile pe s := rfl
@[simp] theorem exec_gateOpen (tile pe : Nat) (s : State) : exec (.gateOpen tile pe) s = execGateOpen tile pe s := rfl
@[simp] theorem exec_gateClose (tile pe : Nat) (s : State) : exec (.gateClose tile pe) s = execGateClose tile pe s := rfl
@[simp] theorem exec_spillAccessComplete (tile : Nat) (key : Word) (s : State) : exec (.spillAccessComplete tile key) s = execSpillAccessComplete tile key s := rfl
@[simp] theorem exec_spillBucketGrant (tile : Nat) (s : State) : exec (.spillBucketGrant tile) s = execSpillBucketGrant tile s := rfl
@[simp] theorem exec_fabricStall (tile : Nat) (s : State) : exec (.fabricStall tile) s = execFabricStall tile s := rfl
@[simp] theorem exec_conflictWindowEnd (tile : Nat) (s : State) : exec (.conflictWindowEnd tile) s = execConflictWindowEnd tile s := rfl
@[simp] theorem exec_forceRot (tile : Nat) (w : RegW) (s : State) : exec (.forceRot tile w) s = execForceRot tile w s := rfl
@[simp] theorem exec_sweepMove (a : SweepRead) (s : State) : exec (.sweepMove a) s = execSweepMove a s := rfl
@[simp] theorem exec_sweepComplete (tile : Nat) (s : State) : exec (.sweepComplete tile) s = execSweepComplete tile s := rfl
@[simp] theorem exec_msScrub (tile : Nat) (overflow : Bool) (idx way : Nat) (ecc : Ecc) (e : ScrubErr) (s : State) :
    exec (.msScrub tile overflow idx way ecc e) s = execMsScrub tile overflow idx way ecc e s := rfl
@[simp] theorem exec_tileLoadGo (tile : Nat) (w : RegW) (s : State) : exec (.tileLoadGo tile w) s = execTileLoadGo tile w s := rfl
@[simp] theorem exec_tileLoadEntry (tile : Nat) (e : LineErr) (s : State) : exec (.tileLoadEntry tile e) s = execTileLoadEntry tile e s := rfl
@[simp] theorem exec_tileMsSpillWrite (tile : Nat) (w : RegW) (s : State) : exec (.tileMsSpillWrite tile w) s = execTileMsSpillWrite tile w s := rfl
@[simp] theorem exec_spillReady (tile : Nat) (s : State) : exec (.spillReady tile) s = execSpillReady tile s := rfl
@[simp] theorem exec_tileFence (tile : Nat) (w : RegW) (s : State) : exec (.tileFence tile w) s = execTileFence tile w s := rfl
@[simp] theorem exec_excPop (tile : Nat) (w : RegW) (s : State) : exec (.excPop tile w) s = execExcPop tile w s := rfl
@[simp] theorem exec_copy (tile pe : Nat) (s : State) : exec (.copy tile pe) s = execCopy tile pe s := rfl
@[simp] theorem exec_merge (tile pe : Nat) (s : State) : exec (.merge tile pe) s = execMerge tile pe s := rfl
@[simp] theorem exec_const (tile pe : Nat) (s : State) : exec (.const tile pe) s = execConst tile pe s := rfl
@[simp] theorem exec_retype (tile pe : Nat) (s : State) : exec (.retype tile pe) s = execRetype tile pe s := rfl
@[simp] theorem exec_ctrlgen (tile pe : Nat) (s : State) : exec (.ctrlgen tile pe) s = execCtrlgen tile pe s := rfl
@[simp] theorem exec_steer (tile pe : Nat) (s : State) : exec (.steer tile pe) s = execSteer tile pe s := rfl
@[simp] theorem exec_sink (tile pe : Nat) (s : State) : exec (.sink tile pe) s = execSink tile pe s := rfl
@[simp] theorem exec_addSub (tile pe : Nat) (s : State) : exec (.addSub tile pe) s = execAddSub tile pe s := rfl
@[simp] theorem exec_mul (tile pe : Nat) (s : State) : exec (.mul tile pe) s = execMul tile pe s := rfl
@[simp] theorem exec_mulhsMulhu (tile pe : Nat) (s : State) : exec (.mulhsMulhu tile pe) s = execMulhsMulhu tile pe s := rfl
@[simp] theorem exec_divsDivuRemsRemu (tile pe : Nat) (s : State) : exec (.divsDivuRemsRemu tile pe) s = execDivsDivuRemsRemu tile pe s := rfl
@[simp] theorem exec_negAbs (tile pe : Nat) (s : State) : exec (.negAbs tile pe) s = execNegAbs tile pe s := rfl
@[simp] theorem exec_minsMaxsMinuMaxu (tile pe : Nat) (s : State) : exec (.minsMaxsMinuMaxu tile pe) s = execMinsMaxsMinuMaxu tile pe s := rfl
@[simp] theorem exec_andOrXorAndn (tile pe : Nat) (s : State) : exec (.andOrXorAndn tile pe) s = execAndOrXorAndn tile pe s := rfl
@[simp] theorem exec_not (tile pe : Nat) (s : State) : exec (.not tile pe) s = execNot tile pe s := rfl
@[simp] theorem exec_shlShrSarRolRor (tile pe : Nat) (s : State) : exec (.shlShrSarRolRor tile pe) s = execShlShrSarRolRor tile pe s := rfl
@[simp] theorem exec_clzPopc (tile pe : Nat) (s : State) : exec (.clzPopc tile pe) s = execClzPopc tile pe s := rfl
@[simp] theorem exec_bfext (tile pe : Nat) (s : State) : exec (.bfext tile pe) s = execBfext tile pe s := rfl
@[simp] theorem exec_bfins (tile pe : Nat) (s : State) : exec (.bfins tile pe) s = execBfins tile pe s := rfl
@[simp] theorem exec_faddFsubFmul (tile pe : Nat) (s : State) : exec (.faddFsubFmul tile pe) s = execFaddFsubFmul tile pe s := rfl
@[simp] theorem exec_fdiv (tile pe : Nat) (s : State) : exec (.fdiv tile pe) s = execFdiv tile pe s := rfl
@[simp] theorem exec_fsqrt (tile pe : Nat) (s : State) : exec (.fsqrt tile pe) s = execFsqrt tile pe s := rfl
@[simp] theorem exec_fminFmax (tile pe : Nat) (s : State) : exec (.fminFmax tile pe) s = execFminFmax tile pe s := rfl
@[simp] theorem exec_fnegFabs (tile pe : Nat) (s : State) : exec (.fnegFabs tile pe) s = execFnegFabs tile pe s := rfl
@[simp] theorem exec_fcvtIf (tile pe : Nat) (s : State) : exec (.fcvtIf tile pe) s = execFcvtIf tile pe s := rfl
@[simp] theorem exec_fcvtFi (tile pe : Nat) (s : State) : exec (.fcvtFi tile pe) s = execFcvtFi tile pe s := rfl
@[simp] theorem exec_fcvtDs (tile pe : Nat) (s : State) : exec (.fcvtDs tile pe) s = execFcvtDs tile pe s := rfl
@[simp] theorem exec_fcvtSd (tile pe : Nat) (s : State) : exec (.fcvtSd tile pe) s = execFcvtSd tile pe s := rfl
@[simp] theorem exec_daddDsub (tile pe : Nat) (s : State) : exec (.daddDsub tile pe) s = execDaddDsub tile pe s := rfl
@[simp] theorem exec_cmpeqCmpneCmpltCmple (tile pe : Nat) (s : State) : exec (.cmpeqCmpneCmpltCmple tile pe) s = execCmpeqCmpneCmpltCmple tile pe s := rfl
@[simp] theorem exec_fcmpeqFcmpltFcmpleFcmpun (tile pe : Nat) (s : State) : exec (.fcmpeqFcmpltFcmpleFcmpun tile pe) s = execFcmpeqFcmpltFcmpleFcmpun tile pe s := rfl
@[simp] theorem exec_iterGet (tile pe : Nat) (s : State) : exec (.iterGet tile pe) s = execIterGet tile pe s := rfl
@[simp] theorem exec_tagGet (tile pe : Nat) (s : State) : exec (.tagGet tile pe) s = execTagGet tile pe s := rfl
@[simp] theorem exec_loopHead (tile pe : Nat) (s : State) : exec (.loopHead tile pe) s = execLoopHead tile pe s := rfl
@[simp] theorem exec_loopTail (tile pe : Nat) (s : State) : exec (.loopTail tile pe) s = execLoopTail tile pe s := rfl
@[simp] theorem exec_ctx (tile pe : Nat) (s : State) : exec (.ctx tile pe) s = execCtx tile pe s := rfl
@[simp] theorem exec_ctxQueueGrant (s : State) : exec .ctxQueueGrant s = execCtxQueueGrant s := rfl
@[simp] theorem exec_free (tile pe : Nat) (s : State) : exec (.free tile pe) s = execFree tile pe s := rfl
@[simp] theorem exec_teardownComplete (ctx : Nat) (s : State) : exec (.teardownComplete ctx) s = execTeardownComplete ctx s := rfl
@[simp] theorem exec_ctxGetParentGet (tile pe : Nat) (s : State) : exec (.ctxGetParentGet tile pe) s = execCtxGetParentGet tile pe s := rfl
@[simp] theorem exec_ifetch (tile pe : Nat) (s : State) : exec (.ifetch tile pe) s = execIfetch tile pe s := rfl
@[simp] theorem exec_istore (tile pe : Nat) (s : State) : exec (.istore tile pe) s = execIstore tile pe s := rfl
@[simp] theorem exec_load (tile pe : Nat) (s : State) : exec (.load tile pe) s = execLoad tile pe s := rfl
@[simp] theorem exec_store (tile pe : Nat) (s : State) : exec (.store tile pe) s = execStore tile pe s := rfl
@[simp] theorem exec_emit (tile pe : Nat) (s : State) : exec (.emit tile pe) s = execEmit tile pe s := rfl
@[simp] theorem exec_emitCreditReturn (tile stream : Nat) (s : State) : exec (.emitCreditReturn tile stream) s = execEmitCreditReturn tile stream s := rfl
@[simp] theorem exec_time (tile pe : Nat) (s : State) : exec (.time tile pe) s = execTime tile pe s := rfl
@[simp] theorem exec_twait (tile pe : Nat) (s : State) : exec (.twait tile pe) s = execTwait tile pe s := rfl
@[simp] theorem exec_twaitRelease (tile : Nat) (s : State) : exec (.twaitRelease tile) s = execTwaitRelease tile s := rfl
@[simp] theorem exec_send (tile pe : Nat) (s : State) : exec (.send tile pe) s = execSend tile pe s := rfl
@[simp] theorem exec_event (tile pe : Nat) (s : State) : exec (.event tile pe) s = execEvent tile pe s := rfl
@[simp] theorem exec_reduceAccumulate (tile pe : Nat) (s : State) : exec (.reduceAccumulate tile pe) s = execReduceAccumulate tile pe s := rfl
@[simp] theorem exec_iFetchRequest (unit : Nat) (es ed : LineErr) (s : State) : exec (.iFetchRequest unit es ed) s = execIFetchRequest unit es ed s := rfl
@[simp] theorem exec_iStoreRequest (unit : Nat) (es ed : LineErr) (s : State) : exec (.iStoreRequest unit es ed) s = execIStoreRequest unit es ed s := rfl
@[simp] theorem exec_deadlockDetect (ctx : Nat) (s : State) : exec (.deadlockDetect ctx) s = execDeadlockDetect ctx s := rfl
@[simp] theorem exec_glbQmAbort (w : RegW) (s : State) : exec (.glbQmAbort w) s = execGlbQmAbort w s := rfl
@[simp] theorem exec_qmRecordPost (s : State) : exec .qmRecordPost s = execQmRecordPost s := rfl
@[simp] theorem exec_streamRun (hub : Nat) (w : RegW) (s : State) : exec (.streamRun hub w) s = execStreamRun hub w s := rfl
@[simp] theorem exec_streamStop (hub : Nat) (w : RegW) (s : State) : exec (.streamStop hub w) s = execStreamStop hub w s := rfl
@[simp] theorem exec_emitWordArrive (hub tile : Nat) (s : State) : exec (.emitWordArrive hub tile) s = execEmitWordArrive hub tile s := rfl
@[simp] theorem exec_ingressPlace (hub : Nat) (s : State) : exec (.ingressPlace hub) s = execIngressPlace hub s := rfl
@[simp] theorem exec_storedLineReturn (hub : Nat) (e : LineErr) (s : State) : exec (.storedLineReturn hub e) s = execStoredLineReturn hub e s := rfl
@[simp] theorem exec_scrambleWrite (port : Nat) (w : RegW) (s : State) : exec (.scrambleWrite port w) s = execScrambleWrite port w s := rfl
@[simp] theorem exec_downstreamBlockTime (port : Nat) (s : State) : exec (.downstreamBlockTime port) s = execDownstreamBlockTime port s := rfl
@[simp] theorem exec_creditDeadline (port : Nat) (s : State) : exec (.creditDeadline port) s = execCreditDeadline port s := rfl
@[simp] theorem exec_credit (port : Nat) (c0 : Word) (c1 : BitVec 184) (s : State) : exec (.credit port c0 c1) s = execCredit port c0 c1 s := rfl
@[simp] theorem exec_sync (port : Nat) (c : BitVec 248) (s : State) : exec (.sync port c) s = execSync port c s := rfl
@[simp] theorem exec_failRecord (port : Nat) (rec : BitVec 192) (s : State) : exec (.failRecord port rec) s = execFailRecord port rec s := rfl
@[simp] theorem exec_summaryRecord (port : Nat) (rec : BitVec 192) (s : State) : exec (.summaryRecord port rec) s = execSummaryRecord port rec s := rfl
@[simp] theorem exec_endCaptureRecord (port : Nat) (rec : BitVec 192) (s : State) : exec (.endCaptureRecord port rec) s = execEndCaptureRecord port rec s := rfl
@[simp] theorem exec_failIn (port : Nat) (s : State) : exec (.failIn port) s = execFailIn port s := rfl
@[simp] theorem exec_portFailCtlWrite (port : Nat) (w : RegW) (s : State) : exec (.portFailCtlWrite port w) s = execPortFailCtlWrite port w s := rfl
@[simp] theorem exec_sbRsp (port : Nat) (c0 c1 : Word) (c2 : BitVec 120) (s : State) : exec (.sbRsp port c0 c1 c2) s = execSbRsp port c0 c1 c2 s := rfl
@[simp] theorem exec_sidebandTimeout (port tag : Nat) (s : State) : exec (.sidebandTimeout port tag) s = execSidebandTimeout port tag s := rfl
@[simp] theorem exec_sbTagRelease (port tag : Nat) (s : State) : exec (.sbTagRelease port tag) s = execSbTagRelease port tag s := rfl
@[simp] theorem exec_resume (port : Nat) (c0 c1 : Word) (c2 : BitVec 120) (s : State) : exec (.resume port c0 c1 c2) s = execResume port c0 c1 c2 s := rfl
@[simp] theorem exec_linkid (port : Nat) (c0 c1 c2 : Word) (c3 : BitVec 56) (s : State) :
    exec (.linkid port c0 c1 c2 c3) s = execLinkid port c0 c1 c2 c3 s := rfl
@[simp] theorem exec_lanemapAck (hub : Nat) (c : BitVec 248) (s : State) : exec (.lanemapAck hub c) s = execLanemapAck hub c s := rfl
@[simp] theorem exec_upstreamInvalidBlock (link : Nat) (isData : Bool) (code : Byte) (s : State) : exec (.upstreamInvalidBlock link isData code) s = execUpstreamInvalidBlock link isData code s := rfl
@[simp] theorem exec_upstreamUncorrectable (c : RxCodeword) (s : State) : exec (.upstreamUncorrectable c) s = execUpstreamUncorrectable c s := rfl
@[simp] theorem exec_heartbeatLoss (link : Nat) (s : State) : exec (.heartbeatLoss link) s = execHeartbeatLoss link s := rfl
@[simp] theorem exec_linkEnable (port : Nat) (w : RegW) (s : State) : exec (.linkEnable port w) s = execLinkEnable port w s := rfl
@[simp] theorem exec_retrain (port : Nat) (w : RegW) (s : State) : exec (.retrain port w) s = execRetrain port w s := rfl
@[simp] theorem exec_trainingFrame (link lane : Nat) (f : TrainFrame) (s : State) : exec (.trainingFrame link lane f) s = execTrainingFrame link lane f s := rfl
@[simp] theorem exec_trainingTimeout (link : Nat) (s : State) : exec (.trainingTimeout link) s = execTrainingTimeout link s := rfl
@[simp] theorem exec_spareLockTimeout (port lane : Nat) (s : State) : exec (.spareLockTimeout port lane) s = execSpareLockTimeout port lane s := rfl
@[simp] theorem exec_spareGo (hub : Nat) (w : RegW) (s : State) : exec (.spareGo hub w) s = execSpareGo hub w s := rfl
@[simp] theorem exec_lanemapAckTimeout (hub : Nat) (s : State) : exec (.lanemapAckTimeout hub) s = execLanemapAckTimeout hub s := rfl
@[simp] theorem exec_laneSwap (hub : Nat) (s : State) : exec (.laneSwap hub) s = execLaneSwap hub s := rfl
@[simp] theorem exec_switchSend (port : Nat) (w : RegW) (s : State) : exec (.switchSend port w) s = execSwitchSend port w s := rfl
@[simp] theorem exec_retRun (n : Nat) (w : RegW) (s : State) : exec (.retRun n w) s = execRetRun n w s := rfl
@[simp] theorem exec_retStartDoorbell (n : Nat) (w : RegW) (s : State) : exec (.retStartDoorbell n w) s = execRetStartDoorbell n w s := rfl
@[simp] theorem exec_startEntryTake (n : Nat) (s : State) : exec (.startEntryTake n) s = execStartEntryTake n s := rfl
@[simp] theorem exec_ccwFetch (n : Nat) (s : State) : exec (.ccwFetch n) s = execCcwFetch n s := rfl
@[simp] theorem exec_ccwWrite (n : Nat) (s : State) : exec (.ccwWrite n) s = execCcwWrite n s := rfl
@[simp] theorem exec_ccwRead (n : Nat) (s : State) : exec (.ccwRead n) s = execCcwRead n s := rfl
@[simp] theorem exec_ccwControl (n : Nat) (s : State) : exec (.ccwControl n) s = execCcwControl n s := rfl
@[simp] theorem exec_ccwSense (n : Nat) (s : State) : exec (.ccwSense n) s = execCcwSense n s := rfl
@[simp] theorem exec_ccwJump (n : Nat) (s : State) : exec (.ccwJump n) s = execCcwJump n s := rfl
@[simp] theorem exec_ccwWaitEvent (n : Nat) (s : State) : exec (.ccwWaitEvent n) s = execCcwWaitEvent n s := rfl
@[simp] theorem exec_ccwWaitTime (n : Nat) (s : State) : exec (.ccwWaitTime n) s = execCcwWaitTime n s := rfl
@[simp] theorem exec_ccwSkipIf (n : Nat) (s : State) : exec (.ccwSkipIf n) s = execCcwSkipIf n s := rfl
@[simp] theorem exec_ccwPost (n : Nat) (s : State) : exec (.ccwPost n) s = execCcwPost n s := rfl
@[simp] theorem exec_ccwNop (n : Nat) (s : State) : exec (.ccwNop n) s = execCcwNop n s := rfl
@[simp] theorem exec_gpioOutSet (n : Nat) (s : State) : exec (.gpioOutSet n) s = execGpioOutSet n s := rfl
@[simp] theorem exec_gpioOutClr (n : Nat) (s : State) : exec (.gpioOutClr n) s = execGpioOutClr n s := rfl
@[simp] theorem exec_gpioOutToggle (n : Nat) (s : State) : exec (.gpioOutToggle n) s = execGpioOutToggle n s := rfl
@[simp] theorem exec_gpioDirOut (n : Nat) (s : State) : exec (.gpioDirOut n) s = execGpioDirOut n s := rfl
@[simp] theorem exec_gpioDirIn (n : Nat) (s : State) : exec (.gpioDirIn n) s = execGpioDirIn n s := rfl
@[simp] theorem exec_gpioArm (n : Nat) (s : State) : exec (.gpioArm n) s = execGpioArm n s := rfl
@[simp] theorem exec_gpioDisarm (n : Nat) (s : State) : exec (.gpioDisarm n) s = execGpioDisarm n s := rfl
@[simp] theorem exec_gpioCapture (n : Nat) (s : State) : exec (.gpioCapture n) s = execGpioCapture n s := rfl
@[simp] theorem exec_busTransferComplete (n : Nat) (r : BusResult) (s : State) : exec (.busTransferComplete n r) s = execBusTransferComplete n r s := rfl
@[simp] theorem exec_waitEventTimeout (n : Nat) (s : State) : exec (.waitEventTimeout n) s = execWaitEventTimeout n s := rfl
@[simp] theorem exec_waitTimeExpire (n : Nat) (s : State) : exec (.waitTimeExpire n) s = execWaitTimeExpire n s := rfl
@[simp] theorem exec_gpioEdge (pin : Nat) (rising : Bool) (s : State) : exec (.gpioEdge pin rising) s = execGpioEdge pin rising s := rfl
@[simp] theorem exec_i3cIbi (bus : Nat) (addr : BitVec 7) (mdb : Byte) (s : State) : exec (.i3cIbi bus addr mdb) s = execI3cIbi bus addr mdb s := rfl
@[simp] theorem exec_retResume (n : Nat) (w : RegW) (s : State) : exec (.retResume n w) s = execRetResume n w s := rfl
@[simp] theorem exec_remoteTimeout (n : Nat) (s : State) : exec (.remoteTimeout n) s = execRemoteTimeout n s := rfl
@[simp] theorem exec_emergArm (w : RegW) (s : State) : exec (.emergArm w) s = execEmergArm w s := rfl
@[simp] theorem exec_stashDrain (r : RingId) (s : State) : exec (.stashDrain r) s = execStashDrain r s := rfl
@[simp] theorem exec_ringConsumerWrite (r : RingId) (w : RegW) (s : State) : exec (.ringConsumerWrite r w) s = execRingConsumerWrite r w s := rfl
@[simp] theorem exec_ringConfigWrite (r : RingId) (w : RegW) (s : State) : exec (.ringConfigWrite r w) s = execRingConfigWrite r w s := rfl
@[simp] theorem exec_shMov (core : Nat) (s : State) : exec (.shMov core) s = execShMov core s := rfl
@[simp] theorem exec_shMovzMovs (core : Nat) (s : State) : exec (.shMovzMovs core) s = execShMovzMovs core s := rfl
@[simp] theorem exec_shLea (core : Nat) (s : State) : exec (.shLea core) s = execShLea core s := rfl
@[simp] theorem exec_shAddSub (core : Nat) (s : State) : exec (.shAddSub core) s = execShAddSub core s := rfl
@[simp] theorem exec_shAdcSbc (core : Nat) (s : State) : exec (.shAdcSbc core) s = execShAdcSbc core s := rfl
@[simp] theorem exec_shMul (core : Nat) (s : State) : exec (.shMul core) s = execShMul core s := rfl
@[simp] theorem exec_shMulhsMulhu (core : Nat) (s : State) : exec (.shMulhsMulhu core) s = execShMulhsMulhu core s := rfl
@[simp] theorem exec_shDivsDivuRemsRemu (core : Nat) (s : State) : exec (.shDivsDivuRemsRemu core) s = execShDivsDivuRemsRemu core s := rfl
@[simp] theorem exec_shNeg (core : Nat) (s : State) : exec (.shNeg core) s = execShNeg core s := rfl
@[simp] theorem exec_shAndOrXorAndn (core : Nat) (s : State) : exec (.shAndOrXorAndn core) s = execShAndOrXorAndn core s := rfl
@[simp] theorem exec_shNot (core : Nat) (s : State) : exec (.shNot core) s = execShNot core s := rfl
@[simp] theorem exec_shShlShrSarRolRor (core : Nat) (s : State) : exec (.shShlShrSarRolRor core) s = execShShlShrSarRolRor core s := rfl
@[simp] theorem exec_shCmp (core : Nat) (s : State) : exec (.shCmp core) s = execShCmp core s := rfl
@[simp] theorem exec_shTst (core : Nat) (s : State) : exec (.shTst core) s = execShTst core s := rfl
@[simp] theorem exec_shClzPopc (core : Nat) (s : State) : exec (.shClzPopc core) s = execShClzPopc core s := rfl
@[simp] theorem exec_shBfext (core : Nat) (s : State) : exec (.shBfext core) s = execShBfext core s := rfl
@[simp] theorem exec_shBfins (core : Nat) (s : State) : exec (.shBfins core) s = execShBfins core s := rfl
@[simp] theorem exec_shBperm (core : Nat) (s : State) : exec (.shBperm core) s = execShBperm core s := rfl
@[simp] theorem exec_shBcc (core : Nat) (s : State) : exec (.shBcc core) s = execShBcc core s := rfl
@[simp] theorem exec_shCall (core : Nat) (s : State) : exec (.shCall core) s = execShCall core s := rfl
@[simp] theorem exec_shSignal (core : Nat) (s : State) : exec (.shSignal core) s = execShSignal core s := rfl
@[simp] theorem exec_shWaitt (core : Nat) (s : State) : exec (.shWaitt core) s = execShWaitt core s := rfl
@[simp] theorem exec_waittExpire (core : Nat) (s : State) : exec (.waittExpire core) s = execWaittExpire core s := rfl
@[simp] theorem exec_shTrap (core : Nat) (s : State) : exec (.shTrap core) s = execShTrap core s := rfl
@[simp] theorem exec_shMovsr (core : Nat) (s : State) : exec (.shMovsr core) s = execShMovsr core s := rfl
@[simp] theorem exec_shMovrs (core : Nat) (s : State) : exec (.shMovrs core) s = execShMovrs core s := rfl
@[simp] theorem exec_shCas (core : Nat) (s : State) : exec (.shCas core) s = execShCas core s := rfl
@[simp] theorem exec_shFaddFsubFmulFdiv (core : Nat) (s : State) : exec (.shFaddFsubFmulFdiv core) s = execShFaddFsubFmulFdiv core s := rfl
@[simp] theorem exec_shFsqrt (core : Nat) (s : State) : exec (.shFsqrt core) s = execShFsqrt core s := rfl
@[simp] theorem exec_shFminFmax (core : Nat) (s : State) : exec (.shFminFmax core) s = execShFminFmax core s := rfl
@[simp] theorem exec_shFcmp (core : Nat) (s : State) : exec (.shFcmp core) s = execShFcmp core s := rfl
@[simp] theorem exec_shFcvtif (core : Nat) (s : State) : exec (.shFcvtif core) s = execShFcvtif core s := rfl
@[simp] theorem exec_shFcvtfi (core : Nat) (s : State) : exec (.shFcvtfi core) s = execShFcvtfi core s := rfl
@[simp] theorem exec_shFcvtff (core : Nat) (s : State) : exec (.shFcvtff core) s = execShFcvtff core s := rfl
@[simp] theorem exec_shDaddDsub (core : Nat) (s : State) : exec (.shDaddDsub core) s = execShDaddDsub core s := rfl
@[simp] theorem exec_sysNop (core : Nat) (s : State) : exec (.sysNop core) s = execSysNop core s := rfl
@[simp] theorem exec_sysRet (core : Nat) (s : State) : exec (.sysRet core) s = execSysRet core s := rfl
@[simp] theorem exec_sysRte (core : Nat) (s : State) : exec (.sysRte core) s = execSysRte core s := rfl
@[simp] theorem exec_sysWaitsig (core : Nat) (s : State) : exec (.sysWaitsig core) s = execSysWaitsig core s := rfl
@[simp] theorem exec_sysFence (core : Nat) (s : State) : exec (.sysFence core) s = execSysFence core s := rfl
@[simp] theorem exec_sysIcinv (core : Nat) (s : State) : exec (.sysIcinv core) s = execSysIcinv core s := rfl
@[simp] theorem exec_sysBrk (core : Nat) (s : State) : exec (.sysBrk core) s = execSysBrk core s := rfl
@[simp] theorem exec_sysStop (core : Nat) (s : State) : exec (.sysStop core) s = execSysStop core s := rfl
@[simp] theorem exec_watchdogExpiry (core : Nat) (s : State) : exec (.watchdogExpiry core) s = execWatchdogExpiry core s := rfl
@[simp] theorem exec_wdogConfigWrite (core : Nat) (w : RegW) (s : State) : exec (.wdogConfigWrite core w) s = execWdogConfigWrite core w s := rfl
@[simp] theorem exec_coreStart (core : Nat) (w : RegW) (s : State) : exec (.coreStart core w) s = execCoreStart core w s := rfl
@[simp] theorem exec_setvl (core : Nat) (s : State) : exec (.setvl core) s = execSetvl core s := rfl
@[simp] theorem exec_vld (core : Nat) (s : State) : exec (.vld core) s = execVld core s := rfl
@[simp] theorem exec_vst (core : Nat) (s : State) : exec (.vst core) s = execVst core s := rfl
@[simp] theorem exec_vgather (core : Nat) (s : State) : exec (.vgather core) s = execVgather core s := rfl
@[simp] theorem exec_vscatter (core : Nat) (s : State) : exec (.vscatter core) s = execVscatter core s := rfl
@[simp] theorem exec_vbcast (core : Nat) (s : State) : exec (.vbcast core) s = execVbcast core s := rfl
@[simp] theorem exec_vget (core : Nat) (s : State) : exec (.vget core) s = execVget core s := rfl
@[simp] theorem exec_vset (core : Nat) (s : State) : exec (.vset core) s = execVset core s := rfl
@[simp] theorem exec_hfiget (core : Nat) (s : State) : exec (.hfiget core) s = execHfiget core s := rfl
@[simp] theorem exec_hfiset (core : Nat) (s : State) : exec (.hfiset core) s = execHfiset core s := rfl
@[simp] theorem exec_vaddVsubVmul (core : Nat) (s : State) : exec (.vaddVsubVmul core) s = execVaddVsubVmul core s := rfl
@[simp] theorem exec_vaddssVsubss (core : Nat) (s : State) : exec (.vaddssVsubss core) s = execVaddssVsubss core s := rfl
@[simp] theorem exec_vaddsuVsubsu (core : Nat) (s : State) : exec (.vaddsuVsubsu core) s = execVaddsuVsubsu core s := rfl
@[simp] theorem exec_vmulhrs (core : Nat) (s : State) : exec (.vmulhrs core) s = execVmulhrs core s := rfl
@[simp] theorem exec_vrshr (core : Nat) (s : State) : exec (.vrshr core) s = execVrshr core s := rfl
@[simp] theorem exec_vshl (core : Nat) (s : State) : exec (.vshl core) s = execVshl core s := rfl
@[simp] theorem exec_vminsVmaxsVminuVmaxu (core : Nat) (s : State) : exec (.vminsVmaxsVminuVmaxu core) s = execVminsVmaxsVminuVmaxu core s := rfl
@[simp] theorem exec_vandVorVxor (core : Nat) (s : State) : exec (.vandVorVxor core) s = execVandVorVxor core s := rfl
@[simp] theorem exec_vcmpeqVcmpltVcmpltu (core : Nat) (s : State) : exec (.vcmpeqVcmpltVcmpltu core) s = execVcmpeqVcmpltVcmpltu core s := rfl
@[simp] theorem exec_vfaddVfsubVfmul (core : Nat) (s : State) : exec (.vfaddVfsubVfmul core) s = execVfaddVfsubVfmul core s := rfl
@[simp] theorem exec_vfminVfmax (core : Nat) (s : State) : exec (.vfminVfmax core) s = execVfminVfmax core s := rfl
@[simp] theorem exec_hatchWake (core : Nat) (s : State) : exec (.hatchWake core) s = execHatchWake core s := rfl
@[simp] theorem exec_hatchPowerDown (core : Nat) (s : State) : exec (.hatchPowerDown core) s = execHatchPowerDown core s := rfl
@[simp] theorem exec_kenRingDoorbell (ring : Nat) (w : RegW) (s : State) : exec (.kenRingDoorbell ring w) s = execKenRingDoorbell ring w s := rfl
@[simp] theorem exec_kenRingConfig (ring : Nat) (w : RegW) (s : State) : exec (.kenRingConfig ring w) s = execKenRingConfig ring w s := rfl
@[simp] theorem exec_itemFetch (ring : Nat) (s : State) : exec (.itemFetch ring) s = execItemFetch ring s := rfl
@[simp] theorem exec_delayExpire (s : State) : exec .delayExpire s = execDelayExpire s := rfl
@[simp] theorem exec_dispatch (core : Nat) (s : State) : exec (.dispatch core) s = execDispatch core s := rfl
@[simp] theorem exec_cdoneDone (w : RegW) (s : State) : exec (.cdoneDone w) s = execCdoneDone w s := rfl
@[simp] theorem exec_cdoneYield (w : RegW) (s : State) : exec (.cdoneYield w) s = execCdoneYield w s := rfl
@[simp] theorem exec_thrCreate (w : RegW) (s : State) : exec (.thrCreate w) s = execThrCreate w s := rfl
@[simp] theorem exec_thrExit (w : RegW) (s : State) : exec (.thrExit w) s = execThrExit w s := rfl
@[simp] theorem exec_thrSwitch (w : RegW) (s : State) : exec (.thrSwitch w) s = execThrSwitch w s := rfl
@[simp] theorem exec_thrBlockEvent (w : RegW) (s : State) : exec (.thrBlockEvent w) s = execThrBlockEvent w s := rfl
@[simp] theorem exec_thrBlockTime (w : RegW) (s : State) : exec (.thrBlockTime w) s = execThrBlockTime w s := rfl
@[simp] theorem exec_thrWake (w : RegW) (s : State) : exec (.thrWake w) s = execThrWake w s := rfl
@[simp] theorem exec_threadWakeTime (t : Nat) (s : State) : exec (.threadWakeTime t) s = execThreadWakeTime t s := rfl
@[simp] theorem exec_threadSliceExpire (core : Nat) (s : State) : exec (.threadSliceExpire core) s = execThreadSliceExpire core s := rfl
@[simp] theorem exec_eventLinePulse (line : Nat) (s : State) : exec (.eventLinePulse line) s = execEventLinePulse line s := rfl
@[simp] theorem exec_interruptEntry (core : Nat) (s : State) : exec (.interruptEntry core) s = execInterruptEntry core s := rfl
@[simp] theorem exec_barkSwset (w : RegW) (s : State) : exec (.barkSwset w) s = execBarkSwset w s := rfl
@[simp] theorem exec_barkDiscard (src : Nat) (w : RegW) (s : State) : exec (.barkDiscard src w) s = execBarkDiscard src w s := rfl
@[simp] theorem exec_semTake (r : SemReq) (s : State) : exec (.semTake r) s = execSemTake r s := rfl
@[simp] theorem exec_semTry (r : SemReq) (s : State) : exec (.semTry r) s = execSemTry r s := rfl
@[simp] theorem exec_semGive (r : SemReq) (s : State) : exec (.semGive r) s = execSemGive r s := rfl
@[simp] theorem exec_semPeek (r : SemReq) (s : State) : exec (.semPeek r) s = execSemPeek r s := rfl
@[simp] theorem exec_semPlainStore (r : MemReq) (s : State) : exec (.semPlainStore r) s = execSemPlainStore r s := rfl
@[simp] theorem exec_leashExpiry (unit : Nat) (s : State) : exec (.leashExpiry unit) s = execLeashExpiry unit s := rfl
@[simp] theorem exec_resetNotice (origin : Origin) (s : State) : exec (.resetNotice origin) s = execResetNotice origin s := rfl
@[simp] theorem exec_dmaDoorbell (ch : Nat) (w : RegW) (s : State) : exec (.dmaDoorbell ch w) s = execDmaDoorbell ch w s := rfl
@[simp] theorem exec_dmaDescriptorBegin (ch : Nat) (s : State) : exec (.dmaDescriptorBegin ch) s = execDmaDescriptorBegin ch s := rfl
@[simp] theorem exec_dmaCopy (ch : Nat) (s : State) : exec (.dmaCopy ch) s = execDmaCopy ch s := rfl
@[simp] theorem exec_dmaFill (ch : Nat) (s : State) : exec (.dmaFill ch) s = execDmaFill ch s := rfl
@[simp] theorem exec_dmaProof (ch : Nat) (s : State) : exec (.dmaProof ch) s = execDmaProof ch s := rfl
@[simp] theorem exec_dmaComplete (ch : Nat) (s : State) : exec (.dmaComplete ch) s = execDmaComplete ch s := rfl
@[simp] theorem exec_dmaDisable (ch : Nat) (w : RegW) (s : State) : exec (.dmaDisable ch w) s = execDmaDisable ch w s := rfl
@[simp] theorem exec_memRead8 (r : MemReq) (e : LineErr) (s : State) : exec (.memRead8 r e) s = execMemRead8 r e s := rfl
@[simp] theorem exec_memRead64 (r : MemReq) (e : LineErr) (s : State) : exec (.memRead64 r e) s = execMemRead64 r e s := rfl
@[simp] theorem exec_memWrite8 (r : MemReq) (e : LineErr) (s : State) : exec (.memWrite8 r e) s = execMemWrite8 r e s := rfl
@[simp] theorem exec_memWrite64 (r : MemReq) (line : List Byte) (s : State) : exec (.memWrite64 r line) s = execMemWrite64 r line s := rfl
@[simp] theorem exec_memCas (r : MemReq) (new : Word) (isD : Bool) (s : State) : exec (.memCas r new isD) s = execMemCas r new isD s := rfl
@[simp] theorem exec_postedWrite (r : MemReq) (line : Option (List Byte)) (s : State) : exec (.postedWrite r line) s = execPostedWrite r line s := rfl
@[simp] theorem exec_meshResponse (node txid : Nat) (st : Status) (data : List Byte) (s : State) : exec (.meshResponse node txid st data) s = execMeshResponse node txid st data s := rfl
@[simp] theorem exec_routerForward (node port vn : Nat) (s : State) : exec (.routerForward node port vn) s = execRouterForward node port vn s := rfl
@[simp] theorem exec_niRequestTimeout (node txid : Nat) (s : State) : exec (.niRequestTimeout node txid) s = execNiRequestTimeout node txid s := rfl
@[simp] theorem exec_niIsolate (node : Nat) (w : RegW) (s : State) : exec (.niIsolate node w) s = execNiIsolate node w s := rfl
@[simp] theorem exec_routeTableWrite (node : Nat) (w : RegW) (s : State) : exec (.routeTableWrite node w) s = execRouteTableWrite node w s := rfl
@[simp] theorem exec_routerPortEnableWrite (node : Nat) (w : RegW) (s : State) : exec (.routerPortEnableWrite node w) s = execRouterPortEnableWrite node w s := rfl
@[simp] theorem exec_routeFenceGo (w : RegW) (s : State) : exec (.routeFenceGo w) s = execRouteFenceGo w s := rfl
@[simp] theorem exec_routeFenceDone (s : State) : exec .routeFenceDone s = execRouteFenceDone s := rfl
@[simp] theorem exec_hbmScrub (u line : Nat) (e : LineErr) (s : State) : exec (.hbmScrub u line e) s = execHbmScrub u line e s := rfl
@[simp] theorem exec_sramScrub (addr : Nat) (e : Ecc) (s : State) : exec (.sramScrub addr e) s = execSramScrub addr e s := rfl
@[simp] theorem exec_retireAdd (u : Nat) (w : RegW) (s : State) : exec (.retireAdd u w) s = execRetireAdd u w s := rfl
@[simp] theorem exec_retireCopyLine (u : Nat) (e : LineErr) (s : State) : exec (.retireCopyLine u e) s = execRetireCopyLine u e s := rfl
@[simp] theorem exec_trackerAgeExpire (u page : Nat) (s : State) : exec (.trackerAgeExpire u page) s = execTrackerAgeExpire u page s := rfl
@[simp] theorem exec_hbmOvertemp (u : Nat) (s : State) : exec (.hbmOvertemp u) s = execHbmOvertemp u s := rfl
@[simp] theorem exec_domainTargetWrite (d : Nat) (w : RegW) (s : State) : exec (.domainTargetWrite d w) s = execDomainTargetWrite d w s := rfl
@[simp] theorem exec_domainDrainDone (d : Nat) (s : State) : exec (.domainDrainDone d) s = execDomainDrainDone d s := rfl
@[simp] theorem exec_domainPowerOffDone (d : Nat) (s : State) : exec (.domainPowerOffDone d) s = execDomainPowerOffDone d s := rfl
@[simp] theorem exec_domainWakeDone (d : Nat) (s : State) : exec (.domainWakeDone d) s = execDomainWakeDone d s := rfl
@[simp] theorem exec_governorInterval (i : GovIn) (s : State) : exec (.governorInterval i) s = execGovernorInterval i s := rfl
@[simp] theorem exec_packSyncEdge (s : State) : exec .packSyncEdge s = execPackSyncEdge s := rfl
@[simp] theorem exec_refLoss (s : State) : exec .refLoss s = execRefLoss s := rfl
@[simp] theorem exec_timeLock (s : State) : exec .timeLock s = execTimeLock s := rfl
@[simp] theorem exec_gaugeSample (g : Nat) (v : Word) (s : State) : exec (.gaugeSample g v) s = execGaugeSample g v s := rfl
@[simp] theorem exec_gaugeCfgWrite (g : Nat) (w : RegW) (s : State) : exec (.gaugeCfgWrite g w) s = execGaugeCfgWrite g w s := rfl
@[simp] theorem exec_gaugeSnap (r : RegR) (s : State) : exec (.gaugeSnap r) s = execGaugeSnap r s := rfl
@[simp] theorem exec_railExcursion (s : State) : exec .railExcursion s = execRailExcursion s := rfl
@[simp] theorem exec_brownOut (s : State) : exec .brownOut s = execBrownOut s := rfl
@[simp] theorem exec_bsync (link : Nat) (f : BSyncF) (s : State) : exec (.bsync link f) s = execBsync link f s := rfl
@[simp] theorem exec_nak (link : Nat) (expect : BitVec 16) (s : State) : exec (.nak link expect) s = execNak link expect s := rfl
@[simp] theorem exec_token (link : Nat) (lseq : BitVec 16) (t : Token) (hops : Nat) (s : State) : exec (.token link lseq t hops) s = execToken link lseq t hops s := rfl
@[simp] theorem exec_arrive (link : Nat) (lseq : BitVec 16) (bar : Nat) (epoch : BitVec 16) (s : State) : exec (.arrive link lseq bar epoch) s = execArrive link lseq bar epoch s := rfl
@[simp] theorem exec_release (link : Nat) (lseq : BitVec 16) (bar : Nat) (epoch : BitVec 16) (t : Word) (s : State) : exec (.release link lseq bar epoch t) s = execRelease link lseq bar epoch t s := rfl
@[simp] theorem exec_cfg (link : Nat) (lseq : BitVec 16) (off : BitVec 24) (id : BitVec 16) (data : Word) (s : State) : exec (.cfg link lseq off id data) s = execCfg link lseq off id data s := rfl
@[simp] theorem exec_cfgAck (link : Nat) (lseq : BitVec 16) (id : BitVec 16) (error : Bool) (s : State) : exec (.cfgAck link lseq id error) s = execCfgAck link lseq id error s := rfl
@[simp] theorem exec_msg (link : Nat) (lseq : BitVec 16) (src dst hops : Nat) (item : List Word) (s : State) : exec (.msg link lseq src dst hops item) s = execMsg link lseq src dst hops item s := rfl
@[simp] theorem exec_msgAck (link : Nat) (lseq : BitVec 16) (src dst hops : Nat) (refused : Bool) (s : State) : exec (.msgAck link lseq src dst hops refused) s = execMsgAck link lseq src dst hops refused s := rfl
@[simp] theorem exec_rstart (link : Nat) (lseq : BitVec 16) (src dst hops subch : Nat) (entry : List Word) (s : State) : exec (.rstart link lseq src dst hops subch entry) s = execRstart link lseq src dst hops subch entry s := rfl
@[simp] theorem exec_rstartAck (link : Nat) (lseq : BitVec 16) (src dst hops subch : Nat) (refused : Bool) (s : State) : exec (.rstartAck link lseq src dst hops subch refused) s = execRstartAck link lseq src dst hops subch refused s := rfl
@[simp] theorem exec_leadhb (link : Nat) (lseq : BitVec 16) (leadId : BitVec 10) (epoch : BitVec 16) (s : State) : exec (.leadhb link lseq leadId epoch) s = execLeadhb link lseq leadId epoch s := rfl
@[simp] theorem exec_leadhbInterval (s : State) : exec .leadhbInterval s = execLeadhbInterval s := rfl
@[simp] theorem exec_deputyTakeover (s : State) : exec .deputyTakeover s = execDeputyTakeover s := rfl
@[simp] theorem exec_bamiorLinkid (link : Nat) (serial : Word) (device : BitVec 10) (s : State) : exec (.bamiorLinkid link serial device) s = execBamiorLinkid link serial device s := rfl
@[simp] theorem exec_bcastGo (w : RegW) (s : State) : exec (.bcastGo w) s = execBcastGo w s := rfl
@[simp] theorem exec_barrierArrive (bar : Nat) (w : RegW) (s : State) : exec (.barrierArrive bar w) s = execBarrierArrive bar w s := rfl
@[simp] theorem exec_barrierReleaseTime (bar : Nat) (s : State) : exec (.barrierReleaseTime bar) s = execBarrierReleaseTime bar s := rfl
@[simp] theorem exec_packMsgGo (w : RegW) (s : State) : exec (.packMsgGo w) s = execPackMsgGo w s := rfl
@[simp] theorem exec_hb (link : Nat) (lseq : BitVec 16) (f : HbF) (s : State) : exec (.hb link lseq f) s = execHb link lseq f s := rfl
@[simp] theorem exec_hbInterval (s : State) : exec .hbInterval s = execHbInterval s := rfl
@[simp] theorem exec_hbLoss (s : State) : exec .hbLoss s = execHbLoss s := rfl
@[simp] theorem exec_replay (link : Nat) (lseq : BitVec 16) (f : ReplayF) (s : State) : exec (.replay link lseq f) s = execReplay link lseq f s := rfl
@[simp] theorem exec_mirror (link : Nat) (lseq : BitVec 16) (addr : BitVec 48) (be : Word) (line : List Byte) (s : State) : exec (.mirror link lseq addr be line) s = execMirror link lseq addr be line s := rfl
@[simp] theorem exec_unitres (link : Nat) (lseq : BitVec 16) (f : UnitResF) (s : State) : exec (.unitres link lseq f) s = execUnitres link lseq f s := rfl
@[simp] theorem exec_digest (link : Nat) (lseq : BitVec 16) (f : DigestF) (s : State) : exec (.digest link lseq f) s = execDigest link lseq f s := rfl
@[simp] theorem exec_epochBoundary (s : State) : exec .epochBoundary s = execEpochBoundary s := rfl
@[simp] theorem exec_fence (link : Nat) (lseq : BitVec 16) (s : State) : exec (.fence link lseq) s = execFence link lseq s := rfl
@[simp] theorem exec_swap (link : Nat) (lseq : BitVec 16) (gen : BitVec 16) (s : State) : exec (.swap link lseq gen) s = execSwap link lseq gen s := rfl
@[simp] theorem exec_syncDone (link : Nat) (lseq : BitVec 16) (s : State) : exec (.syncDone link lseq) s = execSyncDone link lseq s := rfl
@[simp] theorem exec_braceLinkUp (k : Nat) (twinSerial : Word) (twinRunning twinPref : Bool) (s : State) : exec (.braceLinkUp k twinSerial twinRunning twinPref) s = execBraceLinkUp k twinSerial twinRunning twinPref s := rfl
@[simp] theorem exec_brcEnable (w : RegW) (s : State) : exec (.brcEnable w) s = execBrcEnable w s := rfl
@[simp] theorem exec_brcTakeover (w : RegW) (s : State) : exec (.brcTakeover w) s = execBrcTakeover w s := rfl
@[simp] theorem exec_brcSwap (w : RegW) (s : State) : exec (.brcSwap w) s = execBrcSwap w s := rfl
@[simp] theorem exec_brcDetach (w : RegW) (s : State) : exec (.brcDetach w) s = execBrcDetach w s := rfl
@[simp] theorem exec_brcResync (w : RegW) (s : State) : exec (.brcResync w) s = execBrcResync w s := rfl
@[simp] theorem exec_takeoverDeadline (s : State) : exec .takeoverDeadline s = execTakeoverDeadline s := rfl
@[simp] theorem exec_brcSeal (w : RegW) (s : State) : exec (.brcSeal w) s = execBrcSeal w s := rfl
@[simp] theorem exec_reactionTimerExpire (page : Nat) (s : State) : exec (.reactionTimerExpire page) s = execReactionTimerExpire page s := rfl
@[simp] theorem exec_faultAck (page : Nat) (w : RegW) (s : State) : exec (.faultAck page w) s = execFaultAck page w s := rfl
@[simp] theorem exec_errEnWrite (page : Nat) (w : RegW) (s : State) : exec (.errEnWrite page w) s = execErrEnWrite page w s := rfl
@[simp] theorem exec_levelRaise (page : Nat) (w : RegW) (s : State) : exec (.levelRaise page w) s = execLevelRaise page w s := rfl
@[simp] theorem exec_injectArm (page : Nat) (w : RegW) (s : State) : exec (.injectArm page w) s = execInjectArm page w s := rfl
@[simp] theorem exec_injectForce (page : Nat) (w : RegW) (s : State) : exec (.injectForce page w) s = execInjectForce page w s := rfl
@[simp] theorem exec_ledgerDrain (s : State) : exec .ledgerDrain s = execLedgerDrain s := rfl
@[simp] theorem exec_ledgRingWrite (w : RegW) (s : State) : exec (.ledgRingWrite w) s = execLedgRingWrite w s := rfl
@[simp] theorem exec_ledgConsWrite (w : RegW) (s : State) : exec (.ledgConsWrite w) s = execLedgConsWrite w s := rfl
@[simp] theorem exec_hostWrite (bar : Nat) (off : Nat) (bytes : List Byte) (s : State) : exec (.hostWrite bar off bytes) s = execHostWrite bar off bytes s := rfl
@[simp] theorem exec_hostRead (bar : Nat) (off : Nat) (len : Nat) (s : State) : exec (.hostRead bar off len) s = execHostRead bar off len s := rfl
@[simp] theorem exec_h2dPost (w : RegW) (s : State) : exec (.h2dPost w) s = execH2dPost w s := rfl
@[simp] theorem exec_h2dDone (w : RegW) (s : State) : exec (.h2dDone w) s = execH2dDone w s := rfl
@[simp] theorem exec_d2hPost (w : RegW) (s : State) : exec (.d2hPost w) s = execD2hPost w s := rfl
@[simp] theorem exec_d2hDone (w : RegW) (s : State) : exec (.d2hDone w) s = execD2hDone w s := rfl
@[simp] theorem exec_romLoad (s : State) : exec .romLoad s = execRomLoad s := rfl
@[simp] theorem exec_romProgramKey (s : State) : exec .romProgramKey s = execRomProgramKey s := rfl
@[simp] theorem exec_romRevokeKey (s : State) : exec .romRevokeKey s = execRomRevokeKey s := rfl
@[simp] theorem exec_romSetSvn (s : State) : exec .romSetSvn s = execRomSetSvn s := rfl
@[simp] theorem exec_hostLinkTrain (m0 m1 : Bool) (repaired : UcieReport) (s : State) : exec (.hostLinkTrain m0 m1 repaired) s = execHostLinkTrain m0 m1 repaired s := rfl
@[simp] theorem exec_l1Entry (s : State) : exec .l1Entry s = execL1Entry s := rfl
@[simp] theorem exec_l1Exit (s : State) : exec .l1Exit s = execL1Exit s := rfl
@[simp] theorem exec_msixUnmask (vec : Nat) (s : State) : exec (.msixUnmask vec) s = execMsixUnmask vec s := rfl
@[simp] theorem exec_hbmStackTrained (u : Nat) (s : State) : exec (.hbmStackTrained u) s = execHbmStackTrained u s := rfl
@[simp] theorem exec_referenceReturn (s : State) : exec .referenceReturn s = execReferenceReturn s := rfl
@[simp] theorem exec_brownOutRelease (s : State) : exec .brownOutRelease s = execBrownOutRelease s := rfl
@[simp] theorem exec_hostConfigWrite (busMaster d3hot msixEn funcMask : Bool) (s : State) : exec (.hostConfigWrite busMaster d3hot msixEn funcMask) s = execHostConfigWrite busMaster d3hot msixEn funcMask s := rfl
@[simp] theorem exec_hostCompletion (txid : Nat) (data : List Byte) (ok : Bool) (s : State) : exec (.hostCompletion txid data ok) s = execHostCompletion txid data ok s := rfl

end Sys2Proof.Machine
end

