-- ==== Sys2Proof/Laws/Firing.lean ====
section
/-! SUPPORT. A PE row executes the firing in stage 4. -/

namespace Sys2Proof.Machine

/-- A row whose opcode the firing in stage 4 has takes that firing. -/
theorem fires_stage4 {s : State} {t p : Nat} {f : Firing} {g : Nat → Bool} (h : s.Fires t p f) (hg : g (sOp f.slot) = true) :
  s.stage4 t p g = some (f, s.taken t p) := by
  obtain ⟨r, hr⟩ : ∃ r, ((s.tile t).pe p).ex = f :: r := by
    have := h.head; cases hh : ((s.tile t).pe p).ex <;> simp_all
  unfold State.stage4 State.taken State.updPe State.updTile Tile.updPe
  simp [hr, hg]

/-- Such a row executes the firing. -/
theorem fires_exec4 {s : State} {t p : Nat} {f : Firing} {g : Nat → Bool} {k} (h : s.Fires t p f) (hg : g (sOp f.slot) = true) :
  s.exec4 t p g k = k f (s.taken t p) := by simp [State.exec4, fires_stage4 h hg, h.types]

/-- The tile and the PE of a firing exist. -/
theorem fires_ok {s : State} {t p : Nat} {f : Firing} (h : s.Fires t p f) : peOk t p = true := by simp [peOk, h.tile, h.pe]

end Sys2Proof.Machine
end

