-- ==== Sys2Proof/Laws/Hooks.lean ====
section
/-! SUPPORT. A register row does what the hook of its register does. -/

namespace Sys2Proof.Machine

/-- A row that is one operation of a register, where the write names it. -/
theorem reg_op {s : State} {b : PKind} {p o : Nat} {w : RegW} {new : Word} {ok : Bool} {K : Hook} (hK : hookOf b p o = K) (hok : ok = true)
    (h : s.Takes b p o w new) (hr : (K.run (s.wrOf b p o w new) s).1 = true) :
    opRow ok s b p o w = ((K.run (s.wrOf b p o w new) (s.logged b p o w new)).2).acted w := by
  subst hK; exact opRow_takes hok h hr

/-- A row that is any write of a register. -/
theorem reg_wr {s : State} {b : PKind} {p o : Nat} {w : RegW} {new : Word} {K : Hook} (hK : hookOf b p o = K)
    (h : s.Takes b p o w new) (hr : (K.run (s.wrOf b p o w new) s).1 = true) :
    wrRow s b p o w = ((K.run (s.wrOf b p o w new) (s.logged b p o w new)).2).acted w := by
  subst hK; exact wrRow_takes h hr

/-- The same by the effect F of the hook on states with C. -/
theorem reg_op' {s : State} {b : PKind} {p o : Nat} {w : RegW} {new : Word} {ok : Bool} {K : Hook} (C : State → Prop) (F : State → State)
    (hK : hookOf b p o = K) (hok : ok = true) (h : s.Takes b p o w new)
    (hrun : ∀ t, C t → K.run (s.wrOf b p o w new) t = (true, F t)) (hs : C s) (hl : C (s.logged b p o w new)) :
    opRow ok s b p o w = (F (s.logged b p o w new)).acted w := by
  rw [reg_op hK hok h (by rw [hrun _ hs]), hrun _ hl]

/-- The same by the effect F of the hook on states with C. -/
theorem reg_wr' {s : State} {b : PKind} {p o : Nat} {w : RegW} {new : Word} {K : Hook} (C : State → Prop) (F : State → State)
    (hK : hookOf b p o = K) (h : s.Takes b p o w new)
    (hrun : ∀ t, C t → K.run (s.wrOf b p o w new) t = (true, F t)) (hs : C s) (hl : C (s.logged b p o w new)) :
    wrRow s b p o w = (F (s.logged b p o w new)).acted w := by
  rw [reg_wr hK h (by rw [hrun _ hs]), hrun _ hl]

/-- The hook of the producer register of a ring. -/
theorem hk_prod (n : Nat) : hookOf .ken (1 + n / 32) (R.kenRingProd + 64 * (n % 32)) = hookKenProd n := by
  have h1 : n % 32 < 32 := by omega
  have h2 : n = 32 * (n / 32) + n % 32 := by omega
  generalize n % 32 = m at *
  generalize n / 32 = d at *
  subst h2
  have e2 : (R.kenRingProd + 64 * m) % 64 = 8 := by simp only [R.kenRingProd]; omega
  have e3 : (R.kenRingProd + 64 * m - 2048) / 64 = m := by simp only [R.kenRingProd]; omega
  have e4 : ¬ (R.kenRingProd + 64 * m < 256) := by simp only [R.kenRingProd]; omega
  have e5 : 2048 ≤ R.kenRingProd + 64 * m := by simp only [R.kenRingProd]; omega
  simp [hookOf, hookKen, e2, e3, e4, e5]

/-- The hook of the configuration register of a ring. -/
theorem hk_cfg (n : Nat) : hookOf .ken (1 + n / 32) (R.kenRingCfg + 64 * (n % 32)) = hookKenCfg n := by
  have h1 : n % 32 < 32 := by omega
  have h2 : n = 32 * (n / 32) + n % 32 := by omega
  generalize n % 32 = m at *
  generalize n / 32 = d at *
  subst h2
  have e2 : (R.kenRingCfg + 64 * m) % 64 = 0 := by simp only [R.kenRingCfg]; omega
  have e3 : (R.kenRingCfg + 64 * m - 2048) / 64 = m := by simp only [R.kenRingCfg]; omega
  have e4 : ¬ (R.kenRingCfg + 64 * m < 256) := by simp only [R.kenRingCfg]; omega
  have e5 : 2048 ≤ R.kenRingCfg + 64 * m := by simp only [R.kenRingCfg]; omega
  simp [hookOf, hookKen, e2, e3, e4, e5]

/-- The hook of a Bark source register. -/
theorem hk_src (n : Nat) : hookOf .bark (1 + n / 256) (R.barkSrc + 8 * (n % 256)) = hookSrc n := by
  have h1 : n % 256 < 256 := by omega
  have h2 : n = 256 * (n / 256) + n % 256 := by omega
  generalize n % 256 = m at *
  generalize n / 256 = d at *
  subst h2
  have e3 : (R.barkSrc + 8 * m - 2048) / 8 = m := by simp only [R.barkSrc]; omega
  have e4 : ¬ (R.barkSrc + 8 * m < 256) := by simp only [R.barkSrc]; omega
  have e5 : 2048 ≤ R.barkSrc + 8 * m := by simp only [R.barkSrc]; omega
  simp [hookOf, hookBark, e3, e4, e5]

/-- Where the registers of a ring stand. -/
theorem kr_cfg (n : Nat) : pageAt .ken (1 + n / 32) + (R.kenRingCfg + 64 * (n % 32)) = kr n := by
  simp only [kr, R.kenRingCfg, pageAt]; omega

end Sys2Proof.Machine
end

