-- ==== Sys2Proof/Laws/SMap.lean ====
section
/-! SUPPORT. Sparse maps: read after write, and the canonical form that every write keeps. -/

namespace Sys2Proof.SMap

variable {α : Type}

@[simp] theorem get_nil (d : α) (k : Nat) : get d ([] : SMap α) k = d := rfl

theorem get_cons (d : α) (e : Nat × α) (m : SMap α) (k : Nat) :
    get d (e :: m) k = if e.1 = k then e.2 else get d m k := by
  by_cases h : e.1 = k <;> simp [get, h]

@[simp] theorem drop_nil (k : Nat) : drop ([] : SMap α) k = [] := rfl

theorem drop_cons (e : Nat × α) (m : SMap α) (k : Nat) :
    drop (e :: m) k = if e.1 = k then drop m k else e :: drop m k := by
  by_cases h : e.1 = k <;> simp [drop, h]

theorem get_drop_self (d : α) (m : SMap α) (k : Nat) : get d (drop m k) k = d := by
  induction m with
  | nil => rfl
  | cons e m ih => by_cases h : e.1 = k <;> simp [drop_cons, get_cons, h, ih]

theorem get_drop_other (d : α) (m : SMap α) {k j : Nat} (hj : j ≠ k) : get d (drop m k) j = get d m j := by
  induction m with
  | nil => rfl
  | cons e m ih =>
    by_cases h : e.1 = k
    · have hne : e.1 ≠ j := fun he => hj (he.symm.trans h)
      simp [drop_cons, get_cons, h, ih, Ne.symm hj]
    · simp [drop_cons, get_cons, h, ih]

theorem get_ins_self (d : α) (m : SMap α) (k : Nat) (v : α) (hm : ∀ e ∈ m, e.1 ≠ k) : get d (ins m k v) k = v := by
  induction m with
  | nil => simp [ins, get_cons]
  | cons e m ih =>
    have he := hm e (by simp)
    by_cases h : k < e.1
    · simp [ins, h, get_cons]
    · simp [ins, h, get_cons, he, ih (fun x hx => hm x (by simp [hx]))]

theorem get_ins_other (d : α) (m : SMap α) {k j : Nat} (v : α) (hj : j ≠ k) : get d (ins m k v) j = get d m j := by
  induction m with
  | nil => simp [ins, get_cons, Ne.symm hj]
  | cons e m ih =>
    by_cases h : k < e.1
    · simp [ins, h, get_cons, Ne.symm hj]
    · simp [ins, h, get_cons, ih]

theorem mem_drop {m : SMap α} {k : Nat} {e : Nat × α} : e ∈ drop m k ↔ e ∈ m ∧ e.1 ≠ k := by
  simp [drop]

variable [DecidableEq α]

/-- A read after a write to the same key gives the value written. -/
@[simp] theorem get_set_self (d : α) (m : SMap α) (k : Nat) (v : α) : get d (set d m k v) k = v := by
  by_cases h : v = d
  · simp [set, h, get_drop_self]
  · simp only [set, h, if_false]
    exact get_ins_self d _ k v (fun e he => (mem_drop.mp he).2)

/-- A write leaves every other key alone. -/
theorem get_set_other (d : α) (m : SMap α) {k j : Nat} (v : α) (hj : j ≠ k) : get d (set d m k v) j = get d m j := by
  by_cases h : v = d
  · simp [set, h, get_drop_other d m hj]
  · simp [set, h, get_ins_other d _ v hj, get_drop_other d m hj]

theorem get_set (d : α) (m : SMap α) (k j : Nat) (v : α) : get d (set d m k v) j = if j = k then v else get d m j := by
  by_cases h : j = k
  · simp [h]
  · simp [h, get_set_other d m v h]

/-! ## The canonical form -/

/-- The canonical form, said of the list: keys strictly rising, no default listed. -/
def Canon (d : α) (m : SMap α) : Prop := m.Pairwise (fun a b => a.1 < b.1) ∧ ∀ e ∈ m, e.2 ≠ d

theorem wf_iff (d : α) (m : SMap α) : wf d m = true ↔ Canon d m := by
  induction m with
  | nil => simp [wf, Canon]
  | cons e m ih =>
    cases m with
    | nil => simp [wf, Canon]
    | cons f r =>
      have hw : wf d (e :: f :: r) = (!(decide (e.2 = d)) && decide (e.1 < f.1) && wf d (f :: r)) := rfl
      rw [hw]
      simp only [Bool.and_eq_true, Bool.not_eq_true', decide_eq_false_iff_not, decide_eq_true_eq, ih, Canon,
        List.pairwise_cons, List.mem_cons, forall_eq_or_imp]
      constructor
      · rintro ⟨⟨h1, h2⟩, ⟨h3, h4⟩, h5, h6⟩
        exact ⟨⟨⟨h2, fun a ha => Nat.lt_trans h2 (h3 a ha)⟩, h3, h4⟩, h1, h5, h6⟩
      · rintro ⟨⟨⟨h2, _⟩, h3, h4⟩, h1, h5, h6⟩
        exact ⟨⟨h1, h2⟩, ⟨h3, h4⟩, h5, h6⟩

omit [DecidableEq α] in
theorem Canon.drop {d : α} {m : SMap α} (h : Canon d m) (k : Nat) : Canon d (drop m k) :=
  ⟨h.1.filter _, fun e he => h.2 e (mem_drop.mp he).1⟩

omit [DecidableEq α] in
theorem mem_ins {m : SMap α} {k : Nat} {v : α} {e : Nat × α} : e ∈ ins m k v ↔ e = (k, v) ∨ e ∈ m := by
  induction m with
  | nil => simp [ins]
  | cons f m ih =>
    by_cases h : k < f.1
    · simp [ins, h]
    · simp only [ins, h, if_false, List.mem_cons, ih]
      tauto

omit [DecidableEq α] in
theorem Canon.ins {d : α} {m : SMap α} (h : Canon d m) {k : Nat} {v : α} (hk : ∀ e ∈ m, e.1 ≠ k) (hv : v ≠ d) :
    Canon d (ins m k v) := by
  refine ⟨?_, fun e he => ?_⟩
  · have hp := h.1
    clear h
    induction m with
    | nil => simp [SMap.ins]
    | cons f m ih =>
      obtain ⟨hf, hm⟩ := List.pairwise_cons.mp hp
      by_cases hlt : k < f.1
      · simp only [SMap.ins, hlt, if_true, List.pairwise_cons, List.mem_cons, forall_eq_or_imp]
        exact ⟨⟨trivial, fun a ha => Nat.lt_trans hlt (hf a ha)⟩, hf, hm⟩
      · simp only [SMap.ins, hlt, if_false, List.pairwise_cons]
        refine ⟨fun a ha => ?_, ih (fun e he => hk e (by simp [he])) hm⟩
        rcases mem_ins.mp ha with rfl | ha
        · exact Nat.lt_of_le_of_ne (Nat.le_of_not_lt hlt) (hk f (by simp))
        · exact hf a ha
  · rcases mem_ins.mp he with rfl | he
    · exact hv
    · exact h.2 e he

/-- A write keeps the canonical form. -/
theorem wf_set (d : α) (m : SMap α) (k : Nat) (v : α) (h : wf d m = true) : wf d (set d m k v) = true := by
  rw [wf_iff] at h ⊢
  by_cases hv : v = d
  · simpa [set, hv] using h.drop k
  · simpa [set, hv] using (h.drop k).ins (fun e he => (mem_drop.mp he).2) hv

end Sys2Proof.SMap
end

