-- ==== Sys2Proof/Laws/Signal.lean ====
section
/-! SUPPORT. What raising a fault, signalling and a ledger record can change: registers, messages to the outside, reactions
left for the end of the command, the ledger, reaction timers and the host link; nothing else of State. -/

namespace Sys2Proof.Machine

/-- `t` is `s` but for what signalling changes. -/
def Signals (s t : State) : Prop :=
  t = { s with regs := t.regs, out := t.out, reactions := t.reactions, ledger := t.ledger, timers := t.timers, host := t.host }

theorem Signals.refl (s : State) : Signals s s := rfl

theorem Signals.trans {s t u : State} (h : Signals s t) (k : Signals t u) : Signals s u := by
  unfold Signals at *
  rw [k, h]

theorem Signals.mem {s t : State} (h : Signals s t) : t.mem = s.mem := (congrArg State.mem h : t.mem = _)
theorem Signals.cores {s t : State} (h : Signals s t) : t.cores = s.cores := (congrArg State.cores h : t.cores = _)
theorem Signals.now {s t : State} (h : Signals s t) : t.now = s.now := (congrArg State.now h : t.now = _)
theorem Signals.hbmc {s t : State} (h : Signals s t) : t.hbmc = s.hbmc := (congrArg State.hbmc h : t.hbmc = _)

variable (s : State)

theorem signals_setReg (o : Nat) (w : Word) : Signals s (s.setReg o w) := rfl
theorem signals_putF (o hi lo v : Nat) : Signals s (s.putF o hi lo v) := rfl
theorem signals_putB (o i : Nat) (v : Bool) : Signals s (s.putB o i v) := rfl
theorem signals_inc (o hi lo n : Nat) : Signals s (s.inc o hi lo n) := rfl
theorem signals_emit (x : Out) : Signals s (s.emit x) := rfl
theorem signals_react (r : Reaction) : Signals s (s.react r) := rfl
theorem signals_setTimer (p : Nat) (t : Option Word) : Signals s (s.setTimer p t) := rfl

theorem signals_wakeLink : Signals s s.wakeLink := by
  unfold State.wakeLink; split <;> rfl

theorem signals_toHost (x : Out) : Signals s (s.toHost x) := by
  unfold State.toHost
  split
  · exact Signals.trans (t := { s with host := { s.host with waits := s.host.waits ++ [x] } }) rfl (signals_wakeLink _)
  · exact signals_emit s x

theorem signals_msix (v : Nat) : Signals s (s.msix v) := by
  unfold State.msix
  split
  · exact signals_toHost s _
  · exact signals_putB s _ _ _

theorem signals_bark (src : Nat) : Signals s (s.bark src) := by
  unfold State.bark
  extract_lets o s1 s2
  have h1 : Signals s s1 := signals_inc s _ _ _ _
  clear_value s1
  have h2 : Signals s s2 := by
    simp only [s2]
    split
    · exact h1.trans (signals_msix s1 _)
    · exact h1
  clear_value s2
  split
  · exact h2
  · exact h2.trans (signals_react s2 _)

theorem signals_pageInt (p i : Nat) : Signals s (s.pageInt p i) := by
  unfold State.pageInt
  simp only []
  split
  · split
    · exact (signals_putB s _ _ _).trans (signals_bark _ _)
    · exact signals_putB s _ _ _
  · exact signals_putB s _ _ _

theorem signals_ledger (l : Ledger) : Signals s { s with ledger := l } := rfl

theorem signals_ledgProdTo (n : Nat) : Signals s (s.ledgProdTo n) := by
  unfold State.ledgProdTo
  extract_lets lp s1
  have h1 : Signals s s1 := signals_putF s _ _ _ _
  clear_value s1
  split
  · exact h1.trans (signals_putF s1 _ _ _ _)
  · exact h1

theorem signals_record (k : Nat) (a b c : Bool) (o : Origin) (off : Nat) (x y z : Word) :
    Signals s (s.record k a b c o off x y z) := by
  unfold State.record
  extract_lets n r d lp full l s1
  have h1 : Signals s s1 := signals_ledger s _
  clear_value s1
  split
  · exact h1.trans ((signals_inc s1 _ _ _ _).trans (signals_ledgProdTo _ _))
  · exact h1

theorem signals_startTimer (p : Nat) : Signals s (s.startTimer p) := by
  unfold State.startTimer; split <;> rfl

theorem signals_setLevel (p l r c : Nat) : Signals s (s.setLevel p l r c) := by
  unfold State.setLevel
  extract_lets o old rise s1 s2 s3 s4
  have h1 : Signals s s1 := signals_putF s _ _ _ _
  clear_value s1
  have h2 : Signals s s2 := by
    simp only [s2]
    split
    · exact h1.trans (signals_putB s1 _ _ _)
    · exact h1
  clear_value s2
  have h3 : Signals s s3 := h2.trans (signals_record s2 _ _ _ _ _ _ _ _ _)
  clear_value s3
  have h4 : Signals s s4 := by
    simp only [s4]
    split
    · split
      · exact h3.trans (signals_bark s3 _)
      · exact h3
    · exact h3
  clear_value s4
  split
  · exact h4.trans ((signals_startTimer s4 _).trans (signals_react _ _))
  · split
    · exact h4.trans ((signals_setTimer s4 _ _).trans (signals_react _ _))
    · exact h4

theorem signals_fault (p : Nat) (c : Cls) (i : Bool) : Signals s (s.fault p c i) := by
  unfold State.fault
  extract_lets k o before was s1 s2 lvl
  have h1 : Signals s s1 := (signals_putB s _ _ _).trans (signals_inc _ _ _ _ _)
  clear_value s1
  have h2 : Signals s s2 := by
    simp only [s2]
    split
    · exact h1.trans (signals_setReg s1 _ _)
    · exact h1
  clear_value s2
  repeat' split
  all_goals first
    | exact h2
    | exact h2.trans (signals_setLevel s2 _ _ _ _)
    | exact h2.trans (signals_startTimer s2 _)

theorem signals_foldl {α : Type} (l : List α) (g : State → α → State) (h : ∀ s x, Signals s (g s x)) :
    Signals s (l.foldl g s) := by
  induction l generalizing s with
  | nil => exact .refl s
  | cons x l ih => exact (h s x).trans (ih _)

theorem signals_badWindow (a : Nat) : Signals s (s.badWindow a) :=
  (signals_inc s _ _ _ _).trans (signals_fault _ _ _ _)

theorem signals_isoCount (a : Nat) (st : Status) (n : Nat) : Signals s (s.isoCount a st n) := by
  unfold State.isoCount
  split
  · exact signals_foldl s _ _ (fun s _ => signals_inc s _ _ _ _)
  · exact .refl s

theorem signals_wakeUnits (a : Nat) (st : Status) (n : Nat) : Signals s (s.wakeUnits a st n) := by
  unfold State.wakeUnits
  split
  · exact .refl s
  · exact signals_foldl s _ _ (fun s u => by split <;> rfl)

theorem signals_visit (a : Nat) (st : Status) (n : Nat) : Signals s (s.visit a st n) := by
  unfold State.visit
  have h0 := signals_isoCount s a st n
  generalize s.isoCount a st n = s0 at h0 ⊢
  dsimp only
  split
  · have h1 := h0.trans (signals_wakeUnits s0 a st n)
    split
    · exact (h1.trans (signals_foldl _ _ _ (fun s _ => signals_inc s _ _ _ _))).trans (signals_foldl _ _ _ (fun s _ => rfl))
    · exact h1
  · split
    · exact h0.trans (signals_wakeLink s0)
    · exact h0
  · exact h0.trans (signals_badWindow s0 _)
  · exact h0

theorem signals_checkBlock (u b : Nat) : Signals s (s.checkBlock u b) := by
  unfold State.checkBlock
  extract_lets p s1
  have h1 : Signals s s1 := signals_putF s _ _ _ _
  clear_value s1
  have h (hi lo : Nat) (w : Word) : Signals s ((s1.inc (p + R.hbmcEccCnt) hi lo).setReg (p + R.hbmcEccLast) w) :=
    h1.trans ((signals_inc s1 _ _ _ _).trans (signals_setReg _ _ _))
  split
  · split
    · exact (h _ _ _).trans (signals_fault _ _ _ _)
    · split
      · exact (h _ _ _).trans (signals_fault _ _ _ _)
      · exact (h1.trans (signals_inc s1 _ _ _ _)).trans (signals_fault _ _ _ _)
  · exact .refl s

theorem signals_checkMem (a n : Nat) (w : Bool) : Signals s (s.checkMem a n w) := by
  unfold State.checkMem
  repeat' split
  · exact .refl s
  · exact signals_foldl s _ _ (fun s x => signals_checkBlock s _ _)
  · exact signals_foldl s _ _ (fun s x => signals_checkBlock s _ _)
  · exact .refl s

theorem signals_hostSent (w : Bool) (a n : Nat) (bs : List Byte) : Signals s (s.hostSent w a n bs) := by
  unfold State.hostSent
  split
  · exact signals_toHost s _
  · exact .refl s

theorem signals_refused (a n : Nat) (w : Bool) (st : Status) : Signals s (s.refused a n w st) := by
  unfold State.refused
  split
  · exact (signals_visit s _ _ _).trans (signals_checkMem _ _ _ _)
  · exact signals_visit s _ _ _

/-- A read by an engine only signals. -/
theorem signals_memRead (a n : Nat) : Signals s (s.memRead a n).2.2 := by
  unfold State.memRead
  split
  · exact ((signals_visit s _ _ _).trans (signals_hostSent _ _ _ _ _)).trans (signals_checkMem _ _ _ _)
  · exact signals_refused s _ _ _ _

@[simp] theorem fault_mem (p : Nat) (c : Cls) (i : Bool) : (s.fault p c i).mem = s.mem := (signals_fault s p c i).mem
@[simp] theorem checkMem_mem (a n : Nat) (w : Bool) : (s.checkMem a n w).mem = s.mem := (signals_checkMem s a n w).mem
@[simp] theorem visit_mem (a : Nat) (st : Status) (n : Nat) : (s.visit a st n).mem = s.mem := (signals_visit s a st n).mem
@[simp] theorem hostSent_mem (w : Bool) (a n : Nat) (bs : List Byte) : (s.hostSent w a n bs).mem = s.mem := (signals_hostSent s w a n bs).mem
@[simp] theorem refused_mem (a n : Nat) (w : Bool) (st : Status) : (s.refused a n w st).mem = s.mem := (signals_refused s a n w st).mem

/-- Where no injection is armed, the checkers of the memory units do nothing. -/
theorem checkMem_unarmed (a n : Nat) (w : Bool) (h : ∀ u, u < 5 → s.memArmed u = false) : s.checkMem a n w = s := by
  have : (List.range 5).all (fun u => !s.memArmed u) = true := by
    simp only [List.all_eq_true, List.mem_range, Bool.not_eq_true']
    exact h
  simp [State.checkMem, this]

/-- Where no injection is armed, an engine's access receives the status of the memory units. -/
theorem engineStatus_unarmed (a n : Nat) (w : Bool) (h : s.memArmed 4 = false) : s.engineStatus a n w = s.access a n w := by
  unfold State.engineStatus State.sramStops
  rw [h]
  cases s.access a n w <;> simp

end Sys2Proof.Machine
end

