-- ==== Sys2Proof/Laws/Memory.lean ====
section
/-! SUPPORT. Memory and registers: read after write, and that every memory operation keeps the canonical form. -/

namespace Sys2Proof.Machine

/-! ## Bytes -/

@[simp] theorem byte_wrByte_self (s : State) (a : Nat) (b : Byte) : (s.wrByte a b).byte a = b := by
  simp [State.wrByte, State.byte]

theorem byte_wrByte_other (s : State) {a x : Nat} (b : Byte) (h : x ≠ a) : (s.wrByte a b).byte x = s.byte x := by
  simp [State.wrByte, State.byte, SMap.get_set_other _ _ _ h]

/-- A write of bytes leaves every byte outside them alone. -/
theorem byte_wrBytes_outside (bs : List Byte) : ∀ (s : State) (a x : Nat), x < a ∨ a + bs.length ≤ x →
    (s.wrBytes a bs).byte x = s.byte x := by
  induction bs with
  | nil => intro s a x _; rfl
  | cons b r ih =>
    intro s a x h
    simp only [List.length_cons] at h
    rw [State.wrBytes, ih _ _ _ (by omega), byte_wrByte_other _ _ (by omega)]

/-- A byte written is the byte read. -/
theorem byte_wrBytes_inside (bs : List Byte) : ∀ (s : State) (a i : Nat) (h : i < bs.length),
    (s.wrBytes a bs).byte (a + i) = bs[i] := by
  induction bs with
  | nil => intro s a i h; simp at h
  | cons b r ih =>
    intro s a i h
    cases i with
    | zero =>
      rw [State.wrBytes, byte_wrBytes_outside _ _ _ _ (by omega)]
      simp
    | succ i =>
      have h' : i < r.length := by simpa using h
      rw [State.wrBytes, show a + (i + 1) = a + 1 + i from by omega, ih _ _ _ h']
      rfl

@[simp] theorem leBytes_length (n v : Nat) : (leBytes n v).length = n := by simp [leBytes]

theorem byte_wr_outside (s : State) (a n v x : Nat) (h : x < a ∨ a + n ≤ x) : (s.wr a n v).byte x = s.byte x := by
  rw [State.wr, byte_wrBytes_outside _ _ _ _ (by simpa using h)]

theorem byte_wr64_outside (s : State) (a : Nat) (w : Word) (x : Nat) (h : x < a ∨ a + 8 ≤ x) :
    (s.wr64 a w).byte x = s.byte x := byte_wr_outside s a 8 _ x h

/-! ## The canonical form -/

theorem wf_wrByte (s : State) (a : Nat) (b : Byte) (h : Memory.wf s.mem = true) : Memory.wf (s.wrByte a b).mem = true :=
  SMap.wf_set 0 s.mem a b h

theorem wf_wrBytes (bs : List Byte) : ∀ (s : State) (a : Nat), Memory.wf s.mem = true → Memory.wf (s.wrBytes a bs).mem = true := by
  induction bs with
  | nil => intro s a h; exact h
  | cons b r ih => intro s a h; exact ih _ _ (wf_wrByte s a b h)

theorem wf_wr (s : State) (a n v : Nat) (h : Memory.wf s.mem = true) : Memory.wf (s.wr a n v).mem = true :=
  wf_wrBytes _ s a h

theorem wf_wr64 (s : State) (a : Nat) (w : Word) (h : Memory.wf s.mem = true) : Memory.wf (s.wr64 a w).mem = true :=
  wf_wr s a 8 _ h

theorem wf_wrWords (ws : List Word) : ∀ (s : State) (a : Nat), Memory.wf s.mem = true → Memory.wf (s.wrWords a ws).mem = true := by
  induction ws with
  | nil => intro s a h; exact h
  | cons w r ih => intro s a h; exact ih _ _ (wf_wr64 s a w h)

/-- Memory after reset is in the canonical form. -/
theorem wf_reset : Memory.wf State.reset.mem = true := rfl

/-! ## What leaves memory alone -/

theorem wrBytes_only_mem (bs : List Byte) : ∀ (s : State) (a : Nat), s.wrBytes a bs = { s with mem := (s.wrBytes a bs).mem } := by
  induction bs with
  | nil => intro s a; rfl
  | cons b r ih => intro s a; rw [State.wrBytes, ih]; rfl

@[simp] theorem stored_mem (s : State) (a n : Nat) : (s.stored a n).mem = s.mem := by
  unfold State.stored
  generalize s.waiters.filter _ = l
  induction l generalizing s with
  | nil => rfl
  | cons w l ih => rw [List.foldl_cons, ih]; rfl

@[simp] theorem clearPoison_mem (s : State) (a : Nat) : (s.clearPoison a).mem = s.mem := by
  unfold State.clearPoison
  simp only []
  split
  · rfl
  · split <;> rfl

@[simp] theorem clearLines_mem (s : State) (a n : Nat) : (s.clearLines a n).mem = s.mem := by
  unfold State.clearLines
  split
  · generalize (blocksOf 64 a n).filter _ = l
    induction l generalizing s with
    | nil => rfl
    | cons b l ih => rw [List.foldl_cons, ih]; simp
  · rfl

/-- An engine's write that lands keeps the canonical form; one that is refused leaves memory alone. -/
theorem wf_memWrite (s : State) (a : Nat) (bs : List Byte) (h : Memory.wf s.mem = true) :
    Memory.wf (s.memWrite a bs).2.mem = true := by
  unfold State.memWrite
  split
  · simpa using wf_wrBytes bs s a h
  · simpa using h

/-- An engine's write touches only the bytes that it writes. -/
theorem byte_memWrite_outside (s : State) (a : Nat) (bs : List Byte) (x : Nat) (h : x < a ∨ a + bs.length ≤ x) :
    (s.memWrite a bs).2.byte x = s.byte x := by
  unfold State.memWrite
  split
  · simp only [State.byte, checkMem_mem, clearLines_mem, hostSent_mem, visit_mem, stored_mem]
    exact byte_wrBytes_outside bs s a x h
  · simp [State.byte]

/-- An engine's read leaves memory alone. -/
theorem memRead_mem (s : State) (a n : Nat) : (s.memRead a n).2.2.mem = s.mem := (signals_memRead s a n).mem

/-! ## Registers -/

@[simp] theorem reg_setReg_self (s : State) (o : Nat) (w : Word) : (s.setReg o w).reg o = w := by
  simp [State.setReg, State.reg]

theorem reg_setReg_other (s : State) {o x : Nat} (w : Word) (h : x ≠ o) : (s.setReg o w).reg x = s.reg x := by
  unfold State.setReg State.reg
  by_cases hw : w = regReset o
  · simp only [SMap.set, hw, if_true]
    exact SMap.get_drop_other _ _ h
  · simp only [SMap.set, hw, if_false]
    rw [SMap.get_ins_other _ _ _ h, SMap.get_drop_other _ _ h]

theorem reg_putF_other (s : State) {o x : Nat} (hi lo v : Nat) (h : x ≠ o) : (s.putF o hi lo v).reg x = s.reg x :=
  reg_setReg_other s _ h

theorem reg_putB_other (s : State) {o x : Nat} (i : Nat) (v : Bool) (h : x ≠ o) : (s.putB o i v).reg x = s.reg x :=
  reg_setReg_other s _ h

theorem reg_inc_other (s : State) {o x : Nat} (hi lo n : Nat) (h : x ≠ o) : (s.inc o hi lo n).reg x = s.reg x :=
  reg_setReg_other s _ h

end Sys2Proof.Machine
end

