-- ==== Sys2Proof/Machine/Package.lean ====
section
/-! DEFINITION. The package (chapter 18): which signal or rail each of the 5,776 balls carries (R563 to R568), what the rails
are held to (R570, R572), the signals' states in reset (R526, R574) and the reference-clock pair of a link (R575). -/

namespace Sys2Proof.Machine

/-- The rails (Table 18.6). -/
inductive Rail
  | vinCore | vinAon | vddSerdes | vddhSerdes | vddHbm | vddqHbm | vppHbm | vddUcie | vddio
deriving DecidableEq, Repr

/-- The range of a rail at the balls, in mV (Table 18.6). -/
def Rail.range : Rail → Nat × Nat
  | .vinCore => (1067, 1133) | .vinAon => (1067, 1133) | .vddSerdes => (873, 927) | .vddhSerdes => (1164, 1236)
  | .vddHbm => (1067, 1133) | .vddqHbm => (388, 412) | .vppHbm => (1746, 1854) | .vddUcie => (728, 772) | .vddio => (1710, 1890)

/-- The nominal voltage of a rail, in mV (Table 18.6). -/
def Rail.nominal : Rail → Nat
  | .vinCore => 1100 | .vinAon => 1100 | .vddSerdes => 900 | .vddhSerdes => 1200 | .vddHbm => 1100 | .vddqHbm => 400
  | .vppHbm => 1800 | .vddUcie => 750 | .vddio => 1800

/-- The rails that the Q96 monitors (R572). -/
def Rail.monitored (r : Rail) : Bool := [Rail.vinCore, .vinAon, .vddSerdes, .vddHbm, .vddqHbm].contains r

/-- Is a monitored rail in excursion at a voltage: below its range (R572)? -/
def Rail.low (r : Rail) (mv : Nat) : Bool := r.monitored && decide (mv < r.range.1)

/-- Is it a brown-out: a monitored rail below 90 % of nominal (R572)? -/
def Rail.brown (r : Rail) (mv : Nat) : Bool := r.monitored && decide (10 * mv < 9 * r.nominal)

/-- What a ball carries: a Phour lane, a brace lane, a sideband signal by its name in Table 18.3, a chip select, a GPIO, a bump of
the host-die site, a rail, or ground. -/
inductive Ball
  | phour (hub lane : Nat) (tx neg : Bool)
  | brace (link lane : Nat) (tx neg : Bool)
  | side (name : String)
  | chipSelect (spi k : Nat)
  | gpio (n : Nat)
  | host (bump : Nat)
  | rail (r : Rail)
  | gnd
deriving DecidableEq, Repr

/-- Rows of a hub's block, from its edge, that carry TX and RX balls (R564). -/
def phourRows (tx : Bool) : List Nat := if tx then [0, 1, 2, 4, 5, 6] else [9, 10, 11, 13, 14, 15]

/-- Row and column of a Phour ball of physical lane `n` of hub `h` (R564). -/
def phourBall (h n : Nat) (tx neg : Bool) : Nat × Nat :=
  let r := (phourRows tx).getD (n / 3) 0
  (if h < 12 then 1 + r else 76 - r, 3 + 6 * (h % 12) + 2 * (n % 3) + (if neg then 1 else 0))

/-- Row and column of a ball of lane `l` of brace link `b` (R565). -/
def braceBall (b l : Nat) (tx neg : Bool) : Nat × Nat :=
  (17 + 2 * (4 * b + (if tx then 0 else 2) + l / 4), 1 + 2 * (l % 4) + (if neg then 1 else 0))

/-- The sideband balls of a row of Table 18.3, from column 69. -/
def sideRow : Nat → List Ball
  | 17 => [.side "REFCLK_SERDES0_P", .side "REFCLK_SERDES0_N", .gnd, .side "REFCLK_SERDES1_P", .side "REFCLK_SERDES1_N", .gnd,
           .side "REFCLK_100_P", .side "REFCLK_100_N"]
  | 18 => [.side "REFCLK_SERDES2_P", .side "REFCLK_SERDES2_N", .gnd, .side "REFCLK_SERDES3_P", .side "REFCLK_SERDES3_N", .gnd,
           .side "REF10M", .side "PACK_SYNC"]
  | 20 => [.side "THERMD_P", .side "THERMD_N", .side "PORST_N", .side "FENCE_N", .side "BOOTSEL0", .side "BOOTSEL1",
           .side "TRST_N", .side "TCK"]
  | 21 => [.side "TMS", .side "TDI", .side "TDO", .gnd, .side "I3C0_SCL", .side "I3C0_SDA", .side "I3C1_SCL", .side "I3C1_SDA"]
  | 22 => [.side "I3C2_SCL", .side "I3C2_SDA", .side "I3C3_SCL", .side "I3C3_SDA", .gnd, .side "SPI0_SCLK", .side "SPI0_MOSI",
           .side "SPI0_MISO"]
  | 23 => (List.range 8).map (fun k => .chipSelect 0 k)
  | 24 => [.side "SPI1_SCLK", .side "SPI1_MOSI", .side "SPI1_MISO", .gnd, .side "SPI2_SCLK", .side "SPI2_MOSI",
           .side "SPI2_MISO", .gnd]
  | 25 => (List.range 8).map (fun k => .chipSelect 1 k)
  | 26 => (List.range 8).map (fun k => .chipSelect 2 k)
  | 27 => [.side "SPI3_SCLK", .side "SPI3_MOSI", .side "SPI3_MISO"]
  | 28 => (List.range 8).map (fun k => .chipSelect 3 k)
  | y => if 29 ≤ y then (List.range 8).map (fun k => .gpio (8 * (y - 29) + k)) else []

/-- The rail of a column of rows G17 to G32 of the power field (Table 18.4). -/
def railUpper (x : Nat) : Rail :=
  if x ≤ 20 then .vddSerdes else if x ≤ 23 then .vddhSerdes else if x ≤ 29 then .vddHbm else if x ≤ 33 then .vddqHbm
  else if x = 34 then .vppHbm else if x ≤ 39 then .vddUcie else if x ≤ 41 then .vddio else if x ≤ 44 then .vinAon else .vinCore

/-- The rail of a column of rows G33 to G60 (Table 18.4). -/
def railLower (x : Nat) : Rail :=
  if x ≤ 8 then .vddSerdes else if x ≤ 10 then .vddhSerdes else if x ≤ 15 then .vddHbm else if x ≤ 20 then .vddqHbm
  else if x = 21 then .vppHbm else .vinCore

/-- What the ball in row `y` of the Phour rows, column `x`, carries (R564): `r` is the row from the edge. -/
def phourAt (y x : Nat) : Ball :=
  let r := if y ≤ 16 then y - 1 else 76 - y
  let h := (if y ≤ 16 then 0 else 12) + (x - 3) / 6
  let find (tx : Bool) : Option Ball :=
    match (phourRows tx).findIdx? (fun k => k == r) with
    | some g =>
      let n := 3 * g + (x - 3) % 6 / 2
      if n < 17 then some (.phour h n tx ((x - 3) % 2 == 1)) else none
    | none => none
  if x < 3 ∨ 74 < x then .gnd else ((find true).orElse (fun _ => find false)).getD .gnd

/-- What the ball Gyy.xx carries (R563 to R568). -/
def ballAt (y x : Nat) : Ball :=
  if y ≤ 16 ∨ 61 ≤ y then phourAt y x
  else if y ≤ 32 then
    if x ≤ 8 then
      if y % 2 = 0 then .gnd
      else
        let g := (y - 17) / 2
        .brace (g / 4) (4 * (g % 2) + (x - 1) / 2) (g % 4 < 2) (x % 2 == 0)
    else if 69 ≤ x then (sideRow y).getD (x - 69) .gnd
    else if (y + x) % 2 = 0 then .rail (railUpper x) else .gnd
  else if 61 ≤ x then .host (16 * (y - 33) + (x - 61))
  else if (y + x) % 2 = 0 then .rail (railLower x) else .gnd

/-- The pair REFCLK_SERDES that serves a hub (R575). -/
def refPairOfHub (h : Nat) : Nat := h / 6

/-- The pair that serves a brace link (R575). -/
def refPairOfBrace (b : Nat) : Nat := 3 * b

/-- Is a GPIO ball an input (R574)? -/
def State.gpioInput (s : State) (n : Nat) : Bool := !s.ret.gdir.getLsbD n

/-- Is the transmitter of a link electrically idle: does it send neither frames nor blocks (R574)? -/
def State.txIdle (s : State) (l : Nat) : Bool := s.porst || ((s.port l).phase == 0 && (s.port l).blk.isNone)

/-- What the device drives on a ball. -/
inductive Drive
  | high | low | highZ | electricalIdle
deriving DecidableEq, Repr

/-- Is a bus (I3C 0 to 3, SPI 4 to 7) at rest: neither a subchannel nor the boot ROM is on it? -/
def State.busRests (s : State) (b : Nat) : Bool := (s.busQ b).isEmpty && !(b == 4 && s.rom.isSome)

/-- The state of a ball until firmware or a channel program changes it (R574), and FENCE_N (R526); none where a program drives it or
the ball is no output. -/
def State.ballRest (s : State) : Ball → Option Drive
  | .gpio n => if s.gpioInput n then some .highZ else none
  | .chipSelect k _ => if s.busRests (4 + k) then some .high else none
  | .phour h n true _ => if n < 16 ∧ s.txIdle (4 * h + n / 4) then some .electricalIdle else none
  | .brace l _ true _ => if s.txIdle (96 + l) then some .electricalIdle else none
  | .side name =>
    if name == "FENCE_N" then some (if s.fenceNLow then .low else .highZ)
    else if name == "TDO" then some .highZ
    else match ["SPI0", "SPI1", "SPI2", "SPI3"].findIdx? (fun p => name == p ++ "_SCLK" || name == p ++ "_MOSI"),
        ["I3C0", "I3C1", "I3C2", "I3C3"].findIdx? (fun p => name == p ++ "_SCL" || name == p ++ "_SDA") with
      | some k, _ => if s.busRests (4 + k) then some .low else none
      | none, some k => if s.busRests k then some .highZ else none
      | none, none => none
  | _ => none

/-! ## The TAP (R556) -/

/-- An instruction of the TAP: one that IEEE 1149.1 makes mandatory, IDCODE, or another. -/
inductive TapInstr
  | bypass | sample | preload | extest | idcode | other
deriving DecidableEq, Repr

/-- Does the TAP offer an instruction (R556)? -/
def State.tapOffers (s : State) (i : TapInstr) : Bool := !s.jtagClosed || i != .other

/-- Is the IEEE 1687 network open (R556)? -/
def State.ijtagOpen (s : State) : Bool := !s.jtagClosed

end Sys2Proof.Machine
end

