-- ==== Sys2Proof/Laws/Package.lean ====
section
/-! SUPPORT. The ball map: every lane's ball carries that lane, and the groups have the sizes of Table 18.2. -/

namespace Sys2Proof.Machine

/-- The ball that R564 gives a Phour lane carries it. -/
theorem ballAt_phourBall : ∀ h < 24, ∀ n < 17, ∀ tx neg : Bool,
    ballAt (phourBall h n tx neg).1 (phourBall h n tx neg).2 = .phour h n tx neg := by
  decide +kernel

/-- The ball that R565 gives a brace lane carries it. -/
theorem ballAt_braceBall : ∀ b < 2, ∀ l < 8, ∀ tx neg : Bool,
    ballAt (braceBall b l tx neg).1 (braceBall b l tx neg).2 = .brace b l tx neg := by
  decide +kernel

/-- The group of a ball: its row in Table 18.2. -/
def Ball.group : Ball → Nat
  | .phour h _ _ _ => if h < 12 then 0 else 1
  | .brace _ _ _ _ => 2
  | .side _ | .chipSelect _ _ | .gpio _ => 3
  | .host _ => 4
  | .rail _ => 5
  | .gnd => 6

/-- Balls of a group in the grid. -/
def groupSize (g : Nat) : Nat :=
  ((List.range 76).map (fun y => ((List.range 76).filter (fun x => (ballAt (y + 1) (x + 1)).group == g)).length)).sum

/-- The sizes of the groups (Table 18.2). -/
theorem group_sizes : (List.range 7).map groupSize = [816, 816, 64, 107, 448, 1320, 2205] := by
  decide +kernel

end Sys2Proof.Machine
end

