-- ==== Sys2Proof/Laws/Shepherd.lean ====
section
/-! SUPPORT. A Shepherd row executes the instruction that its core has fetched, and the two shared bodies complete. -/

namespace Sys2Proof.Machine

/-- A scalar instruction keeps the opcode and the size of its first byte. -/
theorem scalar_op {op sz : Nat} {r : List Byte} {i : SIns} (h : decodeScalar op sz r = .ins i) : i.op = op ∧ i.sz = sz := by
  unfold decodeScalar at h
  split at h
  · cases h
  · simp only [] at h
    split at h
    · cases h
    · split at h
      · cases h
      · split at h
        · cases h
        · split at h
          · cases h; exact ⟨rfl, rfl⟩
          · cases h

/-- A Hatch instruction: its function code and its kinds. -/
theorem hatch_op {sz : Nat} {r : List Byte} {i : SIns} (h : decodeHatch sz r = .ins i) :
    i.op = 0x3E ∧ i.sz = sz ∧ ∃ f l, r = f :: l ∧ i.fn = f.toNat ∧ (hatchKinds f.toNat (2 ^ sz)).isSome := by
  unfold decodeHatch at h
  split at h
  · cases h
  · rename_i f l
    split at h
    · cases h
    · rename_i ks hk
      split at h
      · cases h
      · split at h
        · cases h
        · split at h
          · cases h; exact ⟨rfl, rfl, f, l, rfl, rfl, by simp [hk]⟩
          · cases h

/-- A scalar instruction has roles for its operands. -/
theorem scalar_fn {op sz : Nat} {r : List Byte} {i : SIns} (h : decodeScalar op sz r = .ins i) :
    (shRoles op (2 ^ sz)).isSome := by
  unfold decodeScalar at h
  split at h
  · cases h
  · simp_all

/-- The first bytes of a decoded instruction. -/
theorem decode_op {bs : List Byte} {i : SIns} (h : decodeShep bs = .ins i) :
    ∃ b r, bs = b :: r ∧ i.op = b.toNat / 4 ∧ i.sz = b.toNat % 4 ∧
      (i.op = 0 ∨ i.op = 0x3E → i.fn = (r.head?.getD 0).toNat) ∧ (i.op = 0 → i.fn ≤ 7 ∧ b.toNat = 0) ∧
      (i.op = 0x3E → (hatchKinds i.fn i.n).isSome) ∧ (i.op ≠ 0 → i.op ≠ 0x3E → (shRoles i.op i.n).isSome) := by
  cases bs with
  | nil => cases h
  | cons b r =>
    refine ⟨b, r, rfl, ?_⟩
    simp only [decodeShep] at h
    split at h
    · rename_i h0
      split at h
      · cases h
      · rename_i hz
        split at h
        · cases h
        · split at h
          · cases h
            refine ⟨by simp; omega, by simp; omega, by simp, ?_, by simp, by simp⟩
            intro _; refine ⟨by assumption, by omega⟩
          · cases h
    · split at h
      · obtain ⟨h1, h2, f, l, rfl, h4, h5⟩ := hatch_op h
        refine ⟨by omega, h2, by simp [h4], by omega, ?_, by omega⟩
        intro _; simpa [h4, SIns.n, h2] using h5
      · obtain ⟨h1, h2⟩ := scalar_op h
        refine ⟨h1, h2, by omega, by omega, by omega, fun _ _ => ?_⟩
        have := scalar_fn h
        simpa [h1, h2, SIns.n] using this

/-- A row executes a fetched instruction that is its own. -/
theorem shRun_fetched {s : State} {c : Nat} {i : SIns} {bs : List Byte} (h : s.Fetched c i bs) {row : Nat → Nat → Bool} {lost : Bool}
    {body : SIns → SM Unit} (hr : ∀ b r, bs = b :: r → row b.toNat (r.head?.getD 0).toNat = true) :
    s.shRun c row lost body = (s.seen c).shExec c (i.at_ bs) bs body := by
  obtain ⟨b, r, rfl, h1, h2, h3, h4, h5, h6⟩ := decode_op h.dec
  have hr' := hr b r rfl
  have hh : ¬ (b.toNat / 4 = 0x3E ∧ (!(s.core c).hatch) = true) := by
    rintro ⟨x, y⟩; have := h.hatch (by omega); simp_all
  unfold State.shRun
  simp only [h.ready, h.calm, h.wakes, h.bytes, h.dec, h.sel, h.mode, hr', hh, Bool.not_true, Bool.false_eq_true, if_false, Bool.false_and]
  rfl

/-- A row over a range of opcodes. -/
theorem shOp_fetched {s : State} {c lo hi : Nat} {i : SIns} {bs : List Byte} (h : s.Fetched c i bs) {body : SIns → SM Unit}
    (h1 : lo ≤ i.op) (h2 : i.op ≤ hi) : s.shOp c lo hi body = (s.seen c).shExec c (i.at_ bs) bs body := by
  refine shRun_fetched h (fun b r hb => ?_)
  obtain ⟨b', r', hb', e, _⟩ := decode_op h.dec
  rw [hb] at hb'; cases hb'
  simp [rowOps]; omega

/-- The opcode stays. -/
theorem at_op (i : SIns) (bs) : (i.at_ bs).op = i.op := rfl

/-- The size stays. -/
theorem at_n (i : SIns) (bs) : (i.at_ bs).n = i.n := rfl

/-- The size code stays. -/
theorem at_sz (i : SIns) (bs) : (i.at_ bs).sz = i.sz := rfl

/-- The operands stay. -/
theorem at_opd (i : SIns) (bs k) : (i.at_ bs).opd k = i.opd k := rfl

/-- The length stays. -/
theorem at_len (i : SIns) (bs) : (i.at_ bs).len = i.len := rfl

/-- The function code stays. -/
theorem at_fn (i : SIns) (bs) : (i.at_ bs).fn = i.fn := rfl

/-- An instruction whose body completes. -/
theorem shExec_ok {s : State} {c : Nat} {i : SIns} {bs : List Byte} {body : SIns → SM Unit} {cx : Cx} {hatch : Bool}
    (h : body (i.at_ bs) (s.start c i) = .ok ((), cx)) (hh : (i.op == 0x3E) = hatch) :
    (s.seen c).shExec c (i.at_ bs) bs body = cx.commit c hatch := by
  subst hh
  unfold State.shExec
  have e : ({ s := s.seen c, x := (s.seen c).core c, k := 0, npc := (((s.seen c).core c).pc.toNat + (i.at_ bs).len) % 2 ^ 48, post := [] } : Cx) = s.start c i := rfl
  simp only [e, h]
  rfl

/-- A scalar instruction whose body completes, as the command ends. -/
theorem sh_ends {s : State} {c lo hi : Nat} {i : SIns} {bs : List Byte} (h : s.Fetched c i bs) {body : SIns → SM Unit} {cx : Cx}
    (h1 : lo ≤ i.op) (h2 : i.op ≤ hi) (h3 : i.op ≠ 0x3E) (hb : body (i.at_ bs) (s.start c i) = .ok ((), cx)) :
    done (s.shOp c lo hi body) = cx.ends c := by
  rw [shOp_fetched h h1 h2, shExec_ok hb (hatch := false) (by simpa using h3)]; rfl

/-- Writing a result and its flags is giving them. -/
theorem put_give {c n : Nat} {d : Loc} {p : Word} {r : Nat} {cx : Cx} :
    SM.put c n d r (cx.flags p) = .ok ((), cx.give c n d p r) := by
  cases d <;> rfl

/-- The shared body of two operands and one result. -/
theorem binary_ok {s : State} {c : Nat} {i : SIns} {bs : List Byte} {g} {a b : Nat} {d : Loc} {cx : Cx}
    (h : s.Binary c i.n i.n i.n i a b d cx) :
    binary c g (i.at_ bs) (s.start c i) = .ok ((), cx.give c i.n d (g (i.at_ bs) cx.x.psw a b).2 (g (i.at_ bs) cx.x.psw a b).1) := by
  obtain ⟨cx1, cx2, h1, h2, h3⟩ := h
  unfold binary
  simp only [at_n, at_opd, bind, StateT.bind, Except.bind, h1, h2, h3, SM.core, SM.flags, SM.upd]
  exact put_give

/-- The shared body of one operand and one result. -/
theorem unary_ok {s : State} {c m k : Nat} {i : SIns} {bs : List Byte} {g} {a : Nat} {d : Loc} {cx : Cx}
    (h : s.Unary c m k i a d cx) :
    unary c m k g (i.at_ bs) (s.start c i) = .ok ((), cx.give c k d (g (i.at_ bs) cx.x.psw a).2 (g (i.at_ bs) cx.x.psw a).1) := by
  obtain ⟨cx1, h1, h3⟩ := h
  unfold unary
  simp only [at_opd, bind, StateT.bind, Except.bind, h1, h3, SM.core, SM.flags, SM.upd]
  exact put_give

/-- A changed core reads as the change of it. -/
@[simp] theorem State.core_updCore (s : State) (c : Nat) (g : Shep → Shep) : (s.updCore c g).core c = g (s.core c) := by
  simp [State.updCore, State.core]

/-- Setting STATE of a core sets it. -/
@[simp] theorem State.setSt_st (s : State) (c v : Nat) : ((s.setSt c v).core c).st = v := by
  simp only [State.setSt, State.wdSync, State.core_updCore]
  repeat' split
  all_goals rfl

/-- An instruction that waits outside the running state leaves the core as the wait says. -/
theorem shExec_wait {s : State} {c : Nat} {i : SIns} {bs : List Byte} {body : SIns → SM Unit} {t : State}
    (hb : body (i.at_ bs) (s.start c i) = .error (.wait t)) (ht : (t.core c).st ≠ 1) :
    (s.seen c).shExec c (i.at_ bs) bs body = t := by
  unfold State.shExec
  have e : ({ s := s.seen c, x := (s.seen c).core c, k := 0, npc := (((s.seen c).core c).pc.toNat + (i.at_ bs).len) % 2 ^ 48, post := [] } : Cx) = s.start c i := rfl
  simp only [e, hb, if_neg ht]

end Sys2Proof.Machine
end

