-- ==== Sys2Proof/WellFormed.lean ====
section
/-! DEFINITION. Well-formed commands: each operand that names a unit, a page, a pin or a place lies in the range that the spec
gives it. The machine is total on the others: a command for a unit that the device does not have changes nothing. -/

namespace Sys2Proof

/-- Is a number the control-window offset of a page (Table 17.10)? -/
def pageIs (page : Nat) : Bool := page % 0x1000 == 0 && (Machine.pageOf page).isSome

/-- Is a command well-formed? -/
def Instr.wf (i : Instr) : Bool :=
  match i with
  | .powerOnReset => true
  | .porstNRelease _ => true
  | .glbRst _ => true
  | .functionReset page _ => decide (pageIs page)
  | .functionResetDone page => decide (pageIs page)
  | .tileFunctionReset tile _ => decide (tile < 128)
  | .hubFunctionReset hub _ => decide (hub < 24)
  | .portFunctionReset port _ => decide (port < 96)
  | .retFunctionReset n _ => decide (n < 64)
  | .shepFunctionReset core _ => decide (core < 16)
  | .dmaFunctionReset ch _ => decide (ch < 32)
  | .kenFunctionReset _ => true
  | .kenRingPageReset page _ => decide ((1 ≤ page ∧ page ≤ 8))
  | .barkFunctionReset _ => true
  | .hbmcFunctionReset u _ => decide (u < 5)
  | .ledgFunctionReset _ => true
  | .functionLevelReset => true
  | .registerWrite _ _ => true
  | .readClear _ _ => true
  | .tokenEnterTile tile src => decide (tile < 128 ∧ src < 160)
  | .spillDelayExpire tile pe => decide (tile < 128 ∧ pe < 4)
  | .queueChainRefill tile pe => decide (tile < 128 ∧ pe < 4)
  | .tokenMatch tile pe _ r => decide (tile < 128 ∧ pe < 4) && r.sums.all (fun i => decide (i < 4096))
  | .flush tile pe => decide (tile < 128 ∧ pe < 4)
  | .flushAll tile pe => decide (tile < 128 ∧ pe < 4)
  | .gateOpen tile pe => decide (tile < 128 ∧ pe < 4)
  | .gateClose tile pe => decide (tile < 128 ∧ pe < 4)
  | .spillAccessComplete tile _ => decide (tile < 128)
  | .spillBucketGrant tile => decide (tile < 128)
  | .fabricStall tile => decide (tile < 128)
  | .conflictWindowEnd tile => decide (tile < 128)
  | .forceRot tile _ => decide (tile < 128)
  | .sweepMove a => decide (a.tile < 128) && a.read.sums.all (fun i => decide (i < 4096))
  | .sweepComplete tile => decide (tile < 128)
  | .msScrub tile _ idx way _ _ => decide (tile < 128 ∧ idx < 4096 ∧ way < 8)
  | .tileLoadGo tile _ => decide (tile < 128)
  | .tileLoadEntry tile _ => decide (tile < 128)
  | .tileMsSpillWrite tile _ => decide (tile < 128)
  | .spillReady tile => decide (tile < 128)
  | .tileFence tile _ => decide (tile < 128)
  | .excPop tile _ => decide (tile < 128)
  | .copy tile pe => decide (tile < 128 ∧ pe < 4)
  | .merge tile pe => decide (tile < 128 ∧ pe < 4)
  | .const tile pe => decide (tile < 128 ∧ pe < 4)
  | .retype tile pe => decide (tile < 128 ∧ pe < 4)
  | .ctrlgen tile pe => decide (tile < 128 ∧ pe < 4)
  | .steer tile pe => decide (tile < 128 ∧ pe < 4)
  | .sink tile pe => decide (tile < 128 ∧ pe < 4)
  | .addSub tile pe => decide (tile < 128 ∧ pe < 4)
  | .mul tile pe => decide (tile < 128 ∧ pe < 4)
  | .mulhsMulhu tile pe => decide (tile < 128 ∧ pe < 4)
  | .divsDivuRemsRemu tile pe => decide (tile < 128 ∧ pe < 4)
  | .negAbs tile pe => decide (tile < 128 ∧ pe < 4)
  | .minsMaxsMinuMaxu tile pe => decide (tile < 128 ∧ pe < 4)
  | .andOrXorAndn tile pe => decide (tile < 128 ∧ pe < 4)
  | .not tile pe => decide (tile < 128 ∧ pe < 4)
  | .shlShrSarRolRor tile pe => decide (tile < 128 ∧ pe < 4)
  | .clzPopc tile pe => decide (tile < 128 ∧ pe < 4)
  | .bfext tile pe => decide (tile < 128 ∧ pe < 4)
  | .bfins tile pe => decide (tile < 128 ∧ pe < 4)
  | .faddFsubFmul tile pe => decide (tile < 128 ∧ pe < 4)
  | .fdiv tile pe => decide (tile < 128 ∧ pe < 4)
  | .fsqrt tile pe => decide (tile < 128 ∧ pe < 4)
  | .fminFmax tile pe => decide (tile < 128 ∧ pe < 4)
  | .fnegFabs tile pe => decide (tile < 128 ∧ pe < 4)
  | .fcvtIf tile pe => decide (tile < 128 ∧ pe < 4)
  | .fcvtFi tile pe => decide (tile < 128 ∧ pe < 4)
  | .fcvtDs tile pe => decide (tile < 128 ∧ pe < 4)
  | .fcvtSd tile pe => decide (tile < 128 ∧ pe < 4)
  | .daddDsub tile pe => decide (tile < 128 ∧ pe < 4)
  | .cmpeqCmpneCmpltCmple tile pe => decide (tile < 128 ∧ pe < 4)
  | .fcmpeqFcmpltFcmpleFcmpun tile pe => decide (tile < 128 ∧ pe < 4)
  | .iterGet tile pe => decide (tile < 128 ∧ pe < 4)
  | .tagGet tile pe => decide (tile < 128 ∧ pe < 4)
  | .loopHead tile pe => decide (tile < 128 ∧ pe < 4)
  | .loopTail tile pe => decide (tile < 128 ∧ pe < 4)
  | .ctx tile pe => decide (tile < 128 ∧ pe < 4)
  | .ctxQueueGrant => true
  | .free tile pe => decide (tile < 128 ∧ pe < 4)
  | .teardownComplete cx => decide (cx < 65536)
  | .ctxGetParentGet tile pe => decide (tile < 128 ∧ pe < 4)
  | .ifetch tile pe => decide (tile < 128 ∧ pe < 4)
  | .istore tile pe => decide (tile < 128 ∧ pe < 4)
  | .load tile pe => decide (tile < 128 ∧ pe < 4)
  | .store tile pe => decide (tile < 128 ∧ pe < 4)
  | .emit tile pe => decide (tile < 128 ∧ pe < 4)
  | .emitCreditReturn tile stream => decide (tile < 128 ∧ stream < 24)
  | .time tile pe => decide (tile < 128 ∧ pe < 4)
  | .twait tile pe => decide (tile < 128 ∧ pe < 4)
  | .twaitRelease tile => decide (tile < 128)
  | .send tile pe => decide (tile < 128 ∧ pe < 4)
  | .event tile pe => decide (tile < 128 ∧ pe < 4)
  | .reduceAccumulate tile pe => decide (tile < 128 ∧ pe < 4)
  | .iFetchRequest unit _ _ => decide (unit < 4)
  | .iStoreRequest unit _ _ => decide (unit < 4)
  | .deadlockDetect cx => decide (cx < 65536)
  | .glbQmAbort _ => true
  | .qmRecordPost => true
  | .streamRun hub _ => decide (hub < 24)
  | .streamStop hub _ => decide (hub < 24)
  | .emitWordArrive hub tile => decide (hub < 24 ∧ tile < 128)
  | .ingressPlace hub => decide (hub < 24)
  | .storedLineReturn hub _ => decide (hub < 24)
  | .scrambleWrite port _ => decide (port < 96)
  | .downstreamBlockTime link => decide (link < 98)
  | .creditDeadline port => decide (port < 96)
  | .credit port _ _ => decide (port < 96)
  | .sync port _ => decide (port < 96)
  | .failRecord port _ => decide (port < 96)
  | .summaryRecord port _ => decide (port < 96)
  | .endCaptureRecord port _ => decide (port < 96)
  | .failIn port => decide (port < 96)
  | .portFailCtlWrite port _ => decide (port < 96)
  | .sbRsp port _ _ _ => decide (port < 96)
  | .sidebandTimeout port tag => decide (port < 96 ∧ tag < 32)
  | .sbTagRelease port tag => decide (port < 96 ∧ tag < 32)
  | .resume port _ _ _ => decide (port < 96)
  | .linkid port _ _ _ _ => decide (port < 96)
  | .lanemapAck hub _ => decide (hub < 24)
  | .upstreamInvalidBlock link _ _ => decide (link < 98)
  | .upstreamUncorrectable c => decide (c.link < 98)
  | .heartbeatLoss link => decide (link < 98)
  | .linkEnable port _ => decide (port < 96)
  | .retrain port _ => decide (port < 96)
  | .trainingFrame link lane _ => decide (link < 98 ∧ lane < 8)
  | .trainingTimeout link => decide (link < 98)
  | .spareLockTimeout port lane => decide (port < 96 ∧ lane < 4)
  | .spareGo hub _ => decide (hub < 24)
  | .lanemapAckTimeout hub => decide (hub < 24)
  | .laneSwap hub => decide (hub < 24)
  | .switchSend port _ => decide (port < 96)
  | .retRun n _ => decide (n < 64)
  | .retStartDoorbell n _ => decide (n < 64)
  | .startEntryTake n => decide (n < 64)
  | .ccwFetch n => decide (n < 64)
  | .ccwWrite n => decide (n < 64)
  | .ccwRead n => decide (n < 64)
  | .ccwControl n => decide (n < 64)
  | .ccwSense n => decide (n < 64)
  | .ccwJump n => decide (n < 64)
  | .ccwWaitEvent n => decide (n < 64)
  | .ccwWaitTime n => decide (n < 64)
  | .ccwSkipIf n => decide (n < 64)
  | .ccwPost n => decide (n < 64)
  | .ccwNop n => decide (n < 64)
  | .gpioOutSet n => decide (n < 64)
  | .gpioOutClr n => decide (n < 64)
  | .gpioOutToggle n => decide (n < 64)
  | .gpioDirOut n => decide (n < 64)
  | .gpioDirIn n => decide (n < 64)
  | .gpioArm n => decide (n < 64)
  | .gpioDisarm n => decide (n < 64)
  | .gpioCapture n => decide (n < 64)
  | .busTransferComplete n _ => decide (n ≤ 64)
  | .waitEventTimeout n => decide (n < 64)
  | .waitTimeExpire n => decide (n < 64)
  | .gpioEdge pin _ => decide (pin < 32)
  | .i3cIbi bus _ _ => decide (bus < 4)
  | .retResume n _ => decide (n < 64)
  | .remoteTimeout n => decide (n < 64)
  | .emergArm _ => true
  | .stashDrain _ => true
  | .ringConsumerWrite _ _ => true
  | .ringConfigWrite _ _ => true
  | .shMov core => decide (core < 16)
  | .shMovzMovs core => decide (core < 16)
  | .shLea core => decide (core < 16)
  | .shAddSub core => decide (core < 16)
  | .shAdcSbc core => decide (core < 16)
  | .shMul core => decide (core < 16)
  | .shMulhsMulhu core => decide (core < 16)
  | .shDivsDivuRemsRemu core => decide (core < 16)
  | .shNeg core => decide (core < 16)
  | .shAndOrXorAndn core => decide (core < 16)
  | .shNot core => decide (core < 16)
  | .shShlShrSarRolRor core => decide (core < 16)
  | .shCmp core => decide (core < 16)
  | .shTst core => decide (core < 16)
  | .shClzPopc core => decide (core < 16)
  | .shBfext core => decide (core < 16)
  | .shBfins core => decide (core < 16)
  | .shBperm core => decide (core < 16)
  | .shBcc core => decide (core < 16)
  | .shCall core => decide (core < 16)
  | .shSignal core => decide (core < 16)
  | .shWaitt core => decide (core < 16)
  | .waittExpire core => decide (core < 16)
  | .shTrap core => decide (core < 16)
  | .shMovsr core => decide (core < 16)
  | .shMovrs core => decide (core < 16)
  | .shCas core => decide (core < 16)
  | .shFaddFsubFmulFdiv core => decide (core < 16)
  | .shFsqrt core => decide (core < 16)
  | .shFminFmax core => decide (core < 16)
  | .shFcmp core => decide (core < 16)
  | .shFcvtif core => decide (core < 16)
  | .shFcvtfi core => decide (core < 16)
  | .shFcvtff core => decide (core < 16)
  | .shDaddDsub core => decide (core < 16)
  | .sysNop core => decide (core < 16)
  | .sysRet core => decide (core < 16)
  | .sysRte core => decide (core < 16)
  | .sysWaitsig core => decide (core < 16)
  | .sysFence core => decide (core < 16)
  | .sysIcinv core => decide (core < 16)
  | .sysBrk core => decide (core < 16)
  | .sysStop core => decide (core < 16)
  | .watchdogExpiry core => decide (core < 16)
  | .wdogConfigWrite core _ => decide (core < 16)
  | .coreStart core _ => decide (core < 16)
  | .setvl core => decide (core < 16)
  | .vld core => decide (core < 16)
  | .vst core => decide (core < 16)
  | .vgather core => decide (core < 16)
  | .vscatter core => decide (core < 16)
  | .vbcast core => decide (core < 16)
  | .vget core => decide (core < 16)
  | .vset core => decide (core < 16)
  | .hfiget core => decide (core < 16)
  | .hfiset core => decide (core < 16)
  | .vaddVsubVmul core => decide (core < 16)
  | .vaddssVsubss core => decide (core < 16)
  | .vaddsuVsubsu core => decide (core < 16)
  | .vmulhrs core => decide (core < 16)
  | .vrshr core => decide (core < 16)
  | .vshl core => decide (core < 16)
  | .vminsVmaxsVminuVmaxu core => decide (core < 16)
  | .vandVorVxor core => decide (core < 16)
  | .vcmpeqVcmpltVcmpltu core => decide (core < 16)
  | .vfaddVfsubVfmul core => decide (core < 16)
  | .vfminVfmax core => decide (core < 16)
  | .hatchWake core => decide (core < 16)
  | .hatchPowerDown core => decide (core < 16)
  | .kenRingDoorbell ring _ => decide (ring < 256)
  | .kenRingConfig ring _ => decide (ring < 256)
  | .itemFetch ring => decide (ring < 256)
  | .delayExpire => true
  | .dispatch core => decide (core < 16)
  | .cdoneDone _ => true
  | .cdoneYield _ => true
  | .thrCreate _ => true
  | .thrExit _ => true
  | .thrSwitch _ => true
  | .thrBlockEvent _ => true
  | .thrBlockTime _ => true
  | .thrWake _ => true
  | .threadWakeTime t => decide (t < 256)
  | .threadSliceExpire core => decide (core < 16)
  | .eventLinePulse line => decide (line < 64)
  | .interruptEntry core => decide (core < 16)
  | .barkSwset _ => true
  | .barkDiscard src _ => decide (src < 2048)
  | .semTake _ => true
  | .semTry _ => true
  | .semGive _ => true
  | .semPeek _ => true
  | .semPlainStore _ => true
  | .leashExpiry unit => decide (unit < 5)
  | .resetNotice _ => true
  | .dmaDoorbell ch _ => decide (ch < 32)
  | .dmaDescriptorBegin ch => decide (ch < 32)
  | .dmaCopy ch => decide (ch < 32)
  | .dmaFill ch => decide (ch < 32)
  | .dmaProof ch => decide (ch < 32)
  | .dmaComplete ch => decide (ch < 32)
  | .dmaDisable ch _ => decide (ch < 32)
  | .memRead8 _ _ => true
  | .memRead64 _ _ => true
  | .memWrite8 _ _ => true
  | .memWrite64 _ line => decide (line.length = 64)
  | .memCas _ _ _ => true
  | .postedWrite _ line => decide ((line.map List.length).getD 64 = 64)
  | .meshResponse node txid _ _ => decide (node < 160 ∧ txid < 4096)
  | .routerForward node port vn => decide (node < 160 ∧ port < 5 ∧ vn < 5)
  | .niRequestTimeout node txid => decide (node < 160 ∧ txid < 4096)
  | .niIsolate node _ => decide (node < 160)
  | .routeTableWrite node _ => decide (node < 160)
  | .routerPortEnableWrite node _ => decide (node < 160)
  | .routeFenceGo _ => true
  | .routeFenceDone => true
  | .hbmScrub u line _ => decide (u < 4 ∧ line < 377749504)
  | .sramScrub _ _ => true
  | .retireAdd u _ => decide (u < 4)
  | .retireCopyLine u _ => decide (u < 4)
  | .trackerAgeExpire u page => decide (u < 4 ∧ page < 5898240)
  | .hbmOvertemp u => decide (u < 4)
  | .domainTargetWrite d _ => decide (d < 176)
  | .domainDrainDone d => decide (d < 176)
  | .domainPowerOffDone d => decide (d < 176)
  | .domainWakeDone d => decide (d < 176)
  | .governorInterval _ => true
  | .packSyncEdge => true
  | .refLoss => true
  | .timeLock => true
  | .gaugeSample g _ => decide (g < 256)
  | .gaugeCfgWrite g _ => decide (g < 256)
  | .gaugeSnap _ => true
  | .railExcursion => true
  | .brownOut => true
  | .bsync link _ => decide (link < 98)
  | .nak link _ => decide (link < 98)
  | .token link _ _ hops => decide (link < 98 ∧ hops < 16)
  | .arrive link _ bar _ => decide (link < 98 ∧ bar < 16)
  | .release link _ bar _ _ => decide (link < 98 ∧ bar < 16)
  | .cfg link _ _ _ _ => decide (link < 98)
  | .cfgAck link _ _ _ => decide (link < 98)
  | .msg link _ src dst hops item => decide (link < 98 ∧ src < 1024 ∧ dst < 1024 ∧ hops < 16 ∧ item.length = 4)
  | .msgAck link _ src dst hops _ => decide (link < 98 ∧ src < 1024 ∧ dst < 1024 ∧ hops < 16)
  | .rstart link _ src dst hops subch entry => decide (link < 98 ∧ src < 1024 ∧ dst < 1024 ∧ hops < 16 ∧ subch < 64 ∧ entry.length = 2)
  | .rstartAck link _ src dst hops subch _ => decide (link < 98 ∧ src < 1024 ∧ dst < 1024 ∧ hops < 16 ∧ subch < 64)
  | .leadhb link _ _ _ => decide (link < 98)
  | .leadhbInterval => true
  | .deputyTakeover => true
  | .bamiorLinkid link _ _ => decide (link < 98)
  | .bcastGo _ => true
  | .barrierArrive bar _ => decide (bar < 16)
  | .barrierReleaseTime bar => decide (bar < 16)
  | .packMsgGo _ => true
  | .hb link _ _ => decide (link < 98)
  | .hbInterval => true
  | .hbLoss => true
  | .replay link _ _ => decide (link < 98)
  | .mirror link _ _ _ line => decide (link < 98 ∧ line.length = 64)
  | .unitres link _ _ => decide (link < 98)
  | .digest link _ _ => decide (link < 98)
  | .epochBoundary => true
  | .fence link _ => decide (link < 98)
  | .swap link _ _ => decide (link < 98)
  | .syncDone link _ => decide (link < 98)
  | .braceLinkUp k _ _ _ => decide (k < 2)
  | .brcEnable _ => true
  | .brcTakeover _ => true
  | .brcSwap _ => true
  | .brcDetach _ => true
  | .brcResync _ => true
  | .takeoverDeadline => true
  | .brcSeal _ => true
  | .reactionTimerExpire page => decide (pageIs page)
  | .faultAck page _ => decide (pageIs page)
  | .errEnWrite page _ => decide (pageIs page)
  | .levelRaise page _ => decide (pageIs page)
  | .injectArm page _ => decide (pageIs page)
  | .injectForce page _ => decide (pageIs page)
  | .ledgerDrain => true
  | .ledgRingWrite _ => true
  | .ledgConsWrite _ => true
  | .hostWrite bar _ _ => decide (bar < 6)
  | .hostRead bar _ _ => decide (bar < 6)
  | .h2dPost _ => true
  | .h2dDone _ => true
  | .d2hPost _ => true
  | .d2hDone _ => true
  | .romLoad => true
  | .romProgramKey => true
  | .romRevokeKey => true
  | .romSetSvn => true
  | .hostLinkTrain _ _ r => decide (r.failed ≤ 6) && decide (r.repaired < 2 ^ 16)
  | .l1Entry => true
  | .l1Exit => true
  | .msixUnmask vec => decide (vec < 2048)
  | .hbmStackTrained u => decide (u < 4)
  | .referenceReturn => true
  | .brownOutRelease => true
  | .hostConfigWrite _ _ _ _ => true
  | .hostCompletion txid _ _ => decide (txid < 4096)

end Sys2Proof
end

