-- ==== Sys2Proof/Tests/Slice0.lean ====
section
/-! SUPPORT. Tests: for each statement with hypotheses a state and operands that meet them (witness_…), the spec's worked
examples (test_worked_…), and ill-formed commands that the check refuses (test_wellformed_…). -/

section

set_option Elab.async false
open Sys2Proof Sys2Proof.Machine

/-! ## Helpers -/

/-- The device out of power-on reset, nothing else done. -/
def Tst.up : State := { State.reset with porst := false }

/-- A node slot: opcode, match mode, immediate, flags, destinations. -/
def Tst.slot (op mode imm flags d0 d1 : Nat) : BitVec 128 :=
  BitVec.ofNat 128 (op * 2 ^ 116 + mode * 2 ^ 112 + flags * 2 ^ 104 + d0 * 2 ^ 64 + d1 * 2 ^ 24 + imm)

/-- A token of TYPE `ty` and value `v` for destination `d` under tag `g`. -/
def Tst.tok (ty v d g : Nat) : Token := ⟨BitVec.ofNat 40 d, BitVec.ofNat 48 g, BitVec.ofNat 64 v, BitVec.ofNat 8 (16 * ty)⟩

/-- A firing of `op` with both operands of TYPE `ty` and values `v` and `w`. -/
def Tst.fr (op ty v w imm flags : Nat) : Firing :=
  ⟨Tst.tok ty v 0 0, some (BitVec.ofNat 64 w, BitVec.ofNat 8 (16 * ty)), Tst.slot op 1 imm flags 0 0, false, false, false⟩

/-- A state with a firing in stage 4 of PE 0 of tile 0. -/
def Tst.at4 (s : State) (f : Firing) : State := s.updPe 0 0 (fun e => { e with ex := f :: e.ex })

/-- The conditions of a firing as one conjunction. -/
theorem Tst.fires_iff {s : State} {t p : Nat} {f : Firing} : s.Fires t p f ↔
    s.porst = false ∧ t < 128 ∧ p < 4 ∧ ((s.tile t).pe p).ex.head? = some f ∧ f.typeOk = true :=
  ⟨fun h => ⟨h.porst, h.tile, h.pe, h.head, h.types⟩, fun ⟨a, b, c, d, e⟩ => ⟨a, b, c, d, e⟩⟩

/-! ## Witnesses: firings -/

theorem witness_PeMovesComplete :
    (∀ e ∈ [(1, 0), (2, 0), (3, 0), (5, 0), (7, 0)], let f := Tst.fr e.1 e.2 5 7 0 0;
      (Tst.at4 Tst.up f).Fires 0 0 f ∧ sOp f.slot = e.1) ∧
    (∀ imm ∈ [0, 8], let f := Tst.fr 4 0 5 7 imm 0;
      (Tst.at4 Tst.up f).Fires 0 0 f ∧ sOp f.slot = 4 ∧ sImm f.slot % 16 ≤ 8) ∧
    (∀ imm ∈ [9, 15], let f := Tst.fr 4 0 5 7 imm 0;
      (Tst.at4 Tst.up f).Fires 0 0 f ∧ sOp f.slot = 4 ∧ 8 < sImm f.slot % 16) ∧
    (∀ y ∈ [0, 1], ∀ fl ∈ [0, 4], let f := Tst.fr 6 0 5 y 0 fl;
      (Tst.at4 Tst.up f).Fires 0 0 f ∧ sOp f.slot = 6 ∧ f.yPoison = false ∧ (f.yv = 0 ↔ y = 0) ∧ (sFlag f.slot 2 = true ↔ fl = 4)) ∧
    (let f := { Tst.fr 6 0 5 7 0 0 with y := some (0, 0x08) };
      (Tst.at4 Tst.up f).Fires 0 0 f ∧ sOp f.slot = 6 ∧ f.yPoison = true) := by
  simp only [Tst.fires_iff]; decide +kernel

theorem witness_PeIntegersComplete :
    ∀ op ∈ [0x100, 0x101, 0x102, 0x103, 0x104, 0x105, 0x106, 0x107, 0x108, 0x109, 0x10A, 0x10B, 0x10C, 0x10D, 0x10E, 0x110,
      0x111, 0x112, 0x113, 0x114, 0x115, 0x116, 0x117, 0x118, 0x119, 0x11A, 0x11B, 0x11C, 0x11D],
      let f := Tst.fr op 0 (2 ^ 63) 0 0 0;
      (Tst.at4 Tst.up f).Fires 0 0 f ∧ sOp f.slot = op := by
  simp only [Tst.fires_iff]; decide +kernel

theorem witness_PeFloatsComplete :
    ∀ e ∈ [(0x200, 2), (0x201, 2), (0x202, 3), (0x203, 2), (0x204, 3), (0x205, 2), (0x206, 3), (0x207, 2), (0x208, 3),
      (0x209, 0), (0x20A, 2), (0x20B, 2), (0x20C, 3)],
      let f := Tst.fr e.1 e.2 0 0 0 0;
      (Tst.at4 Tst.up f).Fires 0 0 f ∧ sOp f.slot = e.1 := by
  simp only [Tst.fires_iff]; decide +kernel

theorem witness_PeDecimalAndComparesComplete :
    (∀ op ∈ [0x300, 0x301], let f := Tst.fr op 4 0x1C 0x2D 0 0;
      (Tst.at4 Tst.up f).Fires 0 0 f ∧ sOp f.slot = op ∧ decOk f.x.value.toNat = true ∧ decOk f.yv.toNat = true) ∧
    (∀ op ∈ [0x300, 0x301], let f := Tst.fr op 4 0x1C 0x1 0 0;
      (Tst.at4 Tst.up f).Fires 0 0 f ∧ sOp f.slot = op ∧ (decOk f.x.value.toNat && decOk f.yv.toNat) = false) ∧
    (∀ e ∈ [(0x400, 0), (0x401, 1), (0x402, 5), (0x403, 8), (0x404, 0), (0x405, 0), (0x406, 2), (0x407, 3), (0x408, 2), (0x409, 3)],
      let f := Tst.fr e.1 e.2 0 0 0 4;
      (Tst.at4 Tst.up f).Fires 0 0 f ∧ sOp f.slot = e.1) := by
  simp only [Tst.fires_iff]; decide +kernel

/-! ## Witnesses: matching -/

/-- A state in which context 1 is ACTIVE, the fabric is enabled and PE 0 of tile 0 is about to begin a token at a node
with slot `w`, beside the entries `ms`. -/
def Tst.at1 (w : BitVec 128) (x : Token) (ms : List MsEntry) : State :=
  (((Tst.up.putB (pageAt .glb 0 + R.glbFabric) 0 true).setCtxState 1 1).updPe 0 0 (fun _ =>
    { queue := [{ tok := x }], nodes := [(0, w)] })).updTile 0 (fun y => { y with ms := ms })

/-- The state in which the PE has taken the token. -/
def Tst.at2 (w : BitVec 128) (x : Token) (ms : List MsEntry) : State := (Tst.at1 w x ms).updPe 0 0 PeSt.popHead

/-- The conditions of a token that begins, as one conjunction. -/
theorem Tst.begins_of {s0 : State} {t p : Nat} {q : QItem} {w : BitVec 128}
    (h : let s := s0.updPe t p PeSt.popHead
      s0.porst = false ∧ t < 128 ∧ p < 4 ∧ s0.peReady t p = true ∧ ((s0.tile t).pe p).head = some q ∧
      (q.flt = false ∧ q.again = false) ∧ s0.slotOf t p q = w ∧ s0.spillBusy t p q = false ∧
      s0.ctxState (tCtx q.tok.tag) = 1 ∧
      (w ≠ 0 ∧ sOp w ≠ 0 ∧ sOp w ≠ 0x801 ∧ slotReserved w = false ∧ modeWrong w = false) ∧
      s.f (tp t + R.pgErrInj) 47 32 = 0 ∧ (s.tile t).inflight.any (fun k => k.1 == slotKey w p q.tok) = false ∧
      s.needsSpill t (slotKey w p q.tok) = false) :
    s0.Begins t p q w (s0.updPe t p PeSt.popHead) :=
  let ⟨a, b, c, d, e, f, g, r, i, j, k, l, m⟩ := h
  ⟨a, b, c, d, e, f, g, r, rfl, i, j, k, l, m⟩

/-- A token of context 1 for node 0, right or left. -/
def Tst.tok1 (ty v : Nat) (right : Bool) : Token := Tst.tok ty v (if right then 256 else 0) (2 ^ 32)

/-- An entry for such a token at slot `w`. -/
def Tst.ent (w : BitVec 128) (kind : MsKind) (side : Bool) (count : Nat) : MsEntry :=
  ⟨slotKey w 0 (Tst.tok1 0 0 false), kind, side, false, count, 0, 9, .set 0, [], {}⟩

/-- Conditions that hold of the states in `Tst.at1`. -/
def Tst.starts (w : BitVec 128) (x : Token) (ms : List MsEntry) : Bool :=
  let s0 := Tst.at1 w x ms
  let s := Tst.at2 w x ms
  let q : QItem := { tok := x }
  s0.peReady 0 0 && ((s0.tile 0).pe 0).head == some q && s0.slotOf 0 0 q == w && !s0.spillBusy 0 0 q && s0.ctxState (tCtx x.tag) == 1 &&
  w != 0 && sOp w != 0 && sOp w != 0x801 && !slotReserved w && !modeWrong w && s.f (tp 0 + R.pgErrInj) 47 32 == 0 &&
  !(s.tile 0).inflight.any (fun k => k.1 == slotKey w 0 x) && !s.needsSpill 0 (slotKey w 0 x)

theorem Tst.begins {w : BitVec 128} {x : Token} {ms : List MsEntry} (h : Tst.starts w x ms = true) :
    (Tst.at1 w x ms).Begins 0 0 { tok := x } w (Tst.at2 w x ms) := by
  simp only [Tst.starts, Bool.and_eq_true, Bool.not_eq_true', beq_iff_eq, bne_iff_ne] at h
  obtain ⟨⟨⟨⟨⟨⟨⟨⟨⟨⟨⟨⟨a, b⟩, c⟩, r⟩, d⟩, e⟩, f⟩, g⟩, i⟩, j⟩, k⟩, l⟩, m⟩ := h
  exact Tst.begins_of ⟨rfl, by decide, by decide, a, b, ⟨rfl, rfl⟩, c, r, d, ⟨e, f, g, i, j⟩, k, l, m⟩

/-- Slots of the match modes: MONADIC COPY, DYADIC ADD, STICKY ADD, GATE COPY, REDUCE add. -/
def Tst.wMono : BitVec 128 := Tst.slot 1 0 0 0 0 0
def Tst.wDy : BitVec 128 := Tst.slot 0x100 1 0 0 0 0
def Tst.wSt : BitVec 128 := Tst.slot 0x100 2 0 0 0 0
def Tst.wGate : BitVec 128 := Tst.slot 1 3 0 0 0 0
def Tst.wRed : BitVec 128 := Tst.slot 0x900 5 0 0 0 0

/-- A token that begins at slot `w` and finds the entry `e`. -/
def Tst.finds (w : BitVec 128) (x : Token) (e : MsEntry) : Bool :=
  Tst.starts w x [e] && (((Tst.at2 w x [e]).tile 0).entry (slotKey w 0 x) == some e)

/-- A token that begins at slot `w` and finds none. -/
def Tst.findsNone (w : BitVec 128) (x : Token) : Bool :=
  Tst.starts w x [] && (((Tst.at2 w x []).tile 0).entry (slotKey w 0 x) == none)

theorem witness_MatchingComplete :
    (∀ m ∈ [(Tst.wMono, 0), (Tst.wDy, 1), (Tst.wSt, 2), (Tst.wGate, 3)], sMode m.1 = m.2 ∧
      ∀ r ∈ [true, false], dSide (Tst.tok1 0 5 r).dest = r ∧ Tst.findsNone m.1 (Tst.tok1 0 5 r) = true) ∧
    ctrlCode (Tst.tok1 0 5 true) ≠ some 2 ∧
    (∀ xr ∈ [true, false], ∀ er ∈ [true, false],
      (Tst.ent Tst.wDy .wait er 0).side = er ∧ Tst.finds Tst.wDy (Tst.tok1 0 5 xr) (Tst.ent Tst.wDy .wait er 0) = true) ∧
    Tst.finds Tst.wDy (Tst.tok1 0 5 true) (Tst.ent Tst.wDy .gate true 0) = true ∧
    (∀ r ∈ [true, false], ∀ k ∈ [MsKind.sticky, .pending, .wait],
      Tst.finds Tst.wSt (Tst.tok1 0 5 r) (Tst.ent Tst.wSt k true 0) = true) ∧
    (∀ n ∈ [0, 1, 0xFFFFF], ∀ k ∈ [MsKind.gate, .pending, .sticky],
      (Tst.ent Tst.wGate k true n).count = n ∧ Tst.finds Tst.wGate (Tst.tok1 0 5 false) (Tst.ent Tst.wGate k true n) = true) := by
  and_intros <;> decide +kernel

theorem witness_ReduceAndGateComplete :
    (let x := Tst.tok1 7 2 true; let e := Tst.ent Tst.wRed .reduce false 3; let s := Tst.at2 Tst.wRed x [e];
      Tst.starts Tst.wRed x [e] = true ∧ dSide x.dest = true ∧ ctrlCode x = some 2 ∧ modeReduce (sMode Tst.wRed) = true ∧
      (s.tile 0).entry (slotKey Tst.wRed 0 x) = some e ∧ e.kind = .reduce) ∧
    (let x := Tst.tok1 7 2 true; let e := Tst.ent Tst.wSt .sticky true 0; let s := Tst.at2 Tst.wSt x [e];
      Tst.starts Tst.wSt x [e] = true ∧ dSide x.dest = true ∧ ctrlCode x = some 2 ∧ sMode Tst.wSt = 2 ∧
      (s.tile 0).entry (slotKey Tst.wSt 0 x) = some e ∧ e.kind = .sticky) ∧
    (let x := Tst.tok1 7 3 true;
      Tst.starts Tst.wRed x [] = true ∧ dSide x.dest = true ∧ ctrlCode x = some 3 ∧ modeReduce (sMode Tst.wRed) = true) ∧
    (∀ v ∈ [5, 6, 5 + 2 ^ 32], ∀ k ∈ [MsKind.gate, .pending],
      let x := Tst.tok1 7 v true; let e := Tst.ent Tst.wGate k false 0; let s := Tst.at2 Tst.wGate x [e];
      Tst.starts Tst.wGate x [e] = true ∧ dSide x.dest = true ∧ ctrlCode x = some (v % 2 ^ 16) ∧ sMode Tst.wGate = 3 ∧
      (s.tile 0).entry (slotKey Tst.wGate 0 x) = some e ∧ e.kind = k) ∧
    (let x := Tst.tok1 0 5 false; let e := Tst.ent Tst.wRed .reduce false 3; let s := Tst.at2 Tst.wRed x [e];
      Tst.starts Tst.wRed x [e] = true ∧ dSide x.dest = false ∧ sMode Tst.wRed = 5 ∧
      reduceAccepts (sOp Tst.wRed) (cType x.ctl) = true ∧ (s.tile 0).entry (slotKey Tst.wRed 0 x) = some e ∧ e.kind = .reduce) ∧
    (let x := Tst.tok1 0 5 false; let s := Tst.at2 Tst.wRed x []; let k := slotKey Tst.wRed 0 x;
      let v := reduceFirst (sOp Tst.wRed) x.value (cType x.ctl);
      Tst.starts Tst.wRed x [] = true ∧ dSide x.dest = false ∧ sMode Tst.wRed = 5 ∧
      reduceAccepts (sOp Tst.wRed) (cType x.ctl) = true ∧ (s.tile 0).entry k = none ∧
      (s.msInsert 0 ⟨k, .reduce, false, false, 1, mkCtl v.2 (cPoison x.ctl) false (cLast x.ctl) (cOrd x.ctl), v.1, .set 0,
        [], {}⟩).isSome = true) := by
  and_intros <;> (try dsimp only) <;> decide +kernel

/-! ## Witnesses: loops, contexts and memory firings -/

/-- A firing of `op` whose operand x has value `v`, destination bits `d` and context 1. -/
def Tst.fr1 (op ty v d imm d0 : Nat) : Firing :=
  ⟨Tst.tok ty v d (2 ^ 32), some (3, 0), Tst.slot op 1 imm 0 d0 0, false, false, false⟩

/-- Conditions on a firing in stage 4. -/
def Tst.fires (s : State) (f : Firing) : Bool :=
  !s.porst && ((s.tile 0).pe 0).ex.head? == some f && f.typeOk

theorem Tst.fires_of {s : State} {f : Firing} (h : Tst.fires s f = true) : s.Fires 0 0 f := by
  simp only [Tst.fires, Bool.and_eq_true, Bool.not_eq_true', beq_iff_eq] at h
  exact ⟨h.1.1, by decide, by decide, h.1.2, h.2⟩

/-- Context 1 ACTIVE, with its data from 0x1000 on and `n` elements, and templates set up on tile 0. -/
def Tst.ctx1 (n : Nat) : State :=
  let s := Tst.up.setCtxState 1 1
  let s1 := (s.wr64 (s.ctxAddr 1 + 8) 0x1000).wr64 (s.ctxAddr 1 + 16) (BitVec.ofNat 64 n)
  s1.putF (tp 0 + R.tileCtxTmpl) 63 48 4

/-- A loop entry of node 0 of PE 0 with `n` of `k` tokens. -/
def Tst.loop (n k : Nat) : SeqEntry := ⟨true, 0, 0, 1, 0, n, k, [], {}⟩

/-- That state with a firing of LOOP_HEAD and its loop entries. -/
def Tst.atLoop (f : Firing) (l : List SeqEntry) : State := (Tst.at4 (Tst.ctx1 4) f).updTile 0 (fun y => { y with seq := l })

theorem witness_PeLoopsAndContextsComplete :
    (∀ op ∈ [0x500, 0x501, 0x503, 0x602, 0x603], let f := Tst.fr1 op 0 5 0 0 0;
      Tst.fires (Tst.at4 (Tst.ctx1 4) f) f = true ∧ sOp f.slot = op) ∧
    (∀ e ∈ [Tst.loop 0 1, Tst.loop 3 4], let f := Tst.fr1 0x502 0 5 0 0 0; let s := Tst.atLoop f [e];
      Tst.fires s f = true ∧ sOp f.slot = 0x502 ∧ f.again = false ∧ dSide f.x.dest = false ∧
      ((s.taken 0 0).tile 0).seqOf true 0 f.x = some e ∧ e.n < e.k) ∧
    (let f := Tst.fr1 0x502 0 5 0 1 0; let s := (Tst.atLoop f []).wr64 ((Tst.ctx1 4).ctxAddr 1) (BitVec.ofNat 64 (1 + 7 * 2 ^ 19));
      Tst.fires s f = true ∧ sOp f.slot = 0x502 ∧ f.again = false ∧ dSide f.x.dest = false ∧
      ((s.taken 0 0).tile 0).seqOf true 0 f.x = none ∧ ((s.taken 0 0).tile 0).seq.length < 1024 ∧ 0 < (s.taken 0 0).loopLimit f) ∧
    (∀ e ∈ [Tst.loop 2 4, Tst.loop 1 4], let f := Tst.fr1 0x502 0 5 256 0 0; let s := Tst.atLoop f [e];
      Tst.fires s f = true ∧ sOp f.slot = 0x502 ∧ f.again = false ∧ dSide f.x.dest = true ∧
      ((s.taken 0 0).tile 0).seqOf true 0 f.x = some e ∧ e.held = [] ∧ (1 < e.n ∨ e.n = 1)) ∧
    (∀ n ∈ [1, 65535, 65536], let f := Tst.fr1 0x600 0 5 0 3 0; let s := { Tst.at4 (Tst.ctx1 4) f with ctxNext := n };
      Tst.fires s f = true ∧ sOp f.slot = 0x600 ∧ sImm f.slot % 2 ^ 16 < (s.taken 0 0).f (tp 0 + R.tileCtxTmpl) 63 48 ∧
      (s.taken 0 0).ctxQueue = [] ∧ ((s.taken 0 0).takeCtx.isSome = true ↔ n < 65536)) ∧
    (let f := Tst.fr1 0x502 0 5 0 0 0; let s := { Tst.at4 Tst.up f with ctxQueue := [⟨0, 0, f⟩] };
      Tst.fires s f = true ∧ s.ctxQueue = [⟨0, 0, f⟩] ∧ s.takeCtx.isSome = true) ∧
    (let f := Tst.fr1 0x601 0 5 0 0 0; let s := Tst.at4 (Tst.ctx1 4) f;
      Tst.fires s f = true ∧ sOp f.slot = 0x601 ∧ (sImm f.slot).testBit 0 = false ∧ tCtx f.x.tag ≠ 0 ∧
      (s.taken 0 0).ctxState (tCtx f.x.tag) = 1) ∧
    (let f := Tst.fr1 0x601 0 1 0 1 0; let s := Tst.at4 (Tst.ctx1 4) f;
      Tst.fires s f = true ∧ sOp f.slot = 0x601 ∧ (sImm f.slot).testBit 0 = true ∧ f.any cPoison = false ∧
      fld f.x.value 15 0 ≠ 0 ∧ (s.taken 0 0).ctxState (fld f.x.value 15 0) = 1) := by
  and_intros <;> (try dsimp only) <;> decide +kernel

/-- Stage 4 with an unpoisoned, unordered firing. -/
def Tst.plain (s : State) (f : Firing) : Bool := Tst.fires s f && !f.any cPoison && !s.ordered 0 f

theorem witness_PeMemoryAndEventsComplete :
    (∀ e ∈ [(0x700, 0), (0x700, 3), (0x701, 3)], let f := Tst.fr1 e.1 1 e.2 0 0 0; let s := Tst.at4 (Tst.ctx1 4) f; let s1 := s.taken 0 0;
      let data := fld (s1.ctxW 1 1) 47 0 + 8 * f.x.value.toNat;
      Tst.plain s f = true ∧ sOp f.slot = e.1 ∧ f.none0 = false ∧ f.bad0 = false ∧ f.x.value.toNat < fld (s1.ctxW 1 2) 31 0 ∧
      region data = .hbm ∧ region (data + 8 * fld (s1.ctxW 1 2) 31 0) = .hbm) ∧
    (let f := Tst.fr1 0x700 1 0 0 0 0xF0; let s := Tst.at4 (Tst.ctx1 4) f;
      Tst.plain s f = true ∧ sOp f.slot = 0x700 ∧ f.none0 = true) ∧
    (∀ op ∈ [0x702, 0x703], ∀ a ∈ [0, hbmEnd - 8, shepBase], let f := Tst.fr1 op 1 a 0 0 0; let s := Tst.at4 (Tst.ctx1 4) f;
      let b := (f.x.value + sImmS f.slot).toNat;
      Tst.plain s f = true ∧ sOp f.slot = op ∧ f.none0 = false ∧ f.bad0 = false ∧ peAddrOk b = true ∧ (unitOf b).isSome = true) ∧
    (∀ a ∈ [1, hbmEnd], let f := Tst.fr1 0x703 1 a 0 0 0; let s := Tst.at4 (Tst.ctx1 4) f;
      Tst.plain s f = true ∧ sOp f.slot = 0x703 ∧ peAddrOk (f.x.value + sImmS f.slot).toNat = false) ∧
    (∀ e ∈ [(0x802, 0), (0x803, 0), (0x805, 0)], let f := Tst.fr1 e.1 8 e.2 0 0 0; let s := Tst.at4 (Tst.ctx1 4) f;
      Tst.plain s f = true ∧ sOp f.slot = e.1 ∧ f.x.value.toNat ≤ s.now.toNat) ∧
    (let f := Tst.fr1 0x803 8 1 0 0 0; let s := Tst.at4 (Tst.ctx1 4) f;
      Tst.plain s f = true ∧ sOp f.slot = 0x803 ∧ s.now.toNat < f.x.value.toNat ∧ ((s.taken 0 0).tile 0).twait.length < 256) ∧
    (let f := Tst.fr1 1 0 5 0 0 0; let s := (Tst.at4 Tst.up f).updTile 0 (fun y => { y with twait := [⟨0, f, 0⟩] });
      Tst.plain s f = true ∧ (s.tile 0).twait = [⟨0, f, 0⟩] ∧ (0 : Word).toNat ≤ s.now.toNat) ∧
    (let f := Tst.fr1 0x800 0 5 0 23 0; let s := (Tst.at4 (Tst.ctx1 4) f).putF (tp 0 + R.tileEmitMap0 + 8 * 2) 47 42 (32 + 23);
      Tst.plain s f = true ∧ sOp f.slot = 0x800 ∧ (s.taken 0 0).emitMap 0 (sImm f.slot % 32) = some 23 ∧
      SMap.get 0 ((s.taken 0 0).tile 0).emitUsed 23 < 32) ∧
    (let f := Tst.fr1 0x805 8 0 0 0 0; let s := Tst.at4 (Tst.ctx1 4) f;
      Tst.plain s f = true ∧ ((s.taken 0 0).inject (tileNode 0) (pageNode .glb 0) 3 3 0 (.event 0)).1 = true ∧
      (({ s with routes := SMap.set 1 s.routes (routeKey (tileNode 0) 0 (pageNode .glb 0)) 0 }.taken 0 0).inject (tileNode 0)
        (pageNode .glb 0) 3 3 0 (.event 0)).1 = false) ∧
    (let f := Tst.fr1 0x804 0 5 0 9 0; let s := (Tst.at4 (Tst.ctx1 4) f).putB (kr 9) 6 true |>.putB (kp + R.kenCtl) 0 true;
      Tst.plain s f = true ∧ sOp f.slot = 0x804 ∧ ((s.taken 0 0).kenSend (sImm f.slot % 256)
        (BitVec.ofNat 64 (0x8000 + fld ((s.taken 0 0).ctxW 1 0) 45 40 * 2 ^ 16)) f.x.value
        (BitVec.ofNat 64 (f.x.tag.toNat + f.x.ctl.toNat * 2 ^ 48))).isSome = true) := by
  and_intros <;> (try dsimp only) <;> decide +kernel

/-- A firing with POISON on x. -/
def Tst.bad (f : Firing) : Firing := { f with x := { f.x with ctl := f.x.ctl ||| 8 } }

/-- 1,024 loop and order entries of another context. -/
def Tst.full (s : State) : State :=
  s.updTile 0 (fun y => { y with seq := List.replicate 1024 { Tst.loop 0 1 with ctx := 9 } })

/-- A full list of waiting context requests. -/
def Tst.requests (n : Nat) (s : State) : State := { s with ctxQueue := List.replicate n ⟨0, 0, Tst.fr1 0x600 0 5 0 3 0⟩ }

theorem witness_PeLoopsComplete_again :
    (∀ d ∈ [0, 256], let f := { Tst.fr1 0x502 0 5 d 0 0 with again := true };
      Tst.fires (Tst.atLoop f []) f = true ∧ sOp f.slot = 0x502 ∧ f.again = true) ∧
    (∀ e ∈ [Tst.loop 4 4, Tst.loop 0 0], let f := Tst.fr1 0x502 0 5 0 0 0; let s := Tst.atLoop f [e];
      Tst.fires s f = true ∧ sOp f.slot = 0x502 ∧ f.again = false ∧ dSide f.x.dest = false ∧
      ((s.taken 0 0).tile 0).seqOf true 0 f.x = some e ∧ e.k ≤ e.n) ∧
    (let f := Tst.fr1 0x502 0 5 0 0 0; let s := Tst.atLoop f [];
      Tst.fires s f = true ∧ sOp f.slot = 0x502 ∧ f.again = false ∧ dSide f.x.dest = false ∧
      ((s.taken 0 0).tile 0).seqOf true 0 f.x = none ∧ ((s.taken 0 0).tile 0).seq.length < 1024 ∧ (s.taken 0 0).loopLimit f = 0) ∧
    (let f := Tst.fr1 0x502 0 5 256 0 0; let e := { Tst.loop 4 4 with held := [{ tok := f.x }] }; let s := Tst.atLoop f [e];
      Tst.fires s f = true ∧ sOp f.slot = 0x502 ∧ f.again = false ∧ dSide f.x.dest = true ∧
      ((s.taken 0 0).tile 0).seqOf true 0 f.x = some e ∧ e.n ≠ 0 ∧ e.held = [{ tok := f.x }]) ∧
    (∀ l ∈ [[Tst.loop 0 4], []], let f := Tst.fr1 0x502 0 5 256 0 0; let s := Tst.atLoop f l;
      Tst.fires s f = true ∧ sOp f.slot = 0x502 ∧ f.again = false ∧ dSide f.x.dest = true ∧
      ((s.taken 0 0).tile 0).seqOf true 0 f.x = l.head? ∧ l.all (fun e => e.n == 0) = true) := by
  and_intros <;> (try dsimp only) <;> decide +kernel

theorem witness_PeLoopsComplete_full :
    let f := Tst.fr1 0x502 0 5 0 0 0
    let s := Tst.full (Tst.atLoop f [])
    Tst.fires s f = true ∧ sOp f.slot = 0x502 ∧ f.again = false ∧ dSide f.x.dest = false ∧
      ((s.taken 0 0).tile 0).seqOf true 0 f.x = none ∧ 1024 ≤ ((s.taken 0 0).tile 0).seq.length := by
  and_intros <;> decide +kernel

theorem witness_PeContextsComplete_waits :
    (let f := Tst.fr1 0x600 0 5 0 3 0; let s := Tst.requests 255 (Tst.at4 (Tst.ctx1 4) f);
      Tst.fires s f = true ∧ sOp f.slot = 0x600 ∧ sImm f.slot % 2 ^ 16 < (s.taken 0 0).f (tp 0 + R.tileCtxTmpl) 63 48 ∧
      (s.taken 0 0).ctxQueue ≠ [] ∧ (s.taken 0 0).ctxQueue.length < 256) ∧
    (let f := Tst.fr1 0x600 0 5 0 3 0; let s := { Tst.at4 (Tst.ctx1 4) f with ctxNext := 65536 };
      Tst.fires s f = true ∧ sOp f.slot = 0x600 ∧ sImm f.slot % 2 ^ 16 < (s.taken 0 0).f (tp 0 + R.tileCtxTmpl) 63 48 ∧
      (s.taken 0 0).takeCtx.isNone = true ∧ (s.taken 0 0).ctxQueue.length < 256) ∧
    (let f := Tst.fr1 0x600 0 5 0 3 0; let s := Tst.requests 256 (Tst.at4 (Tst.ctx1 4) f);
      Tst.fires s f = true ∧ sOp f.slot = 0x600 ∧ sImm f.slot % 2 ^ 16 < (s.taken 0 0).f (tp 0 + R.tileCtxTmpl) 63 48 ∧
      256 ≤ (s.taken 0 0).ctxQueue.length) ∧
    (let f := Tst.fr1 0x600 0 5 0 4 0; let s := Tst.at4 (Tst.ctx1 4) f;
      Tst.fires s f = true ∧ sOp f.slot = 0x600 ∧ (s.taken 0 0).f (tp 0 + R.tileCtxTmpl) 63 48 ≤ sImm f.slot % 2 ^ 16) ∧
    (∀ v ∈ [0, 1], let f := Tst.fr1 0x601 0 v 0 1 0; let s := Tst.at4 (Tst.ctx1 4) f;
      Tst.fires s f = true ∧ sOp f.slot = 0x601 ∧ (sImm f.slot).testBit 0 = true ∧ cPoison f.x.ctl = false) ∧
    (let f := Tst.bad (Tst.fr1 0x601 0 1 0 1 0); let s := Tst.at4 (Tst.ctx1 4) f;
      Tst.fires s f = true ∧ sOp f.slot = 0x601 ∧ (sImm f.slot).testBit 0 = true ∧ cPoison f.x.ctl = true) := by
  and_intros <;> (try dsimp only) <;> decide +kernel

/-- The state of an I-structure whose data lies outside HBM. -/
def Tst.ctx1Out : State := (Tst.ctx1 4).wr64 ((Tst.ctx1 4).ctxAddr 1 + 8) (BitVec.ofNat 64 hbmEnd)

theorem witness_PeMemoryComplete_stops :
    (∀ op ∈ [0x700, 0x701], let f := Tst.fr1 op 1 0 0 0 0; let s := Tst.at4 Tst.ctx1Out f; let s1 := s.taken 0 0;
      Tst.plain s f = true ∧ sOp f.slot = op ∧ f.none0 = false ∧ f.bad0 = false ∧ f.x.value.toNat < fld (s1.ctxW 1 2) 31 0 ∧
      region (fld (s1.ctxW 1 1) 47 0) ≠ .hbm) ∧
    (∀ op ∈ [0x700, 0x701], let f := Tst.fr1 op 1 4 0 0 0; let s := Tst.at4 (Tst.ctx1 4) f; let s1 := s.taken 0 0;
      Tst.plain s f = true ∧ sOp f.slot = op ∧ f.none0 = false ∧ f.bad0 = false ∧ fld (s1.ctxW 1 2) 31 0 ≤ f.x.value.toNat) ∧
    (∀ e ∈ [(0x700, 1), (0x701, 1), (0x702, 1), (0x703, 1), (0x804, 0), (0x805, 0)],
      let f := Tst.bad (Tst.fr1 e.1 e.2 0 0 0 0); let s := Tst.at4 (Tst.ctx1 4) f;
      Tst.fires s f = true ∧ sOp f.slot = e.1 ∧ f.none0 = false ∧ cPoison f.x.ctl = true ∧ s.ordered 0 f = false) ∧
    (∀ a ∈ [1, hbmEnd], let f := Tst.fr1 0x702 1 a 0 0 0; let s := Tst.at4 (Tst.ctx1 4) f;
      Tst.plain s f = true ∧ sOp f.slot = 0x702 ∧ f.none0 = false ∧ peAddrOk (f.x.value + sImmS f.slot).toNat = false) ∧
    (let f := Tst.fr1 0x702 1 0 0 0 0xF0; let s := Tst.at4 (Tst.ctx1 4) f;
      Tst.plain s f = true ∧ sOp f.slot = 0x702 ∧ f.none0 = true) ∧
    (let f := Tst.fr1 0x803 8 1 0 0 0
     let s := (Tst.at4 (Tst.ctx1 4) f).updTile 0 (fun y => { y with twait := List.replicate 256 ⟨0, f, 1⟩ });
      Tst.plain s f = true ∧ sOp f.slot = 0x803 ∧ s.now.toNat < f.x.value.toNat ∧ 256 ≤ ((s.taken 0 0).tile 0).twait.length) := by
  and_intros <;> (try dsimp only) <;> decide +kernel

/-- A firing of EMIT to logical stream 23, which is mapped to hub 23. -/
def Tst.emits : State :=
  ((Tst.at4 (Tst.ctx1 4) (Tst.fr1 0x800 0 5 0 23 0)).putF (tp 0 + R.tileEmitMap0 + 8 * 2) 47 42 (32 + 23))

theorem witness_EmitComplete :
    (let f := Tst.fr1 0x800 0 5 0 23 0; let s := Tst.emits; let s1 := s.taken 0 0;
      Tst.plain s f = true ∧ sOp f.slot = 0x800 ∧ s1.emitMap 0 (sImm f.slot % 32) = some 23 ∧
      SMap.get 0 (s1.tile 0).emitUsed 23 < 32 ∧
      ((s1.updTile 0 (fun y => { y with emitUsed := SMap.set 0 y.emitUsed 23 1 })).emitSend 0 23
        ⟨0, 0, (sImm f.slot).testBit 5, cPoison f.x.ctl, f⟩).isSome = true) ∧
    (let f := Tst.fr1 0x800 0 5 0 23 0
     let s := Tst.emits.updTile 0 (fun y => { y with emitUsed := SMap.set 0 y.emitUsed 23 32 });
      Tst.plain s f = true ∧ (s.taken 0 0).emitMap 0 (sImm f.slot % 32) = some 23 ∧
      32 ≤ SMap.get 0 ((s.taken 0 0).tile 0).emitUsed 23) ∧
    (let f := Tst.fr1 0x800 0 5 0 24 0; let s := Tst.at4 (Tst.ctx1 4) f;
      Tst.plain s f = true ∧ sOp f.slot = 0x800 ∧ (s.taken 0 0).emitMap 0 (sImm f.slot % 32) = none) := by
  and_intros <;> (try dsimp only) <;> decide +kernel

/-- A firing with ORD in iteration `n` of context 1, whose context and tile both order its colour. -/
def Tst.ordFr (op ty n : Nat) : Firing :=
  ⟨⟨0, BitVec.ofNat 48 (2 ^ 32 + n * 2 ^ 8), 0, BitVec.ofNat 8 (16 * ty + 1)⟩, some (3, 0), Tst.slot op 1 9 0 0 0, false, false, false⟩

/-- The state around it, with the entries `l` of the sequencer. -/
def Tst.ordered (f : Firing) (l : List SeqEntry) : State :=
  let s := Tst.ctx1 4
  ((Tst.at4 (s.wr64 (s.ctxAddr 1 + 40) 0x100) f).putB (tp 0 + R.tileOrdMask) 0 true).updTile 0 (fun y => { y with seq := l })

/-- An order entry of context 1 at iteration `n`. -/
def Tst.order (n : Nat) : SeqEntry := ⟨false, 0, 0, 1, 0, n, 0, [], {}⟩

/-- The effect of an ordered firing, in the words of the statement. -/
def Tst.did (u : State) (f : Firing) : Option State :=
  let x := f.x
  let op := sOp f.slot
  if op = 0x703 then some (if f.any cPoison then u.exc84 0 x op .poisoned else u.storeOp 0 f)
  else if op = 0x805 then if cPoison x.ctl then some (u.exc84 0 x op .poisoned)
    else match u.inject (tileNode 0) (pageNode .glb 0) 3 3 0 (.event (sImm f.slot % 64)) with
      | (true, v) => some (v.outBoth 0 f x.value (cType x.ctl))
      | (false, _) => none
  else if op = 0x804 then if cPoison x.ctl then some (u.exc84 0 x op .poisoned)
    else u.kenSend (sImm f.slot % 256) (u.sendWord0 f) x.value (BitVec.ofNat 64 (x.tag.toNat + x.ctl.toNat * 2 ^ 48))
  else u.emitOp 0 0 f

/-- Conditions on an ordered firing. -/
def Tst.takesTurn (s : State) (f : Firing) : Bool := Tst.fires s f && s.ordered 0 f

theorem witness_OrderedSideEffects :
    (∀ e ∈ [(0x703, 1), (0x805, 0), (0x800, 0)], ∀ n ∈ [0, 2 ^ 24 - 1], let f := Tst.ordFr e.1 e.2 n
      let s := Tst.ordered f [Tst.order n]
      Tst.takesTurn s f = true ∧ sOp f.slot = e.1 ∧ ((s.taken 0 0).tile 0).seqOf false 0 f.x = some (Tst.order n) ∧
      (tIter f.x.tag + 2 ^ 24 - (Tst.order n).n) % 2 ^ 24 = 0 ∧ (Tst.did (s.taken 0 0) f).isSome = true) ∧
    (let f := Tst.ordFr 0x804 0 0; let s := Tst.ordered f [Tst.order 0];
      Tst.takesTurn s f = true ∧ ((s.taken 0 0).tile 0).seqOf false 0 f.x = some (Tst.order 0) ∧
      (Tst.did (s.taken 0 0) f).isSome = true) ∧
    (let f := Tst.ordFr 0x804 0 0; let s := (Tst.ordered f [Tst.order 0]).putB (kr 9) 6 true;
      Tst.takesTurn s f = true ∧ ((s.taken 0 0).tile 0).seqOf false 0 f.x = some (Tst.order 0) ∧
      (Tst.did (s.taken 0 0) f).isNone = true) ∧
    (∀ n ∈ [1, 2 ^ 23 - 1], let f := Tst.ordFr 0x703 1 n; let s := Tst.ordered f [Tst.order 0];
      Tst.takesTurn s f = true ∧ ((s.taken 0 0).tile 0).seqOf false 0 f.x = some (Tst.order 0) ∧
      0 < (tIter f.x.tag + 2 ^ 24 - (Tst.order 0).n) % 2 ^ 24 ∧ (tIter f.x.tag + 2 ^ 24 - (Tst.order 0).n) % 2 ^ 24 < 2 ^ 23) ∧
    (∀ n ∈ [2 ^ 23, 2 ^ 24 - 1], let f := Tst.ordFr 0x703 1 n; let s := Tst.ordered f [Tst.order 0];
      Tst.takesTurn s f = true ∧ ((s.taken 0 0).tile 0).seqOf false 0 f.x = some (Tst.order 0) ∧
      2 ^ 23 ≤ (tIter f.x.tag + 2 ^ 24 - (Tst.order 0).n) % 2 ^ 24) := by
  and_intros <;> (try dsimp only) <;> decide +kernel

theorem witness_OrderedSideEffects_first :
    (let f := Tst.ordFr 0x703 1 0; let s := Tst.full (Tst.ordered f []);
      Tst.takesTurn s f = true ∧ ((s.taken 0 0).tile 0).seqOf false 0 f.x = none ∧ 1024 ≤ ((s.taken 0 0).tile 0).seq.length) ∧
    (let f := Tst.ordFr 0x703 1 0; let s := Tst.ordered f []; let s1 := s.taken 0 0;
      Tst.takesTurn s f = true ∧ (s1.tile 0).seqOf false 0 f.x = none ∧ (s1.tile 0).seq.length < 1024 ∧ tIter f.x.tag = 0 ∧
      (Tst.did (s1.updTile 0 (fun y => { y with seq := y.seq ++ [Tst.order 0] })) f).isSome = true) ∧
    (let f := Tst.ordFr 0x804 0 0; let s := (Tst.ordered f []).putB (kr 9) 6 true; let s1 := s.taken 0 0;
      Tst.takesTurn s f = true ∧ (s1.tile 0).seqOf false 0 f.x = none ∧ (s1.tile 0).seq.length < 1024 ∧ tIter f.x.tag = 0 ∧
      (Tst.did (s1.updTile 0 (fun y => { y with seq := y.seq ++ [Tst.order 0] })) f).isNone = true) ∧
    (∀ n ∈ [1, 2 ^ 23 - 1, 2 ^ 23, 2 ^ 24 - 1], let f := Tst.ordFr 0x703 1 n; let s := Tst.ordered f [];
      Tst.takesTurn s f = true ∧ ((s.taken 0 0).tile 0).seqOf false 0 f.x = none ∧ tIter f.x.tag = n) := by
  and_intros <;> (try dsimp only) <;> decide +kernel

/-! ## Witnesses: tiles, contexts, I-structures -/

/-- Context 1 ACTIVE, tile 0 with the arrivals `l`, a spill region of 2^23 bytes enabled and ready, at pack time `now`. -/
def Tst.tile (l : List Arrival) (now : Nat) : State :=
  ((({ Tst.ctx1 4 with now := BitVec.ofNat 64 now }.putB (tp 0 + R.tileMsStat) 3 true).putB (tp 0 + R.tileMsSpill) 0 true).putF
    (tp 0 + R.tileMsSpill) 12 8 23).updTile 0 (fun x => { x with arr := l })

/-- An item of context `c`. -/
def Tst.item (c : Nat) : QItem := { tok := Tst.tok 0 5 0 (c * 2 ^ 32) }

/-- That state with tokens at the head of PE 0's queue. -/
def Tst.tileQ (l : List Arrival) (n : Nat) : State :=
  (Tst.tile l 0).updPe 0 0 (fun e => { e with queue := List.replicate n (Tst.item 1) })

theorem witness_TileEntryComplete :
    (∀ c ∈ [1, 2], ∀ n ∈ [0, 255, 256], let a : Arrival := { src := 7, item := Tst.item c }
      let s := (Tst.tileQ [a] n).putF (tp 0 + R.tileQCtl) 15 0 1
      let pe := ((s.updTile 0 (fun x => { x with arr := [] })).tile 0).pe (dPe a.item.tok.dest)
      s.porst = false ∧ SMap.get none s.frst (tp 0) = none ∧ takeFirst (fun a => a.src == 7) (s.tile 0).arr = some (a, []) ∧
      arrivalBehind (s.tile 0).arr 7 (dPe a.item.tok.dest) = false ∧ cType a.item.tok.ctl ≤ 8 ∧ a.item.flt = false ∧
      (s.ctxState (tCtx a.item.tok.tag) = 1 ↔ c = 1) ∧ pe.chain = [] ∧ pe.queue.length = n ∧
      s.f (tp 0 + R.tileQCtl) 15 0 ≠ 0) ∧
    (let a : Arrival := { src := 7, item := Tst.item 1, since := some 0 }; let s := Tst.tile [a] (2 ^ 20);
      takeFirst (fun a => dPe a.item.tok.dest == 0) (s.tile 0).arr = some (a, []) ∧ s.spillOn 0 = true ∧ s.spillDue 0 a = true ∧
      (s.chainAppend 0 0 a.item).isSome = true ∧
      256 ≤ (((Tst.tileQ [a] 256).tile 0).pe 0).queue.length ∧ ({ Tst.tileQ [a] 256 with now := 2 ^ 20 } : State).spillDue 0 a = true) ∧
    (let a : Arrival := { src := 7, item := Tst.item 1, since := some 0 }; let s := Tst.tile [a] (2 ^ 20);
      takeFirst (fun a => dPe a.item.tok.dest == 0) (s.tile 0).arr = some (a, []) ∧ ((s.tile 0).pe 0).chain = [] ∧
      ((s.tile 0).pe 0).queue.length < 256 ∧ SMap.get none s.frst (tp 0) = none) ∧
    (let q := Tst.item 1; let s := (Tst.tile [] 0).updPe 0 0 (fun e => { e with chain := [q], chainB := ⟨[0], false⟩ });
      ((s.tile 0).pe 0).chain = [q] ∧ s.memAwake = true ∧ ((s.tile 0).pe 0).queue.length < 256) ∧
    (let q := Tst.item 1; let s := (Tst.tile [] 0).updTile 0 (fun x => { x with inflight := [⟨9, 0, [(0, q)]⟩] });
      takeFirst (fun w => w.key == 9) (s.tile 0).inflight = some (⟨9, 0, [(0, q)]⟩, []) ∧ s.keyWaits 0 9 = false ∧ s.memAwake = true) ∧
    (let a : Arrival := { src := 7, item := Tst.item 1, bucket := some 0 }; let s := Tst.tile [a] 0;
      (s.tile 0).wait = [] ∧ (s.tile 0).firstNi = some 0 ∧ s.memAwake = true ∧
      ((s.updTile 0 (fun x => { x with exhSince := none })).niServe 0 0).isSome = true) ∧
    (let q := Tst.item 1; let w : Waiting := ⟨0, q, 0, true⟩;
      let s := ((Tst.tile [] 0).updTile 0 (fun x => { x with wait := [w] })).updPe 0 0 (fun e => { e with nodes := [(0, Tst.wDy)] });
      let s1 := (s.updTile 0 (fun x => { x with exhSince := none })).updTile 0 (fun x => { x with wait := [] });
      (s.tile 0).wait = [w] ∧ s.memAwake = true ∧ (s.tile 0).firstNi = none ∧ q.again = false ∧ sOp (s1.slotOf 0 0 q) ≠ 0x502 ∧
      (match s1.matchMode 0 0 (s1.slotOf 0 0 q) q with | .done _ => true | _ => false) = true) ∧
    (let s := ((Tst.tile [] (2 ^ 30)).putF (tp 0 + R.tileQCtl) 31 16 1).updTile 0 (fun x => { x with exhSince := some 0 });
      let lim := us * s.f (tp 0 + R.tileQCtl) 31 16;
      (s.tile 0).exhSince = some 0 ∧ lim ≠ 0 ∧ lim ≤ dur 0 s.now ∧ lim ≤ dur (s.tile 0).lastFire s.now ∧
      s.b (tp 0 + R.tileQStat) 39 = false) := by
  and_intros <;> (try dsimp only) <;> decide +kernel

theorem witness_TileControllerComplete :
    (∀ k ∈ [0, 1, 2], let s := (((Tst.tile [] (10 * us)).putB (tp 0 + R.tileMsCtl) 0 true).putF (tp 0 + R.tileMsCtl) 31 16 1) |>.updTile 0 (fun x => { x with confl := [(4095, k)] });
      10 * us ≤ dur (s.tile 0).winStart s.now ∧ s.b (tp 0 + R.tileMsCtl) 0 = true ∧ s.f (tp 0 + R.tileMsCtl) 31 16 = 1 ∧
      (s.tile 0).confl.foldl (fun n e => n + e.2) 0 = k ∧ (s.tile 0).winTrig = false) ∧
    (∀ n ∈ [0, 4095, 4096], let s := ((Tst.tile [] 0).putB (tp 0 + R.tileMsStat) 1 true).updTile 0 (fun x => { x with sweep := n });
      s.f (tp 0 + R.pgErrInj) 47 32 = 0 ∧ s.b (tp 0 + R.tileMsStat) 1 = true ∧ (s.tile 0).sweep ≤ 4096 ∧ s.sweepHere 0 = []) ∧
    (∀ w ∈ [[], [{ Tst.ent Tst.wSt .sticky true 0 with key := 99 }]], let e := { Tst.ent Tst.wDy .wait false 0 with gen := true };
      let s := ((Tst.tile [] 0).putB (tp 0 + R.tileMsStat) 1 true).updTile 0 (fun x => { x with ms := e :: w.map (fun e => { e with gen := true }) });
      s.f (tp 0 + R.pgErrInj) 47 32 = 0 ∧ s.b (tp 0 + R.tileMsStat) 1 = true ∧ (s.tile 0).sweep ≤ 4096 ∧
      (s.sweepHere 0).head? = some e ∧ (match s.sweepEntry 0 e with
        | some s1 => (s1.sweepHere 0).isEmpty == w.isEmpty
        | none => false) = true) ∧
    (let s := ((Tst.tile [] 0).putB (tp 0 + R.tileMsStat) 1 true).updTile 0 (fun x => { x with sweep := 4097 });
      s.b (tp 0 + R.tileMsStat) 1 = true ∧ (s.tile 0).sweep = 4097 ∧ s.b (tp 0 + R.tileMsStat) 2 = false) ∧
    (let s := Tst.tile [] 0; let s1 := (s.inc (tp 0 + R.tileMsEvt) 63 48).fault (tp 0) .correctable;
      s.f (tp 0 + R.pgErrInj) 47 32 = 0 ∧ s1.f (tp 0 + R.pgErrInj) 47 32 = 0) ∧
    (let l : LoadSt := ⟨true, 0, 2, 0x2000, []⟩; let s := (Tst.tile [] 0).updTile 0 (fun x => { x with load := l });
      let r := (s.codes 0x2000 24 ⟨[], false⟩).2; let u := r.visit 0x2000 (r.access 0x2000 24 false) 24;
      l.busy = true ∧ s.memAwake = true ∧ (s.codes (l.addr + 24 * l.next) 24 ⟨[], false⟩).1 = true ∧ (r.tile 0).load = l ∧ u.access 0x2000 24 false = .ok ∧
      entryBad (u.rd 0x2000 2) (u.rd 0x2002 6) (BitVec.ofNat 128 (u.rd 0x2008 16)) = false ∧ l.next + 1 ≠ l.count) ∧
    (((Tst.tile [] 0).updTile 0 (fun x => { x with readyAt := some 3 })).tile 0).readyAt = some 3 := by
  and_intros <;> (try dsimp only) <;> decide +kernel

/-- A firing of IFETCH or ISTORE under context 1. -/
def Tst.ireq (store : Bool) : IReq := ⟨store, 0, Tst.fr1 (if store then 0x701 else 0x700) 1 3 0 0 0, 0, 0, 0, false⟩

/-- Context 1 with state word 3 of its structure holding STATE `st`, and a request that waits at its controller. -/
def Tst.ist (st : Nat) (store : Bool) : State :=
  let s := Tst.ctx1 4
  (s.wr64 (s.isState 1 3) (BitVec.ofNat 64 (st * 2 ^ 62))).updHb (hbmUnit (s.isData 1 3)) (fun h => { h with iq := [Tst.ireq store] })

/-- A state in which context 1 waits: a WAIT entry on tile 0, the monitor enabled, at a time long after. -/
def Tst.stuck (act : Nat) : State :=
  let s := (Tst.tile [] (2 ^ 40)).updTile 0 (fun x => { x with ms := [Tst.ent Tst.wDy .wait false 0] })
  (s.wr64 (s.ctxAddr 1) (BitVec.ofNat 64 (1 + act * 2 ^ 16))).putB (pageAt .glb 0 + R.glbQmCtl) 0 true

theorem witness_ControllerAndMonitorComplete :
    (∀ e ∈ [(0, false), (1, false), (2, false), (0, true), (1, true)], let s := Tst.ist e.1 e.2; let r := Tst.ireq e.2;
      let u := hbmUnit (s.isData 1 3); let a := s.isData 1 3; let b := s.isState 1 3;
      let s0 := (s.updHb u (fun h => { h with iq := [] })).iAck u r;
      let s1 := (s0.iRead b ⟨[], false⟩).2;
      s.porst = false ∧ u < 4 ∧ s.domOn (168 + u) = true ∧ (s.hb u).iq = [r] ∧ tCtx r.f.x.tag = 1 ∧ r.f.idx = 3 ∧ r.store = e.2 ∧
      (s0.iRead b ⟨[], false⟩).1 = .ok ∧ fld (s1.rd64 b) 63 62 = e.1 ∧
      (s1.iRead a ⟨[], false⟩).1 = .ok) ∧
    (∀ ab ∈ [true, false], let s := (Tst.ctx1 4).updCtx 1 (fun x => { x with teardown := some ⟨ab, 0, 5, 0⟩ });
      (s.ctx 1).teardown = some ⟨ab, 0, 5, 0⟩ ∧ s.vn0Before 5 = false ∧
      s.tiles.any (fun e => e.2.executes 1 || e.2.arr.any (fun a => tCtx a.item.tok.tag == 1 && !a.item.flt)) = false ∧
      s.qmHolds 1 = false) ∧
    (∀ act ∈ [0, 2], (Tst.stuck act).deadlocked 1 = true ∧ fld ((Tst.stuck act).ctxW 1 0) 18 16 = act) ∧
    (let s := { ((Tst.up.putB (pageAt .glb 0 + R.glbQmRing) 5 true).putF (pageAt .glb 0 + R.glbQmRing) 4 0 4) with qmHeld := [[1, 2, 3, 4]] };
      s.qmHeld = [[1, 2, 3, 4]] ∧ s.memAwake = true ∧ (s.ringPush qmRing [1, 2, 3, 4]).1 = true) ∧
    (let s := Tst.up.updHub 23 (fun x => { x with returns := [(127, 1)] }); 0 < SMap.get 0 (s.hub 23).returns 127) := by
  and_intros <;> (try dsimp only) <;> decide +kernel

/-! ## Witnesses: streams, upstream blocks, links -/

/-- Hub 23 with its stream in RUNNING, its Plate of port 95 RUNNING, and the link of port 95 UP in block mode. -/
def Tst.link (p : Nat) : State :=
  let s := (Tst.up.putF (hp (p / 4) + R.hubStrmStat) 2 0 2).setPst p 2
  ((s.putF (pp p + R.portLnkStat) 2 0 4).putB (pp p + R.portLnkStat) 9 true).updPort p (fun x => { x with phase := 4, blk := some 5 })

/-- An EMIT word of tile 127. -/
def Tst.word (iter : Nat) : EmitWord := ⟨127, 0, false, false, Tst.fr1 0x800 0 5 0 23 0 |> fun f => { f with x := { f.x with tag := BitVec.ofNat 48 (2 ^ 32 + iter * 256) } }⟩

/-- Credit of `n` slots for port `p`, and `k` words in its Plate. -/
def Tst.words (p n k : Nat) : State :=
  ((Tst.link p).setReg (pp p + R.portLnkCred) (BitVec.ofNat 64 n)).updPlate p (fun x => { x with words := (List.range k).map (fun i => .vec (BitVec.ofNat 64 i)) })

theorem witness_StreamsComplete :
    (let s := (Tst.link 95).updHub 23 (fun x => { x with flight := [Tst.word 0] });
      let s1 := s.updHub 23 (fun x => { x with flight := [] });
      s.porst = false ∧ takeFirst (fun e => e.tile == 127) (s.hub 23).flight = some (Tst.word 0, []) ∧
      s1.emitDecide 23 (Tst.word 0) (s1.hub 23).ingress.isEmpty = .place) ∧
    (let s := (Tst.link 95).updHub 23 (fun x => { x with flight := [Tst.word 0], ingress := [Tst.word 1] });
      let s1 := s.updHub 23 (fun x => { x with flight := [] });
      takeFirst (fun e => e.tile == 127) (s.hub 23).flight = some (Tst.word 0, []) ∧
      s1.emitDecide 23 (Tst.word 0) (s1.hub 23).ingress.isEmpty = .wait) ∧
    (let s := Tst.up.updHub 23 (fun x => { x with flight := [Tst.word 0] });
      let s1 := s.updHub 23 (fun x => { x with flight := [] });
      takeFirst (fun e => e.tile == 127) (s.hub 23).flight = some (Tst.word 0, []) ∧
      s1.emitDecide 23 (Tst.word 0) (s1.hub 23).ingress.isEmpty = .refuse 63 48 false) ∧
    (let s := (Tst.link 95).updHub 23 (fun x => { x with ingress := [Tst.word 0] });
      (s.hub 23).ingress = [Tst.word 0] ∧ s.emitDecide 23 (Tst.word 0) true = .place) ∧
    (∀ n ∈ [1, 9], let s := ((Tst.link 95).putF (hp 23 + R.hubStrmCtl) 2 1 1).setReg (hp 23 + R.hubStrmCount) (BitVec.ofNat 64 n);
      let r := s.codes (s.storedAddr 23) 64 ⟨[], false⟩;
      s.storedDue 23 = true ∧ r.1 = true ∧ s.memAwake = true ∧ r.2.storedDue 23 = true ∧ r.2.access (r.2.storedAddr 23) 64 false = .ok) ∧
    (let s := (((Tst.link 95).putF (hp 23 + R.hubStrmCtl) 2 1 1).setReg (hp 23 + R.hubStrmCount) 9).putF (hp 23 + R.hubStrmSrc) 47 12
        (shepBase / 4096);
      let r := s.codes (s.storedAddr 23) 64 ⟨[(8, 3)], false⟩;
      s.storedDue 23 = true ∧ r.1 = false ∧ s.memAwake = true ∧ r.2.storedDue 23 = true) ∧
    (∀ ph ∈ [1, 2, 3], let s := Tst.up.updPort 95 (fun x => { x with phase := ph, goTx := some 0 });
      (s.port 95).blk = none ∧ (s.port 95).frameT % 20 = 0 ∧ (s.port 95).phase = ph ∧ (s.port 95).goTx = some 0) ∧
    (∀ now ∈ [0, 256], let s := (Tst.link 95).updPort 95 (fun x => { x with blk := some now });
      s.bamior 95 = false ∧ (s.port 95).blk = some now ∧ s.drives 95 = true ∧ s.pst 95 = 2 ∧ (s.port 95).ctlq = [] ∧
      now % 256 = 0 ∧ (s.port 95).switching = false) ∧
    (∀ n ∈ [0, 4, 5], let s := Tst.words 95 n 4;
      s.bamior 95 = false ∧ (s.port 95).blk = some 5 ∧ s.drives 95 = true ∧ s.pst 95 = 2 ∧ (s.port 95).ctlq = [] ∧
      (5 % 256 ≠ 0 ∧ 5 % 20 ≠ 0) ∧ s.avail 95 = n ∧ ((s.plate 95).line.take 4).length = 4 ∧ (s.plate 95).abort = false ∧
      ((s.plate 95).line.take 4).all (fun w => match w with | .vec _ => true | _ => false) = true) ∧
    (let s := (Tst.link 95).updPort 95 (fun x => { x with blk := some 1, ctlq := [.abort 3] });
      (s.port 95).blk = some 1 ∧ s.bamior 95 = false ∧ (s.port 95).lastCtl = none ∧ (s.port 95).ctlq = [.abort 3]) ∧
    (let s := (Tst.words 95 1 0).updPort 95 (fun x => { x with blk := some 1030, credLog := [(1, 5)] });
      (s.port 95).blk = some 1030 ∧ s.pst 95 = 2 ∧ (s.plate 95).line = [] ∧ 0 < s.avail 95 ∧
      s.slotDue 95 ((s.reg (pp 95 + R.portLnkSent)).toNat + 1) 1030 = true) := by
  and_intros <;> (try dsimp only) <;> decide +kernel

/-- A link that takes fail records: window open, capture enabled, group 7 over 16 pins. -/
def Tst.cap : State :=
  let s := ((Tst.link 95).putF (pp 95 + R.portLnkFcred) 31 0 4096).putB (pp 95 + R.portFailCtl) 0 true
  s.setReg (pp 95 + R.portFailGrpMap + 16 * 7) (BitVec.ofNat 64 (1 + 16 * 2 ^ 6))

/-- An upstream record of a TYPE, with one failing pin. -/
def Tst.rec_ (ty : Nat) : BitVec 192 := BitVec.ofNat 192 (ty * 2 ^ 184 + 2 ^ 104)

theorem witness_UpstreamComplete :
    (Tst.cap.porst = false ∧ Tst.cap.bamior 95 = false ∧ (Tst.cap.port 95).phase = 4 ∧ fld ((0 : BitVec 184) ++ (1 : Word)) 79 64 = Tst.cap.run 95 ∧
      (Tst.cap.reg (pp 95 + R.portLnkCred)).toNat < (((0 : BitVec 184) ++ (1 : Word)).extractLsb' 0 64 : Word).toNat ∧ Tst.cap.lnk 95 = 4) ∧
    (∀ ty ∈ [1, 2, 3], let s := Tst.cap; let o := pp 95 + R.portLnkFcred; let rc := Tst.rec_ ty;
      let win := (s.f o 31 0 + 2 ^ 33 - s.f o 63 32 - (s.port 95).lostF.toNat) % 2 ^ 32;
      win ≠ 0 ∧ win ≤ 4096 ∧ fld rc 191 184 = ty ∧ s.b (pp 95 + R.portFailStat) 0 = false ∧
      s.captured 95 (nearest 48 (fld rc 183 136) (s.consumed 95)) (nearest 56 (fld rc 63 8) s.now.toNat) = true ∧
      (s.groups 95).filter (fun g => s.grpBits 95 g (fld rc 135 104) != 0) = [7]) ∧
    (let d : Delivery := ⟨0, 1, 0, 0, 0, 0, 0, false⟩;
      let s0 := Tst.at1 (Tst.slot 0x801 0 0 0 0 0) (Tst.tok 0 0 0 0) [];
      let s := { ((s0.putF (pp 95 + R.portLnkStat) 2 0 4).updPort 95 (fun x => { x with phase := 4 })) with failArr := [(95, d)] };
      s.porst = false ∧ s.bamior 95 = false ∧ (s.port 95).phase = 4 ∧
      takeFirst (fun e => e.1 == 95 && s.failReady e.2) s.failArr = some ((95, d), []) ∧
      sOp (SMap.get 0 ((s.tile (dTile d.dest)).pe (dPe d.dest)).nodes (dNode d.dest)) = 0x801 ∧
      sMode (SMap.get 0 ((s.tile (dTile d.dest)).pe (dPe d.dest)).nodes (dNode d.dest)) = 0) ∧
    (∀ n ∈ [1, 3], let d : Delivery := ⟨0, 1, 0, 0, 0, 0, 0, false⟩; let l := List.replicate n d;
      let s := Tst.cap.updPort 95 (fun x => { x with fails := [⟨l, true⟩] });
      takeFirst (fun e => e.1 == 95 && s.failReady e.2) s.failArr = none ∧ (s.port 95).fails = [⟨l, true⟩] ∧
      (s.inject (pageNode .hub (95 / 4)) (tileNode (dTile d.dest)) 3 5 0 (.fails 95 (sameTile (dTile d.dest) 3 l).1)).1 = true ∧
      (sameTile (dTile d.dest) 3 l).2 = []) ∧
    (∀ sw ∈ [true, false], let s := Tst.cap.updPort 95 (fun x => { x with switching := sw });
      (s.port 95).switching = sw ∧ ((((0 : BitVec 120) ++ (0x10000 : Word) ++ (0 : Word)).extractLsb' 80 16 : BitVec 16)).toNat = s.portGen 95 ∧ s.pst 95 = 2 ∧
      ((s.putB (pp 95 + R.portLnkStat) 9 true).putF (pp 95 + R.portLnkStat) 31 16 1).drives 95 = true) ∧
    (let s := Tst.cap.putF (pp 95 + R.portLnkStat) 2 0 3; s.bamior 95 = false ∧ (s.port 95).phase = 4 ∧ s.lnk 95 ≠ 4) ∧
    (∀ c ∈ [(1, 0), (0, 1), (0, 15), (0, 22)], let b : Byte := BitVec.ofNat 8 c.2;
      c.1 = 1 ∨ (b ≠ 0 ∧ b ≠ 8 ∧ (b.toNat < 16 ∨ 21 < b.toNat))) ∧
    (let s := { Tst.cap with now := 15729 }; s.bamior 95 = false ∧ (s.port 95).phase = 4 ∧ 15729 ≤ dur (s.port 95).lastSync s.now) := by
  and_intros <;> (try dsimp only) <;> decide +kernel

/-- A sideband request with tag 3, sent at pack time 0. -/
def Tst.sb : SbReq := { tag := 3, subch := 0, write := false, addr := 0, be := 0, data := 0, sent := some 0 }

/-- The spare lane of a hub: STATE and the port it serves. -/
def Tst.spare (h st p lane : Nat) : State :=
  let o := hp h + R.hubLnkSpare
  (((Tst.up.putF o 14 12 st).putF o 6 0 p).putF o 9 8 lane).putB o 7 true

theorem witness_LinksComplete :
    (let s := (Tst.link 95).updPort 95 (fun x => { x with sb := [Tst.sb] });
      s.porst = false ∧ s.bamior 95 = false ∧ (s.port 95).phase = 4 ∧ fld ((0 : BitVec 120) ++ (0 : Word) ++ (3 : Word)) 7 0 = 3 ∧ fld ((0 : BitVec 120) ++ (0 : Word) ++ (3 : Word)) 11 8 = 0 ∧
      takeFirst (fun q => q.tag == 3 && q.sent.isSome) (s.port 95).sb = some (Tst.sb, [])) ∧
    (let s := { (Tst.link 95).updPort 95 (fun x => { x with sb := [Tst.sb] }) with now := BitVec.ofNat 64 (10 * us) };
      takeFirst (fun q => q.tag == 3 && q.sent.any (fun a => decide (10 * us ≤ dur a s.now))) (s.port 95).sb = some (Tst.sb, [])) ∧
    (let s := (Tst.link 95).updPort 95 (fun x => { x with sbBlocked := [(3, 0)] });
      takeFirst (fun b => b.1 == 3 && decide (b.2.toNat ≤ s.now.toNat)) (s.port 95).sbBlocked = some ((3, 0), [])) ∧
    (∀ n ∈ [14, 15], let s := Tst.up.updPort 95 (fun x => { x with phase := 2, readies := n, skews := [(0, 0), (1, 5), (2, 32)] });
      let f : TrainFrame := ⟨true, 3, 2, 0, 0, 32⟩;
      (s.port 95).phase = 2 ∧ (s.port 95).onSpare = none ∧ (s.port 95).skews = [(0, 0), (1, 5), (2, 32)] ∧
      ((s.updPort 95 (fun x => { x with skews := SMap.set 0 x.skews f.lane f.skew })).port 95).deskewed 4 = true ∧ f.marker = true ∧ f.state = 2 ∧ f.mode = b2n (s.bamior 95) ∧ (s.port 95).readies = n) ∧
    (let s := { (Tst.up.updPort 95 (fun x => { x with phase := 1 })).putF (pp 95 + R.portLnkCtl) 47 32 1 with now := BitVec.ofNat 64 (1000 * us) };
      1 ≤ (s.port 95).phase ∧ s.lnk 95 ≠ 4 ∧ 1000 * us * s.f (pp 95 + R.portLnkCtl) 47 32 ≤ dur (s.port 95).trainAt s.now) ∧
    (let s := { (Tst.spare 23 0 95 3).updPort 95 (fun x => { x with phase := 1, locks := [(3, 63)] }) with now := BitVec.ofNat 64 (1000 * us) };
      let o := hp (95 / 4) + R.hubLnkSpare;
      (s.port 95).phase = 1 ∧ 1000 * us ≤ dur (s.port 95).trainAt s.now ∧ SMap.get 0 (s.port 95).locks 3 < 64 ∧ s.b o 7 = true ∧
      s.f o 6 0 = 95 ∧ s.f o 14 12 = 0) ∧
    (∀ a ∈ [65, 256], let s := ((Tst.spare 23 2 95 3).updHub 23 (fun x => { x with swapAt := a })).updPort 95 (fun x => { x with blk := some 0 });
      s.f (hp 23 + R.hubLnkSpare) 14 12 = 2 ∧ fld ((0 : BitVec 120) ++ (0 : Word) ++ (BitVec.ofNat 64 a : Word)) 31 0 = (s.hub 23).swapAt ∧
      64 < (s.port (s.f (hp 23 + R.hubLnkSpare) 6 0)).until (s.hub 23).swapAt ∧
      (s.port (s.f (hp 23 + R.hubLnkSpare) 6 0)).until (s.hub 23).swapAt ≤ 256) ∧
    (∀ a ∈ [0, 64, 257], let s := ((Tst.spare 23 2 95 3).updHub 23 (fun x => { x with swapAt := a })).updPort 95 (fun x => { x with blk := some 0 });
      s.f (hp 23 + R.hubLnkSpare) 14 12 = 2 ∧ (s.hub 23).acked = false ∧
      ((s.port (s.f (hp 23 + R.hubLnkSpare) 6 0)).until (s.hub 23).swapAt ≤ 64 ∨
        256 < (s.port (s.f (hp 23 + R.hubLnkSpare) 6 0)).until (s.hub 23).swapAt)) ∧
    (∀ a ∈ [0, 257], let s := ((Tst.spare 23 2 95 3).updHub 23 (fun x => { x with swapAt := a, acked := true })).updPort 95 (fun x => { x with blk := some 0, phase := 4 });
      s.f (hp 23 + R.hubLnkSpare) 14 12 = 2 ∧ (s.port (s.f (hp 23 + R.hubLnkSpare) 6 0)).phase = 4 ∧ (s.hub 23).acked = true ∧
      ((s.port (s.f (hp 23 + R.hubLnkSpare) 6 0)).until (s.hub 23).swapAt = 0 ∨
        256 < (s.port (s.f (hp 23 + R.hubLnkSpare) 6 0)).until (s.hub 23).swapAt)) := by
  and_intros <;> (try dsimp only) <;> decide +kernel

/-! ## Witnesses: the Retriever -/

/-- A CCW: command, flags, count, unit, address, parameter. -/
def Tst.ccw (cmd flags count unit addr param : Nat) : BitVec 128 :=
  BitVec.ofNat 128 (cmd * 2 ^ 120 + flags * 2 ^ 112 + count * 2 ^ 96 + unit * 2 ^ 80 + addr * 2 ^ 32 + param)

/-- Subchannel 63 ACTIVE at address 0x4000 with the CCW `w` read. -/
def Tst.sub (w : BitVec 128) : State :=
  let s := (Tst.up.setSub 63 1).putB (rtp 0 + R.retEngCtl) 0 true
  (s.putF (rtp 63 + R.retScCcw) 47 0 0x4000).updSub 63 (fun x => { x with ccw := some w })

/-- The conditions of a CCW that may execute. -/
def Tst.reads (s : State) (w : BitVec 128) : Bool :=
  !s.porst && s.subSt 63 == 1 && (s.sub 63).ccw == some w && (s.sub 63).op == none && !(s.sub 63).busy && !(s.sub 63).unitWait &&
    !(s.sub 63).semWait && (s.sub 63).frame == none && !s.brace.swapping && s.memAwake

theorem Tst.reads_of {s : State} {w : BitVec 128} (h : Tst.reads s w = true) : s.Reads 63 w := by
  simp only [Tst.reads, Bool.and_eq_true, Bool.not_eq_true', beq_iff_eq] at h
  obtain ⟨⟨⟨⟨⟨⟨⟨⟨⟨a, b⟩, c⟩, d⟩, e⟩, f⟩, g⟩, i⟩, j⟩, _⟩ := h
  exact ⟨a, by decide, b, c, d, ⟨e, f, g⟩, i, j⟩

/-- A CCW passes its checks. -/
def Tst.goes (s : State) (w : BitVec 128) : Bool :=
  Tst.reads s w && (s.unitCheck w).isNone && (countCheck (cCmd w) (cKind w) w).isNone

/-- The segments of a CCW. -/
def Tst.segsOk (s : State) (w : BitVec 128) : Bool :=
  (s.ccwSegs 63 w).2.1.isNone && !((s.ccwSegs 63 w).2.2.standby && !spi0 (cUnit w))

theorem witness_UnitCommandsComplete :
    (∀ u ∈ [0x2000, 0x2300, 0x3000, 0x3300], ∀ cmd ∈ [1, 2], let w := Tst.ccw cmd 0 5 u 0x5003 0; let s := Tst.sub w;
      let g := (s.ccwSegs 63 w).1; let s1 := (s.ccwSegs 63 w).2.2;
      Tst.goes s w = true ∧ (unitBus (cUnit w)).isSome = true ∧ Tst.segsOk s w = true ∧ cCmd w = cmd ∧ cDiscard w = false ∧
      (match (s1.subReads 63 g 0).1 with | .data _ => true | _ => false) = true) ∧
    (let w := Tst.ccw 3 0 5 0x2000 0x5003 0; let s := Tst.sub w; let g := (s.ccwSegs 63 w).1; let s1 := (s.ccwSegs 63 w).2.2;
      Tst.goes s w = true ∧ (unitBus (cUnit w)).isSome = true ∧ Tst.segsOk s w = true ∧ cCmd w = 3 ∧
      (match (s1.subReads 63 g 0).1 with | .data _ => true | _ => false) = true) ∧
    (∀ u ∈ [0x1000 + 95, 0x2000, 0x3000, 0x4000], let w := Tst.ccw 4 0 8 u 0x5003 0; let s := Tst.sub w;
      Tst.goes s w = true ∧ Tst.segsOk s w = true ∧ cCmd w = 4) ∧
    (let w := Tst.ccw 2 0 5 (0x1000 + 95) 0x5003 0; let s := { Tst.sub w with ports := (Tst.link 95).ports }.putF (pp 95 + R.portLnkStat) 2 0 4;
      Tst.goes s w = true ∧ Tst.segsOk s w = true ∧ cCmd w = 2 ∧ cDiscard w = false ∧ cKind w = 1 ∧ cParam w % 8 = 0 ∧
      (s.ccwSegs 63 w).2.2.lnk (cUnit w % 128) = 4 ∧ (s.ccwSegs 63 w).2.2.bamior (cUnit w % 128) = false) ∧
    (let w := Tst.ccw 2 0 32 0x4700 0x5003 0; let s := Tst.sub w;
      Tst.goes s w = true ∧ Tst.segsOk s w = true ∧ cCmd w = 2 ∧ cDiscard w = false ∧ cKind w = 4 ∧ cUnit w / 256 % 16 = 7) ∧
    (∀ op ∈ [0, 1, 2, 3, 4, 5, 6], let w := Tst.ccw 3 0 0 (0x4000 + 256 * op + if op = 5 then 3 else 0) 0 (2 ^ 31); let s := Tst.sub w;
      Tst.goes s w = true ∧ cCmd w = 3 ∧ cKind w = 4 ∧ cUnit w / 256 % 16 = op ∧ cInd w = false ∧ cCount w = 0 ∧ s.standby = false) := by
  and_intros <;> (try dsimp only) <;> decide +kernel

theorem witness_RetrieverComplete :
    (let o := rtp 63; let s := ((Tst.up.putB (o + R.retScCtl) 0 true).putF (o + R.retScSprod) 31 0 1).wr 0 16 0x4000;
      s.porst = false ∧ s.subSt 63 = 0 ∧ s.memAwake = true ∧ s.b (o + R.retScCtl) 0 = true ∧ s.f (o + R.retScScons) 31 0 ≠ s.f (o + R.retScSprod) 31 0 ∧
      s.subStalled 63 = false ∧ s.b (o + R.pgErrLevel) 2 = false ∧
      let m := s.memRead (s.f (o + R.retScSring) 47 8 * 256 + 16 * (s.f (o + R.retScScons) 31 0 % 2 ^ s.f (o + R.retScSring) 4 0)) 16;
      m.1 = .ok ∧ ofLe (m.2.1.take 6) % 16 = 0) ∧
    (let s := ((Tst.sub 0).updSub 63 (fun x => { x with ccw := none })).wr 0x4000 16 (Tst.ccw 15 0 0 0 0 0).toNat;
      let m := s.memRead (s.ccwAddr 63) 16; let w : BitVec 128 := BitVec.ofNat 128 (ofLe m.2.1);
      s.memAwake = true ∧ s.subSt 63 = 1 ∧ (s.sub 63).ccw = none ∧ (s.sub 63).op = none ∧ s.subStalled 63 = false ∧ m.1 = .ok ∧ cSusp w = false ∧
      cmdOk (cCmd w) = true ∧ flagsOk (cCmd w) w = true) ∧
    (let w := Tst.ccw 8 0 0 0 0x4010 0; let s := (Tst.sub w).putF (rtp 63 + R.retScCtl) 48 32 0;
      Tst.reads s w = true ∧ cCmd w = 8 ∧ cAddr w % 16 = 0 ∧ dataAddrOk (cAddr w) = true ∧ s.f (rtp 63 + R.retScCtl) 48 32 = 0) ∧
    (∀ c ∈ [0, 1], ∀ l ∈ [true, false], ∀ f ∈ [0, 128], let w := Tst.ccw 9 0 c 0 0 (63 + f); let s := (Tst.sub w).setLatch 63 63 l;
      let s1 := s.setTmo 63 false; let s2 := if bit w 7 then s1.setLatch 63 (waitLatch w) false else s1;
      Tst.reads s w = true ∧ cCmd w = 9 ∧ bit w 6 = false ∧ (s2.latched 63 (waitLatch w) = true ↔ l = true ∧ f = 0)) ∧
    (∀ k ∈ [0, 1], let w := Tst.ccw 10 0 0 0 0 (2 ^ 31 + k); let s := Tst.sub w;
      let t := s.now + BitVec.ofNat 64 (16 * (cParam w - 2 ^ 31));
      Tst.reads s w = true ∧ cCmd w = 10 ∧ 2 ^ 31 ≤ cParam w ∧ (t.toNat ≤ s.now.toNat ↔ k = 0)) ∧
    (∀ c ∈ [0, 1, 2], let w := Tst.ccw 11 4 3 0 0 c; let s := Tst.sub w;
      Tst.reads s w = true ∧ cCmd w = 11 ∧ cCount w ≠ 0 ∧ fld w 3 0 < 3 ∧ cCont w = 1 ∧
      (skipHolds (fld w 3 0) (fld w 31 16) 0 (s.tmo 63) = true ↔ c ≠ 1)) ∧
    (let w := Tst.ccw 12 4 127 0 0 9; Tst.reads (Tst.sub w) w = true ∧ cCmd w = 12 ∧ cCount w < 128 ∧ bit w 102 = true) ∧
    (let w := Tst.ccw 12 4 63 0 0 9; Tst.reads (Tst.sub w) w = true ∧ cCmd w = 12 ∧ cCount w < 128 ∧ bit w 102 = false) ∧
    (let w := Tst.ccw 15 0 0 0 0 0; Tst.reads (Tst.sub w) w = true ∧ cCmd w = 15) ∧
    (let w := Tst.ccw 1 0 5 0x3300 0x5000 0;
      let s := { (Tst.sub w).updSub 63 (fun x => { x with op := some w, busy := true, onBus := some 7, want := 5 }) with
        ret := { ((Tst.sub w).updSub 63 (fun x => { x with op := some w, busy := true, onBus := some 7, want := 5 })).ret with buses := [(7, [63])] } };
      (s.sub 63).ccw = some w ∧ (s.sub 63).op = some w ∧ (s.sub 63).onBus = some 7 ∧ (s.sub 63).busy = true ∧
      (s.busQ 7).head? = some 63 ∧ bit w 0 = false ∧ cCmd w ≠ 2 ∧ (s.sub 63).after = false) ∧
    (let w := Tst.ccw 9 0 1 0 0 3; let s := ((Tst.sub w).setSub 63 2).updSub 63 (fun x => { x with till := some 0 });
      s.waiting 63 = some w ∧ s.memAwake = true ∧ (s.sub 63).till = some 0 ∧ (0 : Word).toNat ≤ s.now.toNat ∧ bit w 6 = false) ∧
    (let w := Tst.ccw 10 0 1 0 0 3; let s := ((Tst.sub w).setSub 63 2).updSub 63 (fun x => { x with till := some 0 });
      s.memAwake = true ∧ s.subSt 63 = 2 ∧ (s.sub 63).ccw = some w ∧ (s.sub 63).till = some 0 ∧ cCmd w = 10 ∧ (0 : Word).toNat ≤ s.now.toNat) ∧
    (∀ rise ∈ [true, false], ∀ m ∈ [0, 3], let s := { Tst.up with ret := { Tst.up.ret with garm := if m = 0 then [] else [(31, m)] } };
      ((SMap.get 0 s.ret.garm 31).testBit (if rise then 0 else 1) = true ↔ m = 3) ∧ s.ret.fifo.length < 256) ∧
    (let w := Tst.ccw 1 0 16 0x5000 0 0; let s := { (Tst.sub w).updSub 63 (fun x => { x with remote := some (5, 6, 0) }) with now := BitVec.ofNat 64 (100 * us) };
      (s.sub 63).remote = some (5, 6, 0) ∧ s.memAwake = true ∧ (s.sub 63).ccw = some w ∧ 100 * us ≤ dur 0 s.now) := by
  and_intros <;> (try dsimp only) <;> decide +kernel

/-! ## Witnesses: Kennel, Bark, semaphores, DMA -/

/-- Kennel enabled, ring 255 an IN ring of 16 entries at 0x8000 with one item posted whose words begin with `w0`. -/
def Tst.ken (w0 : Nat) : State :=
  let s := (((Tst.up.putF (kr 255) 47 8 0x80).putF (kr 255) 4 0 4).putB (kr 255) 6 true).putF (kr 255 + 8) 31 0 1
  (s.putB (kp + R.kenCtl) 0 true).wr 0x8000 8 w0

/-- An item with number 3. -/
def Tst.kitem (st : KState) : KItem := ⟨3, 7, 255, 0, 0, 0, 0, st⟩

/-- Core 15 enabled for items, or for threads. -/
def Tst.kcore (thr : Bool) : State := ((Tst.ken 0).putB (kp + R.kenCoreCtl + 8 * 15) 0 true).putB (kp + R.kenCoreCtl + 8 * 15) 1 thr

theorem witness_KennelAndBarkComplete :
    (∀ o ∈ [0, 1], let s := (Tst.ken (o * 2 ^ 22)).updKen (fun k => { k with flows := [(0, { out := 256 })] });
      let a := s.ringBase (kenRing 255) + 32 * (s.f (kr 255 + 16) 31 0 % 2 ^ s.f (kr 255) 4 0);
      s.porst = false ∧ s.kenIn 255 = true ∧ s.memAwake = true ∧ s.b (kp + R.kenCtl) 0 = true ∧ s.f (kr 255 + 16) 31 0 ≠ s.f (kr 255 + 8) 31 0 ∧ s.kenFree ≠ 0 ∧
      (s.memRead a 32).1 = .ok ∧ (let w : Word := BitVec.ofNat 64 (ofLe ((s.memRead a 32).2.1.take 8));
        (bit w 22 = true ↔ o = 1) ∧ 256 ≤ (s.kflow (fld w 35 24)).out)) ∧
    (let i := Tst.kitem (.delayed 16000); let s := { (Tst.ken 0).updKen (fun k => { k with items := [i] }) with now := 16000 };
      s.ken.items = [i] ∧ s.memAwake = true ∧ i.st = .delayed 16000 ∧ ((16000 : Word).toNat + (us - 1)) / us * us ≤ s.now.toNat) ∧
    (let i := Tst.kitem .ready; let s := (Tst.kcore false).updKen (fun k => { k with items := [i], ready := [3] });
      s.memAwake = true ∧ s.b (kp + R.kenCtl) 0 = true ∧ s.workIdle 15 = true ∧ (List.range 15).any s.workIdle = false ∧ s.nextItem = some i) ∧
    (let s := (Tst.kcore true).updKen (fun k => { k with threads := [(255, { st := .ready })], thrRdy := [255] });
      s.memAwake = true ∧ s.b (kp + R.kenCtl) 0 = true ∧ s.workIdle 15 = false ∧ s.thrIdle 15 = true ∧
      firstMin (fun t => (s.thr t).prio) (s.readyThreads 15) = some 255) ∧
    (let s := { (Tst.ken 0).updKen (fun k => { k with threads := [(255, { st := .onTime 1 })] }) with now := 16000 };
      (s.thr 255).st = .onTime 1 ∧ s.memAwake = true ∧ ((1 : Word).toNat + (us - 1)) / us * us ≤ s.now.toNat) ∧
    (let s := { ((Tst.ken 0).putB (kp + R.kenCtl) 1 true).updKen (fun k => { k with threads := [(0, { st := .ready }), (1, { st := .running 15, slice := 1 })], thrRdy := [0], cores := [(15, { st := 2, what := 1 })] }) with now := BitVec.ofNat 64 us };
      (s.kc 15).st = 2 ∧ s.memAwake = true ∧ (s.kc 15).preempt = false ∧ (s.thr (s.kc 15).what).slice ≠ 0 ∧
      us * (s.thr (s.kc 15).what).slice ≤ dur (s.kc 15).since s.now ∧ s.b (kp + R.kenCtl) 1 = true ∧
      (s.readyThreads 15).any (fun u => (s.thr u).prio == s.corePrio 15) = true) ∧
    (let o := pageAt .bark 8 + R.barkSrc + 8 * 255; let s := (((Tst.up.putB (pageAt .bark 0 + R.barkCtl) 0 true).putF o 23 16 1).putF o 3 0 15).putF o 7 4 15 |>.updCore 15 (fun x => { x with st := 1, psw := 0x2000000, gpr := [(7, BitVec.ofNat 64 shepBase + 64)] });
      s.mayInterrupt 15 = true ∧ s.memAwake = true ∧ s.selectSource 15 (s.core 15).ilvl = some 2047 ∧
      ((s.inc (shp 15 + R.shepCoreStat) 63 32).pushFrame 15 { vec := .interrupt, source := 2047 } (s.core 15).pc).isSome = true) ∧
    (let s := ((Tst.up.putF (rtp 63 + R.retScCring) 4 0 4).putB (rtp 63 + R.retScCring) 5 true).updSub 63 (fun x => { x with stash := [[1, 2, 3, 4]] });
      (s.sub 63).stash = [[1, 2, 3, 4]] ∧ s.memAwake = true ∧ (s.ringPush (retRing 63) [1, 2, 3, 4]).1 = true) := by
  and_intros <;> (try dsimp only) <;> decide +kernel

/-- An access of 8 bytes through semaphore window `k` to address `a`. -/
def Tst.semReq (k a : Nat) (wr : Bool) : SemReq := ⟨9, 1, 0x7009, BitVec.ofNat 48 (0x4000000000 * (k + 1) + a), 8, wr, 32⟩

/-- The conditions of a window access that its unit serves. -/
def Tst.semOk (s : State) (r : SemReq) (u k : Nat) : Bool :=
  let a := semInner r.addr.toNat
  !s.porst && (s.takeReq r.node r.txid == (none, s)) && !s.isolated (unitNode u) && unitOf a == some u && decide (a % 8 = 0) && r.bytes == 8 && s.engineStatus a 8 false == .ok && (s.visit a .ok 8).checkMem a 8 false == s && s.asleep a == none &&
    region r.addr.toNat == .sem k

theorem witness_SemaphoresComplete :
    (∀ ua ∈ [(0, 0), (1, 0x100), (4, shepBase)], ∀ k ∈ [0, 2], ∀ n ∈ [0, 1], let r := Tst.semReq k ua.2 false;
      let s := Tst.up.wr ua.2 8 n; let w := s.rd64 (semInner r.addr.toNat);
      Tst.semOk s r ua.1 k = true ∧ (s.semFree ua.1 (semInner r.addr.toNat) = true ↔ n = 1) ∧
      (s.waitersOf ua.1).length < waitCap ua.1 ∧ semMutex w = false ∧ (semCount w = 0 ↔ n = 0)) ∧
    (let r := Tst.semReq 0 0x100 false; let s := Tst.up.putF (domAt 169) 4 2 1;
      unitOf (semInner r.addr.toNat) = some 1 ∧ s.isolated (unitNode 1) = false ∧ (s.takeReq r.node r.txid).1 = none ∧
      s.asleep (semInner r.addr.toNat) = some 1 ∧ region r.addr.toNat = .sem 0) ∧
    (let r := Tst.semReq 3 0x100 false; Tst.semOk Tst.up r 1 3 = true ∧ r.write = false) ∧
    (let r := Tst.semReq 1 0x100 true; let h : Hold := ⟨1, 0x100, 0x7009, 5, false, false⟩; let s := { Tst.up with holds := [h] };
      Tst.semOk s r 1 1 = true ∧ r.write = true ∧
      takeFirst (fun h => h.liveOn 1 (semInner r.addr.toNat) && h.origin == r.origin && !h.old) s.holds = some (h, [])) ∧
    (let r := Tst.semReq 1 0x100 true; let w := Tst.up.rd64 (semInner r.addr.toNat);
      Tst.semOk Tst.up r 1 1 = true ∧ r.write = true ∧ Tst.up.holds = [] ∧ semMutex w = false ∧ semCount w ≠ 2 ^ 32 - 1) ∧
    (let q : MemReq := ⟨9, 1, 0x7009, 0x100, 0x0F, 7, ⟨[], false⟩⟩; Tst.up.porst = false ∧ unitOf q.addr.toNat = some 1 ∧ Tst.up.engineStatus q.addr.toNat 1 true = .ok ∧ Tst.up.asleep q.addr.toNat = none) ∧
    (let h : Hold := ⟨4, shepBase, 0x7009, 5, false, false⟩; let s := { Tst.up with holds := [h], now := 5 };
      (s.holdsOf 4).filter (fun h => !h.expired && decide (h.till.toNat ≤ s.now.toNat)) = [h]) ∧
    ({ Tst.up with notices := [0x7009] } : State).notices.contains 0x7009 = true := by
  and_intros <;> (try dsimp only) <;> decide +kernel

/-- Channel 31 enabled, its ring at 0x8000 with one descriptor posted whose first word is `w0`. -/
def Tst.dma (w0 : Nat) : State :=
  let s := ((((Tst.up.putF (dp 31 + R.dmaRing) 47 8 0x80).putF (dp 31 + R.dmaRing) 4 0 4).putB (dp 31 + R.dmaCtl) 0 true).putF (dp 31 + R.dmaProd) 31 0 1)
  s.wr 0x8000 8 w0

/-- A begun descriptor of OP `op` and 16 bytes. -/
def Tst.desc (op src dst : Nat) : DmaDesc := ⟨0, BitVec.ofNat 64 (16 * 2 ^ 32 + 4 + op), src, dst, 9, none⟩

/-- Channel 31 with that descriptor begun. -/
def Tst.begun (d : DmaDesc) : State := (Tst.dma 0).updDma 31 (fun x => { x with begun := [d] })

theorem witness_DmaComplete :
    (let s := Tst.dma 4; let w0 := (s.memRead 0x8000 32).2.2.rd64 0x8000;
      s.porst = false ∧ (s.dmaCh 31).held = none ∧ s.memAwake = true ∧ s.dmaNext 31 = some 0x8000 ∧ (s.memRead 0x8000 32).1 = .ok ∧ bit w0 2 = true) ∧
    (∀ fence ∈ [0, 8], ∀ l ∈ [[], [Tst.desc 0 0 0x1000]], let d := { Tst.desc 0 0 0x1000 with w0 := BitVec.ofNat 64 (4 + fence) };
      let s := (Tst.dma 0).updDma 31 (fun x => { x with held := some d, begun := l });
      (s.dmaCh 31).held = some d ∧ ((bit d.w0 3 && !(s.dmaCh 31).begun.isEmpty) = true ↔ fence = 8 ∧ l ≠ []) ∧
      (s.dmaCh 31).waitsFor d.w0 = false) ∧
    (let d := { Tst.desc 0 0 0x1000 with w0 := BitVec.ofNat 64 (4 + 2 ^ 11 + 63 * 2 ^ 12) };
      let s := (Tst.dma 0).updDma 31 (fun x => { x with held := some d });
      (s.dmaCh 31).held = some d ∧ (s.dmaCh 31).waitsFor d.w0 = true) ∧
    (∀ sd ∈ [(0x1000, 0x1010), (shepBase, 0x30)], let d := Tst.desc 0 sd.1 sd.2; let s := Tst.begun d;
      (s.dmaCh 31).begun.find? (fun d => d.fin.isNone) = some d ∧ s.memAwake = true ∧ d.len ≠ 0 ∧ fld d.w0 1 0 = 0 ∧ dmaRegion d.src d.len = true ∧
      dmaRegion d.dst d.len = true ∧ overlap d.src d.dst d.len = false ∧ (s.dmaMove d.src d.dst d.len (d.len / 64 + 2)).1 = .ok) ∧
    (let d := Tst.desc 1 0 0x1000; let s := Tst.begun d;
      (s.dmaCh 31).begun.find? (fun d => d.fin.isNone) = some d ∧ s.memAwake = true ∧ d.len ≠ 0 ∧ fld d.w0 1 0 = 1 ∧ d.dst % 8 = 0 ∧ d.len % 8 = 0 ∧
      dmaRegion d.dst d.len = true ∧ (s.dmaFillMem d.dst d.len d.cst (d.len / 64 + 2)).1 = .ok) ∧
    (let d := Tst.desc 2 0 0x1000; let s := Tst.begun d;
      (s.dmaCh 31).begun.find? (fun d => d.fin.isNone) = some d ∧ s.memAwake = true ∧ d.len ≠ 0 ∧ fld d.w0 1 0 = 2 ∧ dmaRegion d.src d.len = true ∧
      dmaRegion d.dst d.len = true ∧ (s.dmaCmp d.src d.dst d.len 0 (d.len / 32 + 4)).1 = .ok) ∧
    (let d := { Tst.desc 0 0 0x1000 with fin := some (0, none) };
      ((Tst.begun d).dmaCh 31).begun = [d] ∧ (Tst.begun d).memAwake = true ∧ d.fin = some (0, none) ∧ fld d.w0 1 0 ≠ 2) := by
  and_intros <;> (try dsimp only) <;> decide +kernel

/-! ## Witnesses: memory, mesh, power, time -/

/-- A line without errors. -/
def Tst.noErr : LineErr := ⟨[], false⟩

/-- An access of the mesh to address `a`. -/
def Tst.mreq (a : Nat) : MemReq := ⟨9, 1, 0x7009, BitVec.ofNat 48 a, 0xFF, 0, Tst.noErr⟩

theorem witness_MemoryComplete :
    (∀ au ∈ [(0x1F8, 1), (shepBase + 0x7FFFF8, 4)], let r := Tst.mreq au.1; let s := Tst.up; let s0 := (s.takeInbox r).2;
      let ad := r.addr.toNat;
      s.porst = false ∧ (region ad = .hbm ∨ region ad = .shep) ∧ s.reqTarget (ad / 8 * 8) 8 = (unitNode au.2, none) ∧
      ((s0.visit (ad / 8 * 8) .ok).unitRead (ad / 8 * 8) 8 Tst.noErr).1 = true ∧
      s.reqTarget (ad / 64 * 64) 64 = (unitNode au.2, none) ∧ s.asleep (ad / 8 * 8) = none ∧ s.asleep (ad / 64 * 64) = none ∧
      ((s0.visit (ad / 64 * 64) .ok).unitRead (ad / 64 * 64) 64 Tst.noErr).1 = true ∧ unitOf (ad / 8 * 8) = some au.2) ∧
    (let r := Tst.mreq (shepBase + 0x7FFFF8); let ad := r.addr.toNat; region (ad / 8 * 8) = .shep ∧ r.be = 255) ∧
    (let r := Tst.mreq 0x1F8; let ad := r.addr.toNat; let s := Tst.up.putF (domAt 169) 4 2 1;
      s.reqTarget (ad / 8 * 8) 8 = (unitNode 1, none) ∧ (s.takeInbox r).1 = none ∧ s.asleep (ad / 8 * 8) = some 1) ∧
    (let ad := (Tst.mreq 0x1F8).addr.toNat; region (ad / 8 * 8) ≠ .shep) ∧
    (∀ v ∈ [0, 1], let r := Tst.mreq 0x100; let s := Tst.up.wr 0x100 8 v; let s0 := (s.takeInbox r).2;
      let s1 := ((s0.visit 0x100 .ok).unitRead 0x100 8 Tst.noErr).2;
      unitOf 0x100 = some 1 ∧ ((s0.visit 0x100 .ok).unitRead 0x100 8 Tst.noErr).1 = true ∧ (s1.rd 0x100 8 = fld r.data 63 0 ↔ v = 0)) ∧
    (∀ k ∈ [0, 3], region (Tst.mreq (0x4000000000 * (k + 1) + 0x100)).addr.toNat = .sem k) := by
  and_intros <;> (try dsimp only) <;> decide +kernel

/-- A flit on VN1 with a route of two hops to the east, in the west input of node 1. -/
def Tst.flit : Flit := ⟨0, 2, 0, 1, false, true, 0, 1, 0, .req (Tst.mreq 0) 1⟩

/-- A request of tile 0 that is outstanding since pack time 0. -/
def Tst.outst : Outst := ⟨tileNode 0, 4095, 0, 0, false, .store 0 (Tst.fr1 0x703 1 0 0 0 0)⟩

theorem witness_MeshComplete :
    (let o := Tst.outst; let s := { Tst.up with outst := [o], now := 160000 };
      s.porst = false ∧ o.node < 160 ∧ s.outst.find? (fun p => p.node == o.node && p.txid == o.txid) = some o ∧
      s.wakeSince = none ∧ 160000 ≤ dur o.since s.now) ∧
    (let f := Tst.flit; let s := (Tst.up.setReg (pageAt .noc 1 + R.nocRtrCtl) 0x1F).setBuf (bufKey 1 1 1) [f];
      let s0 := (s.setBuf (bufKey 1 1 1) []).probes 1 1 0 f; let en := s0.f (pageAt .noc 1 + R.nocRtrCtl) 4 0;
      s.buf (bufKey 1 1 1) = [f] ∧ s.outFree 1 f.outPort 1 f.flits = true ∧ s.vnTurn 1 f.outPort 1 = true ∧ f.outPort ≠ 4 ∧
      en.testBit 1 = true ∧ en.testBit f.outPort = true ∧ hopNode 1 f.outPort = some 2 ∧ en = s.f (pageAt .noc 1 + R.nocRtrCtl) 4 0) ∧
    (let s := Tst.up.putB (pageAt .noc 0 + R.nocFence) 2 true; s.fencing = true ∧ s.oldFlits = 0 ∧ s.oldReqs = 0) ∧
    (Tst.up.putB (hbp 3 + R.hbmcCtl) 0 true).b (hbp 3 + R.hbmcCtl) 0 = true ∧
    (∀ l ∈ [0, 377487359, 377487360, 377487360 + 262143],
      let raw := if l < 377487360 then l else 0x5FA000000 / 64 + (l - 377487360);
      (Tst.up.rawDevice 3 raw).isSome = decide (l < 377487360)) ∧
    Tst.up.f (hbp 4 + R.pgErrInj) 47 32 = 0 ∧
    (let s := Tst.up.updHb 3 (fun h => { h with copy := some (7, 62) });
      (s.hb 3).copy = some (7, 62) ∧ (s.lineRead (hbmDevice 3 (4096 * 7 + 64 * 62)) Tst.noErr).1 = true) ∧
    (let s := { Tst.up.updHb 3 (fun h => { h with tracker := [(7, 1, 0)] }) with now := BitVec.ofNat 64 (2 ^ 62) };
      (s.hb 3).tracker.find? (fun t => t.1 == 7) = some (7, 1, 0) ∧ us * 1000 * s.f (hbp 3 + R.hbmcRetCtl) 31 16 ≤ dur 0 s.now) := by
  and_intros <;> (try dsimp only) <;> decide +kernel

/-- Tiles 1 to 127 held at a voltage of their own: only tile 0 is governed. -/
def Tst.fixed : State := { Tst.up with regs := (List.range 127).map (fun i => (domAt (i + 1), (0x3E80000 : Word))) }

theorem witness_PowerAndTimeComplete :
    (∀ d ∈ [0, 175], let s := Tst.up.putF (domAt d) 4 2 3;
      s.porst = false ∧ s.domState d = 3 ∧ (s.tile d).atRest = true ∧ s.outst.any (fun o => o.node == tileNode d) = false) ∧
    (let s := Tst.up.putF (domAt 151) 4 2 3;
      s.domState 151 = 3 ∧ (s.hub 23).flight = [] ∧ ∀ i ∈ List.range 4, (s.port (92 + i)).fails = []) ∧
    (∀ d ∈ [152, 167], let s := (Tst.up.putF (domAt d) 4 2 3).putF (domAt d) 1 0 2; s.domState d = 3 ∧ s.domCond d (s.f (domAt d) 1 0) = true) ∧
    (∀ d ∈ [168, 171], let s := Tst.up.putF (domAt d) 4 2 3; s.domState d = 3 ∧ s.hbQuiet (d - 168) = true) ∧
    (∀ k ∈ [true, false], let s := ((Tst.up.putF (domAt 127) 4 2 4).putF (domAt 127) 1 0 1);
      let s' := if k then { s with heldFlits := [(tileNode 127, [{ Tst.flit with route := 0 }])], wakeFlits := [(tileNode 127, [(0, Tst.flit)])] } else s;
      s'.domState 127 = 4 ∧ s'.f (domAt 127) 1 0 = 1 ∧ s'.wakeAsk.contains 127 = false ∧ (s'.domPut 127 1 (s'.domOrigin 127)).domCalled 127 = k ∧
      ({ s' with wakeAsk := [127] } : State).wakeAsk.contains 127 = true) ∧
    (Tst.up.putF (domAt 127) 4 2 5).domState 127 = 5 ∧
    (∀ n ∈ [10 * us - 1, 10 * us], let i : GovIn := ⟨[], 0⟩; let s := { Tst.up.putB (pwp + R.pwrCtl) 0 false with now := BitVec.ofNat 64 n };
      let s1 := (({ s with govAt := s.now } : State).thermal i.temps).putF (pwp + R.pwrCapStat) 47 32 i.watts;
      (dur s.govAt s.now < 10 * us ↔ n < 10 * us) ∧ s1.b (pwp + R.pwrCtl) 0 = false) ∧
    (let i : GovIn := ⟨[], 511⟩; let s := { (((Tst.fixed.putB (pwp + R.pwrCtl) 0 true).putB (pwp + R.pwrCtl) 1 true).putF (pwp + R.pwrCap) 8 0 510).putF
        (pwp + R.pwrVlim) 9 0 0 with now := BitVec.ofNat 64 (10 * us) };
      let s1 := (({ s with govAt := s.now } : State).thermal i.temps).putF (pwp + R.pwrCapStat) 47 32 i.watts;
      10 * us ≤ dur s.govAt s.now ∧ s1.b (pwp + R.pwrCtl) 0 = true ∧ s1.b (pwp + R.pwrCtl) 1 = true ∧ s1.f (pwp + R.pwrCap) 8 0 < i.watts ∧
      s1.govTiles.all (fun t => decide (s1.vnow t ≤ s1.f (pwp + R.pwrVlim) 9 0)) = false) ∧
    (∀ w ∈ [499, 500, 510], let i : GovIn := ⟨[], w⟩; let s := { ((Tst.fixed.putB (pwp + R.pwrCtl) 0 true).putB (pwp + R.pwrCtl) 1 true).putF (pwp + R.pwrCap) 8 0
        510 with now := BitVec.ofNat 64 (10 * us) };
      let s1 := (({ s with govAt := s.now } : State).thermal i.temps).putF (pwp + R.pwrCapStat) 47 32 i.watts;
      s1.b (pwp + R.pwrCtl) 0 = true ∧ i.watts ≤ s1.f (pwp + R.pwrCap) 8 0 ∧ (i.watts + 10 < s1.f (pwp + R.pwrCap) 8 0 ↔ w < 500)) ∧
    (∀ t ∈ [0, 1], let s := { Tst.up.putB (tmp + R.timeCtl) 2 true with now := BitVec.ofNat 64 t };
      s.b (tmp + R.timeCtl) 2 = true ∧ (s.now.toNat ≤ (s.reg (tmp + R.timeLoad)).toNat ↔ t = 0)) ∧
    (∀ k ∈ [true, false], let s := ((Tst.up.putF (tmp + R.timeCtl) 1 0 1).putF (tmp + R.timeStat) 2 0 (b2n k));
      s.timeRole = 1 ∧ s.b (tmp + R.timeStat) 2 = false ∧ s.b (tmp + R.timeStat) 0 = k) ∧
    (∀ n ∈ [10 * us - 1, 10 * us], let s := { Tst.up.putF (gaugeAt 255) 15 0 0x1001 with now := BitVec.ofNat 64 n };
      gaugePeriod (s.f (gaugeAt 255) 15 0) = some (10 * us) ∧ (dur (s.gauge 255).last s.now < 10 * us ↔ n < 10 * us)) ∧
    (∀ st ∈ [0, 1, 2, 3, 4, 5], let s := ((Tst.sub 0).updSub 63 (fun x => { x with ccw := none })).putF (domAt (168 + hbmUnit 0x4000)) 4 2 st;
      s.slept (s.ccwFetch 63) = if st = 0 ∨ st = 3 then [] else [hbmUnit 0x4000]) := by
  and_intros <;> (try dsimp only) <;> decide +kernel

/-! ## Witnesses: the pack -/

/-- Link `l` UP. -/
def Tst.lup (l : Nat) : State :=
  if l < 96 then (Tst.up.putB (pageAt .port l + R.portLnkCtl) 1 true).putF (pageAt .port l + R.portLnkStat) 2 0 4
  else Tst.up.putB (pageAt .brc 0 + R.brcStat) (4 + (l - 96)) true

/-- The pack routes device 5 over port 3. -/
def Tst.routed (l : Nat) : State := { Tst.lup l with packRt := [(5, 128 + 3)] }

theorem witness_PackComplete :
    (∀ l ∈ [0, 95, 97], let s := Tst.lup l; s.porst = false ∧ s.linkIsUp l = true ∧ s.parentLink ≠ l ∧ (s.link l).recvSeq = 0) ∧
    (∀ dev ∈ [0, 5], let s := Tst.routed 95; let t := Tst.tok 0 5 (dev * 2 ^ 30) 0;
      (dDev t.dest = s.deviceId ↔ dev = 0) ∧ (s.packPort 5).isSome = true) ∧
    (let s := Tst.lup 95; newer s.leadEpoch (BitVec.ofNat 16 s.leadEpoch).toNat = false ∧ newer (BitVec.ofNat 16 s.leadEpoch).toNat s.leadEpoch = false ∧
      s.now.toNat ≤ (0 : Word).toNat) ∧
    (let s := { Tst.lup 95 with pack := { (Tst.lup 95).pack with bcOn := true, bcKids := [95], bcId := 1 } };
      s.pack.bcOn = true ∧ s.pack.bcUp = none ∧ (0 : BitVec 16) = s.pack.bcId - 1 ∧ s.pack.bcKids.contains 95 = true) ∧
    (let s := ((Tst.lup 95).putB (kpk + R.packMsgCtl) 17 true).putF (kpk + R.packMsgCtl) 9 0 5;
      s.deviceId = 0 ∧ s.b (kpk + R.packMsgCtl) 17 = true ∧ s.f (kpk + R.packMsgCtl) 9 0 = 5) ∧
    (let s := Tst.routed 95; ((s.remoteStart (63 % 64) [0, 0]).2.packPort 5).isSome = true) := by
  and_intros <;> (try dsimp only) <;> decide +kernel

theorem witness_PackTimersComplete :
    (∀ k ∈ [0, 1], let s := { Tst.up.putF (kpk + R.packCtl) 11 10 k with now := BitVec.ofNat 64 (10 * us) };
      s.porst = false ∧ 10 * us ≤ dur s.pack.leadAt s.now ∧ (s.isLead = true ↔ k = 1)) ∧
    (let s0 := (Tst.up.putB (kpk + R.packCtl) 36 true).putF (kpk + R.packCtl) 11 10 0; let s := { s0 with pack := { s0.pack with miss := 3 } };
      let c := s.reg (kpk + R.packCtl);
      bit c 36 = true ∧ fld c 35 26 = s.deviceId ∧ s.isLead = false ∧ 3 ≤ s.pack.miss) ∧
    (∀ d ∈ [0, 1], let s := (Tst.up.putB (pp 95 + R.portLnkCtl) 1 true).updPort 95 (fun x => { x with phase := 4 });
      s.bamior 95 = true ∧ (s.port 95).phase = 4 ∧ s.lnk 95 ≠ 4 ∧ ((BitVec.ofNat 10 d).toNat = s.deviceId ↔ d = 0)) ∧
    (let s := Tst.up.updBar 15 (fun x => { x with till := some 0 }); (s.bar 15).till = some 0 ∧ (0 : Word).toNat ≤ s.now.toNat) := by
  and_intros <;> (try dsimp only) <;> decide +kernel

/-! ## Witnesses: the brace, faults, host, boot -/

/-- Brace link 97 UP in a device of ROLE `r`. -/
def Tst.brace (r : Nat) : State := (Tst.lup 97).putF (bp + R.brcStat) 2 0 r

/-- An end of an HB interval in ROLE `r`. -/
def Tst.hbEnd (r : Nat) (seen : Bool) : State :=
  let s := Tst.brace r
  { s with now := 0x100000, brace := { s.brace with hbSeen := seen, misses := 3 } }

theorem witness_BraceComplete :
    (∀ r ∈ [1, 2, 4], let s := Tst.brace r; let s1 := s.updLink 97 (fun b => { b with recvSeq := b.recvSeq + 1, naked := false });
      s.porst = false ∧ s.linkIsUp 97 = true ∧ (0 : BitVec 16) = (s.link 97).recvSeq ∧ s1.brcRole = r ∧
      newer (BitVec.ofNat 16 s1.brcGen).toNat s1.brcGen = false ∧ (s1.sub 63).ccw = none) ∧
    (orgClass 0x0FFF = 0 ∧ replays (pageAt .hub 0 + R.hubStrmCtl) = true ∧ pageAt .hub 0 + R.hubStrmCtl ≠ bp + R.brcCmd ∧
      (BitVec.ofNat 24 (bp + R.brcCmd)).toNat = bp + R.brcCmd ∧ fld (3 : Word) 2 0 = 3 ∧ region (0x1000 / 64 * 64) = .hbm ∧ State.reset.poisoned (0x1000 / 64 * 64) = false) ∧
    (let w := Tst.ccw 1 0 5 0x2000 0x5000 0; let s := (Tst.brace 2).updSub 63 (fun x => { x with ccw := some w, unitWait := true, opnum := 7 });
      let s1 := s.updLink 97 (fun b => { b with recvSeq := b.recvSeq + 1, naked := false });
      (s1.sub 63).ccw = some w ∧ (s1.sub 63).unitWait = true ∧ (s1.sub 63).opnum = (7 : BitVec 16).toNat) ∧
    (∀ seen ∈ [true, false], let s := Tst.hbEnd 1 seen;
      s.brcRole ≠ 0 ∧ us * s.f (bp + R.brcEpoch) 10 8 ≤ dur s.brace.hbEnd s.now ∧ s.brace.hbSeen = seen ∧ 3 ≤ s.brace.misses ∧ s.brcRole = 1) ∧
    (let s := (Tst.hbEnd 2 false).putB (bp + R.brcCtl) 2 true; 3 ≤ s.brace.misses ∧ s.brcRole = 2 ∧ s.b (bp + R.brcCtl) 2 = true) ∧
    (∀ r ∈ [1, 3], let s0 := (Tst.hbEnd r false).putF (bp + R.brcCtl) 11 8 4; let o : Seal := { seq := 1, a := 2, n := 3, value := 4, ovf := false };
      let s := { s0 with brace := { s0.brace with own := if r = 3 then [] else [o] } }; let iv := us * s.f (bp + R.brcEpoch) 5 0;
      s.brace.epochEnd.toNat / iv < s.now.toNat / iv ∧ (r = 3 → s.brace.own = []) ∧ s.brcRole = r ∧ (r = 1 → s.brace.own = [o]) ∧
      o.sent = false ∧ o.age < s.f (bp + R.brcCtl) 11 8 ∧ s.brace.theirs = [] ∧ s.braceLink.isSome = true) ∧
    (let s0 := (Tst.hbEnd 3 false).putF (bp + R.brcCtl) 11 8 4; let s := { s0 with brace := { s0.brace with own := [], theirs := [(⟨1, 2, 3, 4, false⟩, 3)] } };
      let iv := us * s.f (bp + R.brcEpoch) 5 0;
      s.brace.epochEnd.toNat / iv < s.now.toNat / iv ∧ s.brace.own = [] ∧ s.brcRole = 3 ∧ s.f (bp + R.brcCtl) 11 8 ≤ 3 + 1) ∧
    (let s := { Tst.up.updPort 97 (fun x => { x with phase := 4 }) with fuses := { Tst.up.fuses with twin := 9 } };
      (s.port 97).phase = 4 ∧ s.linkIsUp 97 = false ∧ s.fuses.twin ≠ 0 ∧ (9 : Word) = s.fuses.twin) ∧
    (∀ t ∈ [1638, 1639], let s := { Tst.up.updPort 97 (fun x => { x with phase := 4, blk := some 1, idSeen := true }) with now := BitVec.ofNat 64 t };
      let s1 := { s.putB (bp + R.brcStat) 5 true with brace := { s.brace with misses := 0, hbEnd := s.now } };
      let s2 := s1.updPort 97 (fun x => { x with misses := 0 });
      s.bracePhy 97 = true ∧ (s.port 97).phase = 4 ∧ (s.port 97).blk.isSome = true ∧ s.linkIsUp 97 = false ∧ (s.port 97).idSeen = true ∧
      (1639 ≤ dur (s.port 97).badAt s.now ↔ t = 1639) ∧ s2.b (bp + R.brcCtl) 0 = false) ∧
    (let s := Tst.brace 6; s.brcRole = 6 ∧ s.notResumed = []) := by
  and_intros <;> (try dsimp only) <;> decide +kernel

/-- The host's link UP. -/
def Tst.host : State := Tst.up.putF (hop + R.hostLink) 1 0 2

/-- The boot ROM waits for the host, whose mailbox holds the words `w0` and `w1`. -/
def Tst.rom (w0 w1 valid : Nat) : State :=
  let s := ((Tst.host.setReg (hop + R.hostH2dMsg) (BitVec.ofNat 64 w0)).setReg (hop + R.hostH2dMsg + 8) (BitVec.ofNat 64 w1)).putB (hop + R.hostMbx) 0 true
  { s.updCore 0 (fun x => { x with st := 1, pc := BitVec.ofNat 48 romBase }) with fuses := { s.fuses with keyValid := valid } }

theorem witness_HostAndBootComplete :
    (let pg := pageAt .tile 127; let s := { ((Tst.up.setTimer pg (some 0)).putF (pg + R.pgErrEn) 9 8 3).putF (pg + R.pgErrEn) 4 0 31 |>.putB (pg + R.pgErrStat) 1 true with now := 5 };
      s.porst = false ∧ s.timer pg = some 0 ∧ (0 : Word).toNat ≤ s.now.toNat ∧ s.liveClasses pg ≠ 0 ∧ s.f (pg + R.pgErrLevel) 1 0 < s.f (pg + R.pgErrEn) 9 8) ∧
    (let s0 := (Tst.up.putB (lgp + R.ledgRing) 5 true).putF (lgp + R.ledgRing) 4 0 12; let s := { s0 with ledger := { s0.ledger with next := 1 } };
      let lg := s.f (lgp + R.ledgRing) 4 0; let p := s.ledger.drain.toNat;
      s.b (lgp + R.ledgRing) 5 = true ∧ 0 < s.undrained ∧ s.wfail.contains (lgp + R.ledgRing) = false ∧ s.memAwake = true ∧
      (s.memWrite (s.f (lgp + R.ledgRing) 47 20 * 2 ^ 20 + 64 * (p % 2 ^ lg)) ((List.range 8).flatMap (fun i =>
        leBytes 8 ((s.ledgerSlot (p % 4096)).word i).toNat))).1 = .ok ∧
      (p + 2 ^ 32 - s.f (lgp + R.ledgCons) 31 0) % 2 ^ 32 < 2 ^ lg) ∧
    (let s0 := (((Tst.up.putB (lgp + R.ledgRing) 5 true).putF (lgp + R.ledgRing) 4 0 12).putF (lgp + R.ledgProd) 31 0 4096);
      let s := { s0 with ledger := { s0.ledger with next := 4097, drain := 4096 } };
      let lg := s.f (lgp + R.ledgRing) 4 0; let p := s.ledger.drain.toNat;
      0 < s.undrained ∧ 2 ^ lg ≤ (p + 2 ^ 32 - s.f (lgp + R.ledgCons) 31 0) % 2 ^ 32 ∧ s.memAwake = true ∧
      (s.memWrite (s.f (lgp + R.ledgRing) 47 20 * 2 ^ 20 + 64 * (p % 2 ^ lg)) ((List.range 8).flatMap (fun i =>
        leBytes 8 ((s.ledgerSlot (p % 4096)).word i).toNat))).1 = .ok) ∧
    (let s := { Tst.up with rom := some {} }; let r : BusResult := ⟨false, 512, List.replicate 512 0⟩;
      s.rom = some {} ∧ 512 ≤ r.data.length) ∧
    (∀ n ∈ [0, 1], let x : RomSt := ⟨[List.replicate 512 0, List.replicate 512 0], [n]⟩; let s := { Tst.up with rom := some x };
      let r : BusResult := ⟨false, 512, List.replicate 512 0⟩;
      s.rom = some x ∧ x.todo = [n] ∧ romSize (x.hdrs.getD n []) ≤ r.data.length) ∧
    (let s := Tst.host; 2 ≤ s.hostState ∧ s.host.d3hot = false ∧ s.host.held = []) ∧
    (∀ off ∈ [0, 0x167FFFFFFF, 0x1FFF800000], let s := Tst.host; let a := (barAddr 2 off).getD 0;
      s.hostMustWait 2 off 1 = false ∧ (barAddr 2 off).isSome = true ∧ (barAddr 2 (off + [(7 : Byte)].length - 1)).isSome = true ∧
      (region a = .hbm ∨ region a = .shep)) ∧
    (let off := pageAt .hub 0 + R.hubStrmCount; let w : RegW := ⟨0, .d64, 9⟩;
      off % 8 = 0 ∧ off < 0x1000000 ∧ Tst.host.hostMustWait 0 off 8 = false ∧ Tst.host.hostParked = false ∧ (Tst.host.controlWrite off w).1 = .ok ∧
      (Tst.host.controlWrite off w).2.parked.length ≤ Tst.host.parked.length ∧ (Tst.host.controlRead off ⟨0, .d64⟩).1 = .ok ∧
      (Tst.host.controlRead off ⟨0, .d64⟩).2.1.isSome = true) ∧
    (let s := Tst.rom 2 0 0; s.romReady = true ∧ fld (s.h2d 0) 15 0 = 2) ∧
    (let s := Tst.rom 0x10 3 0; s.romReady = true ∧ fld (s.h2d 0) 15 0 = 0x10 ∧ fld (s.h2d 1) 1 0 = 3 ∧ s.fuses.keyValid.testBit 3 = false) ∧
    (let s := Tst.rom 0x11 3 9; s.romReady = true ∧ fld (s.h2d 0) 15 0 = 0x11 ∧ fld (s.h2d 1) 1 0 = 3 ∧ s.fuses.keyValid.testBit 3 = true ∧
      (List.range 4).filter (fun i => s.fuses.keyValid.testBit i && !s.fuses.keyRevoked.testBit i) ≠ [3]) ∧
    (let s := Tst.rom 0x12 64 0; s.romReady = true ∧ fld (s.h2d 0) 15 0 = 0x12 ∧ fld (s.h2d 1) 6 0 = 64 ∧ s.fuses.svnFloor ≤ 64) ∧
    Tst.host.hostState = 2 ∧
    (let s0 := Tst.host.putF (hop + R.hostLink) 1 0 3; let s := { s0 with host := { s0.host with l1At := some 0 } };
      s.hostState = 3 ∧ s.host.l1At.isSome = true) ∧
    (let q : InReq := ⟨1, ⟨9, 1, 0x7009, 0x800000000000, 0xFF, 0, Tst.noErr⟩, 0, false⟩; let s := { Tst.host with inbox := [q] };
      takeFirst (fun q => q.req.txid == 1 && q.ofHost) s.inbox = some (q, [])) := by
  and_intros <;> (try dsimp only) <;> decide +kernel

/-! ## Witnesses: register writes -/

/-- A write of 64 bits by the host. -/
def Tst.w (v : Nat) : RegW := ⟨0, .d64, BitVec.ofNat 64 v⟩
/-- A write of 64 bits by Shepherd core 15. -/
def Tst.wc (v : Nat) : RegW := ⟨0x100F, .d64, BitVec.ofNat 64 v⟩

/-- What a write makes of its register. -/
def Tst.new (s : State) (b : PKind) (p o : Nat) (w : RegW) : Word :=
  (putFields (s.fieldsFor (pageAt b p + o) w) (s.reg (pageAt b p + o)) (placed w) (wrMask b p o w)).1

/-- The conditions of a write that takes effect. -/
def Tst.takes (s : State) (b : PKind) (p o : Nat) (w : RegW) : Bool :=
  let new := Tst.new s b p o w
  !s.porst && decide (p < blkPages b) && decide (o < 0x1000) && decide (o % 8 = 0) && (s.parks w.origin b p o).isNone &&
    !s.hostRefused w.origin b (pageAt b p + o) && !(orgClass w.origin == 4 && s.jtagClosed) &&
    !(decide (0x100 ≤ o) && s.frstBusy (pageAt b p)) &&
    putFields (s.fieldsFor (pageAt b p + o) w) (s.reg (pageAt b p + o)) (placed w) (wrMask b p o w) == (new, false, true) &&
    wrMask b p o w &&& (hookOf b p o).keep (s.wrOf b p o w new) s == 0 && !(hookOf b p o).bar (s.wrOf b p o w new) s

theorem Tst.takes_of {s : State} {b : PKind} {p o : Nat} {w : RegW} (h : Tst.takes s b p o w = true) :
    s.Takes b p o w (Tst.new s b p o w) := by
  simp only [Tst.takes, Bool.and_eq_true, Bool.not_eq_true', decide_eq_true_eq, Option.isNone_iff_eq_none, beq_iff_eq] at h
  obtain ⟨⟨⟨⟨⟨⟨⟨⟨⟨⟨a, b⟩, c⟩, d⟩, e⟩, f⟩, g⟩, i⟩, j⟩, k⟩, l⟩ := h
  exact ⟨a, b, c, d, e, f, g, i, j, k, l⟩

theorem witness_FabricRegistersComplete :
    (let w := Tst.w 4; Tst.takes Tst.up .tile 127 R.tileMsCtl w = true ∧ wBit w 2 = true) ∧
    (let w := Tst.w (2 ^ 17); Tst.takes Tst.up .tile 127 R.tileLoadCtl w = true ∧ wBit w 17 = true) ∧
    (let w := Tst.w (2 ^ 24 + 24 * 256 + 1); let s := Tst.up; let new := Tst.new s .tile 127 R.tileMsSpill w;
      Tst.takes s .tile 127 R.tileMsSpill w = true ∧ w.size = .d64 ∧ s.spillRefused 127 (s.reg (tp 127 + R.tileMsSpill)) new = false ∧
      (s.logged .tile 127 R.tileMsSpill w new).spillRefused 127 (s.reg (tp 127 + R.tileMsSpill)) new = false) ∧
    (let w := Tst.w 1; let s := Tst.up;
      Tst.takes s .tile 127 R.tileFence w = true ∧ wBit w 0 = true ∧ bit (Tst.new s .tile 127 R.tileFence w) 0 = true ∧ s.b (tp 127 + R.tileFence) 0 = false) ∧
    (let w := Tst.w 1; Tst.takes Tst.up .tile 127 R.tileExcCtl w = true ∧ wBit w 0 = true) ∧
    (let w := Tst.w 1; let s := Tst.ctx1 4; let new := Tst.new s .glb 0 R.glbQmAbort w;
      Tst.takes s .glb 0 R.glbQmAbort w = true ∧ w.size = .d64 ∧ wFld w 15 0 ≠ 0 ∧ s.ctxState (wFld w 15 0) = 1 ∧
      (s.logged .glb 0 R.glbQmAbort w new).ctxState (wFld w 15 0) = 1) ∧
    (let w := Tst.w (0x0A5A * 2 ^ 16 + 1); Tst.takes Tst.up .glb 0 R.glbRst w = true ∧ wBit w 0 = true ∧ wFld w 31 16 = 0x0A5A) ∧
    (let w := Tst.w 1; let s := Tst.up; let new := Tst.new s .hub 23 R.hubStrmCtl w;
      Tst.takes s .hub 23 R.hubStrmCtl w = true ∧ wBit w 0 = true ∧ bit (sizeMask w.size) 0 = true ∧ bit new 0 = true ∧ s.runOk 23 = true ∧
      (s.logged .hub 23 R.hubStrmCtl w new).runOk 23 = true) ∧
    (let w := Tst.w 0; let s := Tst.up.putB (hp 23 + R.hubStrmCtl) 0 true;
      Tst.takes s .hub 23 R.hubStrmCtl w = true ∧ wZero w 0 = true ∧ bit (Tst.new s .hub 23 R.hubStrmCtl w) 0 = false ∧ s.b (hp 23 + R.hubStrmCtl) 0 = true) ∧
    (let w := Tst.w (2 ^ 31 + 5); let s := Tst.up; let o := R.hubPltScr + 0x40 * (95 % 4); let new := Tst.new s .hub (95 / 4) o w;
      Tst.takes s .hub (95 / 4) o w = true ∧ wBit w 31 = true ∧ bit (sizeMask w.size) 0 = true ∧ s.pltOpen 95 = true ∧
      (s.logged .hub (95 / 4) o w new).pltOpen 95 = true) := by
  and_intros <;> decide +kernel

/-- Doorbells of a start ring that may be rung. -/
def Tst.rung (t : State) (w : RegW) : Bool :=
  !t.b (rtp 63 + R.retScCtl) 4 &&
    doorbellOk (t.f (rtp 63 + R.retScSring) 4 0) (t.f (rtp 63 + R.retScSprod) 31 0) (t.f (rtp 63 + R.retScScons) 31 0) (wFld w 31 0)

/-- The emergency chain may be armed. -/
def Tst.armed (t : State) : Bool :=
  let a := t.f (rtp 0 + R.retEmergChain) 47 0
  decide (shepBase ≤ a) && decide (a < shepBase + 0x800000) && decide (a % 16 = 0) && !t.b emc 9 && !t.b emc 8

theorem witness_PortAndRetrieverRegistersComplete :
    (∀ v ∈ [0, 1], let w := Tst.w v; let s := Tst.up;
      Tst.takes s .port 95 R.portFailCtl w = true ∧ (bit (Tst.new s .port 95 R.portFailCtl w) 0 = true ↔ v = 1) ∧ s.b (pp 95 + R.portFailCtl) 0 = false) ∧
    (∀ on ∈ [true, false], let s := Tst.up.putB (pp 95 + R.portLnkCtl) 0 on; let w := Tst.w ((s.reg (pp 95 + R.portLnkCtl)).toNat ||| if on then 9 else 1);
      let new := Tst.new s .port 95 R.portLnkCtl w; let l := s.logged .port 95 R.portLnkCtl w new;
      Tst.takes s .port 95 R.portLnkCtl w = true ∧ wBit w 0 = true ∧ wBit w 3 = on ∧ bit new 0 = true ∧ s.b (pp 95 + R.portLnkCtl) 0 = on ∧
      l.b (pp 95 + R.pgErrLevel) 2 = false ∧ l.b (hp (95 / 4) + R.pgErrLevel) 2 = false) ∧
    (let w := Tst.w (2 ^ 16); Tst.takes Tst.up .port 95 R.portLnkSwitch w = true ∧ wBit w 16 = true) ∧
    (∀ st ∈ [0, 4], let w := Tst.w (92 + 2 ^ 10); let s := (Tst.up.putF (hp 23 + R.hubLnkSpare) 14 12 st).putF (pp 92 + R.portLnkStat) 2 0 4;
      let new := Tst.new s .hub 23 R.hubLnkSpare w;
      Tst.takes s .hub 23 R.hubLnkSpare w = true ∧ wBit w 10 = true ∧ s.f (hp 23 + R.hubLnkSpare) 14 12 = st ∧ fld new 6 0 / 4 = 23 ∧
      s.lnk (fld new 6 0) = 4 ∧ (s.logged .hub 23 R.hubLnkSpare w new).lnk (fld new 6 0) = 4) ∧
    (∀ v ∈ [1, 8], let w := Tst.w v; Tst.takes Tst.up .ret 63 R.retScCtl w = true ∧ (wBit w 0 = true ↔ v = 1) ∧ (wBit w 3 = true ↔ v = 8)) ∧
    (let w := Tst.w 2; let s := Tst.up.putF (rtp 63 + R.retScSring) 4 0 4; let new := Tst.new s .ret 63 R.retScSprod w;
      Tst.takes s .ret 63 R.retScSprod w = true ∧ Tst.rung s w = true ∧ Tst.rung (s.logged .ret 63 R.retScSprod w new) w = true) ∧
    (let w := Tst.w (2 ^ 8 + 63); let s := Tst.up.putF (rtp 0 + R.retEmergChain) 47 0 shepBase; let new := Tst.new s .ret 0 R.retEmergCtl w;
      Tst.takes s .ret 0 R.retEmergCtl w = true ∧ wBit w 8 = true ∧ bit new 8 = true ∧ Tst.armed s = true ∧
      Tst.armed (s.logged .ret 0 R.retEmergCtl w new) = true) := by
  and_intros <;> decide +kernel

/-- A work ring may be rung with index `v`. -/
def Tst.rungK (t : State) (n v : Nat) : Bool :=
  t.b (kr n) 6 && !t.b (kr n) 5 && doorbellOk (t.f (kr n) 4 0) (SMap.get 0 t.plast (kr n)) (t.f (kr n + 16) 31 0) v &&
    decide ((v + 2 ^ 32 - SMap.get 0 t.plast (kr n)) % 2 ^ 32 ≠ 0)

/-- Kennel has room for its items. -/
def Tst.roomK (t : State) (n v : Nat) : Bool :=
  t.ken.heldDb == [] && decide ((v + 2 ^ 32 - SMap.get 0 t.plast (kr n)) % 2 ^ 32 ≤ t.kenFree) && t.b (kp + R.kenCtl) 0

/-- Every store entry of Kennel reserved. -/
def Tst.fullK (s : State) : State := { s with ken := { s.ken with resv := [(0, 65536)] } }

theorem witness_RingRegistersComplete :
    (let pg := 1 + 255 / 32; let o := R.kenRingProd + 64 * (255 % 32); let w := Tst.wc 2; let v := wFld w 31 0;
      let s := Tst.ken 0; let l := s.logged .ken pg o w (Tst.new s .ken pg o w);
      Tst.takes s .ken pg o w = true ∧ Tst.rungK s 255 v = true ∧ Tst.rungK l 255 v = true ∧ Tst.roomK s 255 v = true ∧ Tst.roomK l 255 v = true) ∧
    (let pg := 1 + 255 / 32; let o := R.kenRingProd + 64 * (255 % 32); let w := Tst.wc 2; let v := wFld w 31 0;
      let s := Tst.fullK (Tst.ken 0); let l := s.logged .ken pg o w (Tst.new s .ken pg o w);
      Tst.takes s .ken pg o w = true ∧ Tst.rungK s 255 v = true ∧ Tst.rungK l 255 v = true ∧ orgClass w.origin = 1 ∧
      s.kenFree < (v + 2 ^ 32 - SMap.get 0 s.plast (kr 255)) % 2 ^ 32 ∧ l.kenFree < (v + 2 ^ 32 - SMap.get 0 l.plast (kr 255)) % 2 ^ 32) ∧
    (∀ out ∈ [0, 1], let pg := 1 + 255 / 32; let o := R.kenRingCfg + 64 * (255 % 32); let w := Tst.w (0x8000 + 2 ^ 6 + out * 2 ^ 5 + 4); let s := Tst.up;
      let new := Tst.new s .ken pg o w;
      Tst.takes s .ken pg o w = true ∧ w.size = .d64 ∧ s.b (kr 255) 6 = false ∧ ringAligned new 9 32 = true ∧ bit new 6 = true) ∧
    (let w := Tst.w 0; let s := Tst.up;
      (Tst.takes s .ken 0 R.kenTraceCons w = true ∧ s.consOk kenTraceRing (wFld w 31 0) = true ∧
        (s.logged .ken 0 R.kenTraceCons w (Tst.new s .ken 0 R.kenTraceCons w)).consOk kenTraceRing (wFld w 31 0) = true) ∧
      (Tst.takes s .ret 63 R.retScCcons w = true ∧ s.consOk (retRing 63) (wFld w 31 0) = true ∧
        (s.logged .ret 63 R.retScCcons w (Tst.new s .ret 63 R.retScCcons w)).consOk (retRing 63) (wFld w 31 0) = true) ∧
      (Tst.takes s .glb 0 R.glbQmCons w = true ∧ s.consOk qmRing (wFld w 31 0) = true ∧
        (s.logged .glb 0 R.glbQmCons w (Tst.new s .glb 0 R.glbQmCons w)).consOk qmRing (wFld w 31 0) = true) ∧
      (Tst.takes s .port 95 R.portFailLogCons w = true ∧ s.consOk (failRing 95) (wFld w 31 0) = true ∧
        (s.logged .port 95 R.portFailLogCons w (Tst.new s .port 95 R.portFailLogCons w)).consOk (failRing 95) (wFld w 31 0) = true) ∧
      (Tst.takes s .noc 31 R.nocPrbCons w = true ∧ s.consOk (prbRing 31) (wFld w 31 0) = true ∧
        (s.logged .noc 31 R.nocPrbCons w (Tst.new s .noc 31 R.nocPrbCons w)).consOk (prbRing 31) (wFld w 31 0) = true)) ∧
    (let w := Tst.w (0x8000 + 4); let s := Tst.up; let new := Tst.new s .dma 31 R.dmaRing w; let l := s.logged .dma 31 R.dmaRing w new;
      Tst.takes s .dma 31 R.dmaRing w = true ∧ w.size = .d64 ∧ s.dmaEn 31 = false ∧ (s.dmaCh 31).begun = [] ∧ l.dmaEn 31 = false ∧
      (l.dmaCh 31).begun = [] ∧ ringAligned new 9 32 = true) ∧
    (let w := Tst.w 3; let s := Tst.dma 0; let l := s.logged .dma 31 R.dmaProd w (Tst.new s .dma 31 R.dmaProd w);
      Tst.takes s .dma 31 R.dmaProd w = true ∧ s.dmaEn 31 = true ∧
      doorbellOk (s.f (dp 31 + R.dmaRing) 4 0) (s.f (dp 31 + R.dmaProd) 31 0) (s.f (dp 31 + R.dmaCons) 31 0) (wFld w 31 0) = true ∧ l.dmaEn 31 = true ∧
      doorbellOk (l.f (dp 31 + R.dmaRing) 4 0) (l.f (dp 31 + R.dmaProd) 31 0) (l.f (dp 31 + R.dmaCons) 31 0) (wFld w 31 0) = true) ∧
    (let w := Tst.w 0; let s := Tst.dma 0;
      Tst.takes s .dma 31 R.dmaCtl w = true ∧ wZero w 0 = true ∧ s.b (dp 31 + R.dmaCtl) 0 = true ∧ bit (Tst.new s .dma 31 R.dmaCtl w) 0 = false) := by
  and_intros <;> decide +kernel

/-- Core 15 at work on an item, or on a thread. -/
def Tst.atWork (st : Nat) (pre : Bool) : State :=
  (Tst.ken 0).updKen (fun k => { k with items := [Tst.kitem (.running 15)], threads := [(9, { st := .running 15, wake := 7 })], cores := [(15, { st := st, what := if st = 1 then 3 else 9, preempt := pre })] })

theorem witness_KennelRegistersComplete :
    (∀ v ∈ [0, 1], let w := Tst.wc v; let s := Tst.atWork 1 true; let l := s.logged .ken 0 R.kenCdone w (Tst.new s .ken 0 R.kenCdone w);
      Tst.takes s .ken 0 R.kenCdone w = true ∧ orgClass w.origin = 1 ∧ (s.coreItem (w.origin.toNat % 4096)).isSome = true ∧
      (l.coreItem (w.origin.toNat % 4096)).isSome = true ∧ wFld w 1 0 = v ∧ w.size ≠ .hi32 ∧
      (s.kc (w.origin.toNat % 4096)).preempt = true ∧ (l.kc (w.origin.toNat % 4096)).preempt = true) ∧
    (let w := Tst.wc (256 + 255); let s := Tst.ken 0; let l := s.logged .ken 0 R.kenThrCmd w (Tst.new s .ken 0 R.kenThrCmd w);
      Tst.takes s .ken 0 R.kenThrCmd w = true ∧ wFld w 7 0 = 255 ∧ wFld w 11 8 = 1 ∧ (s.thr 255).st = .free ∧ (l.thr 255).st = .free) ∧
    (∀ k ∈ [0, 1], let st : TState := if k = 0 then .onEvent 3 else .onTime 3; let w := Tst.wc (6 * 256 + 255);
      let s := (Tst.ken 0).updKen (fun q => { q with threads := [(255, { st := st })] });
      let l := s.logged .ken 0 R.kenThrCmd w (Tst.new s .ken 0 R.kenThrCmd w);
      Tst.takes s .ken 0 R.kenThrCmd w = true ∧ wFld w 11 8 = 6 ∧ (s.thr (wFld w 7 0)).st = st ∧ (l.thr (wFld w 7 0)).st = st) ∧
    (∀ op ∈ [2, 3, 4, 5], ∀ k ∈ [0, 1], let w := Tst.wc (op * 256 + 63 * 2 ^ 12);
      let s0 := Tst.atWork 2 false; let s := { s0 with now := BitVec.ofNat 64 (7 * k), ken := { s0.ken with latches := BitVec.ofNat 64 (k * 2 ^ 63) } };
      let l := s.logged .ken 0 R.kenThrCmd w (Tst.new s .ken 0 R.kenThrCmd w);
      Tst.takes s .ken 0 R.kenThrCmd w = true ∧ s.coreThread w.origin = some (15, 9) ∧ l.coreThread w.origin = some (15, 9) ∧ wFld w 11 8 = op ∧
      (bit l.ken.latches (wFld w 17 12) = true ↔ k = 1) ∧ ((l.thr 9).wake.toNat ≤ l.now.toNat ↔ k = 1)) ∧
    Tst.takes Tst.up .bark 0 R.barkSwset (Tst.w 63) = true ∧
    (let w := Tst.w (2 ^ 24 + 2 ^ 10 + 15); let o := R.barkSrc + 8 * (2047 % 256); let p := 1 + 2047 / 256; let s := Tst.up;
      Tst.takes s .bark p o w = true ∧ wBit w 24 = true ∧
      ((s.written .bark p o w (Tst.new s .bark p o w)).putF (pageAt .bark p + o) 23 16 0).f (pageAt .bark p + o) 23 16 = 0) := by
  and_intros <;> decide +kernel

/-- The route-table entry that is selected may be written. -/
def Tst.rtOk (t : State) (n : Nat) (w : RegW) : Bool :=
  fld (t.reg (pageAt .noc n + R.nocRtSel)) 8 8 != b2n (t.niGen n) &&
    (!bit (placed w) 48 || routeValid n (fld (t.reg (pageAt .noc n + R.nocRtSel)) 7 0) (fld (placed w) 47 0))

theorem witness_MeshAndPowerRegistersComplete :
    (let w := Tst.w 2; let s := Tst.up;
      Tst.takes s .noc 159 R.nocNiCtl w = true ∧ wBit w 1 = true ∧ bit (Tst.new s .noc 159 R.nocNiCtl w) 1 = true ∧ s.b (pageAt .noc 159 + R.nocNiCtl) 1 = false) ∧
    (∀ v ∈ [0, 2 ^ 48 + 2], let w := Tst.w v; let s := Tst.up.setReg (pageAt .noc 1 + R.nocRtSel) (256 + 3);
      Tst.takes s .noc 1 R.nocRtData w = true ∧ w.size = .d64 ∧ Tst.rtOk s 1 w = true ∧
      Tst.rtOk (s.logged .noc 1 R.nocRtData w (Tst.new s .noc 1 R.nocRtData w)) 1 w = true) ∧
    (let s := Tst.up; let w := Tst.w ((s.reg (pageAt .noc 159 + R.nocRtrCtl)).toNat);
      Tst.takes s .noc 159 R.nocRtrCtl w = true ∧ s.b (pageAt .noc 0 + R.nocFence) 2 = false ∧
      (s.logged .noc 159 R.nocRtrCtl w (Tst.new s .noc 159 R.nocRtrCtl w)).b (pageAt .noc 0 + R.nocFence) 2 = false) ∧
    (let w := Tst.w 3; let s := Tst.up; Tst.takes s .noc 0 R.nocFence w = true ∧ wBit w 0 = true ∧ s.b (pageAt .noc 0 + R.nocFence) 2 = false) ∧
    (let w := Tst.w 4097; Tst.takes Tst.up .hbmc 3 R.hbmcRetAdd w = true ∧ w.size = .d64 ∧ wBit w 0 = true) ∧
    (∀ d ∈ [0, 127, 175], let s := Tst.up; let w := Tst.w ((s.reg (domAt d)).toNat / 4 * 4 + 2); let o := R.pwrDom + 8 * d; let new := Tst.new s .pwr 0 o w; let l := s.logged .pwr 0 o w new;
      Tst.takes s .pwr 0 o w = true ∧ w.size ≠ .hi32 ∧ bit (sizeMask w.size) 0 = true ∧ s.domState d = 0 ∧ l.domState d = 0 ∧ fld new 1 0 ≠ 0 ∧
      s.domCond d (fld new 1 0) = true ∧ l.domCond d (fld new 1 0) = true) ∧
    (∀ st ∈ [0, 1, 2], ∀ v ∈ [0], let s := Tst.up.putF (domAt 173) 4 2 st; let w := Tst.w ((s.reg (domAt 173)).toNat / 4 * 4 + v); let o := R.pwrDom + 8 * 173;
      let new := Tst.new s .pwr 0 o w; let l := s.logged .pwr 0 o w new;
      Tst.takes s .pwr 0 o w = true ∧ bit (sizeMask w.size) 0 = true ∧ s.domState 173 < 3 ∧ l.domState 173 < 3) ∧
    (∀ st ∈ [1, 2], let s := Tst.up.putF (domAt 127) 4 2 st; let w := Tst.w ((s.reg (domAt 127)).toNat / 4 * 4); let o := R.pwrDom + 8 * 127; let new := Tst.new s .pwr 0 o w;
      let l := s.logged .pwr 0 o w new;
      Tst.takes s .pwr 0 o w = true ∧ bit (sizeMask w.size) 0 = true ∧ s.domState 127 = st ∧ l.domState 127 = st ∧ fld new 1 0 = 0) ∧
    Tst.takes Tst.up .time (1 + 255 / 128) (R.gaugeCfg + 8 * (255 % 128)) (Tst.w 0x1000) = true := by
  and_intros <;> decide +kernel

theorem witness_FaultRegistersComplete :
    (∀ k ∈ [0, 1, 2], let b := PKind.tile; let pg := pageAt .tile 127; let w := Tst.w 2;
      let s := (Tst.up.putF (pg + R.pgErrStat) 4 0 (if k = 0 then 3 else 2)).putF (pg + R.pgErrLevel) 1 0 (k - 1);
      let l := s.logged b 127 R.pgErrStat w (Tst.new s b 127 R.pgErrStat w);
      hasHeader b 127 = true ∧ 127 < blkPages b ∧ Tst.takes s b 127 R.pgErrStat w = true ∧ bit (sizeMask w.size) 0 = true ∧
      s.f (pg + R.pgErrStat) 4 0 &&& wFld w 4 0 &&& s.persist pg = 0 ∧ l.f (pg + R.pgErrStat) 4 0 &&& wFld w 4 0 &&& l.persist pg = 0 ∧
      (l.f (pg + R.pgErrStat) 4 0 &&& (31 - wFld w 4 0 % 32) ≠ 0 ↔ k = 0) ∧ (l.f (pg + R.pgErrLevel) 1 0 = 0 ↔ k < 2)) ∧
    Tst.takes Tst.up .tile 127 R.pgErrEn (Tst.w (2 ^ 8 + 31)) = true ∧
    (∀ v ∈ [1, 2, 3], let w := Tst.w (v * 16); let s := Tst.up; let l := s.logged .tile 127 R.pgErrLevel w (Tst.new s .tile 127 R.pgErrLevel w);
      Tst.takes s .tile 127 R.pgErrLevel w = true ∧ wFld w 5 4 ≠ 0 ∧ l.f (pageAt .tile 127 + R.pgErrLevel) 1 0 < wFld w 5 4) ∧
    (let w := Tst.w (2 ^ 32); Tst.takes Tst.up .tile 127 R.pgErrInj w = true ∧ wFld w 47 32 ≠ 0 ∧ wFld w 52 48 = 0) ∧
    (let w := Tst.w (31 * 2 ^ 48); Tst.takes Tst.up .tile 127 R.pgErrInj w = true ∧ wFld w 52 48 ≠ 0) ∧
    (let w := Tst.w (2 ^ 20 + 2 ^ 5 + 14); let s := Tst.up; let new := Tst.new s .ledg 0 R.ledgRing w; let l := s.logged .ledg 0 R.ledgRing w new;
      Tst.takes s .ledg 0 R.ledgRing w = true ∧ w.size = .d64 ∧ bit new 5 = true ∧ s.b (lgp + R.ledgRing) 5 = false ∧ l.b (lgp + R.ledgRing) 5 = false ∧
      fld new 47 20 * 2 ^ 20 % (2 ^ fld new 4 0 * 64) = 0) ∧
    (let w := Tst.w 0; let s := Tst.up; let o := lgp + R.ledgCons; let c := wFld w 31 0; let l := s.logged .ledg 0 R.ledgCons w (Tst.new s .ledg 0 R.ledgCons w);
      Tst.takes s .ledg 0 R.ledgCons w = true ∧
      (c + 2 ^ 32 - s.f o 31 0) % 2 ^ 32 ≤ (s.f (lgp + R.ledgProd) 31 0 + 2 ^ 32 - s.f o 31 0) % 2 ^ 32 ∧
      (c + 2 ^ 32 - l.f o 31 0) % 2 ^ 32 ≤ (l.f (lgp + R.ledgProd) 31 0 + 2 ^ 32 - l.f o 31 0) % 2 ^ 32) := by
  and_intros <;> decide +kernel

/-- The twin of an ACTIVE device is SYNCING and nothing runs. -/
def Tst.calm (t : State) : Bool :=
  t.brcRole == 1 && t.brace.twinRole == 4 && (List.range 24).all (fun h => !t.strmLive h) && (List.range 64).all (fun k => t.subSt k == 0) &&
    t.ctxFree + (t.ctxs.filter (fun e => e.2.teardown.isSome)).length == 65535

/-- A device of ROLE `r` whose twin has ROLE `q`. -/
def Tst.twins (r q : Nat) : State := { Tst.brace r with brace := { (Tst.brace r).brace with twinRole := q } }

theorem witness_PackBraceHostRegistersComplete :
    (let w := Tst.w 1; let s := Tst.up.putF (kpk + R.packCtl) 11 10 1; let l := s.logged .pack 0 R.packBcastCtl w (Tst.new s .pack 0 R.packBcastCtl w);
      Tst.takes s .pack 0 R.packBcastCtl w = true ∧ wBit w 0 = true ∧ s.isLead = true ∧ s.b (kpk + R.packBcastCtl) 1 = false ∧ l.isLead = true ∧
      l.b (kpk + R.packBcastCtl) 1 = false) ∧
    (let o := R.packBar + 8 * 15; let w := Tst.w (2 ^ 7 + 2 ^ 6); let s := Tst.up; let new := Tst.new s .pack 0 o w;
      let t := (s.wrOf .pack 0 o w new).set s; let u := (s.wrOf .pack 0 o w new).set (s.logged .pack 0 o w new);
      Tst.takes s .pack 0 o w = true ∧ wBit w 7 = true ∧ bit (s.reg (barAt 15)) 8 = false ∧ t.b (barAt 15) 6 = true ∧ t.b (barAt 15) 8 = false ∧
      u.b (barAt 15) 6 = true ∧ u.b (barAt 15) 8 = false) ∧
    (let w := Tst.w (2 ^ 16 + 5); let s := Tst.up; Tst.takes s .pack 0 R.packMsgCtl w = true ∧ wBit w 16 = true ∧ bit (s.reg (kpk + R.packMsgCtl)) 17 = false) ∧
    (let s := Tst.up; let w := Tst.w ((s.reg (bp + R.brcCtl)).toNat ||| 1);
      Tst.takes s .brc 0 R.brcCtl w = true ∧ w.size ≠ .hi32 ∧ bit (s.reg (bp + R.brcCtl)) 0 = false ∧ bit (Tst.new s .brc 0 R.brcCtl w) 0 = true) ∧
    (∀ e ∈ [(1, 2, 1), (2, 1, 2), (3, 2, 1), (3, 1, 2), (4, 1, 4)], let w := Tst.w e.1; let s := Tst.twins e.2.1 e.2.2;
      let l := s.logged .brc 0 R.brcCmd w (Tst.new s .brc 0 R.brcCmd w);
      Tst.takes s .brc 0 R.brcCmd w = true ∧ bit (sizeMask w.size) 0 = true ∧ wFld w 2 0 = e.1 ∧ s.brcRole = e.2.1 ∧ l.brcRole = e.2.1 ∧
      (e.1 = 2 → s.braced = true ∧ l.braced = true) ∧ (e.1 = 4 → Tst.calm s = true ∧ Tst.calm l = true)) ∧
    (let w := Tst.w (2 ^ 63 + 7); let s := Tst.up;
      Tst.takes s .brc 0 R.brcSeal w = true ∧ w.size = .d64 ∧ wBit w 63 = true ∧ s.brace.own.length < 1024 ∧
      (s.logged .brc 0 R.brcSeal w (Tst.new s .brc 0 R.brcSeal w)).brace.own.length < 1024) ∧
    (∀ e ∈ [(2, 0), (4, 0x100F), (0x10, 0x100F), (0x20, 0)], let w : RegW := ⟨BitVec.ofNat 16 e.2, .d64, BitVec.ofNat 64 e.1⟩; let s := Tst.up;
      let new := Tst.new s .host 0 R.hostMbx w; let t := (s.wrOf .host 0 R.hostMbx w new).set s;
      let u := (s.wrOf .host 0 R.hostMbx w new).set (s.logged .host 0 R.hostMbx w new); let o := hop + R.hostMbx;
      Tst.takes s .host 0 R.hostMbx w = true ∧ wFld w 5 0 = e.1 ∧ (orgClass w.origin = 0 ↔ e.2 = 0) ∧ t.b o 0 = false ∧ u.b o 0 = false ∧
      t.b o 3 = false ∧ u.b o 3 = false) := by
  and_intros <;> decide +kernel

theorem witness_ResetsComplete :
    (∀ br ∈ [true, false], ∀ pin ∈ [true, false], let s := { State.reset with brown := br, pinLow := pin };
      s.porst = true ∧ s.brown = br ∧ s.pinLow = pin) ∧
    (∀ e ∈ [(PKind.tile, 127), (.hub, 23), (.port, 95), (.ret, 63), (.shep, 15), (.dma, 31), (.ken, 0), (.ken, 8), (.bark, 0), (.hbmc, 4), (.ledg, 0),
        (.noc, 159), (.pack, 0)], let s := Tst.up; let w := Tst.w 1; let l := s.logged e.1 e.2 R.pgCtl w (Tst.new s e.1 e.2 R.pgCtl w);
      Tst.takes s e.1 e.2 R.pgCtl w = true ∧ wBit w 0 = true ∧ s.frstBusy (pageAt e.1 e.2) = false ∧ l.frstBusy (pageAt e.1 e.2) = false) ∧
    (∀ e ∈ [(PKind.noc, 159), (.pack, 0), (.brc, 0), (.bark, 8)], hasHeader e.1 e.2 = true ∧ ownReset e.1 e.2 = false ∧ noFrst e.1 = false ∧ e.2 < blkPages e.1) ∧
    (let s := { Tst.up with frst := [(pageAt .tile 127, some 0)] }; s.porst = false ∧ s.frstBusy (pageAt .tile 127) = true) := by
  and_intros <;> decide +kernel

theorem witness_ControlWindowComplete :
    (let b := PKind.tile; let o := R.tileCtxTmpl; let off : BitVec 24 := BitVec.ofNat 24 (pageAt b 127 + o);
      off.toNat = pageAt b 127 + o ∧ Tst.takes Tst.up b 127 o (Tst.w 64) = true) ∧
    (∀ sz ∈ [AccSize.d64, .lo32, .hi32], let b := PKind.tile; let o := R.tileCtxTmpl; let off : BitVec 24 := BitVec.ofNat 24 (pageAt b 127 + o); let r : RegR := ⟨0, sz⟩;
      let s := Tst.up;
      off.toNat = pageAt b 127 + o ∧ 127 < blkPages b ∧ o < 0x1000 ∧ o % 8 = 0 ∧ s.porst = false ∧ s.parks r.origin b 127 o = none ∧
      (orgClass r.origin == 4 && s.jtagClosed) = false ∧ (decide (0x100 ≤ o) && s.frstBusy (pageAt b 127)) = false ∧
      pageAt b 127 + o ≠ tmp + R.gaugeSnap) ∧
    (let s := Tst.up; let r : RegR := ⟨0, .d64⟩;
      s.parks r.origin .time 0 R.gaugeSnap = none ∧ (orgClass r.origin == 4 && s.jtagClosed) = false ∧ s.frstBusy tmp = false) := by
  and_intros <;> decide +kernel

theorem witness_plain : hookOf .tile 127 R.tileCtxTmpl = {} := by rfl

/-! ## Helpers: the cores -/

/-- Core 15 in RUN at the base of the Shepherd store, where the code `c` stands, in supervisor mode with its Hatch unit
powered: B0 = 0x1000, B1 = 2, B7 = 0x2000, VL = 4, V1 = 8, V2 = 24. -/
def Tst.code (c : List Nat) : State :=
  (Tst.up.wrBytes 0x2000000000 ((c ++ List.replicate 12 0).map (BitVec.ofNat 8 ·))).updCore 15 (fun x =>
    ({ x with st := 1, pc := 0x2000000000, hatch := true, vl := 4, ksp := 0x3000 }.setV 1 8).setV 2 24
      |>.setR 0 0x1000 |>.setR 1 2 |>.setR 7 0x2000)

/-- The bytes that core 15 fetches. -/
def Tst.bs (s : State) : List Byte := ((s.seen 15).fetchBytes 15 (s.core 15).pc.toNat 12).1

/-- The instruction that core 15 fetches. -/
def Tst.ins (s : State) : SIns :=
  match decodeShep (Tst.bs s) with
  | .ins i => i
  | _ => { op := 99, sz := 0, ops := [], len := 0 }

/-- The conditions of a fetched instruction. -/
def Tst.fetched (s : State) : Bool :=
  let i := Tst.ins s
  s.coreReady 15 && !(s.core 15).wdTrap && (s.fetchWaits 15).isNone && ((s.seen 15).fetchBytes 15 (s.core 15).pc.toNat 12).2.isNone && decide (decodeShep (Tst.bs s) = .ins i) &&
    i.selOk && !(i.supervisor && !(s.core 15).priv) && (i.op != 0x3E || (s.core 15).hatch)

theorem Tst.fetched_of {s : State} (h : Tst.fetched s = true) : s.Fetched 15 (Tst.ins s) (Tst.bs s) := by
  simp only [Tst.fetched, Bool.and_eq_true, Bool.not_eq_true', decide_eq_true_eq, Option.isNone_iff_eq_none] at h
  obtain ⟨⟨⟨⟨⟨⟨⟨h1, h2⟩, hw⟩, h3⟩, h4⟩, h5⟩, h6⟩, h7⟩ := h
  refine ⟨h1, h2, hw, Prod.ext rfl h3, h4, h5, h6, fun e => ?_⟩
  simpa [e] using h7

/-- A part of an execution ends well, and what it answers meets `p`. -/
def Tst.ok {α : Type} (e : Except Stop (α × Cx)) (p : α → Cx → Bool) : Bool :=
  match e with
  | .ok (a, cx) => p a cx
  | .error _ => false

theorem Tst.ok_of {α : Type} {e : Except Stop (α × Cx)} {p : α → Cx → Bool} (h : Tst.ok e p = true) :
    ∃ a cx, e = .ok (a, cx) ∧ p a cx = true := by
  unfold Tst.ok at h; split at h
  · exact ⟨_, _, rfl, h⟩
  · cases h

/-- Core 15 fetches an instruction of two sources and a destination that it may access; values and execution meet `p`. -/
def Tst.binary (s : State) (n m k : Nat) (p : Nat → Nat → Loc → Cx → Bool) : Bool :=
  let i := Tst.ins s
  Tst.fetched s && Tst.ok (SM.src 15 0 n (i.opd 0) (s.start 15 i)) fun a c1 =>
    Tst.ok (SM.src 15 1 m (i.opd 1) c1) fun b c2 => Tst.ok (SM.dst 15 2 k (i.opd 2) c2) fun d cx => p a b d cx

theorem Tst.binary_of {s : State} {n m k : Nat} {p : Nat → Nat → Loc → Cx → Bool} (h : Tst.binary s n m k p = true) :
    s.Fetched 15 (Tst.ins s) (Tst.bs s) ∧ ∃ a b d cx, s.Binary 15 n m k (Tst.ins s) a b d cx ∧ p a b d cx = true := by
  simp only [Tst.binary, Bool.and_eq_true] at h
  obtain ⟨a, c1, h1, h⟩ := Tst.ok_of h.2
  obtain ⟨b, c2, h2, h⟩ := Tst.ok_of h
  obtain ⟨d, cx, h3, h⟩ := Tst.ok_of h
  exact ⟨Tst.fetched_of (by simp_all), a, b, d, cx, ⟨c1, c2, h1, h2, h3⟩, h⟩

/-- The same with one source. -/
def Tst.unary (s : State) (n k : Nat) (p : Nat → Loc → Cx → Bool) : Bool :=
  let i := Tst.ins s
  Tst.fetched s && Tst.ok (SM.src 15 0 n (i.opd 0) (s.start 15 i)) fun a c1 => Tst.ok (SM.dst 15 1 k (i.opd 1) c1) fun d cx => p a d cx

theorem Tst.unary_of {s : State} {n k : Nat} {p : Nat → Loc → Cx → Bool} (h : Tst.unary s n k p = true) :
    s.Fetched 15 (Tst.ins s) (Tst.bs s) ∧ ∃ a d cx, s.Unary 15 n k (Tst.ins s) a d cx ∧ p a d cx = true := by
  simp only [Tst.unary, Bool.and_eq_true] at h
  obtain ⟨a, c1, h1, h⟩ := Tst.ok_of h.2
  obtain ⟨d, cx, h3, h⟩ := Tst.ok_of h
  exact ⟨Tst.fetched_of (by simp_all), a, d, cx, ⟨c1, h1, h3⟩, h⟩

/-- The same with two sources and no destination. -/
def Tst.pair (s : State) (n m : Nat) (p : Nat → Nat → Cx → Bool) : Bool :=
  let i := Tst.ins s
  Tst.fetched s && Tst.ok (SM.src 15 0 n (i.opd 0) (s.start 15 i)) fun a c1 => Tst.ok (SM.src 15 1 m (i.opd 1) c1) fun b cx => p a b cx

theorem Tst.pair_of {s : State} {n m : Nat} {p : Nat → Nat → Cx → Bool} (h : Tst.pair s n m p = true) :
    s.Fetched 15 (Tst.ins s) (Tst.bs s) ∧ ∃ a b cx, s.Pair 15 n m (Tst.ins s) a b cx ∧ p a b cx = true := by
  simp only [Tst.pair, Bool.and_eq_true] at h
  obtain ⟨a, c1, h1, h⟩ := Tst.ok_of h.2
  obtain ⟨b, cx, h2, h⟩ := Tst.ok_of h
  exact ⟨Tst.fetched_of (by simp_all), a, b, cx, ⟨c1, h1, h2⟩, h⟩

/-! ## Witnesses: the cores -/

/-- Forms of an instruction of two sources and a destination: registers and an immediate, or memory and the workspace. -/
def Tst.forms (op sz : Nat) : List (List Nat) :=
  [[op * 4 + sz, 0x00, 0xC0, 0x01, 0xFF], [op * 4 + sz, 0x30, 0x18, 0x40, 0, 0x10, 0, 0, 0, 0, 255, 8]]

theorem witness_ShepherdIntegersComplete :
    ∀ op ∈ [0x05, 0x06, 0x07, 0x08, 0x09, 0x0A, 0x0B, 0x0C, 0x0D, 0x0E, 0x0F, 0x11, 0x12, 0x13, 0x14, 0x16, 0x17, 0x18, 0x19, 0x1A],
      ∀ sz ∈ [0, 3], ∀ c ∈ Tst.forms op sz, let s := Tst.code c; let n := (Tst.ins s).n;
        (Tst.ins s).op = op ∧ n = 2 ^ sz ∧ Tst.binary s n n n (fun _ _ _ _ => true) = true := by
  decide +kernel

theorem witness_ShepherdMovesComplete :
    (∀ op ∈ [0x01, 0x10, 0x15], ∀ sz ∈ [0, 3], let s := Tst.code [op * 4 + sz, 0x30, 0x40, 0, 0x10, 0, 0, 0, 0, 8]; let n := (Tst.ins s).n;
      (Tst.ins s).op = op ∧ Tst.unary s n n (fun _ _ _ => true) = true) ∧
    (∀ op ∈ [0x02, 0x03, 0x1D, 0x1E], ∀ sz ∈ [0, 2], let s := Tst.code [op * 4 + sz, 0x00, 0x01]; let n := (Tst.ins s).n;
      (Tst.ins s).op = op ∧ Tst.unary s n 8 (fun _ _ _ => true) = true) ∧
    (let s := Tst.code [0x04 * 4 + 3, 0x40, 0x01, 0xFF]; let i := Tst.ins s;
      Tst.fetched s = true ∧ i.op = 0x04 ∧ Tst.ok (SM.loc 15 0 8 (i.opd 0) (s.start 15 i)) (fun l c =>
        l == .mem 0xFFF && Tst.ok (SM.dst 15 1 8 (i.opd 1) c) (fun _ _ => true)) = true) ∧
    (∀ op ∈ [0x1B, 0x1C], ∀ sz ∈ [0, 3], let s := Tst.code [op * 4 + sz, 0x00, 0xC0, 0x80]; let n := (Tst.ins s).n;
      (Tst.ins s).op = op ∧ Tst.pair s n n (fun _ _ _ => true) = true) := by
  decide +kernel

/-- Field words of width 1 at 63 and of width 64 at 0. -/
theorem witness_ShepherdFieldsComplete :
    (∀ f ∈ [127, 4096], let s := Tst.code [0x1F * 4 + 3, 0x00, 0xD0, 0x01, f % 256, f / 256]; let i := Tst.ins s;
      i.op = 0x1F ∧ Tst.pair s 8 4 (fun _ v c => 1 ≤ v / 64 % 128 && v / 64 % 128 ≤ 64 && Tst.ok (SM.dst 15 2 8 (i.opd 2) c) (fun _ _ => true)) = true) ∧
    (∀ f ∈ [127, 4096], ∀ dst ∈ [0x01, 0x40], let s := Tst.code [0x20 * 4 + 3, 0x00, 0xD0, dst, f % 256, f / 256, 8]; let i := Tst.ins s;
      i.op = 0x20 ∧ Tst.pair s 8 4 (fun _ v c => 1 ≤ v / 64 % 128 && v / 64 % 128 ≤ 64 && Tst.ok (SM.loc 15 2 8 (i.opd 2) c) (fun d c2 =>
        Tst.ok (SM.get 15 2 8 d c2) (fun _ _ => d == (if dst = 1 then .reg 1 else .mem 0x1008)))) = true) ∧
    (let s := Tst.code [0x21 * 4 + 3, 0x00, 0x01, 0x01]; let i := Tst.ins s;
      i.op = 0x21 ∧ Tst.pair s 8 4 (fun _ _ c => Tst.ok (SM.dst 15 2 8 (i.opd 2) c) (fun _ _ => true)) = true) := by
  decide +kernel

/-- The execution of BFINS into memory stands unchanged once the write has been checked. -/
theorem witness_ShepherdFieldsComplete_mem (c n a : Nat) (cx : Cx) (h : SM.check 2 a n cx = .ok ((), cx))
    (hr : region a = .hbm) (ha : cx.s.engineStatus a n true = .ok) : SM.mayWrite c 2 a n cx = .ok ((), cx) := by
  simp [SM.mayWrite, bind, StateT.bind, Except.bind, h, get, getThe, MonadStateOf.get, StateT.get, pure, Except.pure, hr, ha, StateT.pure]

theorem witness_ShepherdFloatsComplete :
    (∀ op ∈ [0x30, 0x31, 0x32, 0x33, 0x35, 0x36], ∀ sz ∈ [2, 3], ∀ c ∈ Tst.forms op sz, let s := Tst.code c; let n := (Tst.ins s).n;
      (Tst.ins s).op = op ∧ Tst.binary s n n n (fun _ _ _ cx => pswFten cx.x.psw == 0) = true) ∧
    (∀ e ∈ [(0x34, 2, 4, 4), (0x34, 3, 8, 8), (0x38, 2, 8, 4), (0x38, 3, 8, 8), (0x39, 2, 4, 8), (0x39, 3, 8, 8), (0x3A, 2, 4, 8), (0x3A, 3, 8, 4)],
      let s := Tst.code [e.1 * 4 + e.2.1, 0x00, 0x01];
      (Tst.ins s).op = e.1 ∧ Tst.unary s e.2.2.1 e.2.2.2 (fun _ _ cx => pswFten cx.x.psw == 0) = true) ∧
    (∀ sz ∈ [2, 3], let s := Tst.code [0x37 * 4 + sz, 0x00, 0x01]; let n := (Tst.ins s).n;
      (Tst.ins s).op = 0x37 ∧ Tst.pair s n n (fun _ _ cx => pswFten cx.x.psw == 0) = true) ∧
    (∀ op ∈ [0x3B, 0x3C], let s := Tst.code [op * 4 + 3, 0xC0, 0xC0, 0x01, 0x1C, 0x2D];
      (Tst.ins s).op = op ∧ Tst.binary s 8 8 8 (fun a b _ _ => decOk a && decOk b) = true) := by
  decide +kernel

/-- Raised flags are not enabled where FTEN is 0. -/
theorem witness_ShepherdFloatsComplete_quiet (p : Word) (h : pswFten p = 0) (r : Nat × Nat) : r.2 &&& pswFten p = 0 := by
  simp [h]

theorem witness_ShepherdControlComplete :
    (let s := Tst.code [0x22 * 4, 0x40, 8]; let i := Tst.ins s;
      Tst.fetched s = true ∧ i.op = 0x22 ∧ (i.opd 0).updates = false ∧ condHolds (s.start 15 i).x.psw (4 * (i.op - 0x22) + i.sz) = true ∧
      Tst.ok (SM.targetOf 15 0 (i.opd 0) (s.start 15 i)) (fun _ _ => true) = true) ∧
    (∀ e ∈ [(0x22, 1), (0x25, 2)], ∀ sp ∈ [0x40, 0x80], let s0 := Tst.code [e.1 * 4 + e.2, sp, 8];
      let s := s0.updCore 15 (fun x => { x with psw := x.psw ||| (if e.1 = 0x22 then 0 else 4) }); let i := Tst.ins s;
      Tst.fetched s = true ∧ i.op = e.1 ∧ ((i.opd 0).updates = true ↔ sp = 0x80)) ∧
    (let s := Tst.code [0x26 * 4 + 3, 0x40, 8]; let i := Tst.ins s;
      Tst.fetched s = true ∧ i.op = 0x26 ∧ Tst.ok (SM.targetOf 15 8 (i.opd 0) (s.start 15 i)) (fun _ c =>
        Tst.ok (SM.mayWrite 15 15 ((c.x.r 7 - 8).toNat % 2 ^ 48) 8 c) (fun _ _ => true)) = true) ∧
    (let s := Tst.code [0x27 * 4 + 1, 0xD0, 0xFF, 0xFF]; let i := Tst.ins s;
      Tst.fetched s = true ∧ i.op = 0x27 ∧ Tst.ok (SM.src 15 0 2 (i.opd 0) (s.start 15 i)) (fun m _ => m == 0xFFFF) = true) ∧
    (∀ v ∈ [0, 1], let s := Tst.code [0x28 * 4 + 3, 0xC0, v]; let i := Tst.ins s;
      Tst.fetched s = true ∧ i.op = 0x28 ∧ Tst.ok (SM.src 15 0 8 (i.opd 0) (s.start 15 i)) (fun t c => decide (t ≤ c.s.now.toNat) == (v == 0)) = true) ∧
    (let s := Tst.code [0x29 * 4, 0xC0, 0xFF]; let i := Tst.ins s;
      Tst.fetched s = true ∧ i.op = 0x29 ∧ Tst.ok (SM.src 15 0 1 (i.opd 0) (s.start 15 i)) (fun k _ => k == 255) = true) ∧
    (let s0 := (Tst.code [0x28 * 4 + 3, 0xC0, 0]).updCore 15 (fun x => { x with st := 3, waitt := 0 }); let s := s0.setSt 15 1; let i := Tst.ins s;
      s0.porst = false ∧ (s0.core 15).st = 3 ∧ (s0.core 15).wdTrap = false ∧ (s0.core 15).waitt.toNat ≤ s0.now.toNat ∧
      Tst.fetched s = true ∧ i.op = 0x28 ∧ Tst.ok (SM.src 15 0 8 (i.opd 0) (s.start 15 i)) (fun _ _ => true) = true) := by
  and_intros <;> (try dsimp only) <;> decide +kernel

/-- A branch not taken whose specifier updates a register, whatever the amount drawn. -/
theorem witness_ShepherdControlComplete_update (c u : Nat) (cx : Cx) :
    SM.loc c 0 u (.inc 0) cx = .ok (.mem ((cx.x.r 0).toNat % 2 ^ 48), { cx with x := cx.x.setR 0 (cx.x.r 0 + BitVec.ofNat 64 u) }) := by
  rfl

theorem witness_ShepherdSpecialsComplete :
    (∀ k ∈ [0, 9], let s := Tst.code [0x2A * 4 + 3, 0xC0, 0x01, k]; let i := Tst.ins s;
      Tst.fetched s = true ∧ i.op = 0x2A ∧ Tst.ok (SM.dst 15 1 8 (i.opd 1) (s.start 15 i)) (fun _ _ => true) = true) ∧
    (∀ k ∈ [0, 1, 2, 3, 4, 5, 6, 7, 8, 9], let s := Tst.code [0x2B * 4 + 3, 0x00, 0xC0, k]; let i := Tst.ins s;
      Tst.fetched s = true ∧ i.op = 0x2B ∧ (i.opd 1).sel = k ∧ Tst.ok (SM.src 15 0 8 (i.opd 0) (s.start 15 i)) (fun _ c => c.x.priv) = true) ∧
    (let s := (Tst.code [0x2B * 4 + 3, 0xC0, 0xC0, 15, 0]).updCore 15 (fun x => { x with psw := 0 }); let i := Tst.ins s;
      Tst.fetched s = true ∧ i.op = 0x2B ∧ Tst.ok (SM.src 15 0 8 (i.opd 0) (s.start 15 i)) (fun n c => !c.x.priv &&
        ((BitVec.ofNat 64 n ^^^ c.x.psw) &&& (pswBits &&& ~~~ pswUser)) == 0) = true) ∧
    (∀ nv ∈ [0, 1], let s := Tst.code [0x2C * 4 + 3, 0x01, 0xC0, 0x40, nv, 8]; let i := Tst.ins s;
      Tst.fetched s = true ∧ i.op = 0x2C ∧ Tst.ok (SM.loc 15 0 i.n (i.opd 0) (s.start 15 i)) (fun e c1 => e == .reg 1 &&
        Tst.ok (SM.get 15 0 i.n e c1) (fun _ c2 => Tst.ok (SM.src 15 1 i.n (i.opd 1) c2) (fun _ c3 =>
        Tst.ok (SM.loc 15 2 i.n (i.opd 2) c3) (fun l c4 => l == .mem 0x1008 && Tst.ok (SM.check 2 0x1008 i.n c4) (fun _ c5 =>
        Tst.ok (SM.get 15 2 i.n l c5) (fun _ c6 => Tst.ok (SM.mayWrite 15 2 0x1008 i.n c6) (fun _ _ => region 0x1008 == .hbm))))))) = true) := by
  and_intros <;> (try dsimp only) <;> decide +kernel

theorem witness_ShepherdSystemComplete :
    (∀ f ∈ [0, 3, 4, 5, 6, 7], let s := Tst.code [0, f]; Tst.fetched s = true ∧ (Tst.ins s).op = 0 ∧ (Tst.ins s).fn = f) ∧
    (∀ sg ∈ [0, 5], let s := (Tst.code [0, 3]).updCore 15 (fun x => { x with sig := sg }); let i := Tst.ins s;
      Tst.fetched s = true ∧ i.op = 0 ∧ i.fn = 3 ∧ (((s.start 15 i).s.core 15).sig = 0 ↔ sg = 0) ∧ (s.start 15 i).s.barkWakes 15 = false) ∧
    (let o := pageAt .bark 8 + R.barkSrc + 8 * 255; let s := (((Tst.code [0, 3]).putF o 23 16 1).putF o 3 0 15).putF o 7 4 15; let i := Tst.ins s;
      Tst.fetched s = true ∧ i.op = 0 ∧ i.fn = 3 ∧ (s.start 15 i).s.barkWakes 15 = true) ∧
    (let s := Tst.code [0, 1]; let i := Tst.ins s; let cx := s.start 15 i;
      Tst.fetched s = true ∧ i.op = 0 ∧ i.fn = 1 ∧ Tst.ok (SM.read 15 15 ((cx.x.r 7).toNat % 2 ^ 48) 8 cx) (fun _ _ => true) = true) ∧
    (let s := Tst.code [0, 2]; let i := Tst.ins s; let cx := s.start 15 i;
      Tst.fetched s = true ∧ i.op = 0 ∧ i.fn = 2 ∧ Tst.ok (SM.words 15 ((cx.x.r 7).toNat % 2 ^ 48) 8 cx) (fun _ _ => true) = true) := by
  and_intros <;> (try dsimp only) <;> decide +kernel

/-- Core 15 one pack tick after its Watchdog's count has ended. -/
def Tst.wd (g : Shep → Shep) : State := { (Tst.code []).updCore 15 (fun x => g { x with wdAt := some 0 }) with now := 1 }

theorem witness_WatchdogAndStartComplete :
    (∀ e ∈ [(0, false), (0, true), (3, false)], let s := (Tst.wd (fun x => { x with held := e.2 })).putF (domAt 167) 4 2 e.1;
      let s1 := (s.wdReload 15).putB (shp 15 + R.shepWdogStat) 0 true; let s2 := s1.wakeBark 15;
      s.porst = false ∧ (s.core 15).wdAt = some 0 ∧ (0 : Word).toNat < s.now.toNat ∧ s.b (shp 15 + R.shepWdogStat) 0 = false ∧ s1.corePowered 15 = true ∧
      (s2.core 15).inside = e.2) ∧
    (∀ st ∈ [1, 2, 4, 5], let s := (Tst.wd id).putF (domAt 167) 4 2 st; let s1 := (s.wdReload 15).putB (shp 15 + R.shepWdogStat) 0 true;
      s.porst = false ∧ (s.core 15).wdAt = some 0 ∧ (0 : Word).toNat < s.now.toNat ∧ s.b (shp 15 + R.shepWdogStat) 0 = false ∧ s1.corePowered 15 = false) ∧
    (∀ r ∈ [true, false], ∀ st ∈ [0, 1], let s := (((Tst.wd id).putB (shp 15 + R.shepWdogStat) 0 true).putB (shp 15 + R.shepWdog) 2 r).putF (domAt 167) 4 2 st;
      s.porst = false ∧ (s.core 15).wdAt = some 0 ∧ (0 : Word).toNat < s.now.toNat ∧ s.b (shp 15 + R.shepWdogStat) 0 = true ∧
      s.b (shp 15 + R.shepWdog) 2 = r ∧ (((s.inc (shp 15 + R.shepWdogStat) 63 48).coreReset 15).corePowered 15 = true ↔ st = 0)) ∧
    (let s := Tst.up; let w := Tst.w ((s.reg (shp 15 + R.shepWdog)).toNat); Tst.takes s .shep 15 R.shepWdog w = true) ∧
    (∀ st ∈ [0, 4], let s := Tst.up.updCore 15 (fun x => { x with st := st }); let w := Tst.w 1; let l := s.logged .shep 15 R.shepCoreCtl w (Tst.new s .shep 15 R.shepCoreCtl w);
      Tst.takes s .shep 15 R.shepCoreCtl w = true ∧ wBit w 0 = true ∧ (s.core 15).st = st ∧ (l.core 15).st = st ∧
      s.b (shp 15 + R.pgErrLevel) 2 = false ∧ l.b (shp 15 + R.pgErrLevel) 2 = false ∧ s.domOn 167 = true ∧ l.domOn 167 = true) := by
  and_intros <;> (try dsimp only) <;> decide +kernel

theorem witness_HatchMovesComplete :
    (let s := Tst.code [0xF8, 0x00, 0x01, 0x01]; (Tst.ins s).op = 0x3E ∧ (Tst.ins s).fn = 0 ∧ Tst.unary s 8 8 (fun _ _ _ => true) = true) ∧
    (let s := Tst.code [0xFB, 0x08, 0x01]; let i := Tst.ins s;
      Tst.fetched s = true ∧ i.op = 0x3E ∧ i.fn = 8 ∧ Tst.ok (SM.dst 15 0 8 (i.opd 0) (s.start 15 i)) (fun _ _ => true) = true) ∧
    (let s := Tst.code [0xFB, 0x09, 0x01]; let i := Tst.ins s;
      Tst.fetched s = true ∧ i.op = 0x3E ∧ i.fn = 9 ∧ Tst.ok (SM.src 15 0 8 (i.opd 0) (s.start 15 i)) (fun _ _ => true) = true) ∧
    (let s := (Tst.code [0xF8, 0x05, 31, 0x80, 1]).updCore 15 (fun x => { x with vl := 0 }); let i := Tst.ins s;
      Tst.fetched s = true ∧ i.op = 0x3E ∧ i.fn = 5 ∧ (s.start 15 i).x.active i.n = 0 ∧
      Tst.ok (SM.loc 15 1 0 (i.opd 1) (s.start 15 i)) (fun _ _ => true) = true) ∧
    (let s := Tst.code [0xF8, 0x05, 31, 0xC0, 255]; let i := Tst.ins s;
      Tst.fetched s = true ∧ i.op = 0x3E ∧ i.fn = 5 ∧ (s.start 15 i).x.active i.n ≠ 0 ∧ Tst.ok (SM.src 15 1 i.n (i.opd 1) (s.start 15 i)) (fun v _ => v == 255) = true) ∧
    (let s := Tst.code [0xF8, 0x06, 0x01, 31, 15]; let i := Tst.ins s;
      Tst.fetched s = true ∧ i.op = 0x3E ∧ i.fn = 6 ∧ Tst.ok (SM.dst 15 0 8 (i.opd 0) (s.start 15 i)) (fun _ _ => true) = true) ∧
    (let s := Tst.code [0xFB, 0x07, 31, 0x00, 1]; let i := Tst.ins s;
      Tst.fetched s = true ∧ i.op = 0x3E ∧ i.fn = 7 ∧ Tst.ok (SM.src 15 1 i.n (i.opd 1) (s.start 15 i)) (fun _ _ => true) = true) ∧
    (let s := { (Tst.code []).updCore 15 (fun x => { x with hatch := false, hatchReq := some 0 }) with now := 6400 };
      s.porst = false ∧ (s.core 15).hatchReq = some 0 ∧ 6400 ≤ dur 0 s.now) ∧
    (let s := (Tst.code []).updCore 15 (fun x => { x with icount := 4096 });
      s.porst = false ∧ (s.core 15).hatch = true ∧ 4096 ≤ dur (s.core 15).hatchUse (s.core 15).icount) := by
  and_intros <;> (try dsimp only) <;> decide +kernel

/-- The elements that a Hatch load or store of core 15 still has to access. -/
def Tst.ks (cx : Cx) (hi : Nat) : List Nat :=
  let k0 := if bit cx.x.hfi 5 ∧ fld cx.x.hfi 63 16 = (cx.s.core 15).pc.toNat then fld cx.x.hfi 4 0 else 0
  List.range' k0 (hi - k0)

theorem witness_HatchMemoryComplete :
    (∀ f ∈ [1, 2], ∀ r ∈ [0, 3], let s := (Tst.code [0xFA, f, 3, 0x10, 255]).updCore 15 (fun x => { x with hfi := hfiOf x.pc true r });
      let i := Tst.ins s; let hi := (s.start 15 i).x.active i.n;
      Tst.fetched s = true ∧ i.op = 0x3E ∧ i.fn = f ∧ Tst.ok (SM.loc 15 1 (i.n * hi) (i.opd 1) (s.start 15 i)) (fun l cx =>
        l == .ws 4080 && (Tst.ks cx hi).length == 4 - r) = true) ∧
    (∀ r ∈ [0, 3], let s := (Tst.code [0xFA, 1, 3, 0x40, 8]).updCore 15 (fun x => { x with hfi := hfiOf x.pc true r });
      let i := Tst.ins s; let hi := (s.start 15 i).x.active i.n;
      Tst.fetched s = true ∧ i.op = 0x3E ∧ i.fn = 1 ∧ Tst.ok (SM.loc 15 1 (i.n * hi) (i.opd 1) (s.start 15 i)) (fun l cx =>
        l == .mem 0x1008 && Tst.ok (SM.loads 15 1 i.n (fun k => (0x1008 + i.n * k) % 2 ^ 48) (Tst.ks cx hi) cx) (fun _ _ => true)) = true) ∧
    (∀ r ∈ [0, 3], let s := (Tst.code [0xFA, 2, 3, 0x40, 8]).updCore 15 (fun x => { x with hfi := hfiOf x.pc true r });
      let i := Tst.ins s; let hi := (s.start 15 i).x.active i.n;
      Tst.fetched s = true ∧ i.op = 0x3E ∧ i.fn = 2 ∧ Tst.ok (SM.loc 15 1 (i.n * hi) (i.opd 1) (s.start 15 i)) (fun l cx => l == .mem 0x1008 &&
        Tst.ok (SM.stores 15 1 i.n (fun k => (0x1008 + i.n * k) % 2 ^ 48) ((s.start 15 i).x.vreg (i.opd 0).vec!) (Tst.ks cx hi) cx) (fun _ _ => true)) = true) ∧
    (let s := Tst.code [0xFA, 3, 3, 1, 0x40, 8]; let i := Tst.ins s; let x := (s.start 15 i).x; let hi := x.active i.n;
      Tst.fetched s = true ∧ i.op = 0x3E ∧ i.fn = 3 ∧ Tst.ok (SM.loc 15 2 (i.n * hi) (i.opd 2) (s.start 15 i)) (fun l cx => l == .mem 0x1008 &&
        Tst.ok (SM.loads 15 2 i.n (fun k => (0x1008 + i.n * elem (x.vreg (i.opd 1).vec!) i.n k) % 2 ^ 48) (Tst.ks cx hi) cx) (fun _ _ => true)) = true) ∧
    (let s := Tst.code [0xFA, 4, 3, 1, 0x40, 8]; let i := Tst.ins s; let x := (s.start 15 i).x; let hi := x.active i.n;
      Tst.fetched s = true ∧ i.op = 0x3E ∧ i.fn = 4 ∧ Tst.ok (SM.loc 15 2 (i.n * hi) (i.opd 2) (s.start 15 i)) (fun l cx => l == .mem 0x1008 &&
        Tst.ok (SM.stores 15 2 i.n (fun k => (0x1008 + i.n * elem (x.vreg (i.opd 1).vec!) i.n k) % 2 ^ 48) (x.vreg (i.opd 0).vec!) (Tst.ks cx hi) cx)
          (fun _ _ => true)) = true) := by
  and_intros <;> (try dsimp only) <;> decide +kernel

theorem witness_HatchElementsComplete :
    (∀ f ∈ [0x10, 0x11, 0x12, 0x13, 0x14, 0x15, 0x16, 0x17, 0x18, 0x19, 0x1A, 0x1B, 0x1C, 0x1D, 0x20, 0x21, 0x22, 0x24, 0x25, 0x26],
      ∀ sz ∈ [0, 3], let s := Tst.code [0xF8 + sz, f, 31, 1, 2]; Tst.fetched s = true ∧ (Tst.ins s).op = 0x3E ∧ (Tst.ins s).fn = f) ∧
    (∀ f ∈ [0x30, 0x31, 0x32, 0x33, 0x34], ∀ sz ∈ [2, 3], let s := Tst.code [0xF8 + sz, f, 31, 1, 2]; let i := Tst.ins s;
      Tst.fetched s = true ∧ i.op = 0x3E ∧ i.fn = f ∧ pswFten (s.start 15 i).x.psw = 0) := by
  decide +kernel

/-! ## Witnesses: the block as a whole -/

theorem witness_StepTakesFront :
    (let s := Tst.up; s.pending = [] ∧ s.porst = false) ∧ (State.reset.pending = [] ∧ State.reset.porst = true) ∧
    step { Tst.up with pending := [.glbRst (Tst.w 0)] } = exec (.glbRst (Tst.w 0)) Tst.up := by
  refine ⟨by decide, by decide, rfl⟩

theorem witness_HeldInReset :
    let s := { State.reset with pending := [.sysNop 0] };
    s.porst = true ∧ s.pending = [.sysNop 0] ∧ step s = .next State.reset := by
  exact ⟨rfl, rfl, rfl⟩

/-- A reserved descriptor of a DMA channel is refused, and other commands go on. -/
theorem witness_CommandsGoOn : Safe (exec (.sysNop 0) State.reset) := ⟨State.reset, rfl⟩

theorem witness_HbmAddresses :
    (∀ a ∈ [0, 0x1FF, hbmEnd - 1], a < hbmEnd ∧ hbmDevice (hbmUnit a) (hbmLocal a) = a) ∧
    (∀ u ∈ [0, 3], ∀ l ∈ [0, 24159191039], u < 4 ∧ l < 24159191040 ∧ hbmUnit (hbmDevice u l) = u ∧ hbmLocal (hbmDevice u l) = l) := by
  decide +kernel

theorem witness_HalfWrites :
    ∀ sz ∈ [AccSize.d64, .lo32, .hi32], Tst.takes Tst.up .tile 127 R.tileCtxTmpl ⟨0, sz, 64⟩ = true := by
  decide +kernel

theorem witness_WorkspaceOperands :
    (∀ sp ∈ [0x10, 0x18], sp / 16 = 1 ∧ (opdOf sp [255] = .ws 4080 ∨ opdOf sp [255] = .ws 4088)) := by
  decide +kernel

theorem witness_RegisterWriteFrame :
    hookOf .tile 127 R.tileCtxTmpl = {} ∧ Tst.takes Tst.up .tile 127 R.tileCtxTmpl (Tst.w 64) = true ∧
    (BitVec.ofNat 24 (pageAt .tile 127 + R.tileCtxTmpl)).toNat = pageAt .tile 127 + R.tileCtxTmpl := by
  refine ⟨rfl, by decide +kernel, by decide +kernel⟩

/-- ADD and SUB to a register, to the workspace, to HBM and to the Shepherd store. -/
theorem witness_ShepherdFrame :
    ∀ op ∈ [0x05, 0x06], ∀ e ∈ [(0x01, 0), (0x10, 1), (0x40, 2), (0x43, 3)],
      let s := (Tst.code [op * 4 + 3, 0x00, 0xC0, e.1, 0xFF, 8]).updCore 15 (fun x => x.setR 3 0x2000000100);
      (Tst.ins s).op = op ∧ (s.core 15).wdTrap = false ∧ Tst.binary s 8 8 8 (fun _ _ d cx => cx.post.isEmpty && !(cx.s.core 15).wdTrap &&
        match d with
        | .reg r => e.2 == 0 && r == 1
        | .ws o => e.2 == 1 && o == 128
        | .mem a => (if e.2 = 2 then region a == .hbm else e.2 == 3 && region a == .shep) && cx.s.engineStatus a 8 true == .ok
        | .imm _ => false) = true := by
  decide +kernel

theorem witness_FlagArithmetic :
    ∀ n ∈ [1, 2, 4, 8], ∀ a ∈ [0, 2 ^ (8 * n) - 1], ∀ b ∈ [2 ^ (8 * n - 1)], ∀ k ∈ [0, 1], n ∈ [1, 2, 4, 8] ∧ a < 2 ^ (8 * n) ∧ b < 2 ^ (8 * n) ∧ k ≤ 1 := by
  decide +kernel

theorem witness_TrapEntry :
    ∀ p ∈ [true, false], let s := (Tst.code []).updCore 15 (fun x => { x with psw := setBit x.psw 25 p });
      let i : TrapInfo := { vec := .trap, sub := 255 }; let x := s.core 15; let sp := (if x.priv then x.r 7 else x.ksp) - 64;
      let words : List Word := [0, x.psw, i.word2, i.addr, x.r 7, x.bk.zeroExtend 64, i.insn, s.now];
      let r := (s.inc (shp 15 + R.shepCoreStat) 63 32).memWrite (sp.toNat % 2 ^ 48) (words.flatMap (fun w => leBytes 8 w.toNat));
      x.priv = p ∧ sp.toNat % 8 = 0 ∧ r.1 = .ok ∧
      ((r.2.updCore 15 (fun y => { y.setR 7 sp with psw := setBit y.psw 25 true })).memRead ((x.tbr.toNat + 8 * i.vec.num) % 2 ^ 48) 8).1 = .ok := by
  decide +kernel

theorem witness_FiringFrame :
    ∀ op ∈ [1, 3, 0x100, 0x101, 0x102, 0x110, 0x113, 0x115, 0x119], let f := Tst.fr op 0 5 7 0 0;
      (Tst.at4 Tst.up f).Fires 0 0 f ∧ sOp f.slot = op := by
  simp only [Tst.fires_iff]; decide +kernel

theorem witness_DefaultRoutes :
    ∀ src ∈ [0, 159], ∀ dst ∈ [0, 159], src < 160 ∧ dst < 160 ∧ routeEnd dst (rrouteOf (xyRoute src dst)) = some src := by
  decide +kernel

theorem witness_ShepherdFaults :
    (∀ f ∈ [2, 5, 7], let s := (Tst.code [0, f]).updCore 15 (fun x => { x with psw := 0 }); let i := Tst.ins s;
      s.coreReady 15 = true ∧ (s.core 15).wdTrap = false ∧ s.fetchWaits 15 = none ∧ ((s.seen 15).fetchBytes 15 (s.core 15).pc.toNat 12).2 = none ∧
      decodeShep (Tst.bs s) = .ins i ∧ i.op = 0 ∧ (s.core 15).priv = false ∧ i.fn = f) ∧
    (let s := ((Tst.code [0]).updCore 15 (fun x => { x with pc := 0x4000 })).putF (domAt (168 + hbmUnit 0x4000)) 4 2 1;
      s.coreReady 15 = true ∧ (s.core 15).wdTrap = false ∧ (s.fetchWaits 15).isSome = true) ∧
    (∀ op ∈ [0x05, 0x06], let s := Tst.code [op * 4 + 3, 0x40, 0xC0, 0x01, 7, 1]; let i := Tst.ins s;
      Tst.fetched s = true ∧ i.op = op ∧ (match SM.src 15 0 i.n (i.opd 0) (s.start 15 i) with
        | .error (.trap vec sub k a _) => vec == .align && sub == some 0 && k == 0 && a == 0x1007
        | _ => false) = true) ∧
    (let s := (Tst.code [0x33 * 4 + 3, 0xC0, 0xC0, 0x01, 0, 0]).updCore 15 (fun x => { x with psw := x.psw ||| 0x200 });
      (Tst.ins s).op = 0x33 ∧ Tst.binary s 8 8 8 (fun a b _ cx => (f64.div (pswEnv cx.x.psw) a b).2 &&& pswFten cx.x.psw != 0) = true) := by
  and_intros <;> (try dsimp only) <;> decide +kernel

/-! ## Worked examples of the spec -/

/-- The state that a command answers. -/
def Tst.next (o : Host.Outcome State Fault Refusal) : State :=
  match o with
  | .next t => t
  | _ => State.reset

/-- The core of the worked example of chapter 9, with `b2` in B2. -/
def Tst.addD (b2 : Word) : State :=
  ((((Tst.up.wrBytes 0x2000010000 [0x17, 0x10, 0x20, 0x42, 0x12, 0x30, 0x4A, 0xF8]).wrBytes 0x001200404A30 (leBytes 8 0x234)).wrBytes
    0x2000000418 (leBytes 8 0x2000000ABC)).updCore 3 (fun x => { x with
      st := 1, pc := 0x2000010000, bk := 0x00120040, psw := 0x200000F, tbr := 0x2000000400 }
        |>.setR 2 b2 |>.setR 7 0x2000008000 |>.setWs 0x120 (leBytes 8 0x1000)))

/-- ADD.D of chapter 9: the sum in the Shepherd store, all four flags 0, the PC eight bytes on, one instruction retired. -/
theorem test_worked_add :
    let t := Tst.next (exec (.shAddSub 3) (Tst.addD 0x2000001008));
    t.rd64 0x2000001000 = 0x1234 ∧ (t.core 3).psw = 0x2000000 ∧ (t.core 3).pc = 0x2000010008 ∧ (t.core 3).icount = 1 := by
  decide +kernel

/-- The same with a misaligned destination: the trap frame, B7, and the handler's address. -/
theorem test_worked_add_trap :
    let t := Tst.next (exec (.shAddSub 3) { (Tst.addD 0x200000100C).updCore 3 (fun x => { x with psw := 0x2000000 }) with now := 0x50000000 });
    (List.range 8).map (fun k => (t.rd64 (0x2000007FC0 + 8 * k)).toNat) =
      [0x2000010000, 0x2000000, 0x820003, 0x2000001004, 0x2000008000, 0x120040, 0xF84A301242201017, 0x50000000] ∧
    (t.core 3).r 7 = 0x2000007FC0 ∧ (t.core 3).pc = 0x2000000ABC ∧ t.rd64 0x2000001000 = 0 := by
  decide +kernel

/-- The gather of chapter 10 that faults on its fifth element. -/
def Tst.gather : State :=
  ((List.range 4).foldl (fun s k => s.wrByte (0x20007FFFC0 + 8 * k) (BitVec.ofNat 8 (0x11 * (k + 1))))
    (Tst.up.wrBytes 0x2000010040 [0xF8, 0x03, 0x03, 0x07, 0x41, 0x00])).updCore 2 (fun x =>
      ({ x with st := 1, pc := 0x2000010040, hatch := true, vl := 16 }.setV 7 0x0F0E0D0C0B0A090807060504F018100800
        |>.setV 3 0xEEEEEEEEEEEEEEEEEEEEEEEEEEEEEEEE |>.setR 1 0x20007FFFC0 |>.setR 7 0x2000008000))

theorem test_worked_gather :
    let t := Tst.next (exec (.vgather 2) Tst.gather);
    (t.core 2).vreg 3 = 0xEEEEEEEEEEEEEEEEEEEEEEEE44332211 ∧ t.rd64 0x2000007FD0 = 0x62840B ∧ t.rd64 0x2000007FD8 = 0x20008000B0 ∧
    (t.core 2).hfi = 0x0020000100400024 ∧ (t.core 2).r 1 = 0x20007FFFC0 := by
  decide +kernel

/-- The route and its reversal, and the controller and local address, of the read of chapter 13. -/
theorem test_worked_route :
    xyRoute 151 6 = 0xE51 ∧ rrouteOf 0xE51 = 0x69 ∧ hbmUnit 0x400000100 = 0 ∧ hbmLocal 0x400000100 = 0x100000000 := by
  decide +kernel

/-- The decimal sums of chapter 10. -/
theorem test_worked_decimal : decAdd false 0x125C 0x300D = 0x175D ∧ decAdd false 0x999999999999999F 0x1F = 0xF := by
  decide +kernel

/-- The set indexes of chapter 3 under the current and the next salt. -/
theorem test_worked_hash :
    msKey 2 0x01A 0x012300000802 false = 0x201A012300000802 ∧ setIndex 0x201A012300000802 0x5A3C96E10F72C4B8 = 0xFA0 ∧
    setIndex 0x201A012300000802 0x1B6DE2F04C973A85 = 0x6BE := by
  decide +kernel

/-- A firing of ADD whose result the node of chapter 2 sends. -/
def Tst.addNode : State :=
  Tst.next (execAddSub 0 0 (Tst.at4 (Tst.up.putF (kpk + R.packCtl) 9 0 6) { Tst.fr 0x100 0 40 2 0 0 with
    x := Tst.tok 0 40 0 0x012300000702, slot := Tst.slot 0x100 1 0 0 0x0192C03510 0xF0 }))

/-- The token that the node of chapter 2 sends: ITER_INC makes iteration 7 iteration 8, the transform field is cleared, and
the flit goes to tile 37 at node (5,3). -/
theorem test_worked_token :
    (Tst.addNode.bufs.map (fun e => e.2.map (fun x => (x.body, routeEnd 16 x.route)))) =
      [[(.token { dest := 0x0192C03500, tag := 0x012300000802, value := 42, ctl := 0 } false, some (16 * 3 + 5))]] := by
  decide +kernel

/-- The port of the worked example of chapter 16 after its first and second fault, its timer's expiry, which acts at the next tick (log entry 63), and the
clear. -/
def Tst.ladder1 : State := ({ Tst.up with now := 0x200000000 } : State).fault (pageAt .port 9) .protocol
def Tst.ladder2 : State := { Tst.ladder1 with now := 0x200493E00 }.fault (pageAt .port 9) .protocol
def Tst.ladder3 : State := Tst.next (execReactionTimerExpire (pageAt .port 9) { Tst.ladder2 with now := 0x2013D6201 })
def Tst.ladder4 : State := Tst.next (execFaultAck (pageAt .port 9) ⟨0x1000, .d64, 4⟩ { (Tst.ladder3.controlRead 0x189020 ⟨0x1000, .d64⟩).2.2 with now := 0x2016E3600 })

theorem test_worked_ladder :
    let p := pageAt .port 9;
    p = 0x189000 ∧ Tst.ladder1.reg (p + R.pgErrStat) = 0x100000004 ∧ Tst.ladder1.f (p + R.pgErrLevel) 1 0 = 1 ∧
    Tst.ladder2.reg (p + R.pgErrLevel) = 6 ∧ Tst.ladder3.reg (p + R.pgErrStat) = 0x200000004 ∧ Tst.ladder3.reg (p + R.pgErrLevel) = 7 ∧
    Tst.ladder3.reg (p + R.pgErrFirst) = 0x0000020000000012 ∧ Tst.ladder4.reg (p + R.pgErrLevel) = 4 := by
  and_intros <;> decide +kernel

/-- The ledger records of chapter 16: kind, origin, OFFSET, OLD, NEW and DATA. -/
theorem test_worked_ladder_records :
    Tst.ladder4.ledger.recs.map (fun e => [e.2.kind, e.2.origin.toNat, e.2.off, e.2.old.toNat, e.2.new.toNat, e.2.data.toNat]) =
      [[2, 0x7002, 0x189040, 0, 1, 0x02], [2, 0x7002, 0x189040, 1, 6, 0x12], [2, 0x7002, 0x189040, 6, 7, 0x22], [0, 0x1000, 0x189020, 4, 0, 4],
       [2, 0x7002, 0x189040, 7, 4, 0x52]] := by
  decide +kernel

/-- Balls that R564 works out, and corners of the other groups (Tables 18.3 and 18.4). -/
theorem test_balls :
    ballAt 3 15 = .phour 2 (physLane 1 2) true false ∧ ballAt 3 16 = .phour 2 6 true true ∧ ballAt 12 15 = .phour 2 6 false false ∧
    ballAt 70 69 = .phour 23 (physLane 3 3) true false ∧ phourBall 23 15 true false = (70, 69) ∧ ballAt 18 75 = .side "REF10M" ∧
    braceBall 1 7 false true = (31, 8) ∧ ballAt 31 8 = .brace 1 7 false true ∧ ballAt 32 76 = .gpio 31 ∧ ballAt 60 76 = .host 447 ∧
    ballAt 17 9 = .rail .vddSerdes ∧ ballAt 17 10 = .gnd ∧ ballAt 60 60 = .rail .vinCore := by
  and_intros <;> decide +kernel

/-! ## Well-formedness refuses each ill-formed operand -/

theorem test_wellformed_1 : ∀ i ∈ ([
    .functionReset (pageAt .tile 127 + 8) (Tst.w 0), .functionReset 0xFFF000 (Tst.w 0), .tileFunctionReset 128 (Tst.w 0),
    .hubFunctionReset 24 (Tst.w 0), .portFunctionReset 96 (Tst.w 0), .retFunctionReset 64 (Tst.w 0),
    .shepFunctionReset 16 (Tst.w 0), .dmaFunctionReset 32 (Tst.w 0), .kenRingPageReset 0 (Tst.w 0),
    .kenRingPageReset 9 (Tst.w 0), .hbmcFunctionReset 5 (Tst.w 0), .tokenEnterTile 128 0,
    .tokenEnterTile 0 160, .spillDelayExpire 128 0, .spillDelayExpire 0 4,
    .msScrub 128 false 0 0 .clean {}, .msScrub 0 false 4096 0 .clean {}, .msScrub 0 false 0 8 .clean {},
    .tokenMatch 0 4 .clean {}, .tokenMatch 0 0 .clean { sums := [4096] }, .sweepMove { tile := 0, read := { sums := [4096] } },
    .teardownComplete 65536, .emitCreditReturn 128 0, .emitCreditReturn 0 24,
    .iFetchRequest 4 ⟨[], false⟩ ⟨[], false⟩, .emitWordArrive 24 0, .emitWordArrive 0 128,
    .sbRsp 96 0 0 0, .sync 96 0, .linkid 96 0 0 0 0, .resume 96 0 0 0, .downstreamBlockTime 98,
    .sidebandTimeout 96 0, .sidebandTimeout 0 32, .upstreamInvalidBlock 98 false 0] : List Instr), i.wf = false := by
  decide +kernel

theorem test_wellformed_2 : ∀ i ∈ ([
    .trainingFrame 98 0 ⟨true, 0, 0, 0, 0, 0⟩, .trainingFrame 0 8 ⟨true, 0, 0, 0, 0, 0⟩, .spareLockTimeout 96 0,
    .spareLockTimeout 0 4, .gpioEdge 32 true, .i3cIbi 4 0 0,
    .kenRingDoorbell 256 (Tst.w 0), .threadWakeTime 256, .eventLinePulse 64,
    .barkDiscard 2048 (Tst.w 0), .leashExpiry 5, .memWrite64 ⟨0, 0, 0, 0, 0, 0, ⟨[], false⟩⟩ [],
    .postedWrite ⟨0, 0, 0, 0, 0, 0, ⟨[], false⟩⟩ (some [0]), .meshResponse 160 0 .ok [], .meshResponse 0 4096 .ok [],
    .routerForward 160 0 0, .routerForward 0 5 0, .routerForward 0 0 5,
    .niIsolate 160 (Tst.w 0), .hbmScrub 4 0 ⟨[], false⟩, .hbmScrub 0 377749504 ⟨[], false⟩, .hostLinkTrain true true ⟨7, 0, 0⟩, .busTransferComplete 65 ⟨false, 0, []⟩, .trackerAgeExpire 4 0,
    .trackerAgeExpire 0 5898240, .domainTargetWrite 176 (Tst.w 0), .gaugeSample 256 0,
    .token 98 0 (Tst.tok 0 0 0 0) 0, .token 0 0 (Tst.tok 0 0 0 0) 16, .arrive 98 0 0 0,
    .arrive 0 0 16 0, .msg 98 0 0 0 0 [0, 0, 0, 0], .msg 0 0 1024 0 0 [0, 0, 0, 0]] : List Instr), i.wf = false := by
  decide +kernel

theorem test_wellformed_3 : ∀ i ∈ ([
    .msg 0 0 0 1024 0 [0, 0, 0, 0], .msg 0 0 0 0 16 [0, 0, 0, 0], .msg 0 0 0 0 0 [0, 0, 0],
    .msgAck 98 0 0 0 0 false, .msgAck 0 0 1024 0 0 false, .msgAck 0 0 0 1024 0 false,
    .msgAck 0 0 0 0 16 false, .rstart 98 0 0 0 0 0 [0, 0], .rstart 0 0 1024 0 0 0 [0, 0],
    .rstart 0 0 0 1024 0 0 [0, 0], .rstart 0 0 0 0 16 0 [0, 0], .rstart 0 0 0 0 0 64 [0, 0],
    .rstart 0 0 0 0 0 0 [], .rstartAck 98 0 0 0 0 0 false, .rstartAck 0 0 1024 0 0 0 false,
    .rstartAck 0 0 0 1024 0 0 false, .rstartAck 0 0 0 0 16 0 false, .rstartAck 0 0 0 0 0 64 false,
    .barrierArrive 16 (Tst.w 0), .mirror 98 0 0 0 (List.replicate 64 0), .mirror 0 0 0 0 [],
    .braceLinkUp 2 0 false false, .hostWrite 6 0 [], .msixUnmask 2048,
    .hostCompletion 4096 [] true] : List Instr), i.wf = false := by
  decide +kernel

/-- The last value of each range is accepted. -/
theorem test_wellformed_last : ∀ i ∈ ([.functionReset (pageAt .tile 127) (Tst.w 0), .tokenEnterTile 127 159, .spillDelayExpire 127 3,
    .msScrub 127 false 4095 7 .clean {}, .tokenMatch 127 3 .clean { sums := [4095] }, .hbmScrub 3 377749503 ⟨[], false⟩, .hostLinkTrain true true ⟨6, 65535, 9⟩, .sbRsp 95 0 0 0, .downstreamBlockTime 97, .kenRingPageReset 8 (Tst.w 0), .domainTargetWrite 175 (Tst.w 0), .leashExpiry 4,
    .trackerAgeExpire 3 5898239, .rstart 97 0 1023 1023 15 63 [0, 0], .hostWrite 5 0 [], .msixUnmask 2047] : List Instr), i.wf = true := by
  decide +kernel

/-! ## Injection and poison on an engine's access (R431, R522) -/

/-- A state whose outer-code checker of controller 0, or whose Shepherd-store checker, has injection of one or two bits armed. -/
def Tst.injArmed (u : Nat) (two : Bool) : State :=
  { State.reset with porst := false }.setReg (pageAt .hbmc u + R.pgErrInj)
    (BitVec.ofNat 64 (2 * 2 ^ 32 + 1 * 2 ^ 14 + b2n two * 2 ^ 4))

/-- An engine's read of a line of controller 0 takes one of the two injections, is corrected and is OK. -/
theorem test_injected_line :
    let r := (Tst.injArmed 0 true).memRead 0 8
    r.1 = .ok ∧ r.2.2.f (pageAt .hbmc 0 + R.pgErrInj) 47 32 = 1 ∧ r.2.2.f (pageAt .hbmc 0 + R.hbmcEccCnt) 31 16 = 1 ∧
      r.2.2.f (pageAt .hbmc 0 + R.pgErrStat) 4 0 = 1 := by
  decide +kernel

/-- Two inverted bits of a Shepherd-store word answer DATA and count; a write of a whole word reads nothing. -/
theorem test_injected_word :
    let s := Tst.injArmed 4 true
    let r := s.memRead shepBase 8
    r.1 = .data ∧ r.2.2.f (pageAt .hbmc 4 + R.hbmcEccCnt) 47 32 = 1 ∧ (s.memWrite shepBase (leBytes 8 5)).1 = .ok ∧
      (s.memWrite shepBase (leBytes 4 5)).1 = .data := by
  decide +kernel

/-- A write of a whole line clears the poison of a spare line, and a write of a part is answered DATA. -/
theorem test_poison_cleared :
    let s := { State.reset with porst := false }.updHb 0 (fun h => { h with spares := [0], poison := [0] })
    (s.memRead 0 8).1 = .data ∧ (s.memWrite 0 (leBytes 8 5)).1 = .data ∧
      (((s.memWrite 0 (List.replicate 64 7)).2).memRead 0 8).1 = .ok := by
  decide +kernel

end
end

section
/-! PROOF. Writes of control-window registers that take effect (R12, R13, R15, R528): what the hook of a register sees of a write,
and the outcome of a row by what that hook answers. -/

namespace Sys2Proof.Machine

section
variable (s : State) (b : PKind) (p o : Nat) (w : RegW) (new : Word)

@[simp] theorem State.wrOf_page : (s.wrOf b p o w new).page = pageAt b p := rfl
@[simp] theorem State.wrOf_off : (s.wrOf b p o w new).off = pageAt b p + o := rfl
@[simp] theorem State.wrOf_data : (s.wrOf b p o w new).data = placed w := rfl
@[simp] theorem State.wrOf_mask : (s.wrOf b p o w new).mask = wrMask b p o w := rfl
@[simp] theorem State.wrOf_old : (s.wrOf b p o w new).old = s.reg (pageAt b p + o) := rfl
@[simp] theorem State.wrOf_new : (s.wrOf b p o w new).new = new := rfl
@[simp] theorem State.wrOf_d (hi lo : Nat) : (s.wrOf b p o w new).d hi lo = wFld w hi lo := rfl
@[simp] theorem State.wrOf_has (i : Nat) : (s.wrOf b p o w new).has i = bit (wrMask b p o w) i := rfl

/-- The fields of a write put into the register after the ledger's record of it. -/
@[simp] theorem State.wrOf_set_logged : (s.wrOf b p o w new).set (s.logged b p o w new) = s.written b p o w new := rfl

end

/-- A bit of a write's data, as the rows name it. -/
theorem bit_placed (w : RegW) (i : Nat) : bit (placed w) i = wBit w i := rfl
/-- A field of a write's data, as the rows name it. -/
theorem fld_placed (w : RegW) (hi lo : Nat) : fld (placed w) hi lo = wFld w hi lo := rfl
/-- A bit of the stored register, as the statements name it. -/
theorem bit_reg (s : State) (o i : Nat) : bit (s.reg o) i = s.b o i := rfl
/-- A field of the stored register, as the statements name it. -/
theorem fld_reg (s : State) (o hi lo : Nat) : fld (s.reg o) hi lo = s.f o hi lo := rfl
/-- The page of a tile. -/
theorem pageAt_tile (n : Nat) : pageAt .tile n = tp n := rfl
/-- The page of a hub. -/
theorem pageAt_hub (n : Nat) : pageAt .hub n = hp n := rfl
/-- The page of a port. -/
theorem pageAt_port (n : Nat) : pageAt .port n = pp n := rfl

section
variable {s u : State} {b : PKind} {p o : Nat} {w : RegW} {new : Word} {K : Hook}

/-- A row that is any write of a register whose hook answers `u` on the state that the ledger has recorded. -/
theorem wrRow_acted (hK : hookOf b p o = K) (h : s.Takes b p o w new) (hs : (K.run (s.wrOf b p o w new) s).1 = true)
    (hl : (K.run (s.wrOf b p o w new) (s.logged b p o w new)).2 = u) : wrRow s b p o w = u.acted w := by
  rw [reg_wr hK h hs, hl]

/-- The same of a row that is one operation of the register. -/
theorem opRow_acted {ok : Bool} (hK : hookOf b p o = K) (hok : ok = true) (h : s.Takes b p o w new)
    (hs : (K.run (s.wrOf b p o w new) s).1 = true) (hl : (K.run (s.wrOf b p o w new) (s.logged b p o w new)).2 = u) :
    opRow ok s b p o w = u.acted w := by
  rw [reg_op hK hok h hs, hl]

end

/-- The hook of the scramble register of a port's Plate, which stands on the page of the port's hub (Table 5.5). -/
theorem hookOf_scramble (n : Nat) : hookOf .hub (n / 4) (R.hubPltScr + 0x40 * (n % 4)) = hookScr n := by
  have hm : n % 4 < 4 := Nat.mod_lt _ (by decide)
  have hn : 4 * (n / 4) + n % 4 = n := Nat.div_add_mod n 4
  generalize n / 4 = q at hn ⊢
  generalize n % 4 = r at hn hm ⊢
  subst hn
  match r, hm with
  | 0, _ => rfl
  | 1, _ => rfl
  | 2, _ => rfl
  | 3, _ => rfl

/-- PORT_LNK_CTL acts on every write that takes effect. -/
theorem hookLnkCtl_takes (n : Nat) (w : Wr) (s : State) : ((hookLnkCtl n).run w s).1 = true := by
  simp only [hookLnkCtl]
  split_ifs <;> rfl

/-- EN = 1 written to PORT_LNK_CTL of a port that nothing holds: a link that was disabled trains, and one that was enabled
trains again where the write asks for it (R251, R258). -/
theorem hookLnkCtl_enabled {n : Nat} {w : Wr} {s : State} (hn : bit w.new 0 = true) (hs : s.portHeld n = false) :
    ((hookLnkCtl n).run w s).2 =
      if bit w.old 0 then (if bit w.data 3 then (w.set s).retrain n true else w.set s) else (w.set s).retrain n false := by
  cases ho : bit w.old 0 <;> simp [hookLnkCtl, hn, hs, ho]

/-- No level-2 action holds a port whose page and whose hub's page are not isolated (Table 16.3). -/
theorem portHeld_of_levels {n : Nat} {s : State} (hport : s.b (pp n + R.pgErrLevel) 2 = false)
    (hhub : s.b (hp (n / 4) + R.pgErrLevel) 2 = false) : s.portHeld n = false := by
  simp [State.portHeld, hport, hhub]

/-- GO written to HUB_LNK_SPARE where no repair is under way, for a port of the hub whose link is UP (R253, R260). -/
theorem hookSpare_go {n : Nat} {w : Wr} {s : State} (hst : fld w.old 14 12 = 0 ∨ fld w.old 14 12 = 4)
    (hgo : bit w.data 10 = true) (hport : fld w.new 6 0 / 4 = n) (hup : s.lnk (fld w.new 6 0) = 4) :
    (hookSpare n).run w s = (true, (w.set s).spareGo n) := by
  rcases hst with hst | hst <;> simp [hookSpare, hst, hgo, hport, hup]

/-- Arming the emergency chain, whose first CCW stands aligned in the Shepherd store, while no chain runs or is armed (R294). -/
theorem emergArm_armed {s : State} {w : Word} (hw : bit w 8 = true)
    (h : let a := s.f (rtp 0 + R.retEmergChain) 47 0
      shepBase ≤ a ∧ a < shepBase + 0x800000 ∧ a % 16 = 0 ∧ s.b emc 9 = false ∧ s.b emc 8 = false) :
    s.emergArm w = (true, (s.putF emc 5 0 (fld w 5 0)).putB emc 8 true) := by
  obtain ⟨hlo, hhi, hal, hrun, harm⟩ := h
  simp [State.emergArm, hw, hlo, hhi, hal, hrun, harm]

end Sys2Proof.Machine
end

section
/-! PROOF. Whole accesses to the control window (R13, R15, R578) and the resets (R549, R559, R571, R572). -/

namespace Sys2Proof.Machine

/-! ## The hook and the page at an offset -/

/-- The hook at an offset is that of its page and page offset. -/
theorem hookAt_pageAt {b : PKind} {p o : Nat} (hp : p < blkPages b) (ho : o < 0x1000) :
    hookAt (pageAt b p + o) = hookOf b p o := by
  simp only [hookAt, pageOf_pageAt hp ho, pageAt_mod b p o ho]

/-- The page that an offset lies in. -/
theorem page_of_offset (b : PKind) (p : Nat) {o : Nat} (ho : o < 0x1000) :
    (pageAt b p + o) / 0x1000 * 0x1000 = pageAt b p := by
  cases b <;> simp only [pageAt, blkBase] <;> omega

/-- Pages are aligned to 8 bytes. -/
theorem pageAt_add_mod_eight (b : PKind) (p : Nat) {o : Nat} (ho : o % 8 = 0) : (pageAt b p + o) % 8 = 0 := by
  cases b <;> simp only [pageAt, blkBase] <;> omega

/-- REGISTER_WRITE is the write of the register at its offset. -/
theorem execRegisterWrite_eq {s : State} {off : BitVec 24} {b : PKind} {p o : Nat} (w : RegW)
    (hoff : off.toNat = pageAt b p + o) (hp : p < blkPages b) (ho : o < 0x1000) :
    exec (.registerWrite off w) s = wrRow s b p o w := by
  rw [exec_registerWrite, execRegisterWrite, hoff, hookAt_pageAt hp ho, wrRow, State.pageRow, if_pos hp]

/-- A write of a register without an operation of its own puts its fields and is answered. -/
theorem registerWrite_plain {s : State} {off : BitVec 24} {b : PKind} {p o : Nat} {w : RegW} {new : Word}
    (hoff : off.toNat = pageAt b p + o) (hk : hookOf b p o = {}) (h : s.Takes b p o w new) :
    exec (.registerWrite off w) s = (s.written b p o w new).acted w := by
  rw [execRegisterWrite_eq w hoff h.page h.off]
  exact wrRow_acted hk h rfl rfl

/-! ## Reads -/

/-- The fields of the register at an offset. -/
def fieldsAt (off : Nat) : List FieldDef := match regAt off with | some (d, _) => d.fields | none => []

/-- A read that reaches its register is answered at once: the value shown, and the state after it (R15, R450, R556, R559). -/
theorem readRow_reaches {s : State} {b : PKind} {p o : Nat} {r : RegR} (hp : p < blkPages b) (ho : o < 0x1000) (ha : o % 8 = 0)
    (hs : s.porst = false) (hw : s.parks r.origin b p o = none) (hj : (orgClass r.origin == 4 && s.jtagClosed) = false)
    (hf : (decide (0x100 ≤ o) && s.frstBusy (pageAt b p)) = false) :
    s.readRow (pageAt b p + o) r =
      let t := s.beforeRead (pageAt b p + o)
      (if pageAt b p + o = tmp + R.gaugeSnap then t
        else t.setReg (pageAt b p + o) (clearRc (fieldsAt (pageAt b p + o)) (sizeMask r.size) (t.reg (pageAt b p + o)))).emit
        (.reg r.origin .ok (halfOf r.size (t.view (pageAt b p + o)))) := by
  simp only [State.readRow, hs, State.controlRead, pageOf_pageAt hp ho, pageAt_add_mod_eight b p ha, pageAt_mod b p o ho, hw,
    State.readReg, page_of_offset b p ho, hj, hf, Bool.or_self, Bool.false_eq_true, if_false, ne_eq, not_true_eq_false]
  rfl

/-- A read of a register other than GAUGE_SNAP. -/
theorem beforeRead_other {s : State} {off : Nat} (h : off ≠ tmp + R.gaugeSnap) : s.beforeRead off = s := if_neg h

/-! ## Resets -/

/-- The hook of PG_CTL of a page with the common header. -/
theorem hookOf_pgCtl {b : PKind} {p : Nat} (hb : hasHeader b p = true) : hookOf b p R.pgCtl = hookPgCtl b p := by
  simp [hookOf, hb, hookHdr, R.pgCtl]

/-- FRST written to PG_CTL of a page that takes it and is not busy begins the page's function reset (R559). -/
theorem frstRow_begins {s : State} {b : PKind} {p : Nat} {w : RegW} {new : Word} (hb : hasHeader b p = true)
    (hn : noFrst b = false) (h : s.Takes b p R.pgCtl w new) (hw : wBit w 0 = true) (hs : s.frstBusy (pageAt b p) = false)
    (hl : (s.logged b p R.pgCtl w new).frstBusy (pageAt b p) = false) :
    frstRow b p w s = ((s.logged b p R.pgCtl w new).functionReset b p).acted w :=
  opRow_acted (hookOf_pgCtl hb) hw h (by simp [hookPgCtl, bit_placed, hw, hn, hs]) (by simp [hookPgCtl, bit_placed, hw, hn, hl])

/-- The device at its power-on state stays held in reset, so nothing goes on at the command's end (R17, R571). -/
theorem powerOn_porst (s : State) (pin brown : Bool) : (s.powerOn pin brown).porst = true := rfl

end Sys2Proof.Machine
end

section
/-! PROOF. The bits of a word, and the bits of a register that a write does not address (R9, R13). -/

namespace Sys2Proof

/-! ## Bits of a word (R9) -/

/-- A field of a word, bit by bit. -/
theorem testBit_fld {n : Nat} (x : BitVec n) (hi lo i : Nat) :
    (fld x hi lo).testBit i = (decide (i < hi + 1 - lo) && x.getLsbD (lo + i)) := by
  simp [fld, Nat.testBit_mod_two_pow, Nat.testBit_shiftRight, BitVec.getLsbD]

/-- The bits of a field's mask. -/
theorem getLsbD_fmask (n hi lo i : Nat) :
    (fmask n hi lo).getLsbD i = (decide (i < n) && (decide (lo ≤ i) && decide (i - lo < hi + 1 - lo))) := by
  simp [fmask, BitVec.getLsbD_ofNat, Nat.testBit_mul_two_pow, Nat.testBit_two_pow_sub_one]

/-- A field of a word replaced, bit by bit. -/
theorem getLsbD_setFld {n : Nat} (x : BitVec n) (hi lo v i : Nat) :
    (setFld x hi lo v).getLsbD i = if (fmask n hi lo).getLsbD i then v.testBit (i - lo) else x.getLsbD i := by
  simp only [setFld, BitVec.getLsbD_or, BitVec.getLsbD_and, BitVec.getLsbD_not, BitVec.getLsbD_ofNat]
  cases hm : (fmask n hi lo).getLsbD i with
  | true =>
    obtain ⟨hn, hlo, -⟩ : i < n ∧ lo ≤ i ∧ i - lo < hi + 1 - lo := by simpa [getLsbD_fmask] using hm
    simp [hn, hlo, Nat.testBit_mul_two_pow]
  | false =>
    by_cases hn : i < n
    · simp [hn]
    · simp [BitVec.getLsbD_of_ge x i (Nat.le_of_not_lt hn)]

namespace Machine

/-! ## Bits that a write does not address (R13) -/

/-- A bit of a word with the ones of another taken away. -/
theorem getLsbD_and_not {n : Nat} (x y : BitVec n) (i : Nat) : (x &&& ~~~y).getLsbD i = (x.getLsbD i && !y.getLsbD i) := by
  rw [BitVec.getLsbD_and, BitVec.getLsbD_not]
  by_cases hi : i < n
  · simp [hi]
  · simp [BitVec.getLsbD_of_ge x i (Nat.le_of_not_lt hi)]

/-- The value that a write gives a RW field keeps the bits that the write does not address. -/
theorem getLsbD_merge (a data m : Word) {i : Nat} (hm : m.getLsbD i = false) :
    ((a &&& ~~~m) ||| (data &&& m)).getLsbD i = a.getLsbD i := by
  rw [BitVec.getLsbD_or, getLsbD_and_not, BitVec.getLsbD_and, hm, Bool.not_false, Bool.and_true, Bool.and_false, Bool.or_false]

/-- A field of a word set to itself, but for other bits. -/
theorem getLsbD_setFld_fld {a x : Word} {hi lo i : Nat} (h : x.getLsbD i = a.getLsbD i) :
    (setFld a hi lo (fld x hi lo)).getLsbD i = a.getLsbD i := by
  rw [getLsbD_setFld]
  split_ifs with hf
  · obtain ⟨-, hlo, hlen⟩ : i < 64 ∧ lo ≤ i ∧ i - lo < hi + 1 - lo := by simpa [getLsbD_fmask] using hf
    rw [testBit_fld, decide_eq_true hlen, Bool.true_and, Nat.add_sub_cancel' hlo, h]
  · rfl

/-- A field of a write leaves every bit that the write does not address. -/
theorem getLsbD_put (data mask : Word) (a : Word × Bool × Bool) (f : FieldDef) {i : Nat} (hi : mask.getLsbD i = false) :
    (f.put data mask a).1.getLsbD i = a.1.getLsbD i := by
  have hm : (mask &&& fmask 64 f.hi f.lo).getLsbD i = false := by rw [BitVec.getLsbD_and, hi, Bool.false_and]
  simp only [FieldDef.put]
  generalize mask &&& fmask 64 f.hi f.lo = m at hm ⊢
  by_cases h0 : m = 0
  · rw [if_pos h0]
  · rw [if_neg h0]
    cases f.acc with
    | ro | rc => rfl
    | w1c => rw [getLsbD_and_not, BitVec.getLsbD_and, hm, Bool.and_false, Bool.not_false, Bool.and_true]
    | w1s => rw [BitVec.getLsbD_or, BitVec.getLsbD_and, hm, Bool.and_false, Bool.or_false]
    | wo => dsimp only; split <;> rfl
    | rw =>
      dsimp only
      split
      · rfl
      · exact getLsbD_setFld_fld (getLsbD_merge a.1 data m hm)

/-- The fields of a write leave every bit that the write does not address. -/
theorem getLsbD_putFields (fs : List FieldDef) (old data mask : Word) {i : Nat} (hi : mask.getLsbD i = false) :
    (putFields fs old data mask).1.getLsbD i = old.getLsbD i := by
  unfold putFields
  generalize hacc : (old, false, false) = a
  have ha : a.1.getLsbD i = old.getLsbD i := by rw [← hacc]
  clear hacc
  induction fs generalizing a with
  | nil => exact ha
  | cons f fs ih => exact ih _ ((getLsbD_put data mask a f hi).trans ha)

/-- A write that takes effect changes only bits that its size addresses. -/
theorem State.Takes.unaddressed {s : State} {b : PKind} {p o : Nat} {w : RegW} {new : Word} (h : s.Takes b p o w new) :
    (s.reg (pageAt b p + o) ^^^ new) &&& ~~~ sizeMask w.size = 0 := by
  refine BitVec.eq_of_getLsbD_eq fun i hi => ?_
  by_cases hm : (sizeMask w.size).getLsbD i = true
  · simp [hm]
  · have hw : (wrMask b p o w).getLsbD i = false := by simp [wrMask, hm]
    have hnew := getLsbD_putFields (s.fieldsFor (pageAt b p + o) w) (s.reg (pageAt b p + o)) (placed w) (wrMask b p o w) hw
    rw [h.fields] at hnew
    simp [hnew]

/-- Putting the bits that change keeps every bit outside a mask outside which nothing changes. -/
theorem put_changed_outside {r new m k : Word} (h : m &&& ~~~ k = 0) :
    ((r &&& ~~~ m) ||| (new &&& m)) &&& ~~~ k = r &&& ~~~ k := by
  refine BitVec.eq_of_getLsbD_eq fun i _ => ?_
  have hmk : (m.getLsbD i && !k.getLsbD i) = false := by rw [← getLsbD_and_not, h]; exact BitVec.getLsbD_zero
  rw [getLsbD_and_not, getLsbD_and_not]
  cases hk : k.getLsbD i with
  | true => simp only [Bool.not_true, Bool.and_false]
  | false => rw [getLsbD_merge r new m (by simpa [hk] using hmk)]

/-- The lower half of a register, as a number. -/
theorem halfOf_lo32 (v : Word) : halfOf .lo32 v = BitVec.ofNat 64 (fld v 31 0) := by
  refine BitVec.eq_of_toNat_eq ?_
  have hmask : v.toNat &&& (0xFFFFFFFF : Word).toNat = v.toNat % 2 ^ 32 := Nat.and_two_pow_sub_one_eq_mod v.toNat 32
  simp only [halfOf, fld, BitVec.toNat_and, hmask, BitVec.toNat_ofNat, Nat.shiftRight_zero]
  omega

/-- The upper half of a register, as a number. -/
theorem halfOf_hi32 (v : Word) : halfOf .hi32 v = BitVec.ofNat 64 (fld v 63 32) := by
  refine BitVec.eq_of_toNat_eq ?_
  have hlt := v.isLt
  simp only [halfOf, fld, BitVec.toNat_ushiftRight, BitVec.toNat_ofNat, Nat.shiftRight_eq_div_pow]
  omega

end Machine
end Sys2Proof
end

section
/-! PROOF. Which functions leave alone what waits for a wake (R448, R450): all but those that ask for a wake, that let an access
or a packet wait or end such a wait, and the resets. One lemma for each function of which anything that goes on by itself at
the end of a command is made. -/

namespace Sys2Proof.Machine

/-- `t` has the same accesses and packets waiting for a wake as `s`, since the same time. -/
@[simp, reducible] def WaitsKept (s t : State) : Prop :=
  t.wakeSince = s.wakeSince ∧ t.parked = s.parked ∧ t.wakeFlits = s.wakeFlits

@[simp] theorem ite_waits (c : Prop) [Decidable c] (a b : State) :
    (if c then a else b).wakeSince = (if c then a.wakeSince else b.wakeSince) ∧
      (if c then a else b).parked = (if c then a.parked else b.parked) ∧
      (if c then a else b).wakeFlits = (if c then a.wakeFlits else b.wakeFlits) := by
  split <;> simp

theorem WaitsKept.trans {s t u : State} (h : WaitsKept s t) (k : WaitsKept t u) : WaitsKept s u :=
  ⟨k.1.trans h.1, k.2.1.trans h.2.1, k.2.2.trans h.2.2⟩

/-- Of a pair that keeps what waits, its state does. -/
theorem WaitsKept.of_snd {α : Type} {s t : State} {a : α} {p : α × State} (h : WaitsKept s p.2) (e : p = (a, t)) :
    WaitsKept s t := by
  subst e
  exact h

/-- Of a triple that keeps what waits, its state does. -/
theorem WaitsKept.of_thd {α β : Type} {s t : State} {a : α} {b : β} {p : α × β × State} (h : WaitsKept s p.2.2)
    (e : p = (a, b, t)) : WaitsKept s t := by
  subst e
  exact h

theorem Signals.waitsKept {s t : State} (h : Signals s t) : WaitsKept s t :=
  ⟨(congrArg State.wakeSince h : t.wakeSince = _), (congrArg State.parked h : t.parked = _),
    (congrArg State.wakeFlits h : t.wakeFlits = _)⟩

@[simp] theorem snd_ite_waits {α : Type} (c : Prop) [Decidable c] (p q : α × State) :
    (if c then p else q).2 = if c then p.2 else q.2 := apply_ite Prod.snd c p q

@[simp] theorem foldl_waits {α : Type} (g : State → α → State) (h : ∀ s a, WaitsKept s (g s a)) (l : List α)
    (s : State) : WaitsKept s (l.foldl g s) := by
  induction l generalizing s with
  | nil => exact ⟨rfl, rfl, rfl⟩
  | cons x l ih => exact (h s x).trans (ih (g s x))

theorem foldl_snd_waits {α β : Type} (g : β × State → α → β × State) (h : ∀ r a, WaitsKept r.2 (g r a).2) (l : List α)
    (r : β × State) : WaitsKept r.2 (l.foldl g r).2 := by
  induction l generalizing r with
  | nil => exact ⟨rfl, rfl, rfl⟩
  | cons x l ih => exact (h r x).trans (ih (g r x))

variable (s : State)

/-! ## What Ops defines -/

@[simp] theorem State.draw_waits : WaitsKept s s.draw.2 := by simp [State.draw]
@[simp] theorem State.drawBit_waits : WaitsKept s s.drawBit.2 := by simp [State.drawBit]
@[simp] theorem State.wrBytes_waits (a : Nat) (bs : List Byte) : WaitsKept s (s.wrBytes a bs) := by
  fun_induction State.wrBytes s a bs <;> simp_all
@[simp] theorem State.wr_waits (a n v : Nat) : WaitsKept s (s.wr a n v) := by simp [State.wr]
@[simp] theorem State.wr64_waits (a : Nat) (w : Word) : WaitsKept s (s.wr64 a w) := by simp [State.wr64]
@[simp] theorem State.clearPoison_waits (a : Nat) : WaitsKept s (s.clearPoison a) := by
  unfold State.clearPoison
  repeat' split <;> simp
@[simp] theorem State.stored_waits (a n : Nat) : WaitsKept s (s.stored a n) := by simp [State.stored]
@[simp] theorem State.record_waits (kind : Nat) (size32 half applied : Bool) (origin : Origin) (off : Nat)
    (old new data : Word) :
    WaitsKept s (s.record kind size32 half applied origin off old new data) :=
  (signals_record s _ _ _ _ _ _ _ _ _).waitsKept
@[simp] theorem State.msix_waits (v : Nat) : WaitsKept s (s.msix v) := (signals_msix s _).waitsKept
@[simp] theorem State.bark_waits (src : Nat) : WaitsKept s (s.bark src) := (signals_bark s _).waitsKept
@[simp] theorem State.pageInt_waits (page i : Nat) : WaitsKept s (s.pageInt page i) := (signals_pageInt s _ _).waitsKept
@[simp] theorem State.startTimer_waits (page : Nat) : WaitsKept s (s.startTimer page) :=
  (signals_startTimer s _).waitsKept
@[simp] theorem State.setLevel_waits (page lvl reason cls : Nat) : WaitsKept s (s.setLevel page lvl reason cls) :=
  (signals_setLevel s _ _ _ _).waitsKept
@[simp] theorem State.fault_waits (page : Nat) (c : Cls) (inj : Bool) : WaitsKept s (s.fault page c inj) :=
  (signals_fault s _ _ _).waitsKept
@[simp] theorem State.badWindow_waits (a : Nat) : WaitsKept s (s.badWindow a) := (signals_badWindow s _).waitsKept
@[simp] theorem State.visit_waits (a : Nat) (st : Status) (n : Nat) : WaitsKept s (s.visit a st n) :=
  (signals_visit s _ _ _).waitsKept
@[simp] theorem State.checkMem_waits (a n : Nat) (write : Bool) : WaitsKept s (s.checkMem a n write) :=
  (signals_checkMem s _ _ _).waitsKept
@[simp] theorem State.clearLines_waits (a n : Nat) : WaitsKept s (s.clearLines a n) := by simp [State.clearLines]
@[simp] theorem State.refused_waits (a n : Nat) (write : Bool) (st : Status) : WaitsKept s (s.refused a n write st) :=
  (signals_refused s _ _ _ _).waitsKept
@[simp] theorem State.hostSent_waits (write : Bool) (a n : Nat) (bs : List Byte) :
    WaitsKept s (s.hostSent write a n bs) :=
  (signals_hostSent s _ _ _ _).waitsKept
@[simp] theorem State.memWrite_waits (a : Nat) (bs : List Byte) : WaitsKept s (s.memWrite a bs).2 := by
  unfold State.memWrite
  split <;> simp
@[simp] theorem State.memRead_waits (a n : Nat) : WaitsKept s (s.memRead a n).2.2 := (signals_memRead s _ _).waitsKept
@[simp] theorem State.ringPush_waits (r : Ring) (ws : List Word) : WaitsKept s (s.ringPush r ws).2 := by
  unfold State.ringPush
  split
  · simp
  · dsimp only
    split
    · next h => simp [(State.memWrite_waits s _ _).of_snd h]
    · next h => simp [(State.memWrite_waits s _ _).of_snd h]

/-! ## What MeshOps defines -/

@[simp] theorem State.niSend_waits (f : Flit) : WaitsKept s (s.niSend f) := by simp [State.niSend]
@[simp] theorem State.inject_waits (src dst vn opc prio : Nat) (body : Body) :
    WaitsKept s (s.inject src dst vn opc prio body).2 := by
  simp [State.inject]
@[simp] theorem State.answer_waits (at_ : Nat) (q : Option InReq) (node txid : Nat) (st : Status) (data : List Byte) :
    WaitsKept s (s.answer at_ q node txid st data) := by
  unfold State.answer
  split <;> simp
@[simp] theorem State.respond_waits (at_ : Nat) (q : Option InReq) (r : MemReq) (st : Status) (data : List Byte) :
    WaitsKept s (s.respond at_ q r st data) := by
  simp [State.respond]
@[simp] theorem State.sendMsg_waits (l : Nat) (lseq : BitVec 16) (m : Bmsg) : WaitsKept s (s.sendMsg l lseq m) := by
  simp [State.sendMsg]
@[simp] theorem State.linkPut_waits (l : Nat) (m : Bmsg) : WaitsKept s (s.linkPut l m) := by simp [State.linkPut]
@[simp] theorem State.linkSend_waits (l : Nat) (m : Bmsg) : WaitsKept s (s.linkSend l m) := by simp [State.linkSend]

/-! ## What TileOps defines -/

@[simp] theorem State.setCtxState_waits (c v : Nat) : WaitsKept s (s.setCtxState c v) := by simp [State.setCtxState]
@[simp] theorem State.giveBuckets_waits (t : Nat) (l : List Nat) : WaitsKept s (s.giveBuckets t l) := by
  simp [State.giveBuckets]
@[simp] theorem State.writeBuckets_waits (l : List Nat) (m : List (Option (List Byte))) :
    WaitsKept s (s.writeBuckets l m) := by
  fun_induction State.writeBuckets s l m <;> simp_all
@[simp] theorem State.injected_waits (page checker : Nat) : WaitsKept s (s.injected page checker).2 := by
  simp [State.injected]
theorem State.rechain_waits {t : Nat} {c : Chain} {pop : Nat} {slots : List (List Byte)} {d : Chain} {u : State}
    (h : s.rechain t c pop slots = some (d, u)) : WaitsKept s u := by
  simp only [State.rechain, Option.ite_none_right_eq_some, Option.some.injEq, Prod.mk.injEq] at h
  obtain ⟨-, -, rfl⟩ := h
  simp
theorem State.chainAppend_waits {t p : Nat} {q : QItem} {u : State} (h : s.chainAppend t p q = some u) :
    WaitsKept s u := by
  unfold State.chainAppend at h
  dsimp only at h
  split at h <;> simp only [Option.some.injEq, reduceCtorEq] at h
  next hc => simp [← h, State.rechain_waits s hc]
theorem State.enterPe_waits {t : Nat} {q : QItem} {u : State} (h : s.enterPe t q = .entered u) : WaitsKept s u := by
  unfold State.enterPe at h
  dsimp only at h
  split at h
  · cases h
    simp
  · split at h
    · split at h <;> simp only [Entry.entered.injEq, reduceCtorEq] at h
      next hc => simpa [← h] using State.chainAppend_waits s hc
    · cases h
@[simp] theorem State.exhFix_waits (t : Nat) (was : Option Word) : WaitsKept s (s.exhFix t was) := by
  simp [State.exhFix]
@[simp] theorem State.starve_waits (t : Nat) (g : Nat → Tile → Tile) : WaitsKept s (s.starve t g) := by
  simp [State.starve]
@[simp] theorem State.badType_waits (t : Nat) (q : QItem) : WaitsKept s (s.badType t q).2 := by
  unfold State.badType
  split <;> simp
@[simp] theorem State.niHold_waits (t : Nat) (a : Arrival) : WaitsKept s (s.niHold t a) := by simp [State.niHold]
@[simp] theorem State.faultCount_waits (t : Nat) (flt : Bool) : WaitsKept s (s.faultCount t flt).2 := by
  unfold State.faultCount
  split <;> simp
theorem State.sendPack_waits {t : State} {tk : Token} (h : s.sendPack tk = some t) : WaitsKept s t := by
  unfold State.sendPack at h
  split at h <;> simp only [Option.some.injEq, reduceCtorEq] at h
  simp [← h]
@[simp] theorem State.sendTok_waits (t : Nat) (tk : Token) (flt : Bool) (fuel : Nat) :
    WaitsKept s (s.sendTok t tk flt fuel) := by
  induction fuel generalizing s tk flt with
  | zero => simp [State.sendTok]
  | succ n ih =>
    unfold State.sendTok
    dsimp only
    split
    · split
      · split
        · simp [ih]
        · split
          · simp
          · split
            · next h => simp [State.enterPe_waits _ h]
            · simp
            · simp
      · simp [ih]
    · split
      · next h => simpa using State.sendPack_waits s h
      · simp [ih]
@[simp] theorem State.send_waits (t : Nat) (tk : Token) : WaitsKept s (s.send t tk) := by simp [State.send]
@[simp] theorem State.divert_waits (t : Nat) (tk : Token) (flt : Bool) : WaitsKept s (s.divert t tk flt) := by
  simp [State.divert]
@[simp] theorem State.sendFrom_waits (node : Nat) (tk : Token) : WaitsKept s (s.sendFrom node tk) := by
  unfold State.sendFrom
  split
  · simp
  · split
    · next h => simpa using State.sendPack_waits s h
    · simp
@[simp] theorem State.isolate_waits (node : Nat) : WaitsKept s (s.isolate node) := by simp [State.isolate]
@[simp] theorem State.niDivert_waits (node : Nat) (tk : Token) (flt : Bool) : WaitsKept s (s.niDivert node tk flt) := by
  unfold State.niDivert
  dsimp only
  split
  · simp
  · split
    · simp
    · split
      · next h => simp [State.sendPack_waits s h]
      · simp
@[simp] theorem State.outTo_waits (t : Nat) (slot : BitVec 128) (tag : Tag) (i : Nat) (v : Word) (ctl : Byte) :
    WaitsKept s (s.outTo t slot tag i v ctl) := by
  simp [State.outTo]

/-! ## What Match defines -/

@[simp] theorem State.rotate_waits (t : Nat) : WaitsKept s (s.rotate t) := by
  simp [State.rotate]
@[simp] theorem State.rotTrigger_waits (t : Nat) : WaitsKept s (s.rotTrigger t) := by simp [State.rotTrigger]
@[simp] theorem State.msSync_waits (t p : Nat) : WaitsKept s (s.msSync t p) := by simp [State.msSync]
@[simp] theorem State.msSyncAt_waits (t : Nat) (place : MsPlace) : WaitsKept s (s.msSyncAt t place) := by
  unfold State.msSyncAt
  split <;> simp
@[simp] theorem State.msRemove_waits (t : Nat) (k : Word) : WaitsKept s (s.msRemove t k) := by
  unfold State.msRemove
  split <;> simp
@[simp] theorem State.msLost_waits (t : Nat) (key flips : Word) : WaitsKept s (s.msLost t key flips) := by
  simp [State.msLost]
@[simp] theorem State.msError_waits (t : Nat) (e : Ecc) (inj : Bool) (r : MsRead) (p : MsEntry → Bool) :
    WaitsKept s (s.msError t e inj r p) := by
  unfold State.msError
  split <;> simp
@[simp] theorem State.msCodes_waits (t : Nat) (r : MsRead) (i : Option Bool) (keys : List Word) :
    WaitsKept s (s.msCodes t r i keys) := by
  unfold State.msCodes
  split <;> simp
@[simp] theorem State.msSums_waits (t : Nat) (r : MsRead) (sets : List Nat) : WaitsKept s (s.msSums t r sets) := by
  unfold State.msSums
  split <;> simp
@[simp] theorem State.msCheck_waits (t : Nat) (sets : List Nat) (here : MsEntry → Bool) (r : MsRead) :
    WaitsKept s (s.msCheck t sets here r) := by
  simp [State.msCheck]
@[simp] theorem State.walkCheck_waits (t : Nat) (r : MsRead) : WaitsKept s (s.walkCheck t r) := by
  simp [State.walkCheck]

/-! ## What PeOps defines -/

@[simp] theorem State.purge_waits (t c : Nat) : WaitsKept s (s.purge t c) := by simp [State.purge]
@[simp] theorem State.expel_waits (t c : Nat) : WaitsKept s (s.expel t c) := by simp [State.expel]
@[simp] theorem State.beginTeardown_waits (c : Nat) (abort : Bool) (reason : Nat) :
    WaitsKept s (s.beginTeardown c abort reason) := by
  simp [State.beginTeardown]
@[simp] theorem State.abortCtx_waits (c reason : Nat) : WaitsKept s (s.abortCtx c reason) := by simp [State.abortCtx]

/-! ## What FabOps defines -/

@[simp] theorem State.loadGo_waits (t : Nat) : WaitsKept s (s.loadGo t) := by simp [State.loadGo]
@[simp] theorem State.spillSet_waits (t : Nat) (old : Word) : WaitsKept s (s.spillSet t old) := by simp [State.spillSet]
@[simp] theorem State.fenceTile_waits (t : Nat) : WaitsKept s (s.fenceTile t) := by simp [State.fenceTile]
@[simp] theorem State.excPop_waits (t : Nat) : WaitsKept s (s.excPop t) := by simp [State.excPop]
@[simp] theorem State.loadStop_waits (t : Nat) : WaitsKept s (s.loadStop t) := by simp [State.loadStop]
@[simp] theorem State.tileReset_waits (t : Nat) : WaitsKept s (s.tileReset t) := by simp [State.tileReset]

/-! ## What SemOps defines -/

@[simp] theorem State.semRaise_waits (a : Nat) (abandoned : Bool) : WaitsKept s (s.semRaise a abandoned) := by
  simp [State.semRaise]
@[simp] theorem State.reboost_waits (u a : Nat) : WaitsKept s (s.reboost u a) := by simp [State.reboost]
@[simp] theorem State.semTakeNow_waits (u a : Nat) (o : Origin) (old : Bool) :
    WaitsKept s (s.semTakeNow u a o old).2 := by
  simp [State.semTakeNow]
@[simp] theorem State.boostDrop_waits : WaitsKept s s.boostDrop := by simp [State.boostDrop]
@[simp] theorem State.unboosted_waits (t : State) : WaitsKept t (s.unboosted t) := by
  simp [State.unboosted]
@[simp] theorem State.semReply_waits (w : Waiter) (v : Word) : WaitsKept s (s.semReply w v) := by
  unfold State.semReply
  split <;> simp
@[simp] theorem State.semGrants_waits (u fuel : Nat) : WaitsKept s (s.semGrants u fuel) := by
  induction fuel generalizing s with
  | zero => simp [State.semGrants]
  | succ n ih =>
    unfold State.semGrants
    split <;> simp [ih]
@[simp] theorem State.semGrant_waits (u : Nat) : WaitsKept s (s.semGrant u) := by simp [State.semGrant]
@[simp] theorem State.semBad_waits (a : Nat) : WaitsKept s (s.semBad a).2 := by simp [State.semBad]
@[simp] theorem State.semTake_waits (u a : Nat) (o : Origin) (prio : Nat) (who : SemBy) :
    WaitsKept s (s.semTake u a o prio who).2 := by
  unfold State.semTake
  repeat' split <;> simp
@[simp] theorem State.semTry_waits (u a : Nat) (o : Origin) : WaitsKept s (s.semTry u a o).2 := by
  unfold State.semTry
  split <;> simp
@[simp] theorem State.semGive_waits (u a : Nat) (o : Origin) : WaitsKept s (s.semGive u a o) := by
  unfold State.semGive
  repeat' split <;> simp
@[simp] theorem State.semOp_waits (k u a : Nat) (o : Origin) (prio : Nat) (who : SemBy) :
    WaitsKept s (s.semOp k u a o prio who).2 := by
  unfold State.semOp
  split <;> simp
@[simp] theorem State.semAccess_waits (addr bytes : Nat) (write : Bool) (o : Origin) (prio : Nat) (who : SemBy) :
    WaitsKept s (s.semAccess addr bytes write o prio who).2 := by
  unfold State.semAccess
  split
  · dsimp only
    split
    · split
      · simp
      · split <;> simp
    · simp
  · simp
@[simp] theorem State.semFreeAll_waits (u : Nat) (g : Origin → Bool → Bool) : WaitsKept s (s.semFreeAll u g) := by
  simp -implicitDefEqProofs [State.semFreeAll]
@[simp] theorem State.notice_waits (o : Origin) : WaitsKept s (s.notice o) := by simp [State.notice]

/-! ## What CoreOps defines -/

@[simp] theorem State.wdSync_waits (c : Nat) : WaitsKept s (s.wdSync c) := by simp [State.wdSync]
@[simp] theorem State.wdReload_waits (c : Nat) : WaitsKept s (s.wdReload c) := by simp [State.wdReload]
@[simp] theorem State.setSt_waits (c st : Nat) : WaitsKept s (s.setSt c st) := by simp [State.setSt]
@[simp] theorem State.retire_waits (c len : Nat) : WaitsKept s (s.retire c len) := by simp [State.retire]
@[simp] theorem State.sigDone_waits (c cnt sig : Nat) : WaitsKept s (s.sigDone c cnt sig) := by simp [State.sigDone]
@[simp] theorem State.wakeBark_waits (c : Nat) : WaitsKept s (s.wakeBark c) := by simp [State.wakeBark]

/-! ## What KenOps defines -/

@[simp] theorem State.kenCopy_waits (i : KItem) : WaitsKept s (s.kenCopy i) := by simp [State.kenCopy]
@[simp] theorem State.kenTrace_waits (ev core ring prio flow seq entry detail : Nat) (arg0 : Word) :
    WaitsKept s (s.kenTrace ev core ring prio flow seq entry detail arg0) := by
  unfold State.kenTrace
  split
  · split
    · next h => simpa using (State.ringPush_waits s _ _).of_snd h
    · next h => simp [(State.ringPush_waits s _ _).of_snd h]
  · simp
@[simp] theorem State.kenRead_waits (a n : Nat) : WaitsKept s (s.kenRead a n).2 := by
  unfold State.kenRead
  split
  · next h => exact (State.memRead_waits s _ _).of_thd h
  · next h =>
    exact ((State.memRead_waits s _ _).of_thd h).trans
      (foldl_snd_waits _ (fun r _ => by simp) _ _)
@[simp] theorem State.kenTraceItem_waits (ev core : Nat) (i : KItem) (ring detail : Nat) :
    WaitsKept s (s.kenTraceItem ev core i ring detail) := by
  simp [State.kenTraceItem]
@[simp] theorem State.kenPost_waits (i : KItem) (n : Nat) (ws : List Word) : WaitsKept s (s.kenPost i n ws).2 := by
  unfold State.kenPost
  repeat' split <;> simp_all
@[simp] theorem State.kenFlowRoom_waits (f : Nat) : WaitsKept s (s.kenFlowRoom f) := by simp [State.kenFlowRoom]
theorem State.kenRelease_waits {i : KItem} {kind : Nat} {w1 w2 w3 : Word} {t : State}
    (h : s.kenRelease i kind w1 w2 w3 = some t) : WaitsKept s t := by
  simp only [State.kenRelease, Option.ite_none_left_eq_some, Option.ite_none_right_eq_some, Option.some.injEq] at h
  obtain ⟨-, -, rfl⟩ := h
  simp
@[simp] theorem State.kenReleases_waits (fuel : Nat) : WaitsKept s (s.kenReleases fuel) := by
  induction fuel generalizing s with
  | zero => simp [State.kenReleases]
  | succ n ih =>
    unfold State.kenReleases
    split
    · next h =>
      obtain ⟨d, -, hd⟩ := List.exists_of_findSome?_eq_some h
      simp [ih, State.kenRelease_waits s hd]
    · simp
@[simp] theorem State.kenAccept_waits (ring : Nat) (one : Bool) (w0 w1 w2 w3 : Word) :
    WaitsKept s (s.kenAccept ring one w0 w1 w2 w3) := by
  simp -implicitDefEqProofs [State.kenAccept]
@[simp] theorem State.kenDoorAccept_waits (r p n : Nat) : WaitsKept s (s.kenDoorAccept r p n) := by
  simp [State.kenDoorAccept]
@[simp] theorem State.unstall_waits (d : HeldDb) : WaitsKept s (s.unstall d) := by
  unfold State.unstall
  split <;> simp
@[simp] theorem State.kenHeld_waits (fuel : Nat) : WaitsKept s (s.kenHeld fuel) := by
  fun_induction State.kenHeld s fuel <;> simp_all
@[simp] theorem State.kenRoom_waits : WaitsKept s s.kenRoom := by simp [State.kenRoom]
@[simp] theorem State.kenDoorbell_waits (r : Nat) (o : Origin) (v : Nat) : WaitsKept s (s.kenDoorbell r o v).2 := by
  simp [State.kenDoorbell]
@[simp] theorem State.tcbWrite_waits (t st core line : Nat) : WaitsKept s (s.tcbWrite t st core line) := by
  simp [State.tcbWrite]
@[simp] theorem State.preemptCore_waits (c : Nat) : WaitsKept s (s.preemptCore c) := by simp [State.preemptCore]
@[simp] theorem State.kenPreemptItems_waits (fuel : Nat) : WaitsKept s (s.kenPreemptItems fuel) := by
  induction fuel generalizing s with
  | zero => simp [State.kenPreemptItems]
  | succ n ih =>
    unfold State.kenPreemptItems
    dsimp only
    split
    · split
      · split <;> simp [ih]
      · simp
    · simp
@[simp] theorem State.preemptThread_waits (c p : Nat) : WaitsKept s (s.preemptThread c p) := by
  simp [State.preemptThread]
@[simp] theorem State.kenPreemptThread_waits (c : Nat) : WaitsKept s (s.kenPreemptThread c) := by
  unfold State.kenPreemptThread
  split <;> simp
@[simp] theorem State.kenPreempt_waits : WaitsKept s s.kenPreempt := by simp [State.kenPreempt]
@[simp] theorem State.kenIdle_waits (c : Nat) : WaitsKept s (s.kenIdle c) := by simp [State.kenIdle]
@[simp] theorem State.kenFinish_waits (i : KItem) (kind : Nat) (w1 w2 w3 : Word) :
    WaitsKept s (s.kenFinish i kind w1 w2 w3) := by
  simp [State.kenFinish]
@[simp] theorem State.cdone_waits (o : Origin) (status : Nat) : WaitsKept s (s.cdone o status).2 := by
  unfold State.cdone
  dsimp only
  split
  · simp
  · split
    · simp
    · split <;> simp -implicitDefEqProofs
@[simp] theorem State.kenCoreReset_waits (c : Nat) : WaitsKept s (s.kenCoreReset c) := by
  unfold State.kenCoreReset
  dsimp only
  split
  · split <;> simp
  · simp
  · simp
@[simp] theorem State.thrReady_waits (t : Nat) (head : Bool) : WaitsKept s (s.thrReady t head) := by
  simp [State.thrReady]
@[simp] theorem State.thrCreate_waits (t : Nat) : WaitsKept s (s.thrCreate t).2 := by
  unfold State.thrCreate
  split <;> simp
@[simp] theorem State.thrExit_waits (o : Origin) : WaitsKept s (s.thrExit o).2 := by
  unfold State.thrExit
  split <;> simp
@[simp] theorem State.thrSwitch_waits (o : Origin) : WaitsKept s (s.thrSwitch o).2 := by
  unfold State.thrSwitch
  split <;> simp
@[simp] theorem State.thrBlockEvent_waits (o : Origin) (line : Nat) : WaitsKept s (s.thrBlockEvent o line).2 := by
  unfold State.thrBlockEvent
  repeat' split <;> simp
@[simp] theorem State.thrBlockTime_waits (o : Origin) : WaitsKept s (s.thrBlockTime o).2 := by
  unfold State.thrBlockTime
  repeat' split <;> simp
@[simp] theorem State.thrWake_waits (t : Nat) : WaitsKept s (s.thrWake t).2 := by
  unfold State.thrWake
  split <;> simp
@[simp] theorem State.thrCmd_waits (o : Origin) (w : Word) : WaitsKept s (s.thrCmd o w).2 := by
  unfold State.thrCmd
  split <;> simp
@[simp] theorem State.kenPulse_waits (line : Nat) : WaitsKept s (s.kenPulse line) := by
  unfold State.kenPulse
  split <;> simp
@[simp] theorem State.kenRingOff_waits (r : Nat) (dirOut : Bool) : WaitsKept s (s.kenRingOff r dirOut) := by
  simp [State.kenRingOff]
@[simp] theorem State.kenRingOn_waits (r : Nat) : WaitsKept s (s.kenRingOn r) := by simp [State.kenRingOn]
@[simp] theorem State.kenReset_waits : WaitsKept s s.kenReset := by simp [State.kenReset]
@[simp] theorem State.kenPageReset_waits (p : Nat) : WaitsKept s (s.kenPageReset p) := by simp [State.kenPageReset]

/-! ## What DmaOps defines -/

@[simp] theorem State.dmaDoorbell_waits (ch v : Nat) : WaitsKept s (s.dmaDoorbell ch v).2 := by
  unfold State.dmaDoorbell
  repeat' split <;> simp
@[simp] theorem State.freeWords_waits (a k : Nat) : WaitsKept s (s.freeWords a k) := by
  induction k generalizing s a with
  | zero => simp [State.freeWords]
  | succ n ih => simp [State.freeWords, ih]
@[simp] theorem State.dmaStop_waits (ch : Nat) : WaitsKept s (s.dmaStop ch) := by
  have h (l : List DmaDesc) (k : DmaDesc → Nat) : WaitsKept s (l.foldl (fun s d => s.freeWords (k d) 4) s) :=
    foldl_waits _ (fun s d => State.freeWords_waits s _ _) l s
  simp [State.dmaStop, h, -List.foldl_append]
@[simp] theorem State.dmaReset_waits (ch : Nat) : WaitsKept s (s.dmaReset ch) := by simp [State.dmaReset]
@[simp] theorem State.dmaPulse_waits (line : Nat) : WaitsKept s (s.dmaPulse line) := by simp [State.dmaPulse]

/-! ## What BarkOps defines -/

@[simp] theorem State.coreReset_waits (c : Nat) : WaitsKept s (s.coreReset c) := by simp [State.coreReset]
@[simp] theorem State.coreStart_waits (c : Nat) : WaitsKept s (s.coreStart c).2 := by
  simp [State.coreStart]
@[simp] theorem State.barkReset_waits : WaitsKept s s.barkReset := by
  refine WaitsKept.trans ?_ (foldl_waits _ (fun s c => by simp) _ _)
  refine WaitsKept.trans (foldl_waits _ (fun t i => ?_) _ s) ⟨rfl, rfl, rfl⟩
  split <;> simp

/-! ## What MemOps defines -/

@[simp] theorem State.retireNext_waits (u : Nat) : WaitsKept s (s.retireNext u) := by
  unfold State.retireNext
  dsimp only
  split <;> simp
@[simp] theorem State.qualify_waits (u p : Nat) : WaitsKept s (s.qualify u p) := by simp [State.qualify]
@[simp] theorem State.retireAdd_waits (u : Nat) : WaitsKept s (s.retireAdd u) := by simp [State.retireAdd]
@[simp] theorem State.lineUncorr_waits (u : Nat) (last : Word) (page : Option Nat) (inj : Bool) :
    WaitsKept s (s.lineUncorr u last page inj) := by
  unfold State.lineUncorr
  split <;> simp
@[simp] theorem State.lineMet_waits (a : Nat) : WaitsKept s (s.lineMet a) := by simp [State.lineMet]
@[simp] theorem State.hbmcReset_waits (u : Nat) : WaitsKept s (s.hbmcReset u) := by simp [State.hbmcReset]

/-! ## What StreamOps defines -/

@[simp] theorem State.setPst_waits (p v : Nat) : WaitsKept s (s.setPst p v) := by simp [State.setPst]
@[simp] theorem State.invalid_waits (h : Nat) : WaitsKept s (s.invalid h) := by simp [State.invalid]
@[simp] theorem State.ctlBlock_waits (p : Nat) (b : DBlock) : WaitsKept s (s.ctlBlock p b) := by
  unfold State.ctlBlock
  split <;> simp
@[simp] theorem State.strmEnd_waits (h : Nat) : WaitsKept s (s.strmEnd h) := by simp [State.strmEnd]
@[simp] theorem State.plateEnd_waits (p : Nat) (stopped silent : Bool) : WaitsKept s (s.plateEnd p stopped silent) := by
  unfold State.plateEnd
  repeat' split <;> simp
@[simp] theorem State.plateRun_waits (p : Nat) : WaitsKept s (s.plateRun p) := by simp [State.plateRun]
@[simp] theorem State.strmUpd_waits (h : Nat) : WaitsKept s (s.strmUpd h) := by simp [State.strmUpd]
@[simp] theorem State.emitAnswer_waits (h : Nat) (e : EmitWord) (v : Word) (exc : Bool) :
    WaitsKept s (s.emitAnswer h e v exc) := by
  simp [State.emitAnswer]
@[simp] theorem State.strmRefuse_waits (h : Nat) (e : EmitWord) (hi lo : Nat) (inv : Bool) :
    WaitsKept s (s.strmRefuse h e hi lo inv) := by
  simp [State.strmRefuse]
@[simp] theorem State.strmRun_waits (h : Nat) : WaitsKept s (s.strmRun h) := by
  simp -implicitDefEqProofs [State.strmRun]
@[simp] theorem State.plateStop_waits (p : Nat) : WaitsKept s (s.plateStop p) := by simp [State.plateStop]
@[simp] theorem State.strmHalt_waits (h : Nat) : WaitsKept s (s.strmHalt h) := by simp [State.strmHalt]
@[simp] theorem State.strmStop_waits (h : Nat) : WaitsKept s (s.strmStop h) := by simp [State.strmStop]
@[simp] theorem State.scrWrite_waits (p : Nat) (data : Word) : WaitsKept s (s.scrWrite p data) := by
  simp [State.scrWrite]
@[simp] theorem State.hubReset_waits (h : Nat) : WaitsKept s (s.hubReset h) := by
  unfold State.hubReset
  extract_lets x s1 own s2 s3
  have h1 : WaitsKept s s1 := foldl_waits _ (fun s e => by simp) _ _
  have h2 : WaitsKept s1 s2 := foldl_waits _ (fun s p => by split <;> simp) _ _
  have h3 : WaitsKept s2 s3 := foldl_waits _ (fun s p => by
    dsimp only
    split
    · split <;> simp
    · simp) _ _
  clear_value s3
  simpa using h1.trans (h2.trans h3)
@[simp] theorem State.platesSafe_waits : WaitsKept s s.platesSafe := by
  refine foldl_waits _ (fun s e => ?_) _ _
  dsimp only
  split
  · split
    · simp
    · split <;> simp
  · split
    · split <;> simp
    · simp

/-! ## What NocOps defines -/

@[simp] theorem State.domPut_waits (d st : Nat) (o : Origin) : WaitsKept s (s.domPut d st o) := by simp [State.domPut]
@[simp] theorem State.domMove_waits (d tgt st : Nat) (aborts : Bool) (o : Origin) :
    WaitsKept s (s.domMove d tgt st aborts o) := by
  simp [State.domMove]
@[simp] theorem State.domWakeStart_waits (d : Nat) (o : Origin) : WaitsKept s (s.domWakeStart d o) := by
  simp [State.domWakeStart]
@[simp] theorem State.setV_waits (d v : Nat) : WaitsKept s (s.setV d v) := by simp [State.setV]
@[simp] theorem State.floorTile_waits (t : Nat) : WaitsKept s (s.floorTile t) := by simp [State.floorTile]
@[simp] theorem State.vHold_waits (d : Nat) : WaitsKept s (s.vHold d) := by simp [State.vHold]
@[simp] theorem State.domAbort_waits (d : Nat) (o : Origin) : WaitsKept s (s.domAbort d o) := by simp [State.domAbort]
@[simp] theorem State.domWake_waits (d : Nat) : WaitsKept s (s.domWake d) := by
  unfold State.domWake
  split <;> simp
@[simp] theorem State.probeReset_waits (k : Nat) : WaitsKept s (s.probeReset k) := by simp [State.probeReset]
@[simp] theorem State.rtWrite_waits (node : Nat) (w : Word) : WaitsKept s (s.rtWrite node w).2 := by
  simp [State.rtWrite]
@[simp] theorem State.fenceGo_waits : WaitsKept s s.fenceGo := by simp [State.fenceGo]

/-! ## What PortOps defines -/

@[simp] theorem State.fcredit_waits (p n : Nat) : WaitsKept s (s.fcredit p n) := by simp [State.fcredit]
@[simp] theorem State.failEnable_waits (p : Nat) : WaitsKept s (s.failEnable p) := by simp [State.failEnable]
@[simp] theorem State.setLnk_waits (p v : Nat) : WaitsKept s (s.setLnk p v) := by simp [State.setLnk]
@[simp] theorem State.freeSpare_waits (p : Nat) : WaitsKept s (s.freeSpare p) := by
  unfold State.freeSpare
  split <;> simp
@[simp] theorem State.swapLost_waits (p : Nat) : WaitsKept s (s.swapLost p) := by simp [State.swapLost]
@[simp] theorem State.linkDown_waits (s0 : State) (p : Nat) : WaitsKept s0 (s0.linkDown p) := by
  unfold State.linkDown
  dsimp only
  split
  · split <;> simp
  · simp
@[simp] theorem State.seedLanes_waits (p : Nat) : WaitsKept s (s.seedLanes p) := by simp [State.seedLanes]
@[simp] theorem State.retrain_waits (p : Nat) (count : Bool) : WaitsKept s (s.retrain p count) := by
  simp [State.retrain]
@[simp] theorem State.linkOff_waits (p : Nat) : WaitsKept s (s.linkOff p) := by simp [State.linkOff]
@[simp] theorem State.spareGo_waits (h : Nat) : WaitsKept s (s.spareGo h) := by simp [State.spareGo]
@[simp] theorem State.sbPump_waits (p fuel : Nat) : WaitsKept s (s.sbPump p fuel) := by
  fun_induction State.sbPump s p fuel <;> simp_all
@[simp] theorem State.sbIssue_waits (p : Nat) (q : SbReq) : WaitsKept s (s.sbIssue p q) := by simp [State.sbIssue]
@[simp] theorem State.switchSend_waits (p : Nat) : WaitsKept s (s.switchSend p) := by simp [State.switchSend]
@[simp] theorem State.portReset_waits (p : Nat) : WaitsKept s (s.portReset p) := by simp [State.portReset]

/-! ## What PwrOps defines -/

@[simp] theorem State.domTarget_waits (o : Origin) (d tgt : Nat) : WaitsKept s (s.domTarget o d tgt).2 := by
  unfold State.domTarget
  dsimp only
  split <;> simp
@[simp] theorem State.domApplyHeld_waits (d : Nat) : WaitsKept s (s.domApplyHeld d) := by
  unfold State.domApplyHeld
  split <;> simp
@[simp] theorem State.floorStream_waits (h : Nat) : WaitsKept s (s.floorStream h) := by simp [State.floorStream]
@[simp] theorem State.timeRoleSet_waits (old : Nat) : WaitsKept s (s.timeRoleSet old) := by simp [State.timeRoleSet]
@[simp] theorem State.gaugeClear_waits (g : Nat) : WaitsKept s (s.gaugeClear g) := by simp [State.gaugeClear]
@[simp] theorem State.gaugeArm_waits (g : Nat) : WaitsKept s (s.gaugeArm g) := by simp [State.gaugeArm]
@[simp] theorem State.gaugeTake_waits : WaitsKept s s.gaugeTake := by simp [State.gaugeTake]

/-! ## What FaultOps defines -/

@[simp] theorem State.errAck_waits (page d : Nat) : WaitsKept s (s.errAck page d).2 := by simp [State.errAck]
@[simp] theorem State.errEn_waits (page old : Nat) : WaitsKept s (s.errEn page old) := by
  unfold State.errEn
  dsimp only
  split
  · split <;> simp
  · simp
@[simp] theorem State.errRaise_waits (page n : Nat) : WaitsKept s (s.errRaise page n) := by simp [State.errRaise]
@[simp] theorem State.errForce_waits (page bits : Nat) : WaitsKept s (s.errForce page bits) := by simp [State.errForce]
@[simp] theorem State.drainAt_waits (n : Nat) : WaitsKept s (s.drainAt n) := by simp [State.drainAt]
@[simp] theorem State.ledgRingSet_waits (w : Word) (full clear : Bool) :
    WaitsKept s (s.ledgRingSet w full clear).2 := by
  unfold State.ledgRingSet
  repeat' split <;> simp_all
@[simp] theorem State.ledgConsSet_waits (c : Nat) : WaitsKept s (s.ledgConsSet c).2 := by
  simp [State.ledgConsSet]

/-! ## What RetOps defines -/

@[simp] theorem State.setSub_waits (n v : Nat) : WaitsKept s (s.setSub n v) := by simp [State.setSub]
@[simp] theorem State.setTmo_waits (n : Nat) (v : Bool) : WaitsKept s (s.setTmo n v) := by simp [State.setTmo]
@[simp] theorem State.retKeep_waits (n : Nat) (ws : List Word) : WaitsKept s (s.retKeep n ws).2 := by
  unfold State.retKeep
  repeat' split <;> simp
@[simp] theorem State.retPost_waits (n : Nat) (ws : List Word) : WaitsKept s (s.retPost n ws).2 := by
  unfold State.retPost
  split
  · split
    · next h => simp [(State.ringPush_waits s _ _).of_snd h]
    · next h => simp [(State.ringPush_waits s _ _).of_snd h]
  · simp
@[simp] theorem State.retRecordOk_waits (n kind mid : Nat) : WaitsKept s (s.retRecordOk n kind mid).2 := by
  simp [State.retRecordOk]
@[simp] theorem State.retRecord_waits (n kind mid : Nat) : WaitsKept s (s.retRecord n kind mid) := by
  simp [State.retRecord]
@[simp] theorem State.setBusQ_waits (b : Nat) (l : List Nat) : WaitsKept s (s.setBusQ b l) := by simp [State.setBusQ]
@[simp] theorem State.busGo_waits (b : Nat) : WaitsKept s (s.busGo b) := by
  unfold State.busGo
  repeat' split <;> simp
@[simp] theorem State.busAsk_waits (n b : Nat) : WaitsKept s (s.busAsk n b) := by
  unfold State.busAsk
  split <;> simp
@[simp] theorem State.busLeave_waits (n : Nat) : WaitsKept s (s.busLeave n) := by
  unfold State.busLeave
  split <;> simp
@[simp] theorem State.unitResult_waits (n unit fin check residual : Nat) (data : List Byte) :
    WaitsKept s (s.unitResult n unit fin check residual data) := by
  unfold State.unitResult
  repeat' split <;> simp
@[simp] theorem State.subEnd_waits (n : Nat) (c : Option Chk) (residual : Nat) :
    WaitsKept s (s.subEnd n c residual) := by
  cases c with
  | none => simp -implicitDefEqProofs [State.subEnd]
  | some k => cases hk : k.cls <;> simp -implicitDefEqProofs [State.subEnd, hk]
@[simp] theorem State.subNext_waits (n : Nat) (w : BitVec 128) (residual : Nat) :
    WaitsKept s (s.subNext n w residual) := by
  simp [State.subNext]
@[simp] theorem State.unitEnd_waits (n : Nat) (w : BitVec 128) (c : Option Chk) (residual : Nat) (data : List Byte) :
    WaitsKept s (s.unitEnd n w c residual data) := by
  unfold State.unitEnd
  repeat' split <;> simp
@[simp] theorem State.emergGo_waits : WaitsKept s s.emergGo := by simp [State.emergGo]
@[simp] theorem State.subRead_waits (n a len k : Nat) : WaitsKept s (s.subRead n a len k).2.2 := by
  unfold State.subRead
  split
  · split
    · simp
    · split <;> next h => simpa using (State.semAccess_waits s _ _ _ _ _ _).of_snd h
  · split <;> next h => exact (State.memRead_waits s _ _).of_thd h
@[simp] theorem State.subReads_waits (n : Nat) (segs : List Seg) (k : Nat) : WaitsKept s (s.subReads n segs k).2 := by
  induction segs generalizing s k with
  | nil => simp [State.subReads]
  | cons g r ih =>
    unfold State.subReads
    split
    · next h =>
      have h1 := (State.subRead_waits s _ _ _ _).of_thd h
      split <;> next h' => exact h1.trans ((ih _ _).of_snd h')
    · next h => exact (State.subRead_waits s _ _ _ _).of_thd h
@[simp] theorem State.subWrites_waits (n : Nat) (segs : List Seg) (bs : List Byte) :
    WaitsKept s (s.subWrites n segs bs).2 := by
  induction segs generalizing s bs with
  | nil => simp [State.subWrites]
  | cons g r ih =>
    unfold State.subWrites
    extract_lets m res
    have h : WaitsKept s res.2 := by
      unfold res
      split
      · split <;> next h => exact (State.semAccess_waits s _ _ _ _ _ _).of_snd h
      · simp
    clear_value res
    split
    · simp
    · split
      · exact h.trans (ih _ _)
      · exact h
@[simp] theorem State.segWalk_waits (n list want fuel : Nat) : WaitsKept s (s.segWalk n list want fuel).2.2 := by
  induction fuel generalizing s list want with
  | zero => simp [State.segWalk]
  | succ n ih =>
    unfold State.segWalk
    split
    · simp
    · split
      · next h =>
        have h1 := (State.subRead_waits s _ _ _ _).of_thd h
        dsimp only
        split
        · exact h1
        · split
          · exact h1
          · exact h1.trans (ih _ _ _)
      · next h => exact (State.subRead_waits s _ _ _ _).of_thd h
      · next h => exact (State.subRead_waits s _ _ _ _).of_thd h
@[simp] theorem State.ccwSegs_waits (n : Nat) (w : BitVec 128) : WaitsKept s (s.ccwSegs n w).2.2 := by
  unfold State.ccwSegs
  split_ifs <;> simp
@[simp] theorem State.sbNext_waits (n p : Nat) (write : Bool) (fuel : Nat) : WaitsKept s (s.sbNext n p write fuel) := by
  fun_induction State.sbNext s n p write fuel <;> simp_all
@[simp] theorem State.unitStoreAs_waits (n : Nat) (w : BitVec 128) (c : Option Chk) (data : List Byte)
    (residual : Nat) :
    WaitsKept s (s.unitStoreAs n w c data residual) := by
  unfold State.unitStoreAs
  split
  · simp
  · split
    · next h => simp [(State.subWrites_waits s _ _ _).of_snd h]
    · next h => simp [(State.subWrites_waits s _ _ _).of_snd h]
@[simp] theorem State.unitStore_waits (n : Nat) (w : BitVec 128) (data : List Byte) (residual : Nat) :
    WaitsKept s (s.unitStore n w data residual) := by
  simp [State.unitStore]
@[simp] theorem State.senseWord_waits (u : Nat) : WaitsKept s (s.senseWord u).2 := by
  unfold State.senseWord
  split <;> simp
@[simp] theorem State.gpioOp_waits (op edge mask : Nat) : WaitsKept s (s.gpioOp op edge mask) := by simp [State.gpioOp]
@[simp] theorem State.unitGo_waits (n : Nat) (o w : BitVec 128) (g : List Seg) (after chained : Bool) :
    WaitsKept s (s.unitGo n o w g after chained) := by
  unfold State.unitGo
  extract_lets cmd u kind code want payload
  clear_value kind cmd
  split
  · simp
  · have h : WaitsKept s payload.2 := by
      unfold payload
      split <;> simp
    clear_value payload
    split
    · exact h
    · exact h.trans (by simp)
    · refine h.trans ?_
      dsimp only
      split
      · simp
      · split <;> simp
      · simp
      · simp
      · split <;> simp
      · split <;> simp
@[simp] theorem State.takeResult_waits (n : Nat) (w : BitVec 128) (f : UnitResF) :
    WaitsKept s (s.takeResult n w f) := by
  unfold State.takeResult
  extract_lets ret s0 op unit s1 takes
  have h1 : WaitsKept s s1 := by simp [s1, s0]
  clear_value takes s1 op
  refine h1.trans ?_
  split
  · simp
  · split
    · split
      · simp
      · split <;> simp
    · cases op with
      | none => simp
      | some o =>
        dsimp only
        split
        · split
          · next h => simpa using (State.subWrites_waits s1 _ _ _).of_snd h
          · next h => simpa using (State.subWrites_waits s1 _ _ _).of_snd h
        · simp
@[simp] theorem State.awaitResult_waits (n : Nat) (w : BitVec 128) : WaitsKept s (s.awaitResult n w) := by
  unfold State.awaitResult
  split <;> simp
@[simp] theorem State.unitCmd.go_waits (n : Nat) (w o : BitVec 128) (chained : Bool) (g : List Seg) (c : Bool) :
    WaitsKept s (State.unitCmd.go n w s o chained g c) := by
  simp [State.unitCmd.go]
@[simp] theorem State.unitCmd_waits (n : Nat) (w : BitVec 128) : WaitsKept s (s.unitCmd n w) := by
  unfold State.unitCmd
  extract_lets x chained o cmd s0 chk
  have h : WaitsKept s s0 := by
    unfold s0
    split
    · split <;> simp
    · simp
  clear_value s0 chk
  refine h.trans ?_
  split
  · simp
  · split
    · simp
    · have h1 : WaitsKept s0 (if cmd = 2 ∧ cDiscard w then ([], none, s0) else s0.ccwSegs n w).2.2 := by
        split <;> simp
      generalize (if cmd = 2 ∧ cDiscard w then ([], none, s0) else s0.ccwSegs n w) = r at h1 ⊢
      refine h1.trans ?_
      dsimp only
      split <;> simp
@[simp] theorem State.retResume_waits (n : Nat) : WaitsKept s (s.retResume n) := by simp [State.retResume]
@[simp] theorem State.execCcw_waits (n : Nat) (k : Nat → BitVec 128 → Bool) {run : BitVec 128 → State → State}
    (h : ∀ w s, WaitsKept s (run w s)) : WaitsKept s (s.execCcw n k run) := by
  unfold State.execCcw
  extract_lets x
  split
  · extract_lets cmd
    clear_value cmd
    split
    · exact h _ _
    · simp
  · simp
@[simp] theorem State.ccwUnit_waits (n : Nat) (k : Nat → BitVec 128 → Bool) : WaitsKept s (s.ccwUnit n k) := by
  simp [State.ccwUnit]
@[simp] theorem State.plain_waits (n cmd : Nat) {run : BitVec 128 → State → State}
    (h : ∀ w s, WaitsKept s (run w s)) : WaitsKept s (s.plain n cmd run) := by
  refine State.execCcw_waits s _ _ (fun w t => WaitsKept.trans ?_ (h w _))
  split <;> simp
@[simp] theorem State.setLatch_waits (n e : Nat) (v : Bool) : WaitsKept s (s.setLatch n e v) := by simp [State.setLatch]
@[simp] theorem State.waitDone_waits (n : Nat) (w : BitVec 128) (tmo : Bool) : WaitsKept s (s.waitDone n w tmo) := by
  simp [State.waitDone]
@[simp] theorem State.subPulse_waits (n e : Nat) : WaitsKept s (s.subPulse n e) := by
  unfold State.subPulse
  split <;> simp
@[simp] theorem State.retPulse_waits (e : Nat) : WaitsKept s (s.retPulse e) := by simp [State.retPulse]
@[simp] theorem State.ccwWaitTime_waits (n : Nat) : WaitsKept s (s.ccwWaitTime n) := by
  refine State.plain_waits s _ _ (fun w s => ?_)
  extract_lets p s1 wait
  have hw (v : Word) (t : State) : WaitsKept t (wait v t) := by simp [wait]
  have h1 : WaitsKept s s1 := by simp [s1]
  clear_value wait s1
  refine h1.trans ?_
  split_ifs
  · exact hw _ _
  · simp
  · simp
  · simp
  · split
    · next h => exact ((State.subRead_waits s1 _ _ _ _).of_thd h).trans (hw _ _)
    · next h => exact ((State.subRead_waits s1 _ _ _ _).of_thd h).trans (by simp)
    · next h => exact (State.subRead_waits s1 _ _ _ _).of_thd h
@[simp] theorem State.ccwSkipIf.markAt_waits (n : Nat) (w : BitVec 128) (own : Nat) :
    WaitsKept s (State.ccwSkipIf.markAt s n w own) := by
  simp [State.ccwSkipIf.markAt]
@[simp] theorem State.ccwSkipIf_waits (n : Nat) : WaitsKept s (s.ccwSkipIf n) := by
  refine State.plain_waits s _ _ (fun w s => ?_)
  extract_lets cond go
  have hg (f : Nat) (t : State) : WaitsKept t (go f t) := by simp [go]
  clear_value go
  split_ifs
  · simp
  · simp
  · exact hg _ _
  · simp
  · simp
  · split
    · next h => exact ((State.subRead_waits s _ _ _ _).of_thd h).trans (hg _ _)
    · next h => exact ((State.subRead_waits s _ _ _ _).of_thd h).trans (by simp)
    · next h => exact (State.subRead_waits s _ _ _ _).of_thd h
@[simp] theorem State.sbUnissued_waits (n p : Nat) : WaitsKept s (s.sbUnissued n p) := by simp [State.sbUnissued]
@[simp] theorem State.subSb_waits (q : SbReq) (status : Nat) (data : Word) : WaitsKept s (s.subSb q status data) := by
  unfold State.subSb
  extract_lets n x fail got s0
  split
  · split
    · extract_lets s1 y
      have h : WaitsKept s s1 := by simp [s1, s0]
      clear_value s1 fail
      refine h.trans ?_
      split
      · split <;> simp
      · split
        · simp
        · split
          · simp
          · split <;> simp
    · simp
  · simp
@[simp] theorem State.subSem_waits (n epoch : Nat) (v : Word) : WaitsKept s (s.subSem n epoch v) := by
  simp [State.subSem]
@[simp] theorem State.retDoorbell_waits (n v : Nat) : WaitsKept s (s.retDoorbell n v).2 := by
  simp [State.retDoorbell]
@[simp] theorem State.haltResidual_waits (n : Nat) : WaitsKept s (s.haltResidual n).2 := by
  unfold State.haltResidual
  dsimp only
  split <;> simp
@[simp] theorem State.halt_waits (n : Nat) : WaitsKept s (s.halt n) := by simp [State.halt]
@[simp] theorem State.retSafe_waits : WaitsKept s s.retSafe := by simp [State.retSafe]
@[simp] theorem State.emergArm_waits (w : Word) : WaitsKept s (s.emergArm w).2 := by
  unfold State.emergArm
  repeat' split <;> simp
@[simp] theorem State.retReset_waits (n : Nat) : WaitsKept s (s.retReset n) := by
  unfold State.retReset
  split <;> simp

/-! ## What LinkOps defines -/

@[simp] theorem State.hush_waits : WaitsKept s s.hush := by simp [State.hush]
@[simp] theorem State.setRole_waits (r : Nat) : WaitsKept s (s.setRole r) := by simp [State.setRole]
@[simp] theorem State.fixRoles_waits : WaitsKept s s.fixRoles := by simp [State.fixRoles]
@[simp] theorem State.brcEn_waits : WaitsKept s s.brcEn := by simp [State.brcEn]
@[simp] theorem State.bothLinks_waits (m : Bmsg) : WaitsKept s (s.bothLinks m) := by simp [State.bothLinks]
@[simp] theorem State.toTwin_waits (m : Bmsg) : WaitsKept s (s.toTwin m) := by
  unfold State.toTwin
  split <;> simp
@[simp] theorem State.takeover_waits : WaitsKept s s.takeover := by
  unfold State.takeover
  extract_lets g s1 src brace s2 s3 s4
  have h2 : WaitsKept s s2 := by simp [s2, src, s1]
  have h3 : WaitsKept s2 s3 := foldl_waits _ (fun s p => by simp) _ _
  have h4 : WaitsKept s3 s4 := by simp [s4]
  clear_value s4
  refine (h2.trans (h3.trans h4)).trans (WaitsKept.trans ?_ (foldl_waits _ (fun s n => ?_) _ _))
  · simp
  · dsimp only
    split
    · split <;> simp
    · simp
@[simp] theorem State.solo_waits : WaitsKept s s.solo := by simp [State.solo]
@[simp] theorem State.swapNow_waits : WaitsKept s s.swapNow := by simp [State.swapNow]
@[simp] theorem State.brcSwap_waits : WaitsKept s s.brcSwap.2 := by
  unfold State.brcSwap
  split <;> simp
@[simp] theorem State.brcTakeover_waits : WaitsKept s s.brcTakeover.2 := by
  unfold State.brcTakeover
  split <;> simp
@[simp] theorem State.unbrace_waits : WaitsKept s s.unbrace := by simp [State.unbrace]
@[simp] theorem State.brcDetach_waits : WaitsKept s s.brcDetach.2 := by
  unfold State.brcDetach
  split <;> simp
@[simp] theorem State.seal_waits (w : Word) : WaitsKept s (s.seal w).2 := by
  unfold State.seal
  repeat' split <;> simp
theorem State.msgItem_waits {item : List Word} {ok : Bool} {t : State} (h : s.msgItem item = some (ok, t)) :
    WaitsKept s t := by
  unfold State.msgItem at h
  dsimp only at h
  repeat' split at h
  all_goals simp only [Option.some.injEq, Prod.mk.injEq, reduceCtorEq] at h
  all_goals simp [← h.2]
@[simp] theorem State.msgReply_waits (src : Nat) (refused : Bool) : WaitsKept s (s.msgReply src refused) := by
  unfold State.msgReply
  repeat' split <;> simp
@[simp] theorem State.msgTake_waits (l src : Nat) (item : List Word) : WaitsKept s (s.msgTake l src item) := by
  unfold State.msgTake
  split
  · next h => simp [State.msgItem_waits s h]
  · simp
@[simp] theorem State.msgPump_waits (fuel : Nat) : WaitsKept s (s.msgPump fuel) := by
  induction fuel generalizing s with
  | zero => simp [State.msgPump]
  | succ n ih =>
    unfold State.msgPump
    split
    · simp
    · split
      · next h => simp [ih, State.msgItem_waits s h]
      · simp
@[simp] theorem State.msgGo_waits : WaitsKept s s.msgGo := by
  unfold State.msgGo
  repeat' split <;> simp
@[simp] theorem State.toKids_waits (m : Bmsg) : WaitsKept s (s.toKids m) := by simp [State.toKids]
@[simp] theorem State.barTry_waits (b : Nat) : WaitsKept s (s.barTry b) := by simp [State.barTry]
@[simp] theorem State.barArrive_waits (b : Nat) : WaitsKept s (s.barArrive b).2 := by
  unfold State.barArrive
  repeat' split <;> simp
@[simp] theorem State.bcEnd_waits (err : Bool) : WaitsKept s (s.bcEnd err) := by
  unfold State.bcEnd
  split <;> simp
@[simp] theorem State.bcTry_waits : WaitsKept s s.bcTry := by simp [State.bcTry]
@[simp] theorem State.bcastGo_waits : WaitsKept s s.bcastGo.2 := by
  unfold State.bcastGo
  split <;> simp

/-! ## What Window defines -/

@[simp] theorem Wr.set_waits (w : Wr) : WaitsKept s (Wr.set w s) := by simp [Wr.set]
@[simp] theorem Wr.no_waits (w : Wr) : WaitsKept s (Wr.no w s).2 := by simp [Wr.no]
/-- What a register does beyond its access codes leaves alone what waits for a wake. -/
def Hook.Keeps (h : Hook) : Prop := ∀ w s, WaitsKept s (h.run w s).2
@[simp] theorem State.regApply_waits (b : PKind) (p off : Nat) (w : RegW) {h : Hook} (hh : h.Keeps) :
    WaitsKept s (s.regApply b p off w h) := by
  have hr (w : Wr) (t : State) : WaitsKept t (h.run w t).2 := hh w t
  simp [State.regApply, hr]
@[simp] theorem State.ringStart_waits (cfg : Nat) (idx : List Nat) : WaitsKept s (s.ringStart cfg idx) := by
  simp [State.ringStart]

/-! ## What Access defines -/

@[simp] theorem State.ledgReset_waits : WaitsKept s s.ledgReset := by simp [State.ledgReset]
@[simp] theorem State.brcReset_waits : WaitsKept s s.brcReset := by simp [State.brcReset]
@[simp] theorem State.blockReset_waits (b : PKind) (p : Nat) : WaitsKept s (s.blockReset b p) := by
  unfold State.blockReset
  split <;> simp
@[simp] theorem State.portsBack_waits (h : Nat) : WaitsKept s (s.portsBack h) := by simp [State.portsBack]
@[simp] theorem State.functionReset_waits (b : PKind) (p : Nat) : WaitsKept s (s.functionReset b p) := by
  simp [State.functionReset]
@[simp] theorem State.mbxRefuse_waits : WaitsKept s s.mbxRefuse.2 := by simp [State.mbxRefuse]
@[simp] theorem State.msixPending_waits (v : Nat) : WaitsKept s (s.msixPending v) := by simp [State.msixPending]
theorem hookRing_keeps (full : Bool) (c : State → Bool) (lo e : Nat) (idx : List Nat) :
    (hookRing full c lo e idx).Keeps := fun w s => by
  simp [hookRing]

theorem hookCons_keeps (r : Ring) {cnt : State → State} (h : ∀ s, WaitsKept s (cnt s)) : (hookCons r cnt).Keeps :=
  fun w s => by
  have hc := h s
  simp [hookCons, hc]

theorem hookTile_keeps (t o : Nat) : (hookTile t o).Keeps := by
  unfold hookTile
  split_ifs <;> intro w s <;>
    simp [hookLoadCtl, hookMsCtl, hookFull, hookMsSpill, hookExcCtl, hookFence]

theorem hookGlb_keeps (o : Nat) : (hookGlb o).Keeps := by
  unfold hookGlb
  split_ifs
  · exact hookRing_keeps _ _ _ _ _
  · exact hookCons_keeps _ (fun s => by simp)
  all_goals intro w s; simp [hookQmAbort, hookGlbRst, hookFullIf]

theorem hookHub_keeps (h o : Nat) : (hookHub h o).Keeps := by
  unfold hookHub
  dsimp only
  split_ifs
  · intro w s
    simp [hookStrmCtl]
  · intro w s
    simp [hookStrmCount]
  · intro w s
    simp [hookSpare]
  · split <;> intro w s <;> simp [hookPltCtl, hookPlt, hookScr]
  · intro w s
    simp

theorem hookPort_keeps (p o : Nat) : (hookPort p o).Keeps := by
  unfold hookPort
  split_ifs
  · intro w s
    simp [hookLnkCtl]
  · intro w s
    simp [hookSwitch]
  · intro w s
    simp [hookFailCtl]
  · exact hookRing_keeps _ _ _ _ _
  · exact hookCons_keeps _ (fun s => by simp)
  all_goals intro w s; simp [hookGrpMap, hookGrpNode, hookFull]

theorem hookRet_keeps (n o : Nat) : (hookRet n o).Keeps := by
  unfold hookRet
  split_ifs
  · intro w s
    simp [hookScCtl]
  · exact hookRing_keeps _ _ _ _ _
  · exact hookRing_keeps _ _ _ _ _
  · exact fun w s => s.retDoorbell_waits n _
  · exact hookCons_keeps _ (fun s => by simp)
  · intro w s
    simp [hookFull]
  · exact fun w s => s.emergArm_waits _
  · intro w s
    simp

theorem hookShep_keeps (c o : Nat) : (hookShep c o).Keeps := by
  unfold hookShep
  split_ifs <;> intro w s <;> simp [hookCoreCtl, hookFull, hookWdog]

theorem hookKen_keeps (p o : Nat) : (hookKen p o).Keeps := by
  unfold hookKen
  dsimp only
  split_ifs
  · intro w s
    simp [hookKenCtl]
  · intro w s
    simp [hookFullIf]
  · exact fun w s => s.cdone_waits _ _
  · exact fun w s => s.thrCmd_waits _ _
  · exact hookRing_keeps _ _ _ _ _
  · exact hookCons_keeps _ (fun s => by simp)
  · intro w s
    simp [hookKenCore]
  · intro w s
    simp
  · split
    · intro w s
      simp [hookKenCfg]
    · exact fun w s => s.kenDoorbell_waits _ _ _
    · intro w s
      simp [hookKenCons]
    · intro w s
      simp
  · intro w s
    simp

theorem hookBark_keeps (p o : Nat) : (hookBark p o).Keeps := by
  unfold hookBark
  split_ifs <;> intro w s <;> simp [hookSwset, hookSrc]

theorem hookHbmc_keeps (u o : Nat) : (hookHbmc u o).Keeps := by
  unfold hookHbmc
  split_ifs <;> intro w s <;> simp [hookRetAdd]

theorem hookDma_keeps (ch o : Nat) : (hookDma ch o).Keeps := by
  unfold hookDma
  split_ifs
  · intro w s
    simp [hookDmaCtl]
  · exact hookRing_keeps _ _ _ _ _
  · exact fun w s => s.dmaDoorbell_waits _ _
  · intro w s
    simp

theorem hookNoc_keeps (n o : Nat) : (hookNoc n o).Keeps := by
  unfold hookNoc
  split_ifs
  · intro w s
    simp [hookRtrCtl]
  · intro w s
    simp [hookNiCtl]
  · exact fun w s => s.rtWrite_waits _ _
  · intro w s
    simp [hookNocFence]
  · intro w s
    simp [hookPrbCtl]
  · exact hookRing_keeps _ _ _ _ _
  · exact hookCons_keeps _ (fun s => by simp)
  · intro w s
    simp

theorem hookPwr_keeps (p o : Nat) : (hookPwr p o).Keeps := by
  unfold hookPwr
  split_ifs <;> intro w s <;> simp [hookPwrCtl, hookDom]

theorem hookTime_keeps (p o : Nat) : (hookTime p o).Keeps := by
  unfold hookTime
  split_ifs <;> intro w s <;> simp [hookFull, hookGauge]

theorem hookLedg_keeps (o : Nat) : (hookLedg o).Keeps := by
  unfold hookLedg
  split_ifs
  · exact fun w s => s.ledgRingSet_waits _ _ _
  · exact fun w s => s.ledgConsSet_waits _
  · intro w s
    simp

theorem hookBrc_keeps (o : Nat) : (hookBrc o).Keeps := by
  unfold hookBrc
  split_ifs
  · intro w s
    simp [hookBrcCtl]
  · intro w s
    simp only [hookBrcCmd]
    split
    · simp
    · split <;> simp
  · intro w s
    simp [hookBrcMir]
  · exact fun w s => s.seal_waits _
  · intro w s
    simp

theorem hookPack_keeps (o : Nat) : (hookPack o).Keeps := by
  unfold hookPack
  split_ifs <;> intro w s <;> simp [hookPackCtl, hookPackRt, hookFull, hookBcast, hookPackMsg, hookPackBar]

theorem hookMbx_keeps : hookMbx.Keeps := fun w s => by
  simp [hookMbx]

theorem hookHost_keeps (p o : Nat) : (hookHost p o).Keeps := by
  unfold hookHost
  split_ifs
  · exact hookMbx_keeps
  all_goals intro w s; simp [hookH2d, hookD2h, hookMsix]

theorem hookHdr_keeps (b : PKind) (p o : Nat) : (hookHdr b p o).Keeps := by
  unfold hookHdr
  split_ifs <;> intro w s <;> simp [hookPgCtl, hookErrStat, hookErrEn, hookErrInj, hookErrLevel]

@[simp] theorem hookOf_keeps (b : PKind) (p o : Nat) : (hookOf b p o).Keeps := by
  unfold hookOf
  split
  · exact hookHdr_keeps b p o
  · cases b with
    | tile => exact hookTile_keeps p o
    | glb => exact hookGlb_keeps o
    | hub => exact hookHub_keeps p o
    | port => exact hookPort_keeps p o
    | noc => exact hookNoc_keeps p o
    | hbmc => exact hookHbmc_keeps p o
    | shep => exact hookShep_keeps p o
    | ken => exact hookKen_keeps p o
    | bark => exact hookBark_keeps p o
    | ret => exact hookRet_keeps p o
    | dma => exact hookDma_keeps p o
    | pwr => exact hookPwr_keeps p o
    | time => exact hookTime_keeps p o
    | ledg => exact hookLedg_keeps o
    | brc => exact hookBrc_keeps o
    | pack => exact hookPack_keeps o
    | host => exact hookHost_keeps p o
    | hdr => exact fun w s => by simp
@[simp] theorem State.beforeRead_waits (off : Nat) : WaitsKept s (s.beforeRead off) := by simp [State.beforeRead]
@[simp] theorem State.readReg_waits (off : Nat) (r : RegR) : WaitsKept s (s.readReg off r).2 := by
  unfold State.readReg
  repeat' split <;> simp

/-! ## What HostOps defines -/

@[simp] theorem State.sendRecords_waits (fuel : Nat) : WaitsKept s (s.sendRecords fuel) := by
  induction fuel generalizing s with
  | zero => simp [State.sendRecords]
  | succ n ih => simp [State.sendRecords, ih]
@[simp] theorem State.ledgerToTwin_waits : WaitsKept s s.ledgerToTwin := by simp [State.ledgerToTwin]
@[simp] theorem State.aerReport_waits (k : Nat) : WaitsKept s (s.aerReport k) := by simp [State.aerReport]
@[simp] theorem State.dropWrite_waits : WaitsKept s s.dropWrite := by simp [State.dropWrite]
@[simp] theorem State.mirrorLine_waits (a n line : Nat) : WaitsKept s (s.mirrorLine a n line) := by
  simp [State.mirrorLine]
@[simp] theorem State.mirrorOut_waits (a n : Nat) : WaitsKept s (s.mirrorOut a n) := by
  unfold State.mirrorOut
  split
  · refine (State.ledgerToTwin_waits s).trans (foldl_waits _ (fun s k => ?_) _ _)
    dsimp only
    split <;> simp
  · simp
@[simp] theorem State.hostStore_waits (a : Nat) (bytes : List Byte) : WaitsKept s (s.hostStore a bytes) := by
  unfold State.hostStore
  dsimp only
  split
  · simp
  · split
    · simp
    · split
      · next h => simp [(State.memWrite_waits s _ _).of_snd h]
      · next h => simp [(State.memWrite_waits s _ _).of_snd h]
@[simp] theorem State.mirHeld_waits (m : Bool) : WaitsKept s (s.mirHeld m) := by simp [State.mirHeld]
@[simp] theorem State.hostDone_waits (bar off : Nat) (st : Status) (data : List Byte) :
    WaitsKept s (s.hostDone bar off st data) := by
  unfold State.hostDone
  split <;> simp
@[simp] theorem State.flashRead_waits (a n : Nat) : WaitsKept s (s.flashRead a n) := by simp [State.flashRead]
@[simp] theorem State.pinsIdle_waits : WaitsKept s s.pinsIdle := by simp [State.pinsIdle]
@[simp] theorem State.sampleBoot_waits : WaitsKept s s.sampleBoot := by simp [State.sampleBoot]

/-! ## What PackOps defines -/

@[simp] theorem State.resyncMirror_waits : WaitsKept s s.resyncMirror := by
  simp -implicitDefEqProofs [State.resyncMirror]
@[simp] theorem State.resync_waits : WaitsKept s s.resync := by simp [State.resync]

/-! ## What Settle defines -/

@[simp] theorem State.plateLeave_waits (p : Nat) : WaitsKept s (s.plateLeave p) := by
  unfold State.plateLeave
  split <;> simp
@[simp] theorem State.portLevel2_waits (p : Nat) : WaitsKept s (s.portLevel2 p) := by simp [State.portLevel2]
@[simp] theorem State.tileLevel2_waits (t : Nat) : WaitsKept s (s.tileLevel2 t) := by simp [State.tileLevel2]
@[simp] theorem State.level2_waits (page : Nat) : WaitsKept s (s.level2 page) := by
  unfold State.level2
  split <;> simp
@[simp] theorem State.safeState_waits : WaitsKept s s.safeState := by simp [State.safeState]
@[simp] theorem State.bracedLevel3_waits : WaitsKept s s.bracedLevel3 := by simp [State.bracedLevel3]
@[simp] theorem State.level3Act_waits : WaitsKept s s.level3Act := by
  unfold State.level3Act
  split <;> simp
@[simp] theorem State.level3Enter_waits (page : Nat) : WaitsKept s (s.level3Enter page) := by simp [State.level3Enter]
@[simp] theorem State.level0_waits : WaitsKept s s.level0 := by simp [State.level0]
@[simp] theorem State.levelAct_waits (page lvl : Nat) : WaitsKept s (s.levelAct page lvl) := by simp [State.levelAct]
@[simp] theorem State.pulse_waits (n : Nat) : WaitsKept s (s.pulse n) := by simp [State.pulse]
@[simp] theorem State.semAnswer_waits (who : SemBy) (v : Word) : WaitsKept s (s.semAnswer who v) := by
  unfold State.semAnswer
  split <;> simp
end Sys2Proof.Machine
end

section
/-! PROOF. Time-out clocks pause only while something waits for a wake: so it is after all that goes on by itself at the end of
a command (R448). -/

namespace Sys2Proof.Machine

/-- Where time-out clocks pause, an access or a packet waits for a wake. -/
def State.PauseHeld (s : State) : Prop := s.wakeSince = none ∨ s.parked ≠ [] ∨ s.wakeFlits ≠ []

theorem WaitsKept.pauseHeld {s t : State} (h : WaitsKept s t) (hs : s.PauseHeld) : t.PauseHeld := by
  obtain ⟨hw, hp, hf⟩ := h
  rwa [State.PauseHeld, hw, hp, hf]

theorem State.foldl_pauseHeld {α : Type} (g : State → α → State) (hg : ∀ s a, s.PauseHeld → (g s a).PauseHeld)
    (l : List α) {s : State} (h : s.PauseHeld) : (l.foldl g s).PauseHeld := by
  induction l generalizing s with
  | nil => exact h
  | cons x l ih => exact ih (hg s x h)

variable {s : State}

/-- Once time-out clocks have been let run where nothing waits, what pauses them waits. -/
theorem State.wakeResume_pauseHeld : s.wakeResume.PauseHeld := by
  unfold State.wakeResume State.PauseHeld
  split
  · next w h =>
    split
    · exact .inl rfl
    · next hn =>
      simp only [Bool.and_eq_true, List.isEmpty_iff, not_and] at hn
      by_cases hf : s.wakeFlits = []
      · exact .inr (.inl (hn hf))
      · exact .inr (.inr hf)
  · next h => exact .inl h

theorem State.park_pauseHeld (e : Parked) : (s.park e).PauseHeld := by
  refine .inr (.inl ?_)
  simp [State.park, State.askWake]

theorem State.parkedBy_pauseHeld (who : ParkBy) (h : s.PauseHeld) : (s.parkedBy who).PauseHeld := by
  unfold State.parkedBy
  obtain h | h | h := h
  · exact .inl h
  · refine .inr (.inl ?_)
    simp [List.getLast?_eq_some_getLast h]
  · exact .inr (.inr h)

theorem State.controlWrite_pauseHeld (off : Nat) (w : RegW) (h : s.PauseHeld) :
    (s.controlWrite off w).2.PauseHeld := by
  unfold State.controlWrite State.regWrite
  split
  · exact h
  · next hp =>
    have hk : (hookAt off).Keeps := by simp [hookAt, hp]
    split
    · exact h
    · split
      · exact State.park_pauseHeld _
      · exact WaitsKept.pauseHeld (State.regApply_waits _ _ _ _ _ hk) h

theorem State.controlRead_pauseHeld (off : Nat) (r : RegR) (h : s.PauseHeld) :
    (s.controlRead off r).2.2.PauseHeld := by
  unfold State.controlRead
  split
  · exact h
  · split
    · exact h
    · split
      · exact State.park_pauseHeld _
      · exact WaitsKept.pauseHeld (by simp) h

theorem State.hostWriteNow_pauseHeld (bar off : Nat) (bytes : List Byte) (h : s.PauseHeld) :
    (s.hostWriteNow bar off bytes).PauseHeld := by
  unfold State.hostWriteNow
  dsimp only
  split
  · split
    · split
      · exact WaitsKept.pauseHeld (by simp) h
      · next sz _ =>
        have hc := State.controlWrite_pauseHeld (off / 8 * 8) ⟨0, sz, BitVec.ofNat 64 (ofLe bytes)⟩ h
        split
        · next e =>
          rw [e] at hc
          split
          · exact State.parkedBy_pauseHeld _ hc
          · exact hc
        · next e =>
          rw [e] at hc
          exact WaitsKept.pauseHeld (by simp) hc
    · split <;> next e =>
        exact WaitsKept.pauseHeld (by simp [(State.semAccess_waits s _ _ _ _ _ _).of_snd e]) h
    · exact WaitsKept.pauseHeld (by simp) h
  · exact WaitsKept.pauseHeld (by simp) h

theorem State.hostReadNow_pauseHeld (bar off len : Nat) (h : s.PauseHeld) : (s.hostReadNow bar off len).PauseHeld := by
  unfold State.hostReadNow
  split
  · split
    · split
      · exact WaitsKept.pauseHeld (by simp) h
      · next sz _ =>
        have hc := State.controlRead_pauseHeld (off / 8 * 8) ⟨0, sz⟩ h
        split
        · next e =>
          rw [e] at hc
          exact WaitsKept.pauseHeld (by simp) hc
        · next e =>
          rw [e] at hc
          exact State.parkedBy_pauseHeld _ hc
    · split <;> next e =>
        exact WaitsKept.pauseHeld (by simp [(State.semAccess_waits s _ _ _ _ _ _).of_snd e]) h
    · exact WaitsKept.pauseHeld (foldl_waits _ (fun s k => by simp) _ _) h
  · exact WaitsKept.pauseHeld (by simp) h

theorem State.hostGo_pauseHeld (n : Nat) (h : s.PauseHeld) : (s.hostGo n).PauseHeld := by
  induction n generalizing s with
  | zero => exact h
  | succ n ih =>
    unfold State.hostGo
    split
    · split
      · exact WaitsKept.pauseHeld (by simp) h
      · exact ih (State.hostWriteNow_pauseHeld _ _ _ h)
    · split
      · exact h
      · exact ih (State.hostReadNow_pauseHeld _ _ _ h)
    · exact h

theorem State.romPost_pauseHeld (ws : List Word) (h : s.PauseHeld) : (s.romPost ws).PauseHeld :=
  State.controlWrite_pauseHeld _ _ (State.foldl_pauseHeld _ (fun _ _ => State.controlWrite_pauseHeld _ _) _ h)

theorem State.boot_pauseHeld (h : s.PauseHeld) : s.boot.PauseHeld := by
  unfold State.boot
  split
  · exact State.romPost_pauseHeld _ (State.controlWrite_pauseHeld _ _ h)
  · exact WaitsKept.pauseHeld (by simp) h

theorem State.startBoot_pauseHeld (h : s.PauseHeld) : s.startBoot.PauseHeld := by
  refine State.boot_pauseHeld (WaitsKept.pauseHeld ?_ h)
  simp

theorem State.deviceReset_pauseHeld : s.deviceReset.PauseHeld := by
  unfold State.deviceReset
  refine State.startBoot_pauseHeld (.inl ?_)
  simp

theorem State.cfgOwn_pauseHeld (off : Nat) (data : Word) (h : s.PauseHeld) : (s.cfgOwn off data).PauseHeld := by
  have ha : (s.cfgApply off data).2.PauseHeld := by
    unfold State.cfgApply
    split
    · exact h
    · have hc := State.controlWrite_pauseHeld off
        ⟨BitVec.ofNat 16 (0x6000 + s.f (kpk + R.packLead) 9 0), .d64, data⟩ h
      split <;> next e => rwa [e] at hc
  unfold State.cfgOwn
  exact WaitsKept.pauseHeld (by simp) ha

theorem State.woken_pauseHeld (d : Nat) : (s.woken d).PauseHeld :=
  WaitsKept.pauseHeld (State.domApplyHeld_waits _ d) State.wakeResume_pauseHeld

theorem State.reactOne_pauseHeld (r : Reaction) (h : s.PauseHeld) : (s.reactOne r).PauseHeld := by
  cases r with
  | woken d => exact State.woken_pauseHeld d
  | cfg off d => exact State.cfgOwn_pauseHeld off d h
  | _ => exact WaitsKept.pauseHeld (by simp [State.reactOne]) h

theorem State.reactAll_pauseHeld (n : Nat) (h : s.PauseHeld) : (s.reactAll n).PauseHeld := by
  induction n generalizing s with
  | zero => exact h
  | succ n ih =>
    unfold State.reactAll
    split
    · exact h
    · exact ih (State.reactOne_pauseHeld _ h)

/-- What goes on by itself lets time-out clocks run where nothing waits for a wake. -/
theorem State.goOn_pauseHeld : s.goOn.PauseHeld := by
  unfold State.goOn
  extract_lets s1 s2 s3 s4 s5
  have h1 : s1.PauseHeld := State.reactAll_pauseHeld _ State.wakeResume_pauseHeld
  have h3 : s3.PauseHeld := WaitsKept.pauseHeld (by simp [s3, s2]) h1
  have h4 : s4.PauseHeld := State.reactAll_pauseHeld _ (State.hostGo_pauseHeld _ h3)
  split
  · exact State.deviceReset_pauseHeld
  · exact WaitsKept.pauseHeld (State.ledgerToTwin_waits _) h4

end Sys2Proof.Machine
end

section
/-! PROOF. A register write whose record meets a full ledger at the end of the ledger's ring (R528, R531). -/

namespace Sys2Proof.Machine

/-- The ledger ring is full and the entry that its next record drains is the ring's last one; time-out clocks pause although
nothing waits for a wake, so that the state tells whether anything went on by itself. -/
def ringEnd : State := { State.reset with porst := false, ledger := { next := 20479, drain := 16383 }, wakeSince := some 0 }

/-- A write of 64 by the host. -/
def ringWrite : RegW := ⟨0, .d64, 64⟩

/-- `ringEnd` after that write of TILE_CTX_TMPL of tile 127. -/
def ringTurned : State := (ringEnd.written .tile 127 R.tileCtxTmpl ringWrite 64).answered ringWrite

theorem ringEnd_takes : ringEnd.Takes .tile 127 R.tileCtxTmpl ringWrite 64 where
  porst := rfl
  page := by decide
  off := by decide
  align := by decide
  awake := by decide +kernel
  host := by decide +kernel
  jtag := by decide +kernel
  frst := by decide +kernel
  fields := by decide +kernel
  kept := by decide +kernel
  bar := rfl

theorem ringTurned_settle : ringTurned.settle = ringTurned := if_pos (by decide +kernel)

theorem ringTurned_not_pauseHeld : ¬ ringTurned.PauseHeld := by
  unfold State.PauseHeld
  decide +kernel

theorem ringTurned_wraps :
    ringTurned.reg (pageAt .ledg 0 + R.ledgWrap) ≠ ringEnd.reg (pageAt .ledg 0 + R.ledgWrap) := by
  decide +kernel

/-- What settles to a state in which clocks pause for nothing is that state. -/
theorem State.eq_of_settle {s t : State} (h : t.settle = s) (hs : ¬ s.PauseHeld) : t = s := by
  unfold State.settle at h
  split at h
  · exact h
  · exact absurd (h ▸ State.goOn_pauseHeld) hs

end Sys2Proof.Machine
end

section
/-! PROOF. The obligations of the family of the scope chapter. -/

open Sys2Proof Sys2Proof.Machine

/-- Settles O27: each row is the write of one register, and does what the register's hook does with it. -/
theorem fabricRegistersComplete : Obligations.FabricRegistersComplete := by
  unfold Obligations.FabricRegistersComplete
  intro s n w new
  refine ⟨fun h hb => ?forceRot, fun h hb => ?loadGo, fun h => ?spill, fun h hb hn ho => ?fence, fun h hb => ?excPop,
    fun h => ?abort, fun h hb hk => ?glbRst, fun h hb hm hn hs hl => ?streamRun, fun h hz hn ho => ?streamStop,
    fun h hb => ?scramble⟩
  case forceRot => exact opRow_acted (K := hookMsCtl n) rfl hb h rfl (by simp [hookMsCtl, bit_placed, hb])
  case loadGo => exact opRow_acted (K := hookLoadCtl n) rfl hb h rfl (by simp [hookLoadCtl, bit_placed, hb])
  case spill => exact wrRow_acted (K := hookMsSpill n) rfl h rfl rfl
  case fence =>
    exact opRow_acted (K := hookFence n) rfl hb h rfl (by simp [hookFence, hn, bit_reg, pageAt_tile, ho])
  case excPop =>
    exact opRow_acted (K := hookExcCtl n) rfl hb h rfl (by simp [hookExcCtl, bit_placed, hb, State.excPop])
  case abort => exact wrRow_acted (K := hookQmAbort) rfl h rfl rfl
  case glbRst =>
    exact opRow_acted (K := hookGlbRst) rfl hb h (by simp [hookGlbRst, hk]) (by simp [hookGlbRst, bit_placed, hb, hk])
  case streamRun =>
    have hm' : bit (wrMask .hub n R.hubStrmCtl w) 0 = true := by rwa [wrMask_all rfl]
    exact opRow_acted (K := hookStrmCtl n) rfl hb h (by simp [hookStrmCtl, hm', hn, hs]) (by simp [hookStrmCtl, hm', hn, hl])
  case streamStop =>
    exact opRow_acted (K := hookStrmCtl n) rfl hz h (by simp [hookStrmCtl, hn, bit_reg, pageAt_hub, ho])
      (by simp [hookStrmCtl, hn, bit_reg, pageAt_hub, ho])
  case scramble =>
    exact opRow_acted (hookOf_scramble n) hb h rfl (by simp [hookScr, State.scrWrite, bit_placed, fld_placed, hb])

/-- Settles O28: each row is the write of one register, and does what the register's hook does with it; where the hook asks
for a condition, it holds before and after the ledger's record. -/
theorem portAndRetrieverRegistersComplete : Obligations.PortAndRetrieverRegistersComplete := by
  unfold Obligations.PortAndRetrieverRegistersComplete
  intro s n w new
  refine ⟨fun h hn ho => ?failOn, fun h hn => ?failOff, fun h hb hn ho hp hh => ?linkEnable, fun h hb hn ho hp hh => ?retrain,
    fun h hb => ?switchSend, fun h hb hst hp hs hl => ?spareGo, fun h hb hr => ?retRun, fun h hb => ?retResume,
    fun h hs hl => ?doorbell, fun h hb hn hs hl => ?emergArm⟩
  case failOn =>
    exact wrRow_acted (K := hookFailCtl n) rfl h rfl (by simp [hookFailCtl, hn, bit_reg, pageAt_port, ho])
  case failOff => exact wrRow_acted (K := hookFailCtl n) rfl h rfl (by simp [hookFailCtl, hn])
  case linkEnable =>
    exact opRow_acted (K := hookLnkCtl n) rfl hb h (hookLnkCtl_takes ..)
      ((hookLnkCtl_enabled hn (portHeld_of_levels hp hh)).trans (by simp [bit_reg, pageAt_port, ho]))
  case retrain =>
    exact opRow_acted (K := hookLnkCtl n) rfl hb h (hookLnkCtl_takes ..)
      ((hookLnkCtl_enabled hn (portHeld_of_levels hp hh)).trans (by simp [bit_reg, bit_placed, pageAt_port, ho, hb]))
  case switchSend => exact opRow_acted (K := hookSwitch n) rfl hb h rfl (by simp [hookSwitch, bit_placed, hb])
  case spareGo =>
    have hrun (t : State) (ht : t.lnk (fld new 6 0) = 4) : (hookSpare n).run (s.wrOf .hub n R.hubLnkSpare w new) t =
        (true, ((s.wrOf .hub n R.hubLnkSpare w new).set t).spareGo n) := hookSpare_go hst hb hp ht
    exact opRow_acted (K := hookSpare n) rfl hb h (by rw [hrun s hs]) (by rw [hrun _ hl, State.wrOf_set_logged])
  case retRun => exact opRow_acted (K := hookScCtl n) rfl hb h rfl (by simp [hookScCtl, bit_placed, hr])
  case retResume => exact opRow_acted (K := hookScCtl n) rfl hb h rfl (by simp [hookScCtl, bit_placed, hb])
  case doorbell =>
    exact wrRow_acted (K := hookSprod n) rfl h (by simp [hookSprod, State.retDoorbell, hs.1, hs.2])
      (by simp [hookSprod, State.retDoorbell, hl.1, hl.2])
  case emergArm =>
    exact opRow_acted (K := hookEmerg) rfl hb h (by simp [hookEmerg, emergArm_armed hn hs]) (by simp [hookEmerg, emergArm_armed hn hl])

/-- Settles O34: the levels that hold the device decide the releases; every function reset is FRST of its page. -/
theorem resetsComplete : Obligations.ResetsComplete := by
  unfold Obligations.ResetsComplete
  intro s n w new
  refine ⟨?powerOn, ?brownOut, fun v hp hl hb => ?release, fun v hp hl hb => ?held, fun hp hb hl => ?brownRelease,
    fun hp hb hl => ?brownHeld, ?function, fun hp hf => ?functionDone, fun hp => act_live hp _⟩
  case powerOn => exact congrArg Host.Outcome.next (settle_porst (powerOn_porst s true s.brown))
  case brownOut => exact congrArg Host.Outcome.next (settle_porst (powerOn_porst s s.pinLow true))
  case release => simp [execPorstNRelease, done, State.porstRelease, hp, hl, hb, State.release0, State.sampleBoot]
  case held => simp [execPorstNRelease, done, State.porstRelease, hp, hl, hb, State.settle]
  case brownRelease => simp [execBrownOutRelease, done, State.brownRelease, hp, hl, hb, State.release0, State.sampleBoot]
  case brownHeld => simp [execBrownOutRelease, done, State.brownRelease, hp, hl, hb, State.settle]
  case function =>
    refine ⟨?_, ?_, ?_, ?_, ?_, ?_, ?_, fun hn => ?ring, ?_, fun hn => ?hbmc, ?_, fun b p hb ho hn hp => ?page⟩
    case ring =>
      intro h hw hs hl
      exact (if_neg hn).trans (frstRow_begins rfl rfl h hw hs hl)
    case hbmc =>
      intro h hw hs hl
      exact frstRow_begins (decide_eq_true hn) rfl h hw hs hl
    case page =>
      intro h hw hs hl
      have hpage : pageOf (pageAt b p) = some (b, p) := pageOf_pageAt (o := 0) hp (by decide)
      simp only [exec_functionReset, execFunctionReset, hpage, ho]
      exact frstRow_begins hb hn h hw hs hl
    all_goals exact frstRow_begins rfl rfl
  case functionDone => rw [exec_functionResetDone, execFunctionResetDone, act_live hp, if_pos hf]; rfl

/-- Settles O35: a plain write puts its fields, and a read is the general one, GAUGE_SNAP apart from the others. -/
theorem controlWindowComplete : Obligations.ControlWindowComplete := by
  unfold Obligations.ControlWindowComplete
  intro s off b p o
  refine ⟨fun w new hoff hk h => registerWrite_plain hoff hk h, fun r hoff hp ho ha hs hw hj hf hg => ?_, fun r hs hw hj hf => ?_⟩
  · rw [exec_readClear, execReadClear, done_next, hoff, readRow_reaches hp ho ha hs hw hj hf, beforeRead_other hg]
    simp only [if_neg hg]
    rfl
  · have hread := readRow_reaches (r := r) (b := .time) (p := 0) (o := R.gaugeSnap) (by decide) (by decide) (by decide) hs hw hj
      (by rw [show s.frstBusy (pageAt .time 0) = false from hf, Bool.and_false])
    exact congrArg done hread

/-- Settles O52: the fields of a write change only addressed bits, whatever the access code. -/
theorem halfWrites : Obligations.HalfWrites := by
  unfold Obligations.HalfWrites
  refine ⟨⟨rfl, rfl, rfl⟩, fun a => ⟨rfl, fun h => ?_, fun h => ?_⟩, fun v => ⟨rfl, halfOf_lo32 v, halfOf_hi32 v⟩,
    fun s b p o w new h => ?_⟩
  · simp [ctlPart, h]
  · simp [ctlPart, h]
  · rw [State.written, Wr.set, State.wrOf_off, reg_setReg_self]
    exact put_changed_outside h.unaddressed

/-- Refutes O54: a write whose record drains the last entry of a full ledger ring also counts LEDG_WRAP up (`ringTurned_wraps`).
No other state can stand for the one that the write leaves, since nothing that goes on by itself leaves clocks paused for nothing. -/
theorem not_registerWriteFrame : ¬ Obligations.RegisterWriteFrame := by
  unfold Obligations.RegisterWriteFrame
  intro h
  have hoff : (BitVec.ofNat 24 (pageAt .tile 127 + R.tileCtxTmpl)).toNat = pageAt .tile 127 + R.tileCtxTmpl := by decide
  obtain ⟨t, hexec, hreg, -⟩ := h ringEnd _ .tile 127 R.tileCtxTmpl ringWrite 64 hoff rfl ringEnd_takes
  have hacted : t.acted ringWrite = .next ringTurned.settle :=
    hexec.symm.trans (registerWrite_plain hoff rfl ringEnd_takes)
  have hsettle : (t.answered ringWrite).settle = ringTurned :=
    (Host.Outcome.next.inj hacted).trans ringTurned_settle
  have ht : t.answered ringWrite = ringTurned := State.eq_of_settle hsettle ringTurned_not_pauseHeld
  refine ringTurned_wraps ?_
  rw [← ht]
  exact hreg _ (by decide) (by decide) (by decide) (by decide)

/-- Settles O47: by the two shapes of the queue and the level of PORST_N. -/
theorem stepTakesFront : Obligations.StepTakesFront := by
  unfold Obligations.StepTakesFront
  refine ⟨fun c s => rfl, fun s hq hp => ?_, fun s hq hp => ?_, fun s n w => rfl⟩
  · simp [step, hq, State.tick, hp]
  · simp [step, hq, State.tick, hp]

end

section
/-! PROOF. What a command of a unit leaves, and rows of the PEs: what a command makes of the firing in stage 4 (R75, R82, R126,
R134, R139). -/

namespace Sys2Proof.Machine

section
variable {s u : State} {ok : Bool} {k : State → State}

/-- A command of a unit that the device has leaves what its act leaves. -/
theorem actOn_gives (h : s.porst = false) (hok : ok = true) (hk : k s = u) : actOn ok s k = .next u.settle := by
  rw [actOn_live h hok, hk]

/-- A step of an engine that no sleeping controller and no link in L1 holds up leaves what it does. -/
theorem engOn_gives (h : s.porst = false) (ha : s.memAwake = true) (hok : ok = true) (hk : k s = u) :
    engOn ok s k = .next u.settle := by
  rw [engOn_awake h ha hok, hk]

end

/-- A row of one opcode takes the firings of that opcode. -/
theorem opIn_of_eq {op n : Nat} (h : op = n) : opIn n n op = true := by simp [opIn, h]

section
variable {s u : State} {t p : Nat} {f : Firing} {g : Nat → Bool}

/-- A row whose opcode the firing in stage 4 has leaves the effect `u` of that firing. -/
theorem State.Fires.row {k : Firing → State → State} (h : s.Fires t p f) (hg : g (sOp f.slot) = true)
    (hk : k f (s.taken t p) = u) : actOn (peOk t p) s (fun s => s.exec4 t p g k) = .next u.settle :=
  actOn_gives h.porst (fires_ok h) ((fires_exec4 h hg).trans hk)

/-- A firing that stays in stage 4 is counted where its pass is still to be. -/
theorem stay4_eq (s : State) (t p : Nat) (f : Firing) :
    s.stay4 t p f = if f.due then
      (s.updPe t p (fun e => { e with ex := { f with due := false } :: e.ex.drop 1 })).fired t (tCtx f.x.tag) else s := by
  cases hd : f.due with
  | true => simp [State.stay4, State.dueCount, hd]
  | false => simp [State.stay4, hd]

section
variable {poisoned : Firing → Bool} {perform : Firing → State → Option State}
  (h : s.Fires t p f) (ho : s.ordered t f = false)
include h ho

/-- A row of an ordered class whose firing is not ordered (R134): its effect, or its exception where an operand is poisoned
(R139), or its stay in stage 4 while the effect must wait. -/
theorem State.Fires.sideRow (hg : g (sOp f.slot) = true) :
    actOn (peOk t p) s (fun s => s.sideOp t p g poisoned perform) =
      .next (((if poisoned f then some (((s.taken t p).dueCount t f).exc84 t f.x (sOp f.slot) .poisoned)
        else perform f ((s.taken t p).dueCount t f)).getD (s.stay4 t p f))).settle := by
  refine actOn_gives h.porst (fires_ok h) ?_
  simp only [State.sideOp, fires_stage4 h hg, h.types, State.withOrder, ho, Bool.not_true, Bool.false_eq_true, if_false]
  cases (if poisoned f then some (((s.taken t p).dueCount t f).exc84 t f.x (sOp f.slot) .poisoned)
    else perform f ((s.taken t p).dueCount t f)) with
  | none => rfl
  | some u => rfl

/-- Such a row has the effect `u` of its firing at once. -/
theorem State.Fires.side (hg : g (sOp f.slot) = true) (hq : poisoned f = false)
    (hk : perform f ((s.taken t p).dueCount t f) = some u) :
    actOn (peOk t p) s (fun s => s.sideOp t p g poisoned perform) = .next u.settle := by
  rw [h.sideRow ho hg, if_neg (Bool.eq_false_iff.mp hq), hk, Option.getD_some]

/-- Such a firing stays in stage 4 while its effect must wait. -/
theorem State.Fires.side_waits (hg : g (sOp f.slot) = true) (hq : poisoned f = false)
    (hk : perform f ((s.taken t p).dueCount t f) = none) :
    actOn (peOk t p) s (fun s => s.sideOp t p g poisoned perform) = .next (if f.due then
      (s.updPe t p (fun e => { e with ex := { f with due := false } :: e.ex.drop 1 })).fired t (tCtx f.x.tag) else s).settle := by
  rw [h.sideRow ho hg, if_neg (Bool.eq_false_iff.mp hq), hk, Option.getD_none, stay4_eq]

/-- A poisoned operand replaces the effect of such a firing by its exception. -/
theorem State.Fires.side_poisoned {op : Nat} (hop : sOp f.slot = op) (hg : g op = true) (hq : poisoned f = true) :
    actOn (peOk t p) s (fun s => s.sideOp t p g poisoned perform) =
      .next (((s.taken t p).dueCount t f).exc84 t f.x op .poisoned).settle := by
  subst hop
  rw [h.sideRow ho hg, if_pos hq, Option.getD_some]

end

end

/-! ## Loop throttles (Table 4.1) -/

/-- The entry that LOOP_HEAD creates for a firing (R129). -/
def State.newLoop (s : State) (p : Nat) (f : Firing) : SeqEntry :=
  { loop := true, pe := p, node := dNode f.x.dest, ctx := tCtx f.x.tag, colour := tColour f.x.tag, n := 0, k := s.loopLimit f }

/-- A sequencer entry is added. -/
def State.addSeq (s : State) (t : Nat) (e : SeqEntry) : State := s.updTile t (fun y => { y with seq := y.seq ++ [e] })

section
variable {s : State} {t p : Nat} {f : Firing} {e : SeqEntry}

theorem loopHead_again (ha : f.again = true) :
    s.loopHead t p f = (s.dueCount t f).outBoth t f f.x.value (cType f.x.ctl) := by
  simp [State.loopHead, ha]

variable (ha : f.again = false)
include ha

section Left
variable (hl : dSide f.x.dest = false)
include hl

theorem loopHead_passes (he : (s.tile t).seqOf true p f.x = some e) (hn : e.n < e.k) :
    s.loopHead t p f =
      ((s.dueCount t f).updSeq t true p f.x (fun e => { e with n := e.n + 1 })).outBoth t f f.x.value (cType f.x.ctl) := by
  simp [State.loopHead, ha, hl, he, hn]

theorem loopHead_holds (he : (s.tile t).seqOf true p f.x = some e) (hn : e.k ≤ e.n) :
    s.loopHead t p f = s.seqHold t true p f e { f.item with again := false } := by
  simp [State.loopHead, ha, hl, he, Nat.not_lt.mpr hn]

variable (he : (s.tile t).seqOf true p f.x = none)
include he

theorem loopHead_begins (hr : (s.tile t).seq.length < 1024) (hk : 0 < s.loopLimit f) :
    s.loopHead t p f = (((s.dueCount t f).addSeq t (s.newLoop p f)).updSeq t true p f.x (fun e => { e with n := 1 })).outBoth
      t f f.x.value (cType f.x.ctl) := by
  simp [State.loopHead, ha, hl, he, Nat.not_le.mpr hr, hk, State.addSeq, State.newLoop]

theorem loopHead_begins_shut (hr : (s.tile t).seq.length < 1024) (hk : s.loopLimit f = 0) :
    s.loopHead t p f = (s.addSeq t (s.newLoop p f)).seqHold t true p f (s.newLoop p f) { f.item with again := false } := by
  simp [State.loopHead, ha, hl, he, Nat.not_le.mpr hr, hk, State.addSeq, State.newLoop]

theorem loopHead_full {op : Nat} (hop : sOp f.slot = op) (hr : 1024 ≤ (s.tile t).seq.length) :
    s.loopHead t p f = (s.dueCount t f).seqFull t f.x op := by
  simp [State.loopHead, ha, hl, he, hr, hop]

end Left

section Right
variable (hl : dSide f.x.dest = true)
include hl

theorem loopHead_stray (he : (s.tile t).seqOf true p f.x = none) :
    s.loopHead t p f = ((s.dueCount t f).divert t f.x f.flt).inc (tp t + R.tileSeqStat) 47 32 := by
  simp [State.loopHead, ha, hl, he]

variable (he : (s.tile t).seqOf true p f.x = some e)
include he

theorem loopHead_stray_empty (hn : e.n = 0) :
    s.loopHead t p f = ((s.dueCount t f).divert t f.x f.flt).inc (tp t + R.tileSeqStat) 47 32 := by
  simp [State.loopHead, ha, hl, he, hn]

theorem loopHead_releases {q : QItem} {r : List QItem} (hn : e.n ≠ 0) (hh : e.held = q :: r) :
    s.loopHead t p f =
      let u := (s.dueCount t f).unchain t e.heldB 1 (chainSlots r)
      (u.2.updSeq t true p f.x (fun e => { e with held := r, heldB := u.1 })).release t p [{ q with again := true }] := by
  simp [State.loopHead, ha, hl, he, hn, hh]

theorem loopHead_returns (hh : e.held = []) (hn : 1 < e.n) :
    s.loopHead t p f = (s.dueCount t f).updSeq t true p f.x (fun e => { e with n := e.n - 1 }) := by
  simp [State.loopHead, ha, hl, he, hh, Nat.ne_of_gt hn, Nat.ne_of_gt (Nat.lt_trans Nat.zero_lt_one hn)]

theorem loopHead_ends (hh : e.held = []) (hn : e.n = 1) :
    s.loopHead t p f = (s.dueCount t f).dropSeq t true p f.x := by
  simp [State.loopHead, ha, hl, he, hh, hn]

end Right

end

/-! ## Context requests (R50, R51) -/

/-- The control byte of an exception token that adds no POISON (R141). -/
theorem excCtl_false (x : Token) (ty : Nat) : excCtl x ty false = mkCtl ty (cPoison x.ctl) true (cLast x.ctl) (cOrd x.ctl) := by
  simp [excCtl]

section
variable {s s1 : State} {t p c : Nat} {f : Firing}

theorem ctxOp_badTemplate {op : Nat} (hop : sOp f.slot = op) (hi : s.f (tp t + R.tileCtxTmpl) 63 48 ≤ sImm f.slot % 2 ^ 16) :
    s.ctxOp t p f = s.exc84 t f.x op .template := hop ▸ if_pos hi

variable (hi : sImm f.slot % 2 ^ 16 < s.f (tp t + R.tileCtxTmpl) 63 48)
include hi

theorem ctxOp_opens (hq : s.ctxQueue = []) (hc : s.takeCtx = some (c, s1)) : s.ctxOp t p f = s1.openCtx t f c := by
  simp only [State.ctxOp, if_neg (Nat.not_le.mpr hi), hq, hc, List.isEmpty_nil, if_true]

theorem ctxOp_none (hw : s.ctxQueue ≠ [] ∨ s.takeCtx = none) :
    s.ctxOp t p f = if s.ctxQueue.length < 256 then { s with ctxQueue := s.ctxQueue ++ [⟨t, p, f⟩] }
      else (s.excToken t f.x 0 (excCtl f.x tyUint64 false)).inc (pageAt .glb 0 + R.glbCtxFree) 63 48 := by
  have hnone : (if s.ctxQueue.isEmpty then s.takeCtx else none) = none := by
    rcases hw with hw | hw
    · simp [hw]
    · simp [hw]
  simp only [State.ctxOp, if_neg (Nat.not_le.mpr hi), hnone]

theorem ctxOp_waits (hw : s.ctxQueue ≠ [] ∨ s.takeCtx = none) (hr : s.ctxQueue.length < 256) :
    s.ctxOp t p f = { s with ctxQueue := s.ctxQueue ++ [⟨t, p, f⟩] } := by
  rw [ctxOp_none hi hw, if_pos hr]

theorem ctxOp_full (hr : 256 ≤ s.ctxQueue.length) :
    s.ctxOp t p f = (s.excToken t f.x 0 (mkCtl tyUint64 (cPoison f.x.ctl) true (cLast f.x.ctl) (cOrd f.x.ctl))).inc
      (pageAt .glb 0 + R.glbCtxFree) 63 48 := by
  have hne : s.ctxQueue ≠ [] := fun h => by simp [h] at hr
  rw [ctxOp_none hi (.inl hne), if_neg (Nat.not_lt.mpr hr), excCtl_false]

end

end Sys2Proof.Machine
end

section
/-! PROOF. Memory, time, event and EMIT firings of the PEs (R56, R85 to R89, R170, R579). -/

namespace Sys2Proof.Machine

/-! ## I-structure requests (R56, R579) -/

section
variable {s : State} {t c : Nat} {b : Bool} {f : Firing}

theorem isIssue_outside (hi : fld (s.ctxW (tCtx f.x.tag) 2) 31 0 ≤ f.idx) :
    s.isIssue t b f = s.excToken t f.x f.x.value (excCtl f.x tyUint64 false) := by
  rw [State.isIssue, if_pos hi]

variable (hi : f.idx < fld (s.ctxW (tCtx f.x.tag) 2) 31 0)
include hi

theorem isIssue_queues (hd : region (s.isData (tCtx f.x.tag) f.idx) = .hbm)
    (hs : region (s.isState (tCtx f.x.tag) f.idx) = .hbm) :
    s.isIssue t b f = s.iRequest t (hbmUnit (s.isData (tCtx f.x.tag) f.idx)) (s.isData (tCtx f.x.tag) f.idx)
      { store := b, tile := t, f := f, rtag := s.returnTag f } := by
  simp only [State.isIssue, if_neg (Nat.not_le.mpr hi), hd, hs]

theorem isIssue_notHbm
    (hr : ¬ (region (s.isData (tCtx f.x.tag) f.idx) = .hbm ∧ region (s.isState (tCtx f.x.tag) f.idx) = .hbm)) :
    s.isIssue t b f = (s.isError t f).fault (tp t) .config := by
  simp only [State.isIssue, if_neg (Nat.not_le.mpr hi)]
  split
  next hd hs => exact absurd ⟨hd, hs⟩ hr
  next => rfl

end

section
variable {s u : State} {t p : Nat} {f : Firing}

/-- An IFETCH that has a destination and an operand without POISON issues its request. -/
theorem State.Fires.ifetch (h : s.Fires t p f) (hop : sOp f.slot = 0x700) (hn : f.none0 = false) (hb : f.bad0 = false)
    (hx : cPoison f.x.ctl = false) (hk : (s.taken t p).isIssue t false f = u) : execIfetch t p s = .next u.settle :=
  h.row (opIn_of_eq hop) (by simp [hn, hx, hb, hk])

/-- An ISTORE whose operands have no POISON issues its request. -/
theorem State.Fires.istore (h : s.Fires t p f) (hop : sOp f.slot = 0x701) (hx : f.any cPoison = false)
    (hk : (s.taken t p).isIssue t true f = u) : execIstore t p s = .next u.settle :=
  h.row (opIn_of_eq hop) (by simp [hx, hk])

end

/-! ## LOAD and STORE (R85) -/

section
variable {s : State} {t u op : Nat} {f : Firing}

theorem storeOp_sends (ha : peAddrOk f.addr = true) (hu : unitOf f.addr = some u) :
    s.storeOp t f = s.request (tileNode t) (unitNode u) 3 f.addr (peReq t f.addr f.yv) (.store t f) := by
  simp [State.storeOp, ha, hu]

theorem storeOp_address (hop : sOp f.slot = op) (ha : peAddrOk f.addr = false) :
    s.storeOp t f = s.exc84 t f.x op .address := by
  simp [State.storeOp, ha, hop]

theorem loadOp_none (hn : f.none0 = true) : s.loadOp t f = s := if_pos hn

variable (hn : f.none0 = false)
include hn

theorem loadOp_poisoned (hop : sOp f.slot = op) (hx : cPoison f.x.ctl = true) : s.loadOp t f = s.exc84 t f.x op .poisoned := by
  simp [State.loadOp, hn, hx, hop]

theorem loadOp_address (hop : sOp f.slot = op) (hx : cPoison f.x.ctl = false) (ha : peAddrOk f.addr = false) :
    s.loadOp t f = s.exc84 t f.x op .address := by
  simp [State.loadOp, hn, hx, ha, hop]

theorem loadOp_sends (hb : f.bad0 = false) (hx : cPoison f.x.ctl = false) (ha : peAddrOk f.addr = true)
    (hu : unitOf f.addr = some u) :
    s.loadOp t f = s.request (tileNode t) (unitNode u) 1 f.addr (peReq t f.addr 0) (.load t f (s.returnTag f)) := by
  simp [State.loadOp, hn, hx, ha, hb, hu]

end

/-! ## EMIT (R170, R171) -/

section
variable {s : State} {t p h : Nat} {f : Firing}

theorem emitOp_unmapped (hm : s.emitMap t (sImm f.slot % 32) = none) :
    s.emitOp t p f =
      some ((s.outTo t f.slot f.x.tag 0 (BitVec.allOnes 64) (f.outCtl tyUint64 false true)).inc
        (tp t + R.tileEmitMap2) 63 48) := by
  simp only [State.emitOp, hm]

variable (hm : s.emitMap t (sImm f.slot % 32) = some h)
include hm

theorem emitOp_waits (hu : 32 ≤ SMap.get 0 (s.tile t).emitUsed h) : s.emitOp t p f = none := by
  simp only [State.emitOp, hm, if_pos hu]

theorem emitOp_sends (hu : SMap.get 0 (s.tile t).emitUsed h < 32) :
    s.emitOp t p f =
      (s.updTile t (fun y => { y with emitUsed := SMap.set 0 y.emitUsed h (SMap.get 0 (s.tile t).emitUsed h + 1) })).emitSend t h
        ⟨t, p, (sImm f.slot).testBit 5, cPoison f.x.ctl, f⟩ := by
  simp only [State.emitOp, hm, if_neg (Nat.not_le.mpr hu)]

end

/-! ## TWAIT (R88) -/

section
variable {s : State} {t p : Nat} {f : Firing} (h : s.Fires t p f) (hop : sOp f.slot = 0x803)
include h hop

/-- TWAIT, by whether x lets it pass and whether the tile has a place for it. -/
theorem execTwait_eq :
    execTwait t p s = .next (if cPoison f.x.ctl || decide (f.xn ≤ s.now.toNat) then
        ((s.taken t p).touch (tCtx f.x.tag)).outBoth t f f.x.value tyTime
      else if ((s.taken t p).tile t).twait.length < 256 then
        (s.taken t p).updTile t (fun y => { y with twait := y.twait ++ [⟨p, f, f.x.value⟩] })
      else s).settle := by
  rw [execTwait, actOn_live h.porst (fires_ok h)]
  simp only [fires_stage4 h (opIn_of_eq hop), h.types, Bool.not_true, Bool.false_eq_true, if_false]

theorem execTwait_passes (hx : cPoison f.x.ctl = true ∨ f.xn ≤ s.now.toNat) :
    execTwait t p s = .next (((s.taken t p).touch (tCtx f.x.tag)).outBoth t f f.x.value tyTime).settle := by
  rw [execTwait_eq h hop, if_pos (by simpa using hx)]

variable (hx : cPoison f.x.ctl = false) (hn : s.now.toNat < f.xn)
include hx hn

theorem execTwait_holds (hr : ((s.taken t p).tile t).twait.length < 256) :
    execTwait t p s =
      .next ((s.taken t p).updTile t (fun y => { y with twait := y.twait ++ [⟨p, f, f.x.value⟩] })).settle := by
  rw [execTwait_eq h hop, if_neg (by simp [hx, hn]), if_pos hr]

theorem execTwait_full (hr : 256 ≤ ((s.taken t p).tile t).twait.length) : execTwait t p s = .next s.settle := by
  rw [execTwait_eq h hop, if_neg (by simp [hx, hn]), if_neg (Nat.not_lt.mpr hr)]

end

end Sys2Proof.Machine
end

section
/-! PROOF. The tile controller (R40, R71, R105 to R127): reads of the matching store that meet no error, and what each
command does where its conditions hold. -/

namespace Sys2Proof.Machine

/-! ## Reads of the matching store (R113, R114, R522) -/

section
variable {s : State} {t : Nat}

/-- A checker of a page for which no injection is armed finds nothing injected. -/
theorem injected_unarmed {page : Nat} (h : ¬ s.f (page + R.pgErrInj) 47 32 ≠ 0) (c : Nat) :
    s.injected page c = (none, s) := by
  have h0 : s.f (page + R.pgErrInj) 47 32 = 0 := not_not.mp h
  simp [State.injected, h0]

theorem msError_clean (inj : Bool) (r : MsRead) (q : MsEntry → Bool) : s.msError t .clean inj r q = s := rfl

theorem msCodes_single (r : MsRead) (k : Word) :
    s.msCodes t r none [k] = s.msError t (msMeets r k).1 false r (fun x => x.key == k) := rfl

/-- A read whose entries have no error changes nothing. -/
theorem msCodes_clean {r : MsRead} (h : ∀ k, (msMeets r k).1 = .clean) (l : List Word) : s.msCodes t r none l = s := by
  cases l with
  | nil => rfl
  | cons k l => simp only [State.msCodes, injEcc, h, msError_clean, List.foldl_fixed]

/-- Sets whose checksums hold change nothing. -/
theorem msSums_clean {r : MsRead} (ha : ¬ s.f (tp t + R.pgErrInj) 47 32 ≠ 0) (h : r.sums = []) (l : List Nat) :
    s.msSums t r l = s := by
  cases l with
  | nil => rfl
  | cons n l => simp [State.msSums, injected_unarmed ha, h, List.foldl_fixed]

/-- An access whose read meets no error leaves the tile as it is. -/
theorem msCheck_clean {r : MsRead} (ha : ¬ s.f (tp t + R.pgErrInj) 47 32 ≠ 0) (hb : ∀ k, (msMeets r k).1 = .clean)
    (hr : r.sums = []) (sets : List Nat) (here : MsEntry → Bool) : s.msCheck t sets here r = s := by
  simp only [State.msCheck, injected_unarmed ha, msCodes_clean hb, msSums_clean ha hr]

theorem msMeets_default (k : Word) : (msMeets {} k).1 = .clean := rfl

theorem lookCheck_clean (ha : ¬ s.f (tp t + R.pgErrInj) 47 32 ≠ 0) (k : Word) : s.lookCheck t k {} = s := by
  simp only [State.lookCheck, msCheck_clean ha msMeets_default]

end

/-! ## Queues (R40, R120, R121) -/

section
variable {s u : State} {t p src : Nat} {a : Arrival} {rest : List Arrival} {q : QItem}

theorem enterPe_queue (hc : ((s.tile t).pe (dPe q.tok.dest)).chain = [])
    (hr : ((s.tile t).pe (dPe q.tok.dest)).queue.length < 256) :
    s.enterPe t q = .entered (s.updPe t (dPe q.tok.dest) (fun e => { e with queue := e.queue ++ [q] })) := by
  simp [State.enterPe, hc, hr]

theorem enterPe_full (hc : ((s.tile t).pe (dPe q.tok.dest)).chain = [])
    (hr : 256 ≤ ((s.tile t).pe (dPe q.tok.dest)).queue.length)
    (hs : s.spillOn t = false ∨ s.f (tp t + R.tileQCtl) 15 0 ≠ 0) : s.enterPe t q = .full := by
  have hspill : (s.spillOn t && s.f (tp t + R.tileQCtl) 15 0 == 0) = false := by
    rcases hs with hs | hs
    · simp [hs]
    · simp [hs]
  simp [State.enterPe, hc, Nat.not_lt.mpr hr, hspill]

/-- A token bound for a fault node, or of an ACTIVE context, may enter (R41). -/
theorem token_live (hc : q.flt = true ∨ s.ctxState (tCtx q.tok.tag) = 1) :
    (!q.flt && decide (s.ctxState (tCtx q.tok.tag) ≠ 1)) = false := by
  rcases hc with hc | hc
  · simp [hc]
  · simp [hc]

/-- The token as it stands in the network interface: no TYPE is to be counted. -/
theorem arrived_valid (hy : cType a.item.tok.ctl ≤ 8) : (if a.seen then (a.item, s) else s.badType t a.item) = (a.item, s) := by
  simp [State.badType, Nat.not_lt.mpr hy]

section Enter
variable (hf : SMap.get none s.frst (tp t) = none) (ha : takeFirst (fun a => a.src == src) (s.tile t).arr = some (a, rest))
  (hb : arrivalBehind (s.tile t).arr src (dPe a.item.tok.dest) = false) (hy : cType a.item.tok.ctl ≤ 8)
include hf ha hb hy

theorem enterTile_diverts (hx : a.item.flt = false) (hc : s.ctxState (tCtx a.item.tok.tag) ≠ 1) :
    s.enterTile t src =
      ((s.updTile t (fun x => { x with arr := rest })).exhFix t (s.tile t).exhSince).divert t a.item.tok false := by
  simp [State.enterTile, hf, ha, hb, arrived_valid hy, hx, hc]

variable (hc : a.item.flt = true ∨ s.ctxState (tCtx a.item.tok.tag) = 1)
include hc

theorem enterTile_enters (he : (s.updTile t (fun x => { x with arr := rest })).enterPe t a.item = .entered u) :
    s.enterTile t src = u.exhFix t (s.tile t).exhSince := by
  simp only [State.enterTile, hf, ha, hb, arrived_valid hy, token_live hc, he, Option.isSome_none, Bool.false_eq_true, if_false]

theorem enterTile_full (he : (s.updTile t (fun x => { x with arr := rest })).enterPe t a.item = .full) :
    s.enterTile t src = s.updTile t (fun x => { x with
      arr := replFirst (fun b => b.src == src)
        (fun b => { b with item := a.item, seen := true, since := some (b.since.getD s.now) }) x.arr }) := by
  simp only [State.enterTile, hf, ha, hb, arrived_valid hy, token_live hc, he, Option.isSome_none, Bool.false_eq_true, if_false]

end Enter

section Held
variable (ha : takeFirst (fun a => dPe a.item.tok.dest == p) (s.tile t).arr = some (a, rest))
include ha

theorem spillDelay_chains (hs : s.spillOn t = true) (hd : s.spillDue t a = true) (hu : s.chainAppend t p a.item = some u)
    (hw : ((s.tile t).pe p).chain ≠ [] ∨ 256 ≤ ((s.tile t).pe p).queue.length) :
    s.spillDelay t p = u.updTile t (fun x => { x with arr := rest }) := by
  have hroom : ¬ (((s.tile t).pe p).chain = [] ∧ ((s.tile t).pe p).queue.length < 256) := by
    rintro ⟨hc, hr⟩
    rcases hw with hw | hw
    · exact hw hc
    · omega
  have hno : (((s.tile t).pe p).chain.isEmpty && decide (((s.tile t).pe p).queue.length < 256)) = false := by
    simpa using hroom
  simp only [State.spillDelay, ha, hno, hs, hd, hu, Bool.false_and, Bool.and_self, Bool.false_eq_true, if_false, if_true]

theorem spillDelay_enters (hw : a.since.isSome = true) (hc : ((s.tile t).pe p).chain = [])
    (hr : ((s.tile t).pe p).queue.length < 256) (hf : SMap.get none s.frst (tp t) = none) :
    s.spillDelay t p =
      (s.updTile t (fun x => { x with arr := rest })).updPe t p (fun e => { e with queue := e.queue ++ [a.item] }) := by
  simp [State.spillDelay, ha, hw, hc, hr, hf]

end Held

theorem refill_moves {q : QItem} {r : List QItem} (hc : ((s.tile t).pe p).chain = q :: r)
    (hr : ((s.tile t).pe p).queue.length < 256) :
    s.refill t p =
      let u := s.unchain t ((s.tile t).pe p).chainB 1 (chainSlots r)
      u.2.updPe t p (fun e => { e with queue := e.queue ++ [q], chain := r, chainB := u.1 }) := by
  simp only [State.refill, hc, if_pos hr]

end

/-! ## Spill accesses and buckets (R106, R126) -/

section
variable {s u : State} {t n : Nat}

/-- A spill access that one token waits for completes: the token matches. -/
theorem spillDone_single {k since : Word} {pe : Nat} {q : QItem} {rest : List SpillAcc}
    (hw : takeFirst (fun w => w.key == k) (s.tile t).inflight = some (⟨k, since, [(pe, q)]⟩, rest))
    (hk : s.keyWaits t k = false)
    (hu : (s.updTile t (fun x => { x with inflight := rest })).sampleAt (0x1003 + 8 * t) (dur since s.now / 16) = u)
    (ha : ¬ u.f (tp t + R.pgErrInj) 47 32 ≠ 0) : s.spillDone t k = u.matchDone t pe (u.slotOf t pe q) q := by
  simp [State.spillDone, hw, hk, hu, lookCheck_clean ha, State.matchAll]

theorem bucketGrant_arrival (hw : (s.tile t).wait = []) (hn : (s.tile t).firstNi = some n)
    (hu : (s.updTile t (fun x => { x with exhSince := none })).niServe t n = some u) :
    s.bucketGrant t = u.exhFix t (s.tile t).exhSince := by
  simp only [State.bucketGrant, hw, hn, hu]

theorem bucketGrant_token {w : Waiting} {rest : List Waiting} (hw : (s.tile t).wait = w :: rest)
    (hn : (s.tile t).firstNi = none)
    (hu : ((s.updTile t (fun x => { x with exhSince := none })).updTile t (fun x => { x with wait := rest })).serveWait t w =
      some u) : s.bucketGrant t = u.exhFix t (s.tile t).exhSince := by
  simp only [State.bucketGrant, hw, hn, hu]

/-- A token that waits to be matched, at a node that is no loop's. -/
theorem serveWait_matches {w : Waiting} (ha : w.item.again = false) (hl : sOp (s.slotOf t w.pe w.item) ≠ 0x502)
    (hm : s.matchMode t w.pe (s.slotOf t w.pe w.item) w.item = .done u) :
    s.serveWait t w = some (u.fired t (tCtx w.item.tok.tag)) := by
  simp only [State.serveWait, ha, hl, hm, Bool.false_eq_true, if_false]

theorem fabricStall_raises {a : Word} (ha : (s.tile t).exhSince = some a)
    (h0 : us * s.f (tp t + R.tileQCtl) 31 16 ≠ 0) (hd : us * s.f (tp t + R.tileQCtl) 31 16 ≤ dur a s.now)
    (hl : us * s.f (tp t + R.tileQCtl) 31 16 ≤ dur (s.tile t).lastFire s.now) (hb : s.b (tp t + R.tileQStat) 39 = false) :
    s.fabricStall t = (s.putB (tp t + R.tileQStat) 39 true).fault (tp t) .timeout := by
  simp only [State.fabricStall, ha]
  exact if_pos ⟨h0, hd, hl, by simp [hb]⟩

end

/-! ## Salt rotation (R107, R108) -/

section
variable {s u : State} {t : Nat}

theorem rotCheck_triggers (he : s.b (tp t + R.tileMsCtl) 0 = true) (h0 : s.f (tp t + R.tileMsCtl) 31 16 ≠ 0)
    (hn : s.f (tp t + R.tileMsCtl) 31 16 < (s.tile t).conflicts) (hw : (s.tile t).winTrig = false) :
    s.rotCheck t = (s.updTile t (fun x => { x with winTrig := true })).rotTrigger t :=
  if_pos ⟨he, h0, hn, by simp [hw]⟩

theorem rotCheck_quiet (h : (s.tile t).conflicts ≤ s.f (tp t + R.tileMsCtl) 31 16 ∨ (s.tile t).winTrig = true) :
    s.rotCheck t = s := by
  refine if_neg ?_
  rintro ⟨-, -, hn, hw⟩
  rcases h with h | h
  · omega
  · simp [h] at hw

/-- The registers of the window that ends, once its trigger is judged. -/
theorem windowEnd_eq (hd : 10 * us ≤ dur (s.tile t).winStart s.now) (hu : s.rotCheck t = u) :
    s.windowEnd t = (((u.putF (tp t + R.tileMsWin) 47 32 (min (s.tile t).conflicts 65535)).putF (tp t + R.tileMsStat) 43 32
        ((s.tile t).confl.foldl (fun (b : Nat × Nat) e => if b.2 < e.2 then e else b) (0, 0)).1).sampleAt (0x1000 + 8 * t)
        (s.tile t).conflicts).updTile t
      (fun x => { x with confl := [], winTrig := false, winStart := x.winStart + BitVec.ofNat 64 (10 * us) }) := by
  subst hu
  exact if_pos hd

section Sweep
variable (ha : ¬ s.f (tp t + R.pgErrInj) 47 32 ≠ 0) (hb : s.b (tp t + R.tileMsStat) 1 = true) (hk : (s.tile t).sweep ≤ 4096)
include ha hb hk

theorem sweepMove_goes (h : s.sweepHere t = []) :
    s.sweepMove t {} = (s.updTile t (fun x => { x with sweep := (s.tile t).sweep + 1 })).putF (tp t + R.tileMsStat) 27 16
      (if (s.tile t).sweep < 4095 then (s.tile t).sweep + 1 else 0) := by
  simp [State.sweepMove, hb, Nat.not_lt.mpr hk, msCheck_clean ha msMeets_default, h]

theorem sweepMove_last {e : MsEntry} {l : List MsEntry} (h : s.sweepHere t = e :: l) (hu : s.sweepEntry t e = some u)
    (hl : u.sweepHere t = []) :
    s.sweepMove t {} = (u.updTile t (fun x => { x with sweep := (s.tile t).sweep + 1 })).putF (tp t + R.tileMsStat) 27 16
      (if (s.tile t).sweep < 4095 then (s.tile t).sweep + 1 else 0) := by
  simp [State.sweepMove, hb, Nat.not_lt.mpr hk, msCheck_clean ha msMeets_default, h, hu, hl]

theorem sweepMove_moves {e : MsEntry} {l : List MsEntry} (h : s.sweepHere t = e :: l) (hu : s.sweepEntry t e = some u)
    (hl : u.sweepHere t ≠ []) : s.sweepMove t {} = u := by
  simp [State.sweepMove, hb, Nat.not_lt.mpr hk, msCheck_clean ha msMeets_default, h, hu, hl]

end Sweep

theorem sweepDone_ends (hb : s.b (tp t + R.tileMsStat) 1 = true) (hk : (s.tile t).sweep = 4097)
    (hh : s.b (tp t + R.tileMsStat) 2 = false) :
    s.sweepDone t = ((s.putB (tp t + R.tileMsStat) 1 false).putF (tp t + R.tileMsStat) 27 16 0).updTile t
      (fun x => { x with saltOld := 0, sweep := 0 }) := by
  simp [State.sweepDone, hb, hk, hh]

end

/-! ## Scrubbing (R114, R115) -/

section
variable {s : State} {t n : Nat} {ovf : Bool} {v : MsEntry} {flips : Word}

/-- A list of entries that all are read as they were written. -/
theorem msMeets_clean {l : List MsBad} {sums : List Nat} (h : ∀ b ∈ l, b.ecc = .clean) (k : Word) :
    (msMeets { bad := l, sums := sums } k).1 = .clean := by
  cases hf : l.find? (fun b => b.key == k) with
  | none => simp [msMeets, hf]
  | some b => simpa [msMeets, hf] using h b (List.mem_of_find?_eq_some hf)

/-- What a read meets where it lists one entry. -/
theorem msMeets_single (k flips : Word) (e : Ecc) (sums : List Nat) :
    msMeets { bad := [⟨k, e, flips⟩], sums := sums } k = (e, flips) := by
  simp [msMeets]

theorem msScrub_clean {r : MsRead} (ha : ¬ s.f (tp t + R.pgErrInj) 47 32 ≠ 0) (hb : ∀ k, (msMeets r k).1 = .clean)
    (hr : r.sums = []) : s.msScrub t ovf n r = s := msCheck_clean ha hb hr _ _

/-- What a scrub meets where its read names the entry that lies there, the only one. -/
theorem msScrub_single {r : MsRead} (ha : ¬ s.f (tp t + R.pgErrInj) 47 32 ≠ 0)
    (hv : (s.tile t).ms.filter (scrubs ovf n) = [v]) :
    s.msScrub t ovf n r =
      (s.msError t (msMeets r v.key).1 false r (fun x => x.key == v.key)).msSums t r (if ovf then [] else [n]) := by
  have hdie : (fun e : MsEntry => e.place.onDie && scrubs ovf n e) = scrubs ovf n := by
    funext e
    cases hp : e.place <;> simp [scrubs, hp, MsPlace.onDie, MsPlace.isSpill]
  simp only [State.msScrub, State.msCheck, injected_unarmed ha, hdie, hv, List.map_cons, List.map_nil, msCodes_single]

/-- A scrub that meets no error changes nothing. -/
theorem execMsScrub_clean {way : Nat} (hs : s.porst = false) (ht : t < 128) (ha : ¬ s.f (tp t + R.pgErrInj) 47 32 ≠ 0) :
    execMsScrub t ovf n way .clean {} s = .next s.settle := by
  refine actOn_gives hs (decide_eq_true ht) (msScrub_clean ha (msMeets_clean fun b hb => ?_) rfl)
  cases hv : (((s.tile t).ms.filter (scrubs ovf n)).drop (if ovf then 0 else way)).head? with
  | none => simp [hv] at hb
  | some v =>
    have hb' : b = ⟨v.key, .clean, 0⟩ := by simpa [hv] using hb
    rw [hb']

/-- A scrub of a place that holds one entry handles the outcome of that entry's read. -/
theorem execMsScrub_single {e : Ecc} {u : State} (hs : s.porst = false) (ht : t < 128)
    (ha : ¬ s.f (tp t + R.pgErrInj) 47 32 ≠ 0) (hv : (s.tile t).ms.filter (scrubs ovf n) = [v])
    (hu : s.msError t e false { bad := [⟨v.key, e, flips⟩] } (fun x => x.key == v.key) = u)
    (hau : ¬ u.f (tp t + R.pgErrInj) 47 32 ≠ 0) : execMsScrub t ovf n 0 e ⟨flips, [], false⟩ s = .next u.settle := by
  refine actOn_gives hs (decide_eq_true ht) ?_
  have hhit : (((s.tile t).ms.filter (scrubs ovf n)).drop (if ovf then 0 else 0)).head? = some v := by simp [hv]
  simp only [hhit, List.append_nil, msScrub_single ha hv, msMeets_single, Bool.false_eq_true, if_false, hu]
  exact msSums_clean hau rfl _

/-- An uncorrectable error of one entry invalidates and reports it (R114). -/
theorem msError_single (hv : (s.tile t).ms.filter (fun e => e.key == v.key) = [v]) :
    s.msError t .uncorrectable false { bad := [⟨v.key, .uncorrectable, flips⟩] } (fun x => x.key == v.key) =
      ((s.msRemove t v.key).msLost t v.key flips).fault (tp t) .uncorrectable := by
  simp only [State.msError, hv, List.foldl_cons, List.foldl_nil, msMeets_single]

end

/-! ## Node-store loads and the spill region (R71, R110) -/

section
variable {s r : State} {t : Nat} {l : LoadSt}

/-- A step of a load reads its next entry through the codes of the unit that serves it. -/
theorem execTileLoadEntry_reads {e : LineErr} {u : State} (hs : s.porst = false) (hw : s.memAwake = true) (ht : t < 128)
    (hb : (s.tile t).load.busy = true)
    (hr : s.codes ((s.tile t).load.addr + 24 * (s.tile t).load.next) 24 e = (true, r)) (hu : r.loadEntry t .clean = u) :
    execTileLoadEntry t e s = .next u.settle := by
  refine engOn_gives hs hw (decide_eq_true ht) ?_
  simp [hb, hr, hu]

/-- A valid entry that is not the last of its load is stored in its node slot. -/
theorem loadEntry_stores {a : Nat} {u : State} (hl : (r.tile t).load = l) (hb : l.busy = true) (ha : l.addr + 24 * l.next = a)
    (hu : r.visit a (r.access a 24 false) 24 = u) (hok : u.access a 24 false = .ok)
    (hbad : entryBad (u.rd a 2) (u.rd (a + 2) 6) (BitVec.ofNat 128 (u.rd (a + 8) 16)) = false) (hlast : l.next + 1 ≠ l.count) :
    r.loadEntry t .clean =
      ((u.updPe t (u.rd a 2 / 4096) (fun e => { e with
        nodes := SMap.set 0 e.nodes (u.rd a 2 % 4096) (BitVec.ofNat 128 (u.rd (a + 8) 16)) })).putF
        (tp t + R.tileLoadStat) 30 16 (l.next + 1)).updTile t (fun x => { x with load := { l with next := l.next + 1 } }) := by
  simp [State.loadEntry, hl, hb, ha, hu, hok, hbad, hlast]

theorem spillReady_formats {w : Word} (hw : (s.tile t).readyAt = some w) :
    s.spillReady t = ((s.clearMem (s.spillBase t) (65536 * 64)).putB (tp t + R.tileMsStat) 3 true).updTile t
      (fun x => { x with readyAt := none }) := by
  simp only [State.spillReady, hw]

end

end Sys2Proof.Machine
end

section
/-! PROOF. I-structures at their controller (R53 to R58, R579), the end of a teardown (R148, R150) and the quiescence monitor
(R143 to R147). -/

namespace Sys2Proof.Machine

/-! ## I-structure requests -/

/-- Address of the data word that a request names. -/
abbrev State.dataWordOf (s : State) (r : IReq) : Nat := s.isData (tCtx r.f.x.tag) r.f.idx
/-- Address of the state word that a request names. -/
abbrev State.stateWordOf (s : State) (r : IReq) : Nat := s.isState (tCtx r.f.x.tag) r.f.idx

section
variable {s s1 s2 : State} {u : Nat} {r : IReq} {l : List IReq} {es ed : LineErr}

/-- An I-store that finds its word EMPTY writes data and TYPE and sends x (Table 2.9). -/
theorem storeWord_empty {a b : Nat} {w : Word} (hw : fld w 63 62 = 0) :
    s.storeWord u r a b w =
      ((s.wr64 a (r.f.y.getD (0, 0)).1).wr64 b (BitVec.ofNat 64 (2 ^ 62 + cType (r.f.y.getD (0, 0)).2 * 2 ^ 48))).outTo r.tile
        r.f.slot r.f.x.tag 0 r.f.x.value (r.f.outCtl tyUint64 false false) := by
  simp [State.storeWord, hw]

variable (hq : (s.hb u).iq = r :: l)
  (h1 : ((s.updHb u (fun h => { h with iq := l })).iAck u r).iRead (s.stateWordOf r) es = (.ok, s1))
include hq h1

section Fetch
variable (hr : r.store = false)
include hr

theorem iExec_answers (hw : fld (s1.rd64 (s.stateWordOf r)) 63 62 = 1) (h2 : s1.iRead (s.dataWordOf r) ed = (.ok, s2)) :
    s.iExec u false es ed = s2.answerReader u (plainDest (sDest r.f.slot 0)) r.rtag (s2.rd64 (s.dataWordOf r))
      (mkCtl (fld (s1.rd64 (s.stateWordOf r)) 51 48) false false false false) := by
  simp [State.iExec, hq, h1, hr, hw, h2]

theorem iExec_defers (hw : fld (s1.rd64 (s.stateWordOf r)) 63 62 = 0 ∨ fld (s1.rd64 (s.stateWordOf r)) 63 62 = 2) :
    s.iExec u false es ed = s1.deferReader u r (s.stateWordOf r) (s1.rd64 (s.stateWordOf r)) := by
  rcases hw with hw | hw
  · simp [State.iExec, hq, h1, hr, hw]
  · simp [State.iExec, hq, h1, hr, hw]

end Fetch

section Store
variable (hr : r.store = true)
include hr

theorem iExec_writes (hw : fld (s1.rd64 (s.stateWordOf r)) 63 62 = 0) (h2 : s1.iRead (s.dataWordOf r) ed = (.ok, s2)) :
    s.iExec u true es ed = s2.storeWord u r (s.dataWordOf r) (s.stateWordOf r) (s1.rd64 (s.stateWordOf r)) := by
  simp [State.iExec, hq, h1, hr, hw, h2]

theorem iExec_rejects (hw : fld (s1.rd64 (s.stateWordOf r)) 63 62 = 1) :
    s.iExec u true es ed =
      s1.excToken r.tile r.f.x (r.f.y.getD (0, 0)).1 (excCtl r.f.x (cType (r.f.y.getD (0, 0)).2) false) := by
  simp [State.iExec, hq, h1, hr, hw]

end Store

end

/-! ## The end of a teardown (Table 4.7) -/

section
variable {s : State} {c : Nat} {td : Teardown}

/-- A teardown whose fence has completed frees its number; an abort then posts its record. -/
theorem teardownDone_ends (ht : (s.ctx c).teardown = some td) (hv : s.vn0Before td.upTo = false)
    (hx : s.tiles.any (fun e => e.2.executes c || e.2.arr.any (fun a => tCtx a.item.tok.tag == c && !a.item.flt)) = false)
    (hq : td.abort = false ∨ s.qmHolds c = false) :
    s.teardownDone c =
      let s1 := s.tiles.foldl (fun (s : State) e => s.purge e.1 c) s
      let s2 := (({ s1 with ctxTail := s1.ctxTail ++ [c] } : State).setCtxState c 0).updCtx c
        (fun x => { x with teardown := none })
      if td.abort then s2.qmPost (qmRecord c 1 2 0 td.gone (s.ctx c).lastAct s.now 0 td.reason) else s2 := by
  have hheld : (td.abort && s.qmHolds c) = false := by
    rcases hq with hq | hq
    · simp [hq]
    · simp [hq]
  simp only [State.teardownDone, ht, hv, hx, hheld, Bool.or_self, Bool.false_eq_true, if_false]

end

/-! ## The quiescence monitor (Table 4.5) -/

/-- The tile that a record names: the first on which an item of the context waits (Table 4.6). -/
def State.waitingTile (s : State) (c : Nat) : Nat :=
  match s.tiles.find? (fun e => decide (0 < e.2.waitingOf c)) with
  | some e => e.1
  | none => 0

section
variable {s : State} {c : Nat} (hd : s.deadlocked c = true)
include hd

theorem deadlock_records (ha : fld (s.ctxW c 0) 18 16 = 0) :
    s.deadlock c = (s.updCtx c (fun x => { x with detected := true })).qmPost (qmRecord c 0 0
      (s.waitingTile c)
      (s.waitingOf c) (s.ctx c).lastAct s.now 0 0) := by
  simp [State.deadlock, hd, ha]
  rfl

theorem deadlock_aborts (hc : 0 < c) (ha : fld (s.ctxW c 0) 18 16 = 2) :
    s.deadlock c = ((s.updCtx c (fun x => { x with detected := true })).abortCtx c 0).qmPost (qmRecord c 0 2
      (s.waitingTile c)
      (s.waitingOf c) (s.ctx c).lastAct s.now 0 0) := by
  simp [State.deadlock, hd, ha, Nat.ne_of_gt hc]
  rfl

end

theorem qmDrain_posts {s s1 : State} {ws : List Word} {r : List (List Word)} (hh : s.qmHeld = ws :: r)
    (hp : s.ringPush qmRing ws = (true, s1)) :
    s.qmDrain = ({ s1 with qmHeld := r } : State).pageInt (pageAt .glb 0) 0 := by
  simp only [State.qmDrain, hh, hp]

end Sys2Proof.Machine
end

section
/-! PROOF. The obligations of the family of tokens and graph images. -/

open Sys2Proof Sys2Proof.Machine

/-- Settles O7: each row has the effect of the firing in stage 4; LOOP_HEAD has that of its row of Table 4.1, and CTX that of its
turn for a context number. -/
theorem peLoopsAndContextsComplete : Obligations.PeLoopsAndContextsComplete := by
  unfold Obligations.PeLoopsAndContextsComplete
  intro s t p f h s1 x c i go loop passes stray fresh made opens frees
  refine ⟨fun hop => ?iterGet, fun hop => ?tagGet, fun hop ha => ?again, fun e hop ha hl he hn => ?passes,
    fun e hop ha hl he hn => ?holds, fun hop ha hl he hr hk => ?begins, fun hop ha hl he hr hk => ?beginsShut,
    fun hop ha hl he hr => ?full, fun e q r hop ha hl he hn hh => ?releases, fun e hop ha hl he hh hn => ?returns,
    fun e hop ha hl he hh hn => ?ends, fun e hop ha hl he hn => ?strayEmpty, fun hop ha hl he => ?stray, fun hop => ?tail,
    fun c s2 hop hi hq hc => ?ctxOpens, fun hop hi hw hr => ?ctxWaits, fun hop hi hr => ?ctxFull, fun hop hi => ?ctxTemplate,
    fun q r c s2 hq hc => ?grant, fun hop hb => ?freeOwn, fun hop hb hx => ?freeNamed, fun hop hb hx => ?freePoisoned,
    fun hop => ?ctxGet, fun hop => ?parentGet⟩
  case iterGet | tagGet | tail => exact h.row (opIn_of_eq hop) rfl
  case again => exact h.row (opIn_of_eq hop) (loopHead_again ha)
  case passes => exact h.row (opIn_of_eq hop) (loopHead_passes ha hl he hn)
  case holds => exact h.row (opIn_of_eq hop) (loopHead_holds ha hl he hn)
  case begins => exact h.row (opIn_of_eq hop) (loopHead_begins ha hl he hr hk)
  case beginsShut => exact h.row (opIn_of_eq hop) (loopHead_begins_shut ha hl he hr hk)
  case full => exact h.row (opIn_of_eq hop) (loopHead_full ha hl he hop hr)
  case releases => exact h.row (opIn_of_eq hop) (loopHead_releases ha hl he hn hh)
  case returns => exact h.row (opIn_of_eq hop) (loopHead_returns ha hl he hh hn)
  case ends => exact h.row (opIn_of_eq hop) (loopHead_ends ha hl he hh hn)
  case strayEmpty => exact h.row (opIn_of_eq hop) (loopHead_stray_empty ha hl he hn)
  case stray => exact h.row (opIn_of_eq hop) (loopHead_stray ha hl he)
  case ctxOpens => exact h.row (opIn_of_eq hop) (ctxOp_opens hi hq hc)
  case ctxWaits => exact h.row (opIn_of_eq hop) (ctxOp_waits hi hw hr)
  case ctxFull => exact h.row (opIn_of_eq hop) (ctxOp_full hi hr)
  case ctxTemplate => exact h.row (opIn_of_eq hop) (ctxOp_badTemplate hop hi)
  case grant =>
    rw [exec_ctxQueueGrant, execCtxQueueGrant, act_live h.porst]
    simp only [hq, hc]
    rfl
  case freeOwn => exact h.row (opIn_of_eq hop) (if_neg (Bool.eq_false_iff.mp hb))
  case freeNamed => exact h.row (opIn_of_eq hop) ((if_pos hb).trans (if_neg (Bool.eq_false_iff.mp hx)))
  case freePoisoned => exact h.row (opIn_of_eq hop) ((if_pos hb).trans (if_pos hx))
  case ctxGet => exact h.row (by rw [hop]; decide) (by rw [if_pos hop])
  case parentGet => exact h.row (by rw [hop]; decide) (by rw [if_neg (by rw [hop]; decide)])

/-- Settles O8: each row has the effect of the firing in stage 4, the ordered classes that of a firing that is not ordered. -/
theorem peMemoryAndEventsComplete : Obligations.PeMemoryAndEventsComplete := by
  unfold Obligations.PeMemoryAndEventsComplete
  intro s t p f h s1 x c i size data stateWord a inHbm named queued req word free go stays
  refine ⟨fun hop hn hb hx hi hr => ?fetch, fun hop hn hb hx hi hr => ?fetchRegion, fun hop hn hb hx hi => ?fetchOutside,
    fun hop hn hx => ?fetchPoisoned, fun hop hn => ?fetchNone, fun hop hx hi hr => ?istore, fun hop hx hi hr => ?istoreRegion,
    fun hop hx hi => ?istoreOutside, fun hop hx => ?istorePoisoned, fun u hop hn hb hx ha hu => ?load,
    fun hop hn hx ha => ?loadAddress, fun hop hn hx => ?loadPoisoned, fun hop hn => ?loadNone, fun u hop ho hx ha hu => ?store,
    fun hop ho hx ha => ?storeAddress, fun hop ho hx => ?storePoisoned, fun hop => ?time, fun hop hx => ?twaitPasses,
    fun hop hx hn hr => ?twaitHolds, fun hop hx hn hr => ?twaitFull, fun w r hw hn => ?twaitRelease,
    fun s2 hop ho hx hs => ?event, fun s2 hop ho hx hs => ?eventWaits, fun hop ho hx => ?eventPoisoned,
    fun g s2 hop ho hm hu hs => ?emit, fun g hop ho hm hu => ?emitWaits, fun hop ho hm => ?emitUnmapped,
    fun s2 hop ho hx hs => ?send, fun hop ho hx => ?sendPoisoned⟩
  case fetch => exact h.ifetch hop hn hb hx (isIssue_queues hi hr.1 hr.2)
  case fetchRegion => exact h.ifetch hop hn hb hx (isIssue_notHbm hi hr)
  case fetchOutside => exact h.ifetch hop hn hb hx (isIssue_outside hi)
  case fetchPoisoned => exact h.row (opIn_of_eq hop) ((if_neg (Bool.eq_false_iff.mp hn)).trans (if_pos hx))
  case fetchNone => exact h.row (opIn_of_eq hop) (if_pos hn)
  case istore => exact h.istore hop hx (isIssue_queues hi hr.1 hr.2)
  case istoreRegion => exact h.istore hop hx (isIssue_notHbm hi hr)
  case istoreOutside => exact h.istore hop hx (isIssue_outside hi)
  case istorePoisoned => exact h.row (opIn_of_eq hop) (if_pos hx)
  case load => exact h.row (opIn_of_eq hop) (loadOp_sends hn hb hx ha hu)
  case loadAddress => exact h.row (opIn_of_eq hop) (loadOp_address hn hop hx ha)
  case loadPoisoned => exact h.row (opIn_of_eq hop) (loadOp_poisoned hn hop hx)
  case loadNone => exact h.row (opIn_of_eq hop) (loadOp_none hn)
  case store => exact h.side ho (opIn_of_eq hop) hx (congrArg some (storeOp_sends ha hu))
  case storeAddress => exact h.side ho (opIn_of_eq hop) hx (congrArg some (storeOp_address hop ha))
  case storePoisoned => exact h.side_poisoned ho hop rfl hx
  case time => exact h.row (opIn_of_eq hop) rfl
  case twaitPasses => exact execTwait_passes h hop hx
  case twaitHolds => exact execTwait_holds h hop hx hn hr
  case twaitFull => exact execTwait_full h hop hx hn hr
  case twaitRelease =>
    rw [exec_twaitRelease, execTwaitRelease, actOn_live h.porst (decide_eq_true h.tile)]
    simp only [hw, takeFirst, decide_eq_true hn, if_true]
  case event => exact h.side ho (opIn_of_eq hop) hx (by rw [show ((s.taken t p).dueCount t f).inject .. = _ from hs]; rfl)
  case eventWaits => exact h.side_waits ho (opIn_of_eq hop) hx (by rw [show ((s.taken t p).dueCount t f).inject .. = _ from hs])
  case eventPoisoned => exact h.side_poisoned ho hop rfl hx
  case emit => exact h.side ho (opIn_of_eq hop) rfl ((emitOp_sends hm hu).trans hs)
  case emitWaits => exact h.side_waits ho (opIn_of_eq hop) rfl (emitOp_waits hm hu)
  case emitUnmapped => exact h.side ho (opIn_of_eq hop) rfl (emitOp_unmapped hm)
  case send => exact h.side ho (opIn_of_eq hop) hx hs
  case sendPoisoned => exact h.side_poisoned ho hop rfl hx

/-- Settles O10: each command of the controller, under the conditions that it names, does what its operation does there; the
reads of the matching store meet no error but the one that the scrubber names. -/
theorem tileControllerComplete : Obligations.TileControllerComplete := by
  unfold Obligations.TileControllerComplete
  intro s t p hs ht hp was armed
  have hT := decide_eq_true ht
  have hP := decide_eq_true (And.intro ht hp)
  refine ⟨fun src a rest hf ha hb hy hc hch => ⟨fun hr => ?enters, fun hr hsp => ?full⟩,
    fun src a rest hf ha hb hy hx hc => ?diverts, fun a rest s1 ha hon hd hu hw => ?chains,
    fun a rest ha hw hc hr hf => ?delayed, fun q r hc hr hw => ?refill, fun k since pe q rest hw hk hn hm => ?spill,
    fun n s1 hw hn hu hm => ?grantArrival, fun w rest s2 hw hn hg hl hd hm => ?grantToken,
    fun a ha h0 hd hl hb => ?stall, fun hd => ⟨fun he h0 hn hw => ?trigger, fun hn => ?window⟩,
    fun hn hb hk => ⟨fun h => ?sweepGoes, fun e l s1 h hu hl => ?sweepLast, fun e l s1 h hu hl => ?sweepMoves⟩,
    fun hb hk hh => ?sweepEnds, fun ovf n way hn => ?scrubClean,
    fun ovf n v flips hn hv => ⟨fun hn1 => ?scrubCorrected, fun hkey hn1 => ?scrubLost⟩,
    fun e r hb hr hl hu hbad hlast hm => ?load, fun w hw => ?ready⟩
  case enters => exact (exec_tokenEnterTile ..).trans (actOn_gives hs hT (enterTile_enters hf ha hb hy hc (enterPe_queue hch hr)))
  case full => exact (exec_tokenEnterTile ..).trans (actOn_gives hs hT (enterTile_full hf ha hb hy hc (enterPe_full hch hr hsp)))
  case diverts => exact (exec_tokenEnterTile ..).trans (actOn_gives hs hT (enterTile_diverts hf ha hb hy hx hc))
  case chains => exact (exec_spillDelayExpire ..).trans (actOn_gives hs hP (spillDelay_chains ha hon hd hu hw))
  case delayed => exact (exec_spillDelayExpire ..).trans (actOn_gives hs hP (spillDelay_enters ha hw hc hr hf))
  case refill => exact (exec_queueChainRefill ..).trans (engOn_gives hs hw hP (refill_moves hc hr))
  case spill => exact (exec_spillAccessComplete ..).trans (engOn_gives hs hm hT (spillDone_single hw hk rfl hn))
  case grantArrival => exact (exec_spillBucketGrant ..).trans (engOn_gives hs hm hT (bucketGrant_arrival hw hn hu))
  case grantToken =>
    exact (exec_spillBucketGrant ..).trans (engOn_gives hs hm hT (bucketGrant_token hw hn (serveWait_matches hg hl hd)))
  case stall => exact (exec_fabricStall ..).trans (actOn_gives hs hT (fabricStall_raises ha h0 hd hl hb))
  case trigger => exact (exec_conflictWindowEnd ..).trans (actOn_gives hs hT (windowEnd_eq hd (rotCheck_triggers he h0 hn hw)))
  case window => exact (exec_conflictWindowEnd ..).trans (actOn_gives hs hT (windowEnd_eq hd (rotCheck_quiet hn)))
  case sweepGoes => exact (exec_sweepMove ..).trans (actOn_gives hs hT (sweepMove_goes hn hb hk h))
  case sweepLast => exact (exec_sweepMove ..).trans (actOn_gives hs hT (sweepMove_last hn hb hk h hu hl))
  case sweepMoves => exact (exec_sweepMove ..).trans (actOn_gives hs hT (sweepMove_moves hn hb hk h hu hl))
  case sweepEnds => exact (exec_sweepComplete ..).trans (actOn_gives hs hT (sweepDone_ends hb hk hh))
  case scrubClean => exact (exec_msScrub ..).trans (execMsScrub_clean hs ht hn)
  case scrubCorrected => exact (exec_msScrub ..).trans (execMsScrub_single hs ht hn hv rfl hn1)
  case scrubLost => exact (exec_msScrub ..).trans (execMsScrub_single hs ht hn hv (msError_single hkey) hn1)
  case load =>
    exact (exec_tileLoadEntry ..).trans
      (execTileLoadEntry_reads hs hm ht hb hr (loadEntry_stores hl hb rfl rfl hu hbad hlast))
  case ready => exact (exec_spillReady ..).trans (actOn_gives hs hT (spillReady_formats hw))

/-- Settles O11: a controller executes its oldest request by the STATE of its word; the monitor, a teardown's end and a returned
credit do what their operation does under the conditions named. -/
theorem controllerAndMonitorComplete : Obligations.ControllerAndMonitorComplete := by
  unfold Obligations.ControllerAndMonitorComplete
  intro s hs
  refine ⟨fun u r l es ed s1 s2 hu hon hq h1 =>
      ⟨fun hr hw h2 => ?answers, fun hr hw => ?defers, fun hr hw h2 => ?writes, fun hr hw => ?rejects⟩,
    fun c td hc ht hv hx hq => ⟨fun ha => ?frees, fun ha => ?abortDone⟩, fun c hc hd ha => ?records,
    fun c h0 hc hd ha => ?aborts, fun ws r s1 hh hp hw => ?posts, fun t h ht hh hr => ?credit⟩
  case answers => exact (exec_iFetchRequest ..).trans (actOn_gives hs (by simp [hu, hon]) (iExec_answers hq h1 hr hw h2))
  case defers => exact (exec_iFetchRequest ..).trans (actOn_gives hs (by simp [hu, hon]) (iExec_defers hq h1 hr hw))
  case writes =>
    exact (exec_iStoreRequest ..).trans (actOn_gives hs (by simp [hu, hon])
      ((iExec_writes hq h1 hr hw h2).trans (storeWord_empty hw)))
  case rejects => exact (exec_iStoreRequest ..).trans (actOn_gives hs (by simp [hu, hon]) (iExec_rejects hq h1 hr hw))
  case frees =>
    exact (exec_teardownComplete ..).trans (actOn_gives hs (decide_eq_true hc)
      ((teardownDone_ends ht hv hx hq).trans (if_neg (Bool.eq_false_iff.mp ha))))
  case abortDone =>
    exact (exec_teardownComplete ..).trans (actOn_gives hs (decide_eq_true hc)
      ((teardownDone_ends ht hv hx hq).trans (if_pos ha)))
  case records => exact (exec_deadlockDetect ..).trans (actOn_gives hs (decide_eq_true hc) (deadlock_records hd ha))
  case aborts => exact (exec_deadlockDetect ..).trans (actOn_gives hs (decide_eq_true hc) (deadlock_aborts hd h0 ha))
  case posts => exact (exec_qmRecordPost ..).trans (engOn_gives hs hw rfl (qmDrain_posts hh hp))
  case credit => exact (exec_emitCreditReturn ..).trans (actOn_gives hs (decide_eq_true ⟨ht, hh⟩) (if_pos hr))

end

section
/-! PROOF. Rows of the PEs that send what the firing in stage 4 computes (R77, R79, R82, R138). -/

namespace Sys2Proof.Machine

section
variable {s : State} {t p op : Nat} {f : Firing} {g : Nat → Bool} (h : s.Fires t p f) (hop : sOp f.slot = op) (hg : g op = true)
include h hop hg

/-- A row of integers sends its opcode's result to both destinations. -/
theorem State.Fires.int {ty : Firing → Nat} {r : Nat → Firing → Word} {v : Word} (hr : r op f = v) :
    actOn (peOk t p) s (fun s => s.intOp t p g ty r) = .next ((s.taken t p).outBoth t f v (ty f)).settle :=
  h.row (hop ▸ hg) (by rw [hop, hr])

/-- A row of IEEE 754 sends its opcode's result to both destinations, or raises the exception that the context enables. -/
theorem State.Fires.flt {ty : Firing → Nat} {r : FEnv → Nat → Firing → Nat × Nat} {v : Nat × Nat}
    (hr : r ((s.taken t p).peEnv (tCtx f.x.tag)) op f = v) :
    actOn (peOk t p) s (fun s => s.fltOp t p g ty r) =
      .next (if v.2 &&& fld ((s.taken t p).ctxW (tCtx f.x.tag) 4) 4 0 ≠ 0 ∧ sFlag f.slot 4 = false ∧ f.any cPoison = false then
        (s.taken t p).exc84 t f.x (sOp f.slot) .ieee v.2
      else (s.taken t p).outBoth t f (BitVec.ofNat 64 v.1) (ty f)).settle :=
  h.row (hop ▸ hg) (by subst hop hr; simp only [Bool.not_eq_true'])

end

/-- The result of a comparison as a number, inverted by INV (R79). -/
theorem b2n_bne (b inv : Bool) : b2n (b != inv) = if b = inv then 0 else 1 := by
  cases b <;> cases inv <;> rfl

theorem ofNat_b2n_bne (b inv : Bool) : BitVec.ofNat 64 (b2n (b != inv)) = if b = inv then 0 else 1 := by
  cases b <;> cases inv <;> rfl

/-- The lesser of two operands is the left one where it is less. -/
theorem pick_min (less : Bool) (x y : Word) : (if less == true then x else y) = if less then x else y := by
  cases less <;> rfl

/-- The greater of two operands is the right one where the left is less. -/
theorem pick_max (less : Bool) (x y : Word) : (if less == false then x else y) = if less then y else x := by
  cases less <;> rfl

section
variable {s : State} {t p : Nat} {f : Firing}

theorem execSteer_poisoned (h : s.Fires t p f) (hop : sOp f.slot = 6) (hy : f.yPoison = true) :
    execSteer t p s = .next ((s.taken t p).exc84 t f.x 6 .poisoned).settle :=
  h.row (opIn_of_eq hop) (if_pos hy)

/-- STEER chooses its destination by y ≠ 0 and INV. -/
theorem execSteer_sends {i : Nat} (h : s.Fires t p f) (hop : sOp f.slot = 6) (hy : f.yPoison = false)
    (hi : (if (f.yv != 0) != sFlag f.slot 2 then 0 else 1) = i) :
    execSteer t p s =
      .next ((s.taken t p).outTo t f.slot f.x.tag i f.x.value (f.outCtl (cType f.x.ctl) false false)).settle := by
  subst hi
  exact h.row (opIn_of_eq hop) (if_neg (Bool.eq_false_iff.mp hy))

theorem execDaddDsub_decimal {sub : Bool} (h : s.Fires t p f) (hg : opIn 0x300 0x301 (sOp f.slot) = true)
    (hs : (sOp f.slot == 0x301) = sub) (hx : decOk f.xn = true) (hy : decOk f.yn = true) :
    execDaddDsub t p s = .next ((s.taken t p).outBoth t f (BitVec.ofNat 64 (decAdd sub f.xn f.yn)) tyDec).settle := by
  subst hs
  exact h.row hg (if_pos (by rw [hx, hy]; rfl))

theorem execDaddDsub_invalid (h : s.Fires t p f) (hg : opIn 0x300 0x301 (sOp f.slot) = true)
    (hd : (decOk f.xn && decOk f.yn) = false) :
    execDaddDsub t p s = .next ((s.taken t p).outBoth t f f.x.value tyDec true).settle :=
  h.row hg (if_neg (Bool.eq_false_iff.mp hd))

end

end Sys2Proof.Machine
end

section
/-! PROOF. A firing whose output leaves over a pack link (R505). -/

namespace Sys2Proof.Machine

/-- A COPY whose destination 0 is on device 1 and whose destination 1 is none. -/
def packCopy : Firing where
  x := ⟨0, 0, 0, 0⟩
  y := none
  slot := BitVec.ofNat 128 (2 ^ 116 + 2 ^ 30 * 2 ^ 64 + 0xF0 * 2 ^ 24)

/-- That firing is in stage 4 of a PE; PACK_RT sends tokens for device 1 to port 0, a Bamior link that is UP and has credit for a
token. Time-out clocks pause although nothing waits for a wake, so that the state tells whether anything went on by itself. -/
def packReady : State :=
  ((({ State.reset with
        porst := false, packRt := [(1, 128)], links := [(0, { tcredit := 1 })], wakeSince := some 0 } : State).putB
      (pageAt .port 0 + R.portLnkCtl) 1 true).putF (pageAt .port 0 + R.portLnkStat) 2 0 4).updPe 0 0 (fun e =>
    { e with ex := [packCopy] })

/-- `packReady` once the firing has sent its output. -/
def packSent : State := (packReady.taken 0 0).outBoth 0 packCopy packCopy.x.value (cType packCopy.x.ctl)

theorem packReady_fires : packReady.Fires 0 0 packCopy where
  porst := rfl
  tile := by decide
  pe := by decide
  head := by decide +kernel
  types := by decide +kernel

theorem packSent_settle : packSent.settle = packSent := if_pos (by decide +kernel)

theorem packSent_not_pauseHeld : ¬ packSent.PauseHeld := by
  unfold State.PauseHeld
  decide +kernel

/-- The TOKEN message waits in the port for its block times (R480). -/
theorem packSent_ports : packSent.ports ≠ packReady.ports := by decide +kernel

end Sys2Proof.Machine
end

section
/-! PROOF. What the match mode of a slot makes of a token that begins (R81, R92 to R100, R580). -/

namespace Sys2Proof.Machine

/-! ## A token that begins -/

/-- Taking its head item leaves the node slots of a PE. -/
theorem PeSt.popHead_nodes (e : PeSt) : e.popHead.nodes = e.nodes := by
  unfold PeSt.popHead
  split <;> rfl

theorem State.slotOf_popHead (s : State) (t p : Nat) (q : QItem) :
    (s.updPe t p PeSt.popHead).slotOf t p q = s.slotOf t p q := by
  simp [State.slotOf, State.updPe, State.updTile, State.tile, Tile.updPe, Tile.pe, PeSt.popHead_nodes]

section
variable {s : State} {t p : Nat} {w : BitVec 128} {q : QItem} (ha : ¬ s.f (tp t + R.pgErrInj) 47 32 ≠ 0)
  (hn : s.needsSpill t (slotKey w p q.tok) = false)
include ha

theorem walkCheck_clean : s.walkCheck t {} = s := msCheck_clean ha msMeets_default rfl _ _

include hn

/-- A token whose key waits for nothing is matched at once, its read meeting no error. -/
theorem stage3_matches (hk : (s.tile t).inflight.any (fun e => e.key == slotKey w p q.tok) = false) :
    s.stage3 t p w q {} = s.matchDone t p w q := by
  unfold State.stage3
  split
  · rfl
  · change (s.tile t).inflight.any (fun e => e.key == itemKey p w q) = false at hk
    change s.needsSpill t (itemKey p w q) = false at hn
    simp only [hk, walkCheck_clean ha, lookCheck_clean ha, ite_self, hn, Bool.false_eq_true, if_false]

end

section
variable {s0 s : State} {t p : Nat} {w : BitVec 128} {q : QItem} (h : s0.Begins t p q w s)
include h

/-- A token that begins without a fault is matched by the mode of its slot. -/
theorem State.Begins.matches : s0.beginToken t p .clean {} = s.matchDone t p w q := by
  obtain ⟨hflt, hagain⟩ := h.live
  obtain ⟨hw, hop, hfail, hres, hmode⟩ := h.op
  have hslot : s.slotOf t p q = w := by rw [h.takes, State.slotOf_popHead, h.node]
  have hctx : s.ctxState (tCtx q.tok.tag) = 1 := by rw [h.takes]; exact h.active
  have hinj : ¬ s.f (tp t + R.pgErrInj) 47 32 ≠ 0 := not_not.mpr h.inj
  have hbegin : s0.beginToken t p .clean {} = s.beginItem t p q .clean {} := by
    simp only [State.beginToken, h.ready, h.head, h.room, h.takes, if_true, Bool.false_eq_true, if_false]
  rw [hbegin, ← stage3_matches hinj h.onDie h.alone]
  have hempty : (decide (w = 0) || decide (sOp w = 0)) = false := by simp only [hw, hop, decide_false, Bool.or_false]
  simp only [State.beginItem, hctx, injected_unarmed hinj, injEcc, hslot, hempty, hfail, hres, hmode, hagain, ne_eq,
    not_true_eq_false, decide_false, Bool.and_false, Bool.false_and, Bool.false_eq_true, if_false]

/-- The tile and the PE of a token that begins exist. -/
theorem State.Begins.ok : peOk t p = true := by simp [peOk, h.tile, h.pe]

theorem State.Begins.tokenMatch {u : State} (hd : s.matchDone t p w q = u) :
    execTokenMatch t p .clean {} s0 = .next u.settle :=
  actOn_gives h.porst h.ok (h.matches.trans hd)

/-- A row for head items that `g` selects begins such an item. -/
theorem State.Begins.row {g : BitVec 128 → Token → Bool} {u : State} (hg : g w q.tok = true)
    (hd : s.matchDone t p w q = u) :
    actOn (peOk t p) s0 (fun s => if s.headIs t p g then s.beginToken t p .clean {} else s) = .next u.settle := by
  have hhead : s0.headIs t p g = true := by simp [State.headIs, h.head, h.live.2, h.node, hg]
  exact actOn_gives h.porst h.ok ((if_pos hhead).trans (h.matches.trans hd))

end

/-! ## The outcome of a match -/

/-- A token is stored as the entry `e`, or waits where no bucket is free for it (R112). -/
def State.storeEntry (s : State) (t : Nat) (e : MsEntry) : MatchRes :=
  match s.msInsert t e with
  | some s1 => .done s1
  | none => .waits

/-- A firing that a match forms is not bound for a fault node of itself. -/
theorem mkFiring_flt (w : BitVec 128) (x : Token) (r : Option (Word × Byte)) : (mkFiring w x r).flt = false := by
  unfold mkFiring
  dsimp only
  split
  · split <;> rfl
  · rfl

section
variable {s0 s s1 : State} {t p : Nat} {w : BitVec 128} {q : QItem}

theorem matchDone_done (hm : s.matchMode t p w q = .done s1) :
    s.matchDone t p w q = s1.fired t (tCtx q.tok.tag) := by simp only [State.matchDone, hm]

theorem matchDone_away (hm : s.matchMode t p w q = .away s1) : s.matchDone t p w q = s1 := by
  simp only [State.matchDone, hm]

variable (h : s0.Begins t p q w s)
include h

/-- A token that completes a firing: it goes on to stage 4. -/
theorem State.Begins.fires {l : Token} {r : Option (Word × Byte)} (hm : s.matchMode t p w q = .fires s1 (mkFiring w l r)) :
    s.matchDone t p w q = s1.pass3 t p (mkFiring w l r) := by
  have hflt : ({ mkFiring w l r with flt := q.flt } : Firing) = mkFiring w l r := by rw [h.live.1, ← mkFiring_flt w l r]
  simp only [State.matchDone, hm, hflt]

/-- A token that finds an entry of a KIND that its mode does not use goes to the fault node (R580). -/
theorem State.Begins.mismatched (hm : s.matchMode t p w q = .away (s.kindMismatch t q)) :
    s.matchDone t p w q = (s.divert t q.tok false).fault (tp t) .config := by
  rw [matchDone_away hm, State.kindMismatch, h.live.1]

end

/-! ## The match modes (Table 3.5) -/

theorem msKey_slotKey (w : BitVec 128) (p : Nat) (x : Token) :
    msKey p (dNode x.dest) x.tag (sMode w == 2 || sMode w == 3) = slotKey w p x := rfl

/-- The entry in which a token waits for its partner. -/
def waitEntry (w : BitVec 128) (p : Nat) (x : Token) : MsEntry :=
  { key := slotKey w p x, kind := .wait, side := dSide x.dest, gen := false, count := 0, ctl := x.ctl, value := x.value,
    place := .set 0 }

section
variable {s : State} {t p : Nat} {w : BitVec 128} {q : QItem} {e : MsEntry}

theorem matchMode_monadic (hm : sMode w = 0) : s.matchMode t p w q = .fires s (mkFiring w q.tok none) := by
  simp only [State.matchMode, hm]

section Dyadic
variable (hm : sMode w = 1)
include hm

theorem matchMode_dyadic_first (he : (s.tile t).entry (slotKey w p q.tok) = none) :
    s.matchMode t p w q = s.storeEntry t (waitEntry w p q.tok) := by
  simp only [State.matchMode, msKey_slotKey, he]
  simp only [hm]
  rfl

variable (he : (s.tile t).entry (slotKey w p q.tok) = some e)
include he

theorem matchMode_dyadic_wrong (hk : e.kind ≠ .wait) : s.matchMode t p w q = .away (s.kindMismatch t q) := by
  simp only [State.matchMode, msKey_slotKey, he]
  simp [hm, hk]

theorem matchMode_dyadic_twice (hk : e.kind = .wait) (hs : e.side = dSide q.tok.dest) (hf : q.flt = false) :
    s.matchMode t p w q = .away ((s.divert t q.tok false).inc (tp t + R.tileMsEvt) 47 32) := by
  simp only [State.matchMode, msKey_slotKey, he]
  simp [hm, hk, hs, hf]

theorem matchMode_dyadic_left (hk : e.kind = .wait) (hs : e.side = true) (hx : dSide q.tok.dest = false) :
    s.matchMode t p w q =
      .fires (s.msRemove t (slotKey w p q.tok)) (mkFiring w q.tok (some (e.value, e.ctl))) := by
  simp only [State.matchMode, msKey_slotKey, he]
  simp [hm, hk, hs, hx]

theorem matchMode_dyadic_right (hk : e.kind = .wait) (hs : e.side = false) (hx : dSide q.tok.dest = true) :
    s.matchMode t p w q = .fires (s.msRemove t (slotKey w p q.tok))
      (mkFiring w { q.tok with value := e.value, ctl := e.ctl } (some (q.tok.value, q.tok.ctl))) := by
  simp only [State.matchMode, msKey_slotKey, he]
  simp [hm, hk, hs, hx]

end Dyadic

section Sticky
variable (hm : sMode w = 2)
include hm

theorem matchMode_sticky_left_first (hx : dSide q.tok.dest = false) (he : (s.tile t).entry (slotKey w p q.tok) = none) :
    s.matchMode t p w q = s.holdPending t (slotKey w p q.tok) q (waitEntry w p q.tok) := by
  simp only [State.matchMode, msKey_slotKey, he]
  simp [hm, hx, waitEntry]

theorem matchMode_sticky_right_first (hx : dSide q.tok.dest = true) (hc : ctrlCode q.tok ≠ some 2)
    (he : (s.tile t).entry (slotKey w p q.tok) = none) :
    s.matchMode t p w q = s.storeEntry t { waitEntry w p q.tok with kind := .sticky } := by
  simp only [State.matchMode, msKey_slotKey, he]
  simp [hm, hx, hc, waitEntry]
  rfl

variable (he : (s.tile t).entry (slotKey w p q.tok) = some e)
include he

theorem matchMode_sticky_wrong (hs : e.kind ≠ .sticky) (hp : e.kind ≠ .pending) :
    s.matchMode t p w q = .away (s.kindMismatch t q) := by
  simp only [State.matchMode, msKey_slotKey, he]
  simp [hm, hs, hp]

theorem matchMode_sticky_left (hx : dSide q.tok.dest = false) (hs : e.kind = .sticky) :
    s.matchMode t p w q = .fires s (mkFiring w q.tok (some (e.value, e.ctl))) := by
  simp only [State.matchMode, msKey_slotKey, he]
  simp [hm, hx, hs]

theorem matchMode_sticky_left_pending (hx : dSide q.tok.dest = false) (hp : e.kind = .pending) :
    s.matchMode t p w q = s.holdPending t (slotKey w p q.tok) q (waitEntry w p q.tok) := by
  simp only [State.matchMode, msKey_slotKey, he]
  simp [hm, hx, hp, waitEntry]

theorem matchMode_sticky_right (hx : dSide q.tok.dest = true) (hc : ctrlCode q.tok ≠ some 2)
    (hk : e.kind = .sticky ∨ e.kind = .pending) :
    s.matchMode t p w q = .done (s.unpend t p e e.held.length
      (fun b => { b with kind := .sticky, side := true, ctl := q.tok.ctl, value := q.tok.value })) := by
  simp only [State.matchMode, msKey_slotKey, he]
  rcases hk with hk | hk <;> simp [hm, hx, hc, hk]

theorem matchMode_sticky_flush (hx : dSide q.tok.dest = true) (hc : ctrlCode q.tok = some 2) (hs : e.kind = .sticky) :
    s.matchMode t p w q = .done (s.msRemove t (slotKey w p q.tok)) := by
  simp only [State.matchMode, msKey_slotKey, he]
  simp [hm, hx, hc, hs]

end Sticky

section Gate
variable (hm : sMode w = 3)
include hm

theorem matchMode_gate_left_first (hx : dSide q.tok.dest = false) (he : (s.tile t).entry (slotKey w p q.tok) = none) :
    s.matchMode t p w q =
      s.holdPending t (slotKey w p q.tok) q { waitEntry w p q.tok with ctl := 0, value := 0 } := by
  simp only [State.matchMode, msKey_slotKey, he]
  simp [hm, hx, waitEntry]

variable (he : (s.tile t).entry (slotKey w p q.tok) = some e)
include he

theorem matchMode_gate_wrong (hg : e.kind ≠ .gate) (hp : e.kind ≠ .pending) :
    s.matchMode t p w q = .away (s.kindMismatch t q) := by
  simp only [State.matchMode, msKey_slotKey, he]
  simp [hm, hg, hp]

variable (hk : e.kind = .gate ∨ e.kind = .pending)
include hk

theorem matchMode_gate_left (hx : dSide q.tok.dest = false) (hn : e.count ≠ 0) :
    s.matchMode t p w q =
      .fires (s.unpend t p e 0 (fun b => { b with count := if b.count = 0xFFFFF then b.count else b.count - 1 }))
        (mkFiring w q.tok none) := by
  simp only [State.matchMode, msKey_slotKey, he]
  rcases hk with hk | hk <;> simp [hm, hx, hn, hk]

theorem matchMode_gate_left_shut (hx : dSide q.tok.dest = false) (hn : e.count = 0) :
    s.matchMode t p w q = s.holdPending t (slotKey w p q.tok) q (waitEntry w p q.tok) := by
  simp only [State.matchMode, msKey_slotKey, he]
  rcases hk with hk | hk <;> simp [hm, hx, hn, hk, waitEntry]

theorem matchMode_gate_open (hx : dSide q.tok.dest = true) (hc : ctrlCode q.tok = some 5) :
    s.matchMode t p w q =
      let arg := fld q.tok.value 63 32
      let credit := if arg = 0 then 0xFFFFF else min arg 1048574
      let n := if arg = 0 then e.held.length else min credit e.held.length
      .done (s.unpend t p e n (fun b =>
        { b with count := credit, kind := if n < e.held.length then .pending else .gate })) := by
  simp only [State.matchMode, msKey_slotKey, he]
  rcases hk with hk | hk <;> simp [hm, hx, hc, hk]

theorem matchMode_gate_close (hx : dSide q.tok.dest = true) (hc : ctrlCode q.tok = some 6) :
    s.matchMode t p w q = .done (s.unpend t p e 0 (fun b => { b with count := 0 })) := by
  simp only [State.matchMode, msKey_slotKey, he]
  rcases hk with hk | hk <;> simp [hm, hx, hc, hk]

end Gate

/-! ## REDUCE_COUNT, REDUCE_FLUSH and RESIDENT (R96 to R100) -/

theorem modeReduce_iff {m : Nat} : modeReduce m = true ↔ m = 4 ∨ m = 5 ∨ m = 6 := by
  simp only [modeReduce, Bool.and_eq_true, decide_eq_true_eq]
  omega

/-- The KIND of the entries that a reduce or resident mode uses. -/
def reduceKind (w : BitVec 128) : MsKind := if sMode w = 6 then .resident else .reduce

section Reduce
variable (hm : modeReduce (sMode w) = true)
include hm

/-- A FLUSH fires and releases what its key finds, if that is of the mode's KIND. -/
theorem matchMode_reduce_flush (hx : dSide q.tok.dest = true) (hc : ctrlCode q.tok = some 2)
    (he : ∀ e, (s.tile t).entry (slotKey w p q.tok) = some e → e.kind = reduceKind w) :
    s.matchMode t p w q = .done (s.flushKey t w (slotKey w p q.tok) q.tok) := by
  simp only [State.matchMode, msKey_slotKey]
  cases hf : (s.tile t).entry (slotKey w p q.tok) with
  | none => obtain hm | hm | hm := modeReduce_iff.mp hm <;> simp [hm, hx, hc]
  | some e =>
    have hk := he e hf
    obtain hm | hm | hm := modeReduce_iff.mp hm <;> simp [hm, hx, hc, hk, reduceKind]

theorem matchMode_reduce_flushAll (hx : dSide q.tok.dest = true) (hc : ctrlCode q.tok = some 3) :
    s.matchMode t p w q = .done ((s.flushNode t p (dNode q.tok.dest) (tCtx q.tok.tag) w).2.outTo t w q.tok.tag 0
      (BitVec.ofNat 64 (4 + (s.flushNode t p (dNode q.tok.dest) (tCtx q.tok.tag) w).1 * 2 ^ 32))
      (mkCtl tyCtrl (cPoison q.tok.ctl) false true (sFlag w 3))) := by
  obtain hm | hm | hm := modeReduce_iff.mp hm
  all_goals simp [State.matchMode, hm, hx, hc]

end Reduce

section Accumulate
variable (hm : sMode w = 5) (hx : dSide q.tok.dest = false) (ha : reduceAccepts (sOp w) (cType q.tok.ctl) = true)
include hm hx ha

/-- An accumulation into an entry of REDUCE_FLUSH, which no threshold fires. -/
theorem matchMode_reduce_next (he : (s.tile t).entry (slotKey w p q.tok) = some e) (hk : e.kind = .reduce) :
    s.matchMode t p w q = .done ((s.msUpd t (slotKey w p q.tok)
      (fun _ => reduceStep (sOp w) (s.peEnv (tCtx q.tok.tag)) e q.tok)).msRecall t (slotKey w p q.tok)) := by
  simp only [State.matchMode, msKey_slotKey, he]
  simp [hm, hx, ha, hk]

/-- The first token of an entry of REDUCE_FLUSH. -/
theorem matchMode_reduce_first (he : (s.tile t).entry (slotKey w p q.tok) = none) :
    s.matchMode t p w q = s.storeEntry t { waitEntry w p q.tok with
      kind := .reduce, count := 1, value := (reduceFirst (sOp w) q.tok.value (cType q.tok.ctl)).1,
      ctl := mkCtl (reduceFirst (sOp w) q.tok.value (cType q.tok.ctl)).2 (cPoison q.tok.ctl) false (cLast q.tok.ctl)
        (cOrd q.tok.ctl) } := by
  simp only [State.matchMode, msKey_slotKey, he]
  simp [hm, hx, ha, waitEntry]
  rfl

end Accumulate

theorem flushKey_found {k : Word} {x : Token} (he : (s.tile t).entry k = some e) :
    s.flushKey t w k x = (s.msRemove t k).reduceFire t w e true := by
  simp only [State.flushKey, he]

end

end Sys2Proof.Machine
end

section
/-! PROOF. The obligations of the family of firing and matching. -/

open Sys2Proof Sys2Proof.Machine

/-- Refutes O58: a COPY whose output goes to another device puts a TOKEN message in the port of its pack link (`packSent_ports`,
R505). No other state can stand for the one that the firing leaves, since nothing that goes on by itself leaves clocks paused for
nothing. -/
theorem not_firingFrame : ¬ Obligations.FiringFrame := by
  unfold Obligations.FiringFrame
  intro h
  obtain ⟨hcopy, -⟩ := h packReady 0 0 packCopy packReady_fires
  obtain ⟨u, hexec, -, -, -, -, hports, -⟩ := hcopy (by decide)
  have hsent : exec (.copy 0 0) packReady = .next packSent.settle := packReady_fires.int rfl rfl rfl
  have hsettle : u.settle = packSent := (Host.Outcome.next.inj (hexec.symm.trans hsent)).trans packSent_settle
  have hu : u = packSent := State.eq_of_settle hsettle packSent_not_pauseHeld
  exact packSent_ports (hu ▸ hports)

/-- Settles O1: each move has the effect of the firing in stage 4; STEER's destination is y's truth, exchanged by INV. -/
theorem peMovesComplete : Obligations.PeMovesComplete := by
  unfold Obligations.PeMovesComplete
  intro s t p f h s1
  refine ⟨fun hop => ?copy, fun hop => ?merge, fun hop => ?const, fun hop hi => ?retype, fun hop hi => ?retypeReserved,
    fun hop => ?ctrlgen, fun hop hy hv hi => ?steerTrue, fun hop hy hv hi => ?steerFalse, fun hop hy hv hi => ?steerTrueInv,
    fun hop hy hv hi => ?steerFalseInv, fun hop hy => ?steerPoisoned, fun hop => ?sink⟩
  case copy | merge | const | ctrlgen => exact h.int hop rfl rfl
  case retype => exact h.row (opIn_of_eq hop) (if_neg (Nat.not_lt.mpr hi))
  case retypeReserved => exact h.row (opIn_of_eq hop) (if_pos hi)
  case steerTrue | steerTrueInv => exact execSteer_sends h hop hy (by rw [bne_iff_ne.mpr hv, hi]; rfl)
  case steerFalse | steerFalseInv => exact execSteer_sends h hop hy (by rw [hv, hi]; rfl)
  case steerPoisoned => exact execSteer_poisoned h hop hy
  case sink => exact h.row (opIn_of_eq hop) rfl

/-- Settles O2: each integer row sends its opcode's value to both destinations. -/
theorem peIntegersComplete : Obligations.PeIntegersComplete := by
  unfold Obligations.PeIntegersComplete
  intro s t p f h s1 ty x y n
  refine ⟨fun hop => ?add, fun hop => ?sub, fun hop => ?mul, fun hop => ?mulhs, fun hop => ?mulhu, fun hop => ?divs,
    fun hop => ?divu, fun hop => ?rems, fun hop => ?remu, fun hop => ?neg, fun hop => ?abs, fun hop => ?mins, fun hop => ?maxs,
    fun hop => ?minu, fun hop => ?maxu, fun hop => ?and, fun hop => ?or, fun hop => ?xor, fun hop => ?andn, fun hop => ?not,
    fun hop => ?shl, fun hop => ?shr, fun hop => ?sar, fun hop => ?rol, fun hop => ?ror, fun hop => ?clz, fun hop => ?popc,
    fun hop => ?bfext, fun hop => ?bfins⟩
  case add | sub | mul | mulhs | mulhu | divs | divu | rems | remu | neg | and | or | xor | andn | not | shl | shr | sar | rol | ror
      | clz | popc | bfext | bfins => exact h.int hop rfl rfl
  case abs => exact h.int hop rfl (by simp [x])
  case mins | minu => exact h.int hop rfl (pick_min _ _ _)
  case maxs | maxu => exact h.int hop rfl (pick_max _ _ _)

/-- Settles O3: each IEEE 754 row sends its opcode's value to both destinations, or raises the exception that its context
enables. -/
theorem peFloatsComplete : Obligations.PeFloatsComplete := by
  unfold Obligations.PeFloatsComplete
  intro s t p f h s1 ty x y two env gives
  refine ⟨fun hop => ?fadd, fun hop => ?fsub, fun hop => ?fmul, fun hop => ?fdiv, fun hop => ?fsqrt, fun hop => ?fmin,
    fun hop => ?fmax, fun hop => ?fneg, fun hop => ?fabs, fun hop => ?fcvtIf, fun hop => ?fcvtFi, fun hop => ?fcvtDs,
    fun hop => ?fcvtSd⟩
  all_goals exact h.flt hop rfl rfl

/-- Settles O4: DADD and DSUB by whether both operands are decimal, and each comparison with its result inverted by INV. -/
theorem peDecimalAndComparesComplete : Obligations.PeDecimalAndComparesComplete := by
  unfold Obligations.PeDecimalAndComparesComplete
  intro s t p f h s1 x y inv yes rel
  refine ⟨fun hop hx hy => ?dadd, fun hop hx hy => ?dsub, fun hop hd => ?invalid, fun hop => ?eq, fun hop => ?ne, fun hop => ?lt,
    fun hop => ?le, fun hop => ?ltu, fun hop => ?leu, fun hop => ?feq, fun hop => ?flt, fun hop => ?fle, fun hop => ?funord⟩
  case dadd | dsub => exact execDaddDsub_decimal h (by rw [hop]; rfl) (by rw [hop]; rfl) hx hy
  case invalid =>
    refine execDaddDsub_invalid h ?_ hd
    rcases hop with hop | hop <;> rw [hop] <;> rfl
  case eq | ne | lt | le | ltu | leu => exact h.int hop rfl (ofNat_b2n_bne _ _)
  case feq | flt | fle | funord => exact h.flt hop rfl (by simp only [b2n_bne]; rfl)

/-- Settles O5: each mode has on a token the effect that its row of Table 3.5 gives for what the token's key finds. -/
theorem matchingComplete : Obligations.MatchingComplete := by
  unfold Obligations.MatchingComplete
  intro s0 s t p q w h x c k ent new goes stored held wrong begins
  have stores (e : MsEntry) (hm : s.matchMode t p w q = s.storeEntry t e) : begins = .next (stored e).settle := by
    refine h.tokenMatch ?_
    simp only [State.matchDone, hm, State.storeEntry, stored]
    cases s.msInsert t e <;> rfl
  have holds (e : MsEntry) (hm : s.matchMode t p w q = s.holdPending t k q e) : begins = .next (held e).settle := by
    refine h.tokenMatch ?_
    simp only [State.matchDone, hm, held]
    cases s.holdPending t k q e <;> rfl
  refine ⟨fun hm => ?monadic, fun hm he => ?dyadicFirst, fun e hm he hk hs hx => ?dyadicLeft,
    fun e hm he hk hs hx => ?dyadicRight, fun e hm he hk hs => ?dyadicTwice, fun e hm he hk => ?dyadicWrong,
    fun hm hx hc he => ?stickyFirst, fun e hm hx hc he hk => ?stickyAgain, fun e hm hx he hk => ?stickyLeft,
    fun e hm hx he hk => ?stickyPending, fun hm hx he => ?stickyLeftFirst, fun e hm he hs hp => ?stickyWrong,
    fun e hm hx he hk hn => ?gateLeft, fun e hm hx he hk hn => ?gateShut, fun hm hx he => ?gateLeftFirst,
    fun e hm he hg hp => ?gateWrong⟩
  case monadic => exact h.tokenMatch (h.fires (matchMode_monadic hm))
  case dyadicFirst => exact stores _ (matchMode_dyadic_first hm he)
  case dyadicLeft => exact h.tokenMatch (h.fires (matchMode_dyadic_left hm he hk hs hx))
  case dyadicRight => exact h.tokenMatch (h.fires (matchMode_dyadic_right hm he hk hs hx))
  case dyadicTwice => exact h.tokenMatch (matchDone_away (matchMode_dyadic_twice hm he hk hs h.live.1))
  case dyadicWrong => exact h.tokenMatch (h.mismatched (matchMode_dyadic_wrong hm he hk))
  case stickyFirst => exact stores _ (matchMode_sticky_right_first hm hx hc he)
  case stickyAgain => exact h.tokenMatch (matchDone_done (matchMode_sticky_right hm he hx hc hk))
  case stickyLeft => exact h.tokenMatch (h.fires (matchMode_sticky_left hm he hx hk))
  case stickyPending => exact holds _ (matchMode_sticky_left_pending hm he hx hk)
  case stickyLeftFirst => exact holds _ (matchMode_sticky_left_first hm hx he)
  case stickyWrong => exact h.tokenMatch (h.mismatched (matchMode_sticky_wrong hm he hs hp))
  case gateLeft => exact h.tokenMatch (h.fires (matchMode_gate_left hm he hk hx hn))
  case gateShut => exact holds _ (matchMode_gate_left_shut hm he hk hx hn)
  case gateLeftFirst => exact holds _ (matchMode_gate_left_first hm hx he)
  case gateWrong => exact h.tokenMatch (h.mismatched (matchMode_gate_wrong hm he hg hp))

/-- Settles O6: each command begins its head item, which its slot's mode matches; a FLUSH finds an entry of the mode's KIND or
none. -/
theorem reduceAndGateComplete : Obligations.ReduceAndGateComplete := by
  unfold Obligations.ReduceAndGateComplete
  intro s0 s t p q w h
  dsimp only
  refine ⟨fun e hx hc hm he hk => ?flush, fun hx hc hm he => ?flushNone, fun e hx hc hm he hk => ?flushSticky,
    fun hx hc hm => ?flushAll, fun e hx hc hm he hk => ?gateOpen, fun e hx hc hm he hk => ?gateClose,
    fun e hx hm ha he hk => ?next, fun s1 hx hm ha he hi => ?first⟩
  case flush =>
    refine h.row (by simp [isCtrl, hm, hx, hc]) ?_
    rw [matchDone_done (matchMode_reduce_flush hm hx hc (fun e' he' => Option.some.inj (he.symm.trans he') ▸ hk)),
      flushKey_found he]
  case flushNone =>
    refine h.row (by simp [isCtrl, hm, hx, hc]) ?_
    exact matchDone_done (matchMode_reduce_flush hm hx hc (fun e' he' => absurd (he.symm.trans he') (by simp)))
  case flushSticky =>
    exact h.row (by simp [isCtrl, hm, hx, hc]) (matchDone_done (matchMode_sticky_flush hm he hx hc hk))
  case flushAll => exact h.row (by simp [isCtrl, hm, hx, hc]) (matchDone_done (matchMode_reduce_flushAll hm hx hc))
  case gateOpen => exact h.row (by simp [isCtrl, hm, hx, hc]) (matchDone_done (matchMode_gate_open hm he hk hx hc))
  case gateClose => exact h.row (by simp [isCtrl, hm, hx, hc]) (matchDone_done (matchMode_gate_close hm he hk hx hc))
  case next =>
    exact h.row (by simp [hm, hx, modeReduce]) (matchDone_done (matchMode_reduce_next hm hx ha he hk))
  case first =>
    refine h.row (by simp [hm, hx, modeReduce]) (matchDone_done ?_)
    rw [matchMode_reduce_first hm hx ha he, State.storeEntry, waitEntry, hx]
    exact hi ▸ rfl

end

section
/-! PROOF. Ordered side effects (R133 to R137, R139, R581): the turn that a firing takes at its order entry, found or new, and
the effect that the turn performs. -/

namespace Sys2Proof.Machine

/-! ## The turn of a firing (R136) -/

/-- The order entry that a firing creates (R133). -/
def Firing.newOrder (f : Firing) (p : Nat) : SeqEntry :=
  { loop := false, pe := p, node := dNode f.x.dest, ctx := tCtx f.x.tag, colour := tColour f.x.tag, n := 0, k := 0 }

/-- The turn of firing `f` that is `d` iterations ahead of the order entry `e` of `u`; `s` is the state before the firing left
stage 4. -/
def State.takeTurn (s u : State) (t p : Nat) (f : Firing) (perform : State → Option State) (e : SeqEntry) (d : Nat) : State :=
  if d = 0 then ((perform (u.dueCount t f)).map (fun v => v.orderDone t p f)).getD (s.stay4 t p f)
  else if d < 2 ^ 23 then u.seqHold t false p f e f.item
  else (u.dueCount t f).orderLate t f.x (sOp f.slot)

section
variable {s u v : State} {t p d : Nat} {f : Firing} {perform : State → Option State} {e : SeqEntry}

theorem takeTurn_performs (hd : d = 0) (hp : perform (u.dueCount t f) = some v) :
    s.takeTurn u t p f perform e d = v.orderDone t p f := by
  rw [State.takeTurn, if_pos hd, hp, Option.map_some, Option.getD_some]

theorem takeTurn_waits (hd : d = 0) (hp : perform (u.dueCount t f) = none) :
    s.takeTurn u t p f perform e d = if f.due then
      (s.updPe t p (fun e => { e with ex := { f with due := false } :: e.ex.drop 1 })).fired t (tCtx f.x.tag) else s := by
  rw [State.takeTurn, if_pos hd, hp, Option.map_none, Option.getD_none, stay4_eq]

theorem takeTurn_holds (hd : 0 < d) (hl : d < 2 ^ 23) :
    s.takeTurn u t p f perform e d = u.seqHold t false p f e f.item := by
  rw [State.takeTurn, if_neg hd.ne', if_pos hl]

theorem takeTurn_late (hd : 2 ^ 23 ≤ d) :
    s.takeTurn u t p f perform e d = (u.dueCount t f).orderLate t f.x (sOp f.slot) := by
  rw [State.takeTurn, if_neg (by omega), if_neg (by omega)]

end

/-! ## Which entry judges an ordered firing (R133, R134) -/

section
variable {s s1 : State} {t p : Nat} {f : Firing} {perform : State → Option State} (ho : s.ordered t f = true)
include ho

/-- The entry of its order, by the distance of its ITERATION from NEXT. -/
theorem withOrder_found {e : SeqEntry} (he : (s1.tile t).seqOf false p f.x = some e) :
    s.withOrder s1 t p f perform = s.takeTurn s1 t p f perform e ((tIter f.x.tag + 2 ^ 24 - e.n) % 2 ^ 24) := by
  simp only [State.withOrder, ho, he, if_true, State.takeTurn]
  cases perform (s1.dueCount t f) <;> rfl

variable (he : (s1.tile t).seqOf false p f.x = none)
include he

theorem withOrder_full (hr : 1024 ≤ (s1.tile t).seq.length) :
    s.withOrder s1 t p f perform = (s1.dueCount t f).seqFull t f.x (sOp f.slot) := by
  simp only [State.withOrder, ho, he, if_true, if_pos hr]

/-- A new entry, whose NEXT is 0, where one is free. -/
theorem withOrder_creates (hr : (s1.tile t).seq.length < 1024) :
    s.withOrder s1 t p f perform =
      s.takeTurn (s1.addSeq t (f.newOrder p)) t p f perform (f.newOrder p) (tIter f.x.tag) := by
  simp only [State.withOrder, ho, he, if_true, if_neg (Nat.not_le.mpr hr), State.takeTurn, State.addSeq, Firing.newOrder]
  cases perform _ <;> rfl

end

/-! ## The effect of a turn (R85, R87, R89, R139) -/

/-- What a firing of an ordered class does at its turn, or none while it must wait in stage 4. A poisoned operand replaces the
effect of a STORE, EVENT or SEND by its exception, and the turn is taken all the same (log entry 13). -/
def State.sideEffect (t p : Nat) (f : Firing) (s : State) : Option State :=
  if sOp f.slot = 0x703 then
    some (if f.any cPoison then s.exc84 t f.x (sOp f.slot) .poisoned else s.storeOp t f)
  else if sOp f.slot = 0x805 then
    if cPoison f.x.ctl then some (s.exc84 t f.x (sOp f.slot) .poisoned)
    else match s.inject (tileNode t) (pageNode .glb 0) 3 3 0 (.event (sImm f.slot % 64)) with
      | (true, v) => some (v.outBoth t f f.x.value (cType f.x.ctl))
      | (false, _) => none
  else if sOp f.slot = 0x804 then
    if cPoison f.x.ctl then some (s.exc84 t f.x (sOp f.slot) .poisoned)
    else s.kenSend (sImm f.slot % 256) (s.sendWord0 f) f.x.value (BitVec.ofNat 64 (f.x.tag.toNat + f.x.ctl.toNat * 2 ^ 48))
  else s.emitOp t p f

section
variable {s : State} {t p : Nat} {f : Firing} (h : s.Fires t p f)
include h

/-- A row of an ordered class judges the order of its firing and has the effect `k` at its turn. -/
theorem State.Fires.turnRow {g : Nat → Bool} {poisoned : Firing → Bool} {perform : Firing → State → Option State}
    {k : State → Option State} (hg : g (sOp f.slot) = true)
    (hk : ∀ u, (if poisoned f then some (u.exc84 t f.x (sOp f.slot) .poisoned) else perform f u) = k u) :
    actOn (peOk t p) s (fun s => s.sideOp t p g poisoned perform) =
      .next (s.withOrder (s.taken t p) t p f k).settle := by
  refine actOn_gives h.porst (fires_ok h) ?_
  simp only [State.sideOp, fires_stage4 h hg, h.types, Bool.not_true, Bool.false_eq_true, if_false, hk]

theorem State.Fires.store_turn (hop : sOp f.slot = 0x703) :
    execStore t p s = .next (s.withOrder (s.taken t p) t p f (State.sideEffect t p f)).settle :=
  h.turnRow (opIn_of_eq hop) fun u => by rw [State.sideEffect, if_pos hop, apply_ite some]

theorem State.Fires.event_turn (hop : sOp f.slot = 0x805) :
    execEvent t p s = .next (s.withOrder (s.taken t p) t p f (State.sideEffect t p f)).settle :=
  h.turnRow (opIn_of_eq hop) fun _ => ((if_neg (by simp [hop])).trans (if_pos hop)).symm

theorem State.Fires.send_turn (hop : sOp f.slot = 0x804) :
    execSend t p s = .next (s.withOrder (s.taken t p) t p f (State.sideEffect t p f)).settle :=
  h.turnRow (opIn_of_eq hop) fun _ =>
    ((if_neg (by simp [hop])).trans ((if_neg (by simp [hop])).trans (if_pos hop))).symm

theorem State.Fires.emit_turn (hop : sOp f.slot = 0x800) :
    execEmit t p s = .next (s.withOrder (s.taken t p) t p f (State.sideEffect t p f)).settle :=
  h.turnRow (opIn_of_eq hop) fun _ =>
    ((if_neg (by simp [hop])).trans ((if_neg (by simp [hop])).trans (if_neg (by simp [hop])))).symm

end

end Sys2Proof.Machine
end

section
/-! PROOF. The obligations of the family of fabric liveness. -/

open Sys2Proof Sys2Proof.Machine

/-- Settles O9: each row judges the order of its firing, which takes its turn at the entry of its order or, where it has none and
one is free, at a new one. A turn whose operand is poisoned or whose address is refused counts as performed (log entry 13), and
LAST on x or y ends the order (log entry 61). -/
theorem orderedSideEffects : Obligations.OrderedSideEffects := by
  unfold Obligations.OrderedSideEffects
  intro s t p f h ho s1 x op did fresh go stays made ahead late r hrow
  have hr : r = .next (s.withOrder s1 t p f (State.sideEffect t p f)).settle := by
    obtain ⟨hop, rfl⟩ | ⟨hop, rfl⟩ | ⟨hop, rfl⟩ | ⟨hop, rfl⟩ := hrow
    · exact h.store_turn hop
    · exact h.event_turn hop
    · exact h.send_turn hop
    · exact h.emit_turn hop
  have found {e u} (he : (s1.tile t).seqOf false p x = some e)
      (hu : s.takeTurn s1 t p f (State.sideEffect t p f) e (ahead e) = u) : r = .next u.settle := by
    rw [hr, withOrder_found ho he, ← hu]
  have created {u} (he : (s1.tile t).seqOf false p x = none) (hn : (s1.tile t).seq.length < 1024)
      (hu : s.takeTurn made t p f (State.sideEffect t p f) fresh (tIter x.tag) = u) : r = .next u.settle := by
    rw [hr, withOrder_creates ho he hn, ← hu]
    rfl
  refine ⟨fun e s2 he hd hp => ?performs, fun e he hd hp => ?waits, fun e he hd hl => ?holds, fun e he hd => ?late,
    fun he hn => ?full, fun s2 he hn hd hp => ?firstPerforms, fun he hn hd hp => ?firstWaits,
    fun he hn hd hl => ?firstHolds, fun he hn hd => ?firstLate⟩
  case performs => exact found he (takeTurn_performs hd hp)
  case waits => exact found he (takeTurn_waits hd hp)
  case holds => exact found he (takeTurn_holds hd hl)
  case late => exact found he (takeTurn_late hd)
  case full => rw [hr, withOrder_full ho he hn]; rfl
  case firstPerforms => exact created he hn (takeTurn_performs hd hp)
  case firstWaits => exact created he hn (takeTurn_waits hd hp)
  case firstHolds => exact created he hn (takeTurn_holds hd hl)
  case firstLate => exact created he hn (takeTurn_late hd)

end

section
/-! PROOF. Pattern streams at their hub (R172 to R178), and what a port sends in a block time (R236, R238, R249, R250). -/

namespace Sys2Proof.Machine

/-! ## EMIT words and stored lines at a hub (R172 to R178) -/

section
variable {s u : State} {h t : Nat} {e : EmitWord} {r : List EmitWord}

/-- A word that `emitDecide` lets in is placed as it arrives. -/
theorem emitArrive_places (hf : takeFirst (fun e => e.tile == t) (s.hub h).flight = some (e, r))
    (hu : s.updHub h (fun x => { x with flight := r }) = u) (hd : u.emitDecide h e (u.hub h).ingress.isEmpty = .place) :
    s.emitArrive h t = u.emitPlace h e := by
  simp only [State.emitArrive, hf, hu, hd]

/-- A word that has to wait joins the ingress buffer. -/
theorem emitArrive_waits (hf : takeFirst (fun e => e.tile == t) (s.hub h).flight = some (e, r))
    (hu : s.updHub h (fun x => { x with flight := r }) = u) (hd : u.emitDecide h e (u.hub h).ingress.isEmpty = .wait) :
    s.emitArrive h t = u.updHub h (fun x => { x with ingress := x.ingress ++ [e] }) := by
  simp only [State.emitArrive, hf, hu, hd]

/-- A word that is refused is counted where the decision says. -/
theorem emitArrive_refuses {hi lo : Nat} {inv : Bool} (hf : takeFirst (fun e => e.tile == t) (s.hub h).flight = some (e, r))
    (hu : s.updHub h (fun x => { x with flight := r }) = u)
    (hd : u.emitDecide h e (u.hub h).ingress.isEmpty = .refuse hi lo inv) :
    s.emitArrive h t = u.strmRefuse h e hi lo inv := by
  simp only [State.emitArrive, hf, hu, hd]

/-- The first word of the ingress buffer leaves it once it may be placed, whatever waits behind it. -/
theorem ingressPlace_head (hq : (s.hub h).ingress = e :: r) (hd : s.emitDecide h e true = .place) :
    s.ingressPlace h = (s.updHub h (fun x => { x with ingress := r })).emitPlace h e := by
  simp [State.ingressPlace, hq, takeFirst, hd]

/-- The state after a line at `a` reaches the engine with the answer `st` of the exchange: its words, void where `bad`, are placed
from the next one on. -/
def State.lineReturned (s : State) (h a : Nat) (st : Status) (bad : Bool) : State :=
  (((s.visit a st 64).fetchRtt h).storedWords h a bad (8 - (s.hub h).fetch % 8)).prefill h

theorem storedLine_due (hd : s.storedDue h = true) (ecc : Ecc) :
    s.storedLine h ecc = s.lineReturned h (s.storedAddr h) (s.exchange (s.storedAddr h))
      (ecc == .uncorrectable || s.exchange (s.storedAddr h) != .ok) :=
  if_pos hd

/-- A line that the exchange answers goes through the codes of its unit, and its words are void where these find it
uncorrectable. -/
theorem execStoredLineReturn_reads {err : LineErr} {ok : Bool} (hs : s.porst = false) (hw : s.memAwake = true) (hh : h < 24)
    (hd : s.storedDue h = true) (hx : s.exchange (s.storedAddr h) = .ok)
    (hr : s.unitRead (s.storedAddr h) 64 err = (ok, u)) (hd' : u.storedDue h = true)
    (hx' : u.exchange (u.storedAddr h) = .ok) :
    execStoredLineReturn h err s = .next (u.lineReturned h (u.storedAddr h) .ok (!ok)).settle := by
  refine engOn_gives hs hw (decide_eq_true hh) ?_
  have hline : u.storedLine h (if ok then .clean else .uncorrectable) = u.lineReturned h (u.storedAddr h) .ok (!ok) := by
    rw [storedLine_due hd', hx']
    cases ok <;> rfl
  simp only [hd, hx, hr, hline, if_true]

/-- A line that the exchange refuses is not read: each of its words is void. -/
theorem execStoredLineReturn_refused {err : LineErr} (hs : s.porst = false) (hw : s.memAwake = true) (hh : h < 24)
    (hd : s.storedDue h = true) (hx : s.exchange (s.storedAddr h) ≠ .ok) :
    execStoredLineReturn h err s =
      .next (s.lineReturned h (s.storedAddr h) (s.exchange (s.storedAddr h)) true).settle := by
  refine engOn_gives hs hw (decide_eq_true hh) ?_
  have hbad : (Ecc.clean == .uncorrectable || s.exchange (s.storedAddr h) != .ok) = true := by simp [hx]
  simp only [hd, if_neg hx, if_true, storedLine_due hd, hbad]

end

/-! ## The block time of a port -/

section
variable {s u : State} {p now : Nat}

theorem lnk_of_drives (hd : s.drives p = true) : s.lnk p = 4 := by
  simp only [State.drives, Bool.and_eq_true, beq_iff_eq] at hd
  exact hd.1.1

/-- A link that is UP has no training to end. -/
theorem tryUp_up (hl : s.lnk p = 4) : s.tryUp p = s := if_neg fun h => h.2.1 hl

/-- In block mode a Phour port whose link is UP sends a block. -/
theorem portTime_block (hb : (s.port p).blk = some now) (hl : s.lnk p = 4) (hm : s.bamior p = false) :
    s.portTime p = s.blockTime p := by
  simp [State.portTime, State.training, hb, tryUp_up hl, hm]

/-- Before block mode a port that trains sends training frames. -/
theorem portTime_train (hb : (s.port p).blk = none) (hp : 1 ≤ (s.port p).phase) : s.portTime p = s.trainTime p := by
  simp [State.portTime, State.training, hb, hp]

/-- A block time of a port leaves what the port does in it. -/
theorem exec_downstreamBlockTime_port (hs : s.porst = false) (hp : p < 96) (hu : s.portTime p = u) :
    exec (.downstreamBlockTime p) s = .next u.settle :=
  (exec_downstreamBlockTime ..).trans
    (actOn_gives hs (decide_eq_true (hp.trans (by decide))) ((if_pos hp).trans hu))

/-! ## Blocks (R236, R238) -/

/-- The state of a port that has entered block time `now`, before it sends its block. -/
def State.blockBegun (s : State) (p now : Nat) : State :=
  (if now % 20 = 0 then s.spareFrame p else s).updPort p (fun x => { x with blk := some (now + 1) })

/-- Outside the first block of a codeword the hub's spare sends no frame. -/
theorem blockBegun_mid (hn : now % 20 ≠ 0) :
    s.blockBegun p now = s.updPort p (fun x => { x with blk := some (now + 1) }) := by
  rw [State.blockBegun, if_neg hn]

/-- Once per SYNC interval the block is SYNC, alone where no SWITCH repeats. -/
theorem blockTime_sync (hb : (s.port p).blk = some now) (hn : now % 256 = 0) (hw : (s.port p).switching = false) :
    s.blockTime p = (s.blockBegun p now).sendBlk p (s.syncBlock p) := by
  simp [State.blockTime, State.blockBegun, hb, hn, hw]

/-- With no control block queued the block time is one for slots. -/
theorem blockTime_slots (hb : (s.port p).blk = some now) (hn : now % 256 ≠ 0) (hc : (s.port p).ctlq = []) :
    s.blockTime p = State.blockTime.slotsOf p (s.blockBegun p now) now := by
  simp [State.blockTime, State.blockBegun, hb, hn, hc]

/-- Where no control block has been sent before, the first one queued is sent; that it is no sideband request spares the note of
when the request left. -/
theorem blockTime_control {b : DBlock} {r : List DBlock} (hb : (s.port p).blk = some now) (hn : now % 256 ≠ 0)
    (hf : (s.port p).lastCtl = none) (hc : (s.port p).ctlq = b :: r) (hk : ∀ g rw be ad d, b ≠ .sbReq g rw be ad d) :
    s.blockTime p =
      ((s.blockBegun p now).updPort p (fun x => { x with ctlq := r, lastCtl := some now })).sendBlk p b := by
  simp only [State.blockTime, State.blockBegun, hb, if_neg hn, hf, hc, if_true]

/-- A port without credit sends IDLE. -/
theorem slotsOf_idle (ha : s.avail p = 0) : State.blockTime.slotsOf p s now = s.sendBlk p .idle := by
  rw [State.blockTime.slotsOf]
  split
  · rfl
  · split
    next hdata => exact absurd hdata.1 (by simp [ha])
    next =>
      split
      next hdue =>
        rw [ha] at hdue
        exact absurd hdue Bool.false_ne_true
      next => rfl

/-- Is a word of a Plate a vector word? -/
def PWord.isVec (w : PWord) : Bool := match w with | .vec _ => true | _ => false

/-- Four vector words with credit for them leave in one DATA block (R238). -/
theorem slotsOf_data (hd : s.drives p = true) (hp : s.pst p = 2) (h4 : 4 ≤ s.avail p) (hlt : s.avail p < 2 ^ 63)
    (hlen : ((s.plate p).line.take 4).length = 4) (hab : (s.plate p).abort = false)
    (hv : ((s.plate p).line.take 4).all PWord.isVec = true) :
    State.blockTime.slotsOf p s now = (s.fillData p 4).2.sendBlk p (.data (s.fillData p 4).1) := by
  have hmay : (!s.drives p || s.pst p != 2 || decide (2 ^ 63 ≤ s.avail p)) = false := by
    simp only [hd, hp, decide_eq_false hlt.not_ge]
    rfl
  have hfour : 4 ≤ s.avail p ∧ ((s.plate p).line.take 4).length = 4 ∧ ((s.plate p).line.take 4).all PWord.isVec = true ∧
      (!(s.plate p).abort) = true := ⟨h4, hlen, hv, by rw [hab]; rfl⟩
  exact (if_neg (Bool.eq_false_iff.mp hmay)).trans (if_pos hfour)

theorem blockTime_idle (hb : (s.port p).blk = some now) (hn : now % 256 ≠ 0) (h20 : now % 20 ≠ 0)
    (hc : (s.port p).ctlq = []) (ha : s.avail p = 0) : s.blockTime p = (s.blockBegun p now).sendBlk p .idle := by
  rw [blockTime_slots hb hn hc, blockBegun_mid h20]
  exact slotsOf_idle ha

theorem blockTime_data (hb : (s.port p).blk = some now) (hn : now % 256 ≠ 0) (h20 : now % 20 ≠ 0)
    (hc : (s.port p).ctlq = []) (hd : s.drives p = true) (hp : s.pst p = 2) (h4 : 4 ≤ s.avail p)
    (hlt : s.avail p < 2 ^ 63) (hlen : ((s.plate p).line.take 4).length = 4) (hab : (s.plate p).abort = false)
    (hv : ((s.plate p).line.take 4).all PWord.isVec = true) :
    s.blockTime p = ((s.blockBegun p now).fillData p 4).2.sendBlk p (.data ((s.blockBegun p now).fillData p 4).1) := by
  rw [blockTime_slots hb hn hc, blockBegun_mid h20]
  exact slotsOf_data hd hp h4 hlt hlen hab hv

/-- The oldest credit is due and the Plate has no word: the block of that block time is sent (R187). -/
theorem creditDeadline_sends (hb : (s.port p).blk = some now) (hp : s.pst p = 2) (hl : (s.plate p).line = [])
    (ha : 0 < s.avail p) (hd : s.slotDue p ((s.reg (pp p + R.portLnkSent)).toNat + 1) now = true) :
    s.creditDeadline p = s.blockTime p := by
  simp [State.creditDeadline, hb, hp, hl, ha, hd]

/-! ## Training frames (R249, R250) -/

theorem trainTime_lock (hf : (s.port p).frameT % 20 = 0) (hp : (s.port p).phase = 1) :
    s.trainTime p = (s.updPort p (fun x => { x with frameT := x.frameT + 1 })).sendFrames p 1 0 := by
  simp [State.trainTime, hf, hp]

theorem trainTime_ready (hf : (s.port p).frameT % 20 = 0) (hp : (s.port p).phase = 2) :
    s.trainTime p = (s.updPort p (fun x => { x with frameT := x.frameT + 1 })).sendFrames p 2 0 := by
  simp [State.trainTime, hf, hp]

/-- A GO frame carries the count, which then falls by one and ends after 0. -/
theorem trainTime_go {c : Nat} (hf : (s.port p).frameT % 20 = 0) (hp : (s.port p).phase = 3)
    (hc : (s.port p).goTx = some c) :
    s.trainTime p = ((s.updPort p (fun x => { x with frameT := x.frameT + 1 })).sendFrames p 3 c).updPort p
      (fun x => { x with goTx := if c = 0 then none else some (c - 1) }) := by
  simp [State.trainTime, hf, hp, hc]

end

end Sys2Proof.Machine
end

section
/-! PROOF. The obligations of the family of Plates and pattern streams. -/

open Sys2Proof Sys2Proof.Machine

/-- Settles O12: at the hub an EMIT word and a stored line meet the decision on their position; a port trains until it is in block
mode, where its block is SYNC at the interval, then a queued control block, then DATA or IDLE by its credit. -/
theorem streamsComplete : Obligations.StreamsComplete := by
  unfold Obligations.StreamsComplete
  intro s h t p hs hh ht hp
  have hT := decide_eq_true (And.intro hh ht)
  have block {now : Nat} {u : State} (hb : (s.port p).blk = some now) (hl : s.lnk p = 4) (hm : s.bamior p = false)
      (hu : s.blockTime p = u) : exec (.downstreamBlockTime p) s = .next u.settle :=
    exec_downstreamBlockTime_port hs hp ((portTime_block hb hl hm).trans hu)
  have train {u : State} (hb : (s.port p).blk = none) (hph : 1 ≤ (s.port p).phase) (hu : s.trainTime p = u) :
      exec (.downstreamBlockTime p) s = .next u.settle :=
    exec_downstreamBlockTime_port hs hp ((portTime_train hb hph).trans hu)
  refine ⟨fun e r hf => ⟨fun hd => ?places, fun hd => ?waits, fun hi lo inv hd => ?refuses⟩, fun e r hq hd => ?ingress,
    fun e ok s1 hd hx hr hd' hx' hw => ?storedRead, fun e hd hx hw => ?storedRefused,
    fun now hm hb hd hpst hc =>
      ⟨fun hn hsw => ?sync, fun hn h20 ha => ?idle, fun hn h20 h4 hlt hlen hab hv => ?data⟩,
    fun b r hb hl hm hf hc hk => ?control,
    fun hb hf => ⟨fun hph => ?lock, fun hph => ?ready, fun c hph hc => ?go⟩,
    fun now hb hpst hl ha hd => ?deadline⟩
  case places => exact (exec_emitWordArrive ..).trans (actOn_gives hs hT (emitArrive_places hf rfl hd))
  case waits => exact (exec_emitWordArrive ..).trans (actOn_gives hs hT (emitArrive_waits hf rfl hd))
  case refuses => exact (exec_emitWordArrive ..).trans (actOn_gives hs hT (emitArrive_refuses hf rfl hd))
  case ingress => exact (exec_ingressPlace ..).trans (actOn_gives hs (decide_eq_true hh) (ingressPlace_head hq hd))
  case storedRead => exact (exec_storedLineReturn ..).trans (execStoredLineReturn_reads hs hw hh hd hx hr hd' hx')
  case storedRefused => exact (exec_storedLineReturn ..).trans (execStoredLineReturn_refused hs hw hh hd hx)
  case sync => exact block hb (lnk_of_drives hd) hm (blockTime_sync hb hn hsw)
  case idle => exact block hb (lnk_of_drives hd) hm (blockTime_idle hb hn h20 hc ha)
  case data => exact block hb (lnk_of_drives hd) hm (blockTime_data hb hn h20 hc hd hpst h4 hlt hlen hab hv)
  case control => exact block hb hl hm (blockTime_control hb (by decide) hf hc hk)
  case lock => exact train hb hph.ge (trainTime_lock hf hph)
  case ready => exact train hb (by omega) (trainTime_ready hf hph)
  case go => exact train hb (by omega) (trainTime_go hf hph hc)
  case deadline =>
    exact (exec_creditDeadline ..).trans (actOn_gives hs (decide_eq_true hp) (creditDeadline_sends hb hpst hl ha hd))

end

section
/-! PROOF. Blocks that a port decodes: credits, RESUME, fail records and their deliveries (R197 to R212, R233, R237, R240, R256). -/

namespace Sys2Proof.Machine

section
variable {s u : State} {p : Nat}

theorem phourRx_blockMode (hp : p < 96) (hm : s.bamior p = false) (hph : (s.port p).phase = 4) : s.phourRx p = true := by
  simp [State.phourRx, hp, hm, hph]

/-! ## Counts and RESUME (R237, R246, R256) -/

/-- CREDITS of the current run that rise are taken, with the block time in which they came. -/
theorem credits_rise {c : Word} {run : Nat} (hr : run = s.run p) (hc : (s.reg (pp p + R.portLnkCred)).toNat < c.toNat) :
    s.credits p c run = (s.setReg (pp p + R.portLnkCred) c).updPort p (fun x => { x with credLog := x.credLog ++
      [(c.toNat, match x.blk with | some n => n | none => 0)] }) :=
  if_pos ⟨hr, hc⟩

/-- PORT_LNK_STAT after a RESUME of generation `gen`: this device is selected. -/
def State.selected (s : State) (p : Nat) (gen : BitVec 16) : State :=
  (s.putB (pp p + R.portLnkStat) 9 true).putF (pp p + R.portLnkStat) 31 16 gen.toNat

/-- While the port repeats no SWITCH, a RESUME records the selection only. -/
theorem onResume_selects {index : Word} {gen : BitVec 16} (hw : (s.port p).switching = false) :
    s.onResume p index gen = s.selected p gen := by
  simp [State.onResume, State.selected, hw]

/-- The first RESUME of the generation that SWITCH repeats resumes a RUNNING Plate from the index. -/
theorem onResume_resumes {index : Word} {gen : BitVec 16} (hw : (s.port p).switching = true) (hg : gen.toNat = s.portGen p)
    (hr : s.pst p = 2) (hd : (s.selected p gen).drives p = true) :
    s.onResume p index gen = (((s.selected p gen).updPort p (fun x => { x with switching := false })).updPort p
      (fun x => { x with resumeIdx := some index })).resumeTry p := by
  have hsw : ((s.port p).switching && gen.toNat == s.portGen p) = true := by simp [hw, hg]
  exact (if_pos hsw).trans (if_pos ⟨hr, hd⟩)

/-- A RESUME acts with the index and the generation that its contents hold. -/
theorem exec_resume_gives {c0 c1 : Word} {c2 : BitVec 120} (hs : s.porst = false) (hrx : s.phourRx p = true)
    (hu : s.onResume p ((c2 ++ c1 ++ c0).extractLsb' 0 64) ((c2 ++ c1 ++ c0).extractLsb' 80 16) = u) :
    exec (.resume p c0 c1 c2) s = .next u.settle := by
  rw [exec_resume, execResume]
  exact actOn_gives hs hrx hu

/-! ## Invalid and uncorrectable blocks, heartbeat loss (R233, R246, R247) -/

/-- A data block, or a control block of a code that a Phour port does not take, is counted. -/
theorem invalidBlock_counts {isData : Bool} {code : Byte} (hp : p < 96) (hm : s.bamior p = false) (hph : (s.port p).phase = 4)
    (hc : isData = true ∨ (code ≠ 0 ∧ code ≠ 8 ∧ (code.toNat < 16 ∨ 21 < code.toNat))) :
    s.invalidBlock p isData code = (s.inc (pp p + R.portLnkErr) 63 48).fault (pp p) .protocol := by
  have hpg : linkPage p = pp p := if_pos hp
  rcases hc with hd | ⟨h0, h8, hr⟩
  · simp [State.invalidBlock, hph, hd, hp, hpg]
  · have hne0 : code.toNat ≠ 0 := fun h => h0 (BitVec.eq_of_toNat_eq h)
    have hne8 : code.toNat ≠ 8 := fun h => h8 (BitVec.eq_of_toNat_eq h)
    have hout : ¬ (16 ≤ code.toNat ∧ code.toNat ≤ 21) := by omega
    simp only [State.invalidBlock, hph, hp, hpg, hp.not_ge, hm]
    simp [hne0, hne8, hout]

/-- An uncorrectable codeword of a Phour port sets SAT of every enabled group (Table 7.5). -/
theorem rxCodeword_uncorrectable {errs : List (Nat × BitVec 10)} (hp : p < 96) (hm : s.bamior p = false)
    (he : rsFix errs = none) : s.rxCodeword ⟨p, errs⟩ =
      ((s.updPort p (fun x => { x with badAt := s.now })).inc (pp p + R.portLnkErr) 15 0).sat p (fun _ => true) := by
  simp [State.rxCodeword, State.uncorrectable, he, hp, hm, hp.not_ge]

theorem rxCodeword_corrected {errs e : List (Nat × BitVec 10)} (he : rsFix errs = some e) :
    s.rxCodeword ⟨p, errs⟩ = s.corrected p (e.map (fun x => x.1)) := by
  simp only [State.rxCodeword, he]

theorem hbLost_silent (hph : (s.port p).phase = 4) (hd : 15729 ≤ dur (s.port p).lastSync s.now) :
    s.hbLost p = (((s.putF (pp p + R.portLnkStat) 2 0 5).inc (pp p + R.portLnkTrain) 31 16).retrain p true).fault
      (pp p) .timeout :=
  if_pos ⟨hph, hd⟩

/-! ## Fail records at their port (R197 to R202, R211, R240) -/

/-- The fail-record credit that the pin slice still holds: what the port granted, less the records received and lost (R240,
log entry 61). -/
def State.failWindow (s : State) (p : Nat) : Nat :=
  (s.f (pp p + R.portLnkFcred) 31 0 + 2 ^ 33 - s.f (pp p + R.portLnkFcred) 63 32 - (s.port p).lostF.toNat) % 2 ^ 32

/-- The state after a record has been counted as received. -/
def State.failCounted (s : State) (p : Nat) : State :=
  s.putF (pp p + R.portLnkFcred) 63 32 ((s.f (pp p + R.portLnkFcred) 63 32 + 1) % 2 ^ 32)

/-- The index of a record, extended at its port (R198). -/
def State.recIdx (s : State) (p : Nat) (rec : BitVec 192) : Nat := nearest 48 (fld rec 183 136) (s.consumed p)
/-- The time of a record, extended at its port (R198). -/
def State.recTime (s : State) (rec : BitVec 192) : Nat := nearest 56 (fld rec 63 8) s.now.toNat
/-- The groups of a port with a failing pin in a mask (R206). -/
def State.hitGroups (s : State) (p mask : Nat) : List Nat := (s.groups p).filter (fun g => s.grpBits p g mask != 0)

section
variable {rec : BitVec 192} (hl : s.lnk p = 4) (hm : s.bamior p = false) (h0 : s.failWindow p ≠ 0) (h4 : s.failWindow p ≤ 4096)

include hl hm in
theorem takes_records : ¬ (s.lnk p ≠ 4 ∨ s.bamior p = true) := by simp [hl, hm]

include h0 h4 in
theorem within_window : ¬ (s.failWindow p = 0 ∨ 4096 < s.failWindow p) := by omega

include hl hm h0 h4

/-- An END_CAPTURE with a credit ends the capture. -/
theorem failBlock_endCapture (hk : fld rec 191 184 = 3) :
    s.failBlock p rec = (s.failCounted p).endCapture p (s.recIdx p rec) (s.recTime rec) (fld rec 135 104) (fld rec 103 64) true :=
  (if_neg (takes_records hl hm)).trans <| (if_neg (within_window h0 h4)).trans <| (if_neg (by omega)).trans (if_pos hk)

/-- A captured SUMMARY sets SAT of the groups that it hits and is logged; its credit is granted anew. -/
theorem failBlock_summary (hk : fld rec 191 184 = 2) (hs : s.b (pp p + R.portFailStat) 0 = false)
    (hc : s.captured p (s.recIdx p rec) (s.recTime rec) = true) :
    s.failBlock p rec = (((((s.failCounted p).inc (pp p + R.portFailCnt0) 31 0).sat p
      (fun g => s.grpBits p g (fld rec 135 104) != 0)).inc (pp p + R.portFailCnt1) 15 0).failLog p (s.recIdx p rec)
        (s.recTime rec) (fld rec 135 104) 2 0 (fld rec 103 64)).fcredit p 1 := by
  have hknown : ¬ (fld rec 191 184 = 0 ∨ 3 < fld rec 191 184) := by omega
  have hend : fld rec 191 184 ≠ 3 := by omega
  have hin : ¬ (!s.captured p (s.recIdx p rec) (s.recTime rec)) = true := by simp [hc]
  exact (if_neg (takes_records hl hm)).trans <| (if_neg (within_window h0 h4)).trans <| (if_neg hknown).trans <|
    (if_neg hend).trans <| (if_neg (Bool.eq_false_iff.mp hs)).trans <| (if_neg hin).trans (if_pos hk)

/-- A captured FAIL is logged and waits with its deliveries, one for each group that it hits. -/
theorem failBlock_fail (hk : fld rec 191 184 = 1) (hs : s.b (pp p + R.portFailStat) 0 = false)
    (hc : s.captured p (s.recIdx p rec) (s.recTime rec) = true) (hg : s.hitGroups p (fld rec 135 104) ≠ []) :
    s.failBlock p rec = (((s.failCounted p).inc (pp p + R.portFailCnt0) 31 0).failLog p (s.recIdx p rec) (s.recTime rec)
      (fld rec 135 104) 1 (grpField (s.hitGroups p (fld rec 135 104))) (fld rec 103 64)).failQueue p
        ((s.hitGroups p (fld rec 135 104)).map (fun g => s.delivery p g (fld rec 135 104) (fld rec 103 64))) true := by
  have hknown : ¬ (fld rec 191 184 = 0 ∨ 3 < fld rec 191 184) := by omega
  have hend : fld rec 191 184 ≠ 3 := by omega
  have hsum : fld rec 191 184 ≠ 2 := by omega
  have hin : ¬ (!s.captured p (s.recIdx p rec) (s.recTime rec)) = true := by simp [hc]
  have hhit : ¬ (s.hitGroups p (fld rec 135 104)).isEmpty = true := by simpa using hg
  refine (if_neg (takes_records hl hm)).trans <| (if_neg (within_window h0 h4)).trans <| (if_neg hknown).trans <|
    (if_neg hend).trans <| (if_neg (Bool.eq_false_iff.mp hs)).trans <| (if_neg hin).trans <| (if_neg hsum).trans ?_
  exact congrArg (State.failQueue · p _ true) (if_neg hhit)

end

/-! ## Deliveries (R207 to R211, R240) -/

/-- A delivery that has reached its tile, and whose PE can begin, fires its node. -/
theorem failIn_fires {d : Delivery} {r : List (Nat × Delivery)}
    (hf : takeFirst (fun e => e.1 == p && s.failReady e.2) s.failArr = some ((p, d), r)) :
    s.failIn p = { s with failArr := r }.failFire d := by
  simp only [State.failIn, hf]

/-- A monadic FAIL_IN node sends the row on output 0 and the column on output 1. -/
theorem failFire_sends {d : Delivery} {t : Nat} {slot : BitVec 128} (ht : dTile d.dest = t)
    (hn : SMap.get 0 ((s.tile t).pe (dPe d.dest)).nodes (dNode d.dest) = slot) (ho : sOp slot = 0x801) (hm : sMode slot = 0) :
    s.failFire d =
      ((s.fired t d.ctx).outTo t slot (BitVec.ofNat 48 (d.ctx * 2 ^ 32 + d.rowKey % 2 ^ 24 * 256 + d.colour)) 0 d.row
        (if d.fin then 0x72 else 0x60)).outTo t slot
        (BitVec.ofNat 48 (d.ctx * 2 ^ 32 + d.colKey % 2 ^ 24 * 256 + d.colour)) 1 d.col (if d.fin then 0x72 else 0x60) := by
  subst ht hn
  exact if_pos ⟨ho, hm⟩

/-- With none there the port sends the next deliveries of its oldest record. -/
theorem failIn_sends (hf : takeFirst (fun e => e.1 == p && s.failReady e.2) s.failArr = none) : s.failIn p = s.failSend p := by
  simp only [State.failIn, hf]

/-- A record whose last deliveries the network takes in one flit leaves the ingress buffer. -/
theorem failSend_last {d : Delivery} {l now : List Delivery} {cred : Bool} {rs : List FailRec} {n : Nat}
    (hq : (s.port p).fails = ⟨d :: l, cred⟩ :: rs) (hn : pageNode .hub (p / 4) = n)
    (hd : sameTile (dTile d.dest) 3 (d :: l) = (now, []))
    (hb : flitCount (s.buf (bufKey n 4 3)) < 4) (hh : (SMap.get [] s.heldFlits n).any (fun f => f.vn == 3) = false)
    (hi : s.inject n (tileNode (dTile d.dest)) 3 5 0 (.fails p now) = (true, u)) :
    s.failSend p = ((u.updPort p (fun x => { x with fails := rs })).inc (pp p + R.portFailCnt2) 63 32 now.length).failLeaves p cred := by
  subst hn
  simp only [State.failSend, hq, hd, hi, hh, hb.not_ge, or_self, if_false, Bool.false_eq_true, List.isEmpty_nil, if_true]

end

end Sys2Proof.Machine
end

section
/-! PROOF. The obligations of the family of fail capture and repair. -/

open Sys2Proof Sys2Proof.Machine

/-- Settles O13: a block that a port in block mode decodes has the effect of its operation there; a delivery on its way or at its tile
has that of FAIL_IN; an uncorrectable codeword and a lost heartbeat act on the link. Log entry 61 counts lost slots as used in the credit
window, and by log entry 33 a RESUME acts whatever RUN it names. -/
theorem upstreamComplete : Obligations.UpstreamComplete := by
  unfold Obligations.UpstreamComplete
  intro s p hs hp hm hph
  have hport := decide_eq_true hp
  have hlink : decide (p < 98) = true := decide_eq_true (hp.trans (by decide))
  have hrx := phourRx_blockMode hp hm hph
  refine ⟨fun c0 c1 hr hc => ?credit, fun c => ?sync, fun rec hl h0 h4 =>
      ⟨fun hk hst hc hg => ?fail, fun hk hst hc => ?summary, fun hk => ?endCapture⟩,
    fun d r hf ho hmode => ?fires, fun d l cred rs s1 hf hq hb hh hi hlast => ?sends,
    fun c0 c1 c2 => ⟨fun hw => ?selects, fun hw hg hr hd => ?resumes⟩, fun c0 c1 c2 c3 hl => ?linkid,
    fun isData code hc => ?invalid, fun errs he => ?uncorrectable, fun errs e he => ?corrected, fun hd => ?heartbeat⟩
  case credit => exact (exec_credit ..).trans (actOn_gives hs hrx (credits_rise hr hc))
  case sync => exact (exec_sync ..).trans (actOn_gives hs hrx rfl)
  case fail =>
    exact (exec_failRecord ..).trans (actOn_gives hs (by simp [hp, recKind, hk]) (failBlock_fail hl hm h0 h4 hk hst hc hg))
  case summary =>
    exact (exec_summaryRecord ..).trans (actOn_gives hs (by simp [hp, recKind, hk]) (failBlock_summary hl hm h0 h4 hk hst hc))
  case endCapture =>
    exact (exec_endCaptureRecord ..).trans (actOn_gives hs (by simp [hp, recKind, hk]) (failBlock_endCapture hl hm h0 h4 hk))
  case fires =>
    exact (exec_failIn ..).trans (actOn_gives hs hport ((failIn_fires hf).trans (failFire_sends rfl rfl ho hmode)))
  case sends =>
    exact (exec_failIn ..).trans
      (actOn_gives hs hport ((failIn_sends hf).trans (failSend_last hq rfl (Prod.ext rfl hlast) hb hh hi)))
  case selects => exact exec_resume_gives hs hrx (onResume_selects hw)
  case resumes => exact exec_resume_gives hs hrx (onResume_resumes hw hg hr hd)
  case linkid =>
    rw [exec_linkid, execLinkid]
    exact actOn_live hs (by simp [hrx, hl]) _
  case invalid =>
    exact (exec_upstreamInvalidBlock ..).trans (actOn_gives hs hlink (invalidBlock_counts hp hm hph hc))
  case uncorrectable =>
    exact (exec_upstreamUncorrectable ..).trans
      (actOn_gives hs (by simp [hph, hlink]) (rxCodeword_uncorrectable hp hm he))
  case corrected =>
    exact (exec_upstreamUncorrectable ..).trans (actOn_gives hs (by simp [hph, hlink]) (rxCodeword_corrected he))
  case heartbeat =>
    exact (exec_heartbeatLoss ..).trans (actOn_gives hs hlink ((if_pos hp).trans (hbLost_silent hph hd)))

end

section
/-! PROOF. Phour links: the sideband, training, and the spare lane before and after the link is UP (R249 to R255). -/

namespace Sys2Proof.Machine

section
variable {s u : State} {p : Nat}

/-! ## Sideband (R254, R255) -/

theorem takeFirst_congr {α : Type} {f g : α → Bool} (h : ∀ a, f a = g a) (l : List α) : takeFirst f l = takeFirst g l :=
  congrArg (takeFirst · l) (funext h)

/-- A response of STATUS OK, NO_REG or ERROR ends its request; the tag is free for a request that waits. -/
theorem sbRsp_answers {tag status : Nat} {data : Word} {q : SbReq} {r : List SbReq}
    (hst : status = 0 ∨ status = 2 ∨ status = 3)
    (hq : takeFirst (fun q => q.tag == tag && q.sent.isSome) (s.port p).sb = some (q, r)) :
    s.sbRsp p tag status data =
      ((s.updPort p (fun x => { x with sb := r })).react (.sb q status data)).react (.sbPump p) := by
  have hne : status ≠ 1 := by omega
  have hle : ¬ 3 < status := by omega
  simp only [State.sbRsp, hq, if_neg hne, if_neg hle]

/-- A request sent 10 µs ago ends without an answer, and its tag is blocked for 10 µs more. -/
theorem sbTimeout_blocks {tag : Nat} {q : SbReq} {r : List SbReq}
    (hq : takeFirst (fun q => q.tag == tag && q.sent.any (fun a => decide (10 * us ≤ dur a s.now))) (s.port p).sb = some (q, r)) :
    s.sbTimeout p tag = ((s.updPort p (fun x => { x with
      sb := r, sbBlocked := x.sbBlocked ++ [(tag, s.now + BitVec.ofNat 64 (10 * us))] })).inc (pp p + R.portLnkSb) 31 16).react
        (.sb q 4 0) := by
  rw [State.sbTimeout, (takeFirst_congr ?same _).trans hq]
  case same =>
    intro q
    cases q.sent <;> rfl

/-- A tag whose block has ended serves the requests that wait. -/
theorem sbRelease_pumps {tag : Nat} {b : Nat × Word} {r : List (Nat × Word)}
    (hb : takeFirst (fun b => b.1 == tag && decide (b.2.toNat ≤ s.now.toNat)) (s.port p).sbBlocked = some (b, r)) :
    s.sbRelease p tag = (s.updPort p (fun x => { x with sbBlocked := r })).sbPump p 16 := by
  simp only [State.sbRelease, hb]

/-! ## Training (R249 to R251) -/

@[simp] theorem bamior_updPort (g : PortSt → PortSt) (k : Nat) : (s.updPort p g).bamior k = s.bamior k := rfl

/-- The state after a frame's marker has told the skew of its lane. -/
def State.skewHeard (s : State) (p : Nat) (f : TrainFrame) : State :=
  s.updPort p (fun x => { x with skews := SMap.set 0 x.skews f.lane f.skew })

/-- The state after one more READY frame; the port counts to 16. -/
def State.readyCounted (s : State) (p : Nat) : State :=
  s.updPort p (fun x => { x with readies := min (x.readies + 1) 16 })

/-- In step 3 of Table 7.7 a READY frame of the port's own mode, on a lane that the spare does not carry, counts. -/
theorem trainFrame_ready {lane : Nat} {f : TrainFrame} (hl : lane < 4) (hp : (s.port p).phase = 2)
    (ho : (s.port p).onSpare = none) (hk : f.marker = true) (hst : f.state = 2) (hm : f.mode = b2n (s.bamior p)) :
    s.trainFrame p lane f = (s.skewHeard p f).readyFrame p 4 (fun s => s.setLnk p 3) := by
  have h4 : lane ≠ 4 := by omega
  simp [State.trainFrame, State.skewHeard, hk, h4, ho, hp, hst, hm]

/-- Before the sixteenth READY frame, or while the lanes are skewed, a READY frame is counted only. -/
theorem readyFrame_waits {n : Nat} {go : State → State}
    (hw : ((s.readyCounted p).port p).readies < 16 ∨ ((s.readyCounted p).port p).deskewed n = false) :
    s.readyFrame p n go = s.readyCounted p := by
  refine if_neg fun ⟨h16, hd⟩ => ?_
  rcases hw with hlt | hskew
  · exact hlt.not_ge h16
  · exact Bool.false_ne_true (hskew.symm.trans hd)

/-- The sixteenth READY frame on deskewed lanes begins GO. -/
theorem readyFrame_goes {n : Nat} {go : State → State} (h16 : 16 ≤ ((s.readyCounted p).port p).readies)
    (hd : ((s.readyCounted p).port p).deskewed n = true) :
    s.readyFrame p n go = (go (s.readyCounted p)).updPort p (fun x => { x with phase := 3, frameT := 0, goTx := some 15 }) :=
  if_pos ⟨h16, hd⟩

/-- A training frame on one of a port's four lanes leaves what the port makes of it. -/
theorem exec_trainingFrame_port {lane : Nat} {f : TrainFrame} (hs : s.porst = false) (hp : p < 96) (hl : lane < 4)
    (hu : s.trainFrame p lane f = u) : exec (.trainingFrame p lane f) s = .next u.settle := by
  have hok : p < 98 ∧ lane < (if p < 96 then 5 else 8) := by
    rw [if_pos hp]
    omega
  exact (exec_trainingFrame ..).trans (actOn_gives hs (decide_eq_true hok) ((if_pos hp).trans hu))

/-- A link not UP within TIMEOUT_MS trains again; the third time in a row is a fault. -/
theorem trainTimeout_retrains (hp : 1 ≤ (s.port p).phase) (hl : s.lnk p ≠ 4)
    (hd : 1000 * us * s.f (pp p + R.portLnkCtl) 47 32 ≤ dur (s.port p).trainAt s.now) :
    s.trainTimeout p =
      (let n := s.f (pp p + R.portLnkTrain) 39 32 + 1
       let s1 := (s.retrain p true).putF (pp p + R.portLnkTrain) 39 32 (min n 255)
       if n = 3 then s1.fault (pp p) .timeout else s1) :=
  if_pos ⟨hp, hl, hd⟩

/-! ## The spare lane (R252, R253) -/

/-- A lane of the wired port that has no marker lock 1 ms into training moves to the spare, where that is enabled and idle. -/
theorem spareLock_takesOver {lane : Nat} (hl : lane < 4) (hph : (s.port p).phase = 1)
    (hd : 1000 * us ≤ dur (s.port p).trainAt s.now) (hk : SMap.get 0 (s.port p).locks lane < 64)
    (he : s.b (hp (p / 4) + R.hubLnkSpare) 7 = true) (hw : s.f (hp (p / 4) + R.hubLnkSpare) 6 0 = p)
    (hi : s.f (hp (p / 4) + R.hubLnkSpare) 14 12 = 0) :
    s.spareLock p lane =
      (((s.putF (hp (p / 4) + R.hubLnkSpare) 14 12 3).putF (hp (p / 4) + R.hubLnkSpare) 17 16 lane).putB
        (pp p + R.portLnkStat) 8 true).updPort p
          (fun x => { x with onSpare := some lane, locks := SMap.set 0 x.locks lane 0 }) :=
  if_pos ⟨hph, hl, hd, hk, he, hw, hi⟩

section
variable {h : Nat}

/-- The port that the spare lane of a hub serves. -/
def State.sparePort (s : State) (h : Nat) : Nat := s.f (hp h + R.hubLnkSpare) 6 0

/-- The codewords that the link of a hub's spare lane still has to send before SWAP_AT. -/
def State.swapIn (s : State) (h : Nat) : Nat := (s.port (s.sparePort h)).until (s.hub h).swapAt

/-- LANEMAP_ACK of the codeword that LANEMAP names, more than 64 codewords before it, is taken. -/
theorem lanemapAck_inTime {swapAt : Nat} (hs : s.f (hp h + R.hubLnkSpare) 14 12 = 2) (ha : swapAt = (s.hub h).swapAt)
    (hlo : 64 < s.swapIn h) (hhi : s.swapIn h ≤ 256) :
    s.lanemapAck h swapAt = s.updHub h (fun x => { x with acked := true }) :=
  if_pos ⟨hs, ha, hlo, hhi⟩

/-- No LANEMAP_ACK until 64 codewords before SWAP_AT ends the substitution as FAILED. -/
theorem lanemapTimeout_fails (hs : s.f (hp h + R.hubLnkSpare) 14 12 = 2) (ha : (s.hub h).acked = false)
    (hl : s.swapIn h ≤ 64 ∨ 256 < s.swapIn h) :
    s.lanemapTimeout h = (s.putF (hp h + R.hubLnkSpare) 14 12 4).fault (hp h) .timeout := by
  have hlate : ¬ (64 < s.swapIn h ∧ s.swapIn h ≤ 256) := by omega
  exact if_pos ⟨hs, congrArg (!·) ha, congrArg (!·) (decide_eq_false hlate)⟩

/-- An acknowledged substitution is due at SWAP_AT, and after it, in block mode. -/
theorem swapDue_reached (hs : s.f (hp h + R.hubLnkSpare) 14 12 = 2) (ha : (s.hub h).acked = true)
    (hb : (s.port (s.sparePort h)).phase = 4) (hl : s.swapIn h = 0 ∨ 256 < s.swapIn h) : s.swapDue h = true := by
  simp only [State.sparePort, State.swapIn] at hb hl
  simp [State.swapDue, hs, ha, hb, hl]

/-- The lane that is due to move is carried by the spare. -/
theorem laneSwap_moves (hd : s.swapDue h = true) :
    s.laneSwap h =
      (((s.putF (hp h + R.hubLnkSpare) 14 12 3).putF (hp h + R.hubLnkSpare) 17 16 (s.f (hp h + R.hubLnkSpare) 9 8)).putB
        (pp (s.sparePort h) + R.portLnkStat) 8 true).updPort (s.sparePort h)
          (fun y => { y with onSpare := some (s.f (hp h + R.hubLnkSpare) 9 8) }) :=
  if_pos hd

end

end

end Sys2Proof.Machine
end

section
/-! PROOF. The obligations of the family of Phour ports. -/

open Sys2Proof Sys2Proof.Machine

/-- Settles O14: a response or a time-out ends the sideband request that it names; READY frames count, and the sixteenth on deskewed
lanes begins GO; a link that is late trains again; the spare lane takes over at training or at SWAP_AT. By log entry 33 the spare that
takes over at training is IN_USE at once, which R252 leaves open. -/
theorem linksComplete : Obligations.LinksComplete := by
  unfold Obligations.LinksComplete
  intro s p h lane hs hp hh hl
  have hport := decide_eq_true hp
  have hlink : decide (p < 98) = true := decide_eq_true (hp.trans (by decide))
  have hhub := decide_eq_true hh
  refine ⟨fun c0 c1 c2 q r hm hph hst hq => ?response, fun tag q r hq => ?timeout, fun tag b r hb => ?release,
    fun f hph ho hk hst hm => ⟨fun hw => ?waits, fun h16 hd => ?goes⟩, fun hph hup hd => ?retrains,
    fun hph hd hlock he hw hi => ?spare,
    fun hst => ⟨fun c hc hlo hhi => ?ack, fun ha hlate => ?noAck, fun ha hph hdue => ?swap⟩⟩
  case response =>
    rw [exec_sbRsp, execSbRsp]
    exact actOn_gives hs (phourRx_blockMode hp hm hph) (sbRsp_answers hst hq)
  case timeout => exact (exec_sidebandTimeout ..).trans (actOn_gives hs hport (sbTimeout_blocks hq))
  case release => exact (exec_sbTagRelease ..).trans (actOn_gives hs hport (sbRelease_pumps hb))
  case waits =>
    exact exec_trainingFrame_port hs hp hl ((trainFrame_ready hl hph ho hk hst hm).trans (readyFrame_waits hw))
  case goes =>
    exact exec_trainingFrame_port hs hp hl ((trainFrame_ready hl hph ho hk hst hm).trans (readyFrame_goes h16 hd))
  case retrains =>
    exact (exec_trainingTimeout ..).trans (actOn_gives hs hlink ((if_pos hp).trans (trainTimeout_retrains hph hup hd)))
  case spare =>
    exact (exec_spareLockTimeout ..).trans (actOn_gives hs hport (spareLock_takesOver hl hph hd hlock he hw hi))
  case ack => exact (exec_lanemapAck ..).trans (actOn_gives hs hhub (lanemapAck_inTime hst hc hlo hhi))
  case noAck => exact (exec_lanemapAckTimeout ..).trans (actOn_gives hs hhub (lanemapTimeout_fails hst ha hlate))
  case swap => exact (exec_laneSwap ..).trans (actOn_gives hs hhub (laneSwap_moves (swapDue_reached hst ha hph hdue)))

end

section
/-! PROOF. The Retriever: a CCW that its subchannel may execute, and the operations of units (R265, R270 to R276). -/

namespace Sys2Proof.Machine

/-! ## CCWs that execute (R265, R276, R502) -/

section
variable {s u : State} {n : Nat} {w : BitVec 128}

theorem State.Reads.execCcw_runs {k : Nat → BitVec 128 → Bool} {run : BitVec 128 → State → State} (h : s.Reads n w)
    (hk : k (cCmd w) w = true) : s.execCcw n k run = run w s := by
  simp [State.execCcw, h.act, h.ccw, h.first, h.idle, h.calm, hk]

/-- A command without a unit finds no SPI frame to end. -/
theorem State.Reads.plain_runs {cmd : Nat} {run : BitVec 128 → State → State} (h : s.Reads n w) (hc : cCmd w = cmd) :
    s.plain n cmd run = run w s := by
  rw [State.plain, h.execCcw_runs (beq_iff_eq.mpr hc), h.frame]
  rfl

/-- Subchannel `n` may execute the unit CCW `w`, which passes the checks of its unit, its Count and its segments `g`: their lookup
leaves `s1`, and the device is not the STANDBY that waits for the result (R271, R273, R274, R492). -/
structure State.UnitGoes (s : State) (n : Nat) (w : BitVec 128) (g : List Seg) (s1 : State) : Prop where
  reads : s.Reads n w
  unit  : s.unitCheck w = none
  count : countCheck (cCmd w) (cKind w) w = none
  keeps : cCmd w = 2 → cDiscard w = false
  segs  : s.ccwSegs n w = (g, none, s1)
  live  : (s1.standby && !spi0 (cUnit w)) = false

section
variable {g : List Seg} {s1 : State} (h : s.UnitGoes n w g s1)
include h

theorem State.UnitGoes.not_discards : ¬ (cCmd w = 2 ∧ cDiscard w = true) := by simpa using h.keeps

/-- Such a command begins its operation, where a PINSLICE address is aligned. -/
theorem State.UnitGoes.unitCmd_goes (ha : cKind w = 1 → cCmd w = 4 ∨ cParam w % 8 = 0) :
    s.unitCmd n w = s1.unitGo n w w g false false := by
  have halign : ¬ (cKind w = 1 ∧ cCmd w ≠ 4 ∧ cParam w % 8 ≠ 0) := by
    rintro ⟨hk, h4, h8⟩
    exact (ha hk).elim h4 h8
  simp [State.unitCmd, State.unitCmd.go, h.reads.first, h.reads.frame, h.unit, h.count, halign, h.not_discards, h.segs, h.live]

/-- The row of such a command leaves what its operation makes of the segments. -/
theorem State.UnitGoes.row {k : Nat → BitVec 128 → Bool} (hm : s.memAwake = true) (hk : k (cCmd w) w = true)
    (ha : cKind w = 1 → cCmd w = 4 ∨ cParam w % 8 = 0) (hu : s1.unitGo n w w g false false = u) :
    engOn (decide (n < 64)) s (fun s => s.ccwUnit n k) = .next u.settle :=
  engOn_gives h.reads.porst hm (decide_eq_true h.reads.sub)
    ((h.reads.execCcw_runs hk).trans ((h.unitCmd_goes ha).trans hu))

end

end

/-! ## Units (Table 8.4) -/

/-- The kind of a unit is the top four bits of its field. -/
theorem cUnit_div (w : BitVec 128) : cUnit w / 4096 = cKind w := by
  simp only [cUnit, cKind, fld, Nat.shiftRight_eq_div_pow]
  omega

/-- Only units of the kinds I3C and SPI have a bus. -/
theorem kind_of_unitBus {w : BitVec 128} {b : Nat} (h : unitBus (cUnit w) = some b) : cKind w = 2 ∨ cKind w = 3 := by
  rw [unitBus, cUnit_div] at h
  split_ifs at h with h2 h3
  · exact .inl h2
  · exact .inr h3

theorem kind_ne_of_unitBus {w : BitVec 128} {b : Nat} (h : unitBus (cUnit w) = some b) : cKind w ≠ 1 ∧ cKind w ≠ 4 := by
  have := kind_of_unitBus h
  omega

theorem gpioIs_otherKind {w : BitVec 128} {op cmd : Nat} (h : cKind w ≠ 4) : gpioIs op cmd w = false := by
  simp [gpioIs, h]

theorem plainControl_otherKind {w : BitVec 128} (h : cKind w ≠ 4) : plainControl 3 w = true := by
  simp [plainControl, gpioIs_otherKind h]

theorem plainRead_otherKind {w : BitVec 128} (h : cKind w ≠ 4) : plainRead 2 w = true := by
  simp [plainRead, captureIs, h]

/-! ## Operations of units (R270, R274, R275, Table 8.5) -/

/-- What the operation of a CCW takes from memory before it begins: the bytes of a WRITE or a CONTROL. -/
def State.unitPayload (s : State) (n : Nat) (w : BitVec 128) (g : List Seg) : RdRes × State :=
  if cCmd w = 1 ∨ cCmd w = 3 then s.subReads n g 0 else (.data [], s)

section
variable {s s1 : State} {n : Nat} {w : BitVec 128} {g : List Seg} {l : List Byte}

theorem unitPayload_sends (hc : cCmd w = 1 ∨ cCmd w = 3) : s.unitPayload n w g = s.subReads n g 0 := if_pos hc

theorem unitPayload_read (hc : cCmd w = 2) : s.unitPayload n w g = (.data [], s) := if_neg (by simp [hc])

/-- A transfer for a unit on a bus asks for the bus. -/
theorem unitGo_bus {b : Nat} (hp : s.unitPayload n w g = (.data l, s1)) (hkeep : ¬ (cCmd w = 2 ∧ cDiscard w = true))
    (h4 : cCmd w ≠ 4) (hb : unitBus (cUnit w) = some b) :
    s.unitGo n w w g false false = ((s1.unitBegun n w g l).updSub n (fun x => { x with busy := true })).busAsk n b := by
  rw [State.unitPayload] at hp
  obtain hk | hk := kind_of_unitBus hb
  · simp [State.unitGo, State.unitBegun, hkeep, hp, hk, hb]
  · simp [State.unitGo, State.unitBegun, hkeep, hp, hk, hb]

/-- The row of a command of a unit on a bus leaves the subchannel that asks for the bus. -/
theorem State.UnitGoes.busRow {k : Nat → BitVec 128 → Bool} {s2 : State} {b : Nat} (h : s.UnitGoes n w g s1)
    (hm : s.memAwake = true) (hk : k (cCmd w) w = true) (h4 : cCmd w ≠ 4) (hb : unitBus (cUnit w) = some b)
    (hp : s1.unitPayload n w g = (.data l, s2)) :
    engOn (decide (n < 64)) s (fun s => s.ccwUnit n k) =
      .next (((s2.unitBegun n w g l).updSub n (fun x => { x with busy := true })).busAsk n b).settle :=
  h.row hm hk (fun h1 => absurd h1 (kind_ne_of_unitBus hb).1) (unitGo_bus hp h.not_discards h4 hb)

/-- SENSE stores the sense word of its unit. -/
theorem unitGo_sense (hc : cCmd w = 4) :
    s.unitGo n w w g false false =
      ((((s.unitBegun n w g []).senseWord (cUnit w)).2.updSub n (fun x => { x with frame := none })).unitStore n w
        (leBytes 8 ((s.unitBegun n w g []).senseWord (cUnit w)).1.toNat) 0) := by
  simp [State.unitGo, State.unitBegun, hc]

/-- A READ of a pin slice whose link is UP issues requests for its words. -/
theorem unitGo_pinRead (hc : cCmd w = 2) (hd : cDiscard w = false) (hk : cKind w = 1) (hl : s.lnk (cUnit w % 128) = 4)
    (hm : s.bamior (cUnit w % 128) = false) :
    s.unitGo n w w g false false = ((s.unitBegun n w g []).updSub n (fun x => { x with
      busy := true, todo := (pinWords (cParam w) (segBytes g) []).map (fun e => (e.1, 255, (0 : Word))), got := [],
      pos := cParam w + segBytes g })).sbNext n (cUnit w % 128) false 4 := by
  simp [State.unitGo, State.unitBegun, hc, hd, hk, hl, hm]

/-- The state once the oldest `k` capture records have been read. -/
def State.captureRead (s : State) (k : Nat) : State := { s with ret := { s.ret with fifo := s.ret.fifo.drop k } }

/-- CAPTURE stores the oldest capture records and takes them from the FIFO. -/
theorem unitGo_capture (hc : cCmd w = 2) (hd : cDiscard w = false) (hk : cKind w = 4) :
    s.unitGo n w w g false false =
      (let s2 := s.unitBegun n w g []
       let k := min (cCount w / 16) s2.ret.fifo.length
       (s2.captureRead k).unitStore n w ((s2.ret.fifo.take k).flatMap (fun c => c.words.flatMap (fun v => leBytes 8 v.toNat)))
         (cCount w - min (16 * k) (segBytes g))) := by
  simp [State.unitGo, State.unitBegun, State.captureRead, hc, hd, hk]

/-- A GPIO CONTROL does its operation and ends. -/
theorem unitGo_gpio (hc : cCmd w = 3) (hk : cKind w = 4) (hn : cCount w = 0) :
    s.unitGo n w w [] false false =
      ((s.unitBegun n w [] []).gpioOp (cUnit w / 256 % 16) (cUnit w % 4) (cParam w)).unitEnd n w none 0 [] := by
  simp [State.unitGo, State.unitBegun, State.subReads, segBytes, hc, hk, hn]

/-- A CCW with count 0 and no list has no segments. -/
theorem ccwSegs_none (hi : cInd w = false) (hn : cCount w = 0) : s.ccwSegs n w = ([], none, s) := by
  simp [State.ccwSegs, hi, hn]

end

/-- Each of the seven GPIO orders is the row of its operation (Table 8.5). -/
theorem exec_gpioOrder {s : State} {n op : Nat} {c : Instr}
    (hc : (c, op) ∈ [(Instr.gpioOutSet n, 0), (.gpioOutClr n, 1), (.gpioOutToggle n, 2), (.gpioDirOut n, 3),
      (.gpioDirIn n, 4), (.gpioArm n, 5), (.gpioDisarm n, 6)]) :
    exec c s = engOn (decide (n < 64)) s (fun s => s.ccwUnit n (gpioIs op)) := by
  simp only [List.mem_cons, Prod.mk.injEq, List.not_mem_nil, or_false] at hc
  obtain ⟨rfl, rfl⟩ | ⟨rfl, rfl⟩ | ⟨rfl, rfl⟩ | ⟨rfl, rfl⟩ | ⟨rfl, rfl⟩ | ⟨rfl, rfl⟩ | ⟨rfl, rfl⟩ := hc <;> rfl

end Sys2Proof.Machine
end

section
/-! PROOF. The Retriever: start entries, decisions and waits, and what comes from buses, pins and remote units (R263, R268,
R272, R275 to R283, R288). -/

namespace Sys2Proof.Machine

section
variable {s s0 : State} {n : Nat} {w : BitVec 128}

/-! ## Start entries and fetches (R263, R265) -/

/-- An enabled subchannel that is idle takes the start entry at its consumer index. -/
theorem startTake_takes {l : List Byte} (hst : s.subSt n = 0) (hr : s.b (rtp n + R.retScCtl) 0 = true)
    (hc : s.f (rtp n + R.retScScons) 31 0 ≠ s.f (rtp n + R.retScSprod) 31 0) (hf : s.subStalled n = false)
    (he : s.b (rtp n + R.pgErrLevel) 2 = false)
    (hm : s.memRead (s.f (rtp n + R.retScSring) 47 8 * 256 +
      16 * (s.f (rtp n + R.retScScons) 31 0 % 2 ^ s.f (rtp n + R.retScSring) 4 0)) 16 = (.ok, l, s0))
    (ha : ofLe (l.take 6) % 16 = 0) :
    s.startTake n =
      (((s0.putF (rtp n + R.retScScons) 31 0 ((s.f (rtp n + R.retScScons) 31 0 + 1) % 2 ^ 32)).setSub n 1).updSub n
        (fun x => { seq := x.seq, stash := x.stash, late := x.late, loops := x.loops, epoch := x.epoch + 1,
                    user := BitVec.ofNat 64 (ofLe (l.drop 8)) })).putF (rtp n + R.retScCcw) 47 0 (ofLe (l.take 6)) := by
  simp [State.startTake, hst, hr, hc, hf, he, hm, ha]

/-- A fetched CCW whose command and flags are listed is what its subchannel executes next. -/
theorem ccwFetch_reads {l : List Byte} (hst : s.subSt n = 1) (hc : (s.sub n).ccw = none) (ho : (s.sub n).op = none)
    (hf : s.subStalled n = false) (hm : s.memRead (s.ccwAddr n) 16 = (.ok, l, s0)) (hw : BitVec.ofNat 128 (ofLe l) = w)
    (hs : cSusp w = false) (hk : cmdOk (cCmd w) = true) (hfl : flagsOk (cCmd w) w = true) :
    s.ccwFetch n = s0.updSub n (fun y => { y with ccw := some w, busy := false, suspAt := none }) := by
  simp [State.ccwFetch, hst, hc, ho, hf, hm, hw, hs, hk, hfl]

/-! ## Commands without a unit (R268, R272, R281 to R283, R288) -/

/-- The state in which WAIT_EVENT looks at its latch: TMO is clear, and so is the latch where the CCW asks for a new pulse. -/
def State.eventAwaited (s : State) (n : Nat) (w : BitVec 128) : State :=
  if bit w 7 then (s.setTmo n false).setLatch n (waitLatch w) false else s.setTmo n false

/-- The time until which a relative WAIT_TIME waits. -/
def State.waitTill (s : State) (w : BitVec 128) : Word := s.now + BitVec.ofNat 64 (16 * (cParam w % 2 ^ 31))

section
variable (h : s.Reads n w)
include h

/-- JUMP continues at its address, which is aligned and one of data; without LOOP_LIMIT no count of jumps ends it. -/
theorem State.Reads.ccwJump_jumps (hc : cCmd w = 8) (ha : cAddr w % 16 = 0) (hd : dataAddrOk (cAddr w) = true)
    (hl : s.f (rtp n + R.retScCtl) 48 32 = 0) :
    s.ccwJump n = (s.putF (rtp n + R.retScCcw) 47 0 (cAddr w)).updSub n
      (fun x => { x with loops := (s.sub n).loops + 1, ccw := none, epoch := x.epoch + 1 }) :=
  (h.plain_runs hc).trans (by simp [ha, hd, hl])

/-- A WAIT_EVENT for a line whose latch is set takes it. -/
theorem State.Reads.ccwWaitEvent_pends (hc : cCmd w = 9) (hb : bit w 6 = false)
    (hl : (s.eventAwaited n w).latched n (waitLatch w) = true) :
    s.ccwWaitEvent n = ((s.eventAwaited n w).setLatch n (waitLatch w) false).subNext n w 0 := by
  rw [State.eventAwaited] at hl ⊢
  exact (h.plain_runs hc).trans (by simp [hb, hl, State.waitDone])

/-- A WAIT_EVENT for a line whose latch is clear waits, for its count of microseconds where that is not 0. -/
theorem State.Reads.ccwWaitEvent_waits (hc : cCmd w = 9) (hb : bit w 6 = false)
    (hl : (s.eventAwaited n w).latched n (waitLatch w) = false) :
    s.ccwWaitEvent n = ((s.eventAwaited n w).setSub n 2).updSub n (fun x => { x with
      till := if cCount w = 0 then none else some (s.now + BitVec.ofNat 64 (us * cCount w)) }) := by
  rw [State.eventAwaited] at hl ⊢
  exact (h.plain_runs hc).trans (by simp [hb, hl])

theorem State.Reads.ccwWaitTime_past (hc : cCmd w = 10) (hp : 2 ^ 31 ≤ cParam w) (ht : (s.waitTill w).toNat ≤ s.now.toNat) :
    s.ccwWaitTime n = (s.setTmo n false).subNext n w 0 :=
  (h.plain_runs hc).trans ((if_pos hp).trans (if_pos ht))

theorem State.Reads.ccwWaitTime_waits (hc : cCmd w = 10) (hp : 2 ^ 31 ≤ cParam w) (ht : s.now.toNat < (s.waitTill w).toNat) :
    s.ccwWaitTime n = ((s.setTmo n false).setSub n 2).updSub n (fun x => { x with till := some (s.waitTill w) }) :=
  (h.plain_runs hc).trans ((if_pos hp).trans (if_neg ht.not_ge))

/-- SKIP_IF with a condition that tests no word skips where it holds. -/
theorem State.Reads.ccwSkipIf_eq (hc : cCmd w = 11) (hn : cCount w ≠ 0) (hk : fld w 3 0 < 3) (hx : cCont w = 1) :
    s.ccwSkipIf n = if skipHolds (fld w 3 0) (fld w 31 16) 0 (s.tmo n) then
      State.ccwSkipIf.markAt (s.putF (rtp n + R.retScCcw) 47 0 ((s.ccwAddr n + 16 * cCount w) % 2 ^ 48)) n w (s.ccwAddr n)
      else s.subNext n w 0 := by
  have h8 : ¬ 8 < fld w 3 0 := by omega
  exact (h.plain_runs hc).trans (by simp [hn, h8, hk, hx])

/-- POST forms its record and, where the record is accepted, gives its pulse. -/
theorem State.Reads.ccwPost_posts (hc : cCmd w = 12) (hn : cCount w < 128) :
    s.ccwPost n = (if bit w 102 ∧ (s.retRecordOk n 2 (cParam w)).1 then
      (s.retRecordOk n 2 (cParam w)).2.react (.pulse (cCount w % 64)) else (s.retRecordOk n 2 (cParam w)).2).subNext n w 0 :=
  (h.plain_runs hc).trans (if_neg hn.not_ge)

theorem State.Reads.ccwNop_continues (hc : cCmd w = 15) : s.ccwNop n = s.subNext n w 0 := h.plain_runs hc

end

/-! ## The end of a wait (R281, R282) -/

theorem waitTimeout_ends {t : Word} (hw : s.waiting n = some w) (ht : (s.sub n).till = some t) (hd : t.toNat ≤ s.now.toNat)
    (hl : bit w 6 = false) : s.waitTimeout n = (s.setTmo n true).subNext n w 0 := by
  simp [State.waitTimeout, State.waitDone, hw, ht, hd, hl]

theorem waitExpire_ends {t : Word} (hst : s.subSt n = 2) (hw : (s.sub n).ccw = some w) (ht : (s.sub n).till = some t)
    (hc : cCmd w = 10) (hd : t.toNat ≤ s.now.toNat) : s.waitExpire n = s.subNext n w 0 := by
  simp [State.waitExpire, hst, hw, ht, hc, hd]

/-! ## Buses, pins and remote units (R270, R275, R276, R278, R280) -/

/-- A transfer of a bus's owner that is no READ, is acknowledged and holds no chip select ends its unit step. -/
theorem busDone_ends {o : BitVec 128} {b : Nat} {r : BusResult} (hw : (s.sub n).ccw = some w) (ho : (s.sub n).op = some o)
    (hb : (s.sub n).onBus = some b) (hy : (s.sub n).busy = true) (hq : (s.busQ b).head? = some n) (hr : r.nack = false)
    (hh : bit o 0 = false) (hc : cCmd o ≠ 2) (ha : (s.sub n).after = false) :
    s.busDone n r = (s.updSub n (fun y => { y with frame := none })).unitEnd n w none (cCount w - (s.sub n).want) [] := by
  simp [State.busDone, hw, ho, hb, hy, hq, hr, hh, hc, ha]

/-- The state after the level of a pin has changed. -/
def State.pinTurned (s : State) (pin : Nat) (rise : Bool) : State :=
  { s with ret := { s.ret with gin := setBit s.ret.gin pin rise } }

section
variable {pin : Nat} {rise : Bool}

theorem gpioEdge_unarmed (hp : pin < 32) (ha : (SMap.get 0 s.ret.garm pin).testBit (if rise then 0 else 1) = false) :
    s.gpioEdge pin rise = s.pinTurned pin rise := by
  simp [State.gpioEdge, State.pinTurned, hp.not_ge, ha]

/-- An armed edge is captured while the FIFO has room, and pulses its local event. -/
theorem gpioEdge_captured (hp : pin < 32) (ha : (SMap.get 0 s.ret.garm pin).testBit (if rise then 0 else 1) = true)
    (hf : s.ret.fifo.length < 256) :
    s.gpioEdge pin rise = ({ s.pinTurned pin rise with ret := { (s.pinTurned pin rise).ret with
      fifo := s.ret.fifo ++ [⟨s.now, pin, rise, s.ret.lost⟩], lost := false } } : State).retPulse (64 + pin) := by
  simp [State.gpioEdge, State.pinTurned, hp.not_ge, ha, hf]

end

theorem remoteTimeout_ends {dev rsub : Nat} {t : Word} (hr : (s.sub n).remote = some (dev, rsub, t))
    (hw : (s.sub n).ccw = some w) (hd : 100 * us ≤ dur t s.now) :
    s.remoteTimeout n = s.unitEnd n w (some .timeout) (cCount w) [] := by
  simp [State.remoteTimeout, hr, hw, hd]

end

end Sys2Proof.Machine
end

section
/-! PROOF. The obligations of the family of the Retriever. -/

open Sys2Proof Sys2Proof.Machine

/-- Settles O15: a unit CCW that passes its checks begins its operation on its segments, and the kind of its unit and its command
decide what that operation is. -/
theorem unitCommandsComplete : Obligations.UnitCommandsComplete := by
  unfold Obligations.UnitCommandsComplete
  intro s n w h hu hc
  have goes {g s1} (hd : cCmd w = 2 → cDiscard w = false) (hg : s.ccwSegs n w = (g, none, s1))
      (hs : (s1.standby && !spi0 (cUnit w)) = false) : s.UnitGoes n w g s1 := ⟨h, hu, hc, hd, hg, hs⟩
  refine ⟨fun b g s1 hb hg hs => ⟨fun l s2 hl => ⟨fun h1 hm => ?write, fun h3 hm => ?control⟩, fun h2 hd hm => ?busRead⟩,
    fun g s1 hg hs => ⟨fun h4 hm => ?sense, fun h2 hd hk ha hl hb hm => ?pinRead, fun h2 hd hk hop hm => ?capture⟩,
    fun c op hrow h3 hk hop hi hn hs hm => ?gpio⟩
  case write =>
    exact (goes (by simp [h1]) hg hs).busRow hm (beq_iff_eq.mpr h1) (by simp [h1]) hb ((unitPayload_sends (.inl h1)).trans hl)
  case control =>
    exact (goes (by simp [h3]) hg hs).busRow hm (h3 ▸ plainControl_otherKind (kind_ne_of_unitBus hb).2) (by simp [h3]) hb
      ((unitPayload_sends (.inr h3)).trans hl)
  case busRead =>
    exact (goes (fun _ => hd) hg hs).busRow hm (h2 ▸ plainRead_otherKind (kind_ne_of_unitBus hb).2) (by simp [h2]) hb
      (unitPayload_read h2)
  case sense =>
    exact (goes (by simp [h4]) hg hs).row hm (beq_iff_eq.mpr h4) (fun _ => .inl h4) (unitGo_sense h4)
  case pinRead =>
    exact (goes (fun _ => hd) hg hs).row hm (h2 ▸ plainRead_otherKind (by simp [hk])) (fun _ => .inr ha)
      (unitGo_pinRead h2 hd hk hl hb)
  case capture =>
    exact (goes (fun _ => hd) hg hs).row hm (by simp [captureIs, h2, hk, hop]) (by simp [hk]) (unitGo_capture h2 hd hk)
  case gpio =>
    subst hop
    rw [exec_gpioOrder hrow]
    exact (goes (by simp [h3]) (ccwSegs_none hi hn) (by rw [hs]; rfl)).row hm (by simp [gpioIs, h3, hk]) (by simp [hk])
      (unitGo_gpio h3 hk hn)

/-- Settles O16: each command of a CCW without a unit runs the CCW that its subchannel has read; the others act on what they
name: a start entry, a wait, a transfer, a pin, a bus or a remote unit. -/
theorem retrieverComplete : Obligations.RetrieverComplete := by
  unfold Obligations.RetrieverComplete
  intro s n hs hn
  have hsub := decide_eq_true hn
  refine ⟨fun l s0 hst hr hc hf he hm hl ha => ?start, fun l s0 hst hc ho hf hm hw hk hfl ha => ?fetch,
    fun w h => ⟨fun hc h16 hd hl ha => ?jump, fun hc hb => ⟨fun hl ha => ?eventPends, fun hl ha => ?eventWaits⟩,
      fun hc hp => ⟨fun ht ha => ?timePast, fun ht ha => ?timeWaits⟩,
      fun hc h0 hk hx => ⟨fun hh ha => ?noSkip, fun hh ha => ?skips⟩, fun hc hk ha => ?post, fun hc ha => ?nop⟩,
    fun w o b r hw ho hb hy hq hr hh hc ha => ?transfer, fun w t hw ht hd hb ha => ?eventTimeout,
    fun w t hst hw ht hc hd ha => ?timeExpires,
    fun pin rise hp => ⟨fun hg => ?edge, fun hg hf => ?captured⟩, fun b addr mdb hb => ?ibi,
    fun w dev rsub t hr hw hd ha => ?remote⟩
  case start => exact (exec_startEntryTake ..).trans (engOn_gives hs ha hsub (startTake_takes hst hr hc hf he hm hl))
  case fetch => exact (exec_ccwFetch ..).trans (engOn_gives hs ha hsub (ccwFetch_reads hst hc ho hf hm rfl hw hk hfl))
  case jump => exact (exec_ccwJump ..).trans (engOn_gives hs ha hsub (h.ccwJump_jumps hc h16 hd hl))
  case eventPends => exact (exec_ccwWaitEvent ..).trans (engOn_gives hs ha hsub (h.ccwWaitEvent_pends hc hb hl))
  case eventWaits => exact (exec_ccwWaitEvent ..).trans (engOn_gives hs ha hsub (h.ccwWaitEvent_waits hc hb hl))
  case timePast => exact (exec_ccwWaitTime ..).trans (engOn_gives hs ha hsub (h.ccwWaitTime_past hc hp ht))
  case timeWaits => exact (exec_ccwWaitTime ..).trans (engOn_gives hs ha hsub (h.ccwWaitTime_waits hc hp ht))
  case noSkip =>
    exact (exec_ccwSkipIf ..).trans
      (engOn_gives hs ha hsub ((h.ccwSkipIf_eq hc h0 hk hx).trans (if_neg (Bool.eq_false_iff.mp hh))))
  case skips => exact (exec_ccwSkipIf ..).trans (engOn_gives hs ha hsub ((h.ccwSkipIf_eq hc h0 hk hx).trans (if_pos hh)))
  case post => exact (exec_ccwPost ..).trans (engOn_gives hs ha hsub (h.ccwPost_posts hc hk))
  case nop => exact (exec_ccwNop ..).trans (engOn_gives hs ha hsub (h.ccwNop_continues hc))
  case transfer =>
    exact (exec_busTransferComplete ..).trans
      (actOn_gives hs (decide_eq_true hn.le) ((if_neg hn.ne).trans (busDone_ends hw ho hb hy hq hr hh hc ha)))
  case eventTimeout => exact (exec_waitEventTimeout ..).trans (engOn_gives hs ha hsub (waitTimeout_ends hw ht hd hb))
  case timeExpires => exact (exec_waitTimeExpire ..).trans (engOn_gives hs ha hsub (waitExpire_ends hst hw ht hc hd))
  case edge => exact (exec_gpioEdge ..).trans (actOn_gives hs (decide_eq_true hp) (gpioEdge_unarmed hp hg))
  case captured => exact (exec_gpioEdge ..).trans (actOn_gives hs (decide_eq_true hp) (gpioEdge_captured hp hg hf))
  case ibi => exact (exec_i3cIbi ..).trans (actOn_gives hs (decide_eq_true hb) (if_neg hb.not_ge))
  case remote => exact (exec_remoteTimeout ..).trans (engOn_gives hs ha hsub (remoteTimeout_ends hr hw hd))

end

section
/-! PROOF. Rows of the Shepherd cores: how the steps of an instruction's body run one after another, and what a row leaves of the
instruction that its core has fetched (R303, R307, R312, R316). -/

namespace Sys2Proof.Machine

/-! ## The steps of a body -/

section
variable {α β : Type} {m : SM α} {f : α → SM β} {cx cx1 : Cx} {a : α}

/-- After a step that answers, the body goes on with the answer. -/
theorem SM.bind_ok (h : m cx = .ok (a, cx1)) : (m >>= f) cx = f a cx1 := by
  simp only [bind, StateT.bind, Except.bind, h]

/-- A step that stops ends the body. -/
theorem SM.bind_error {e : Stop} (h : m cx = .error e) : (m >>= f) cx = .error e := by
  simp only [bind, StateT.bind, Except.bind, h]

/-- Delivering a result without changing the flags. -/
theorem put_ok (c n : Nat) (d : Loc) (r : Nat) (cx : Cx) : SM.put c n d r cx = .ok ((), cx.give c n d cx.x.psw r) :=
  put_give (p := cx.x.psw)

/-- Setting the flags and then delivering the result. -/
theorem flags_put (c n : Nat) (d : Loc) (r : Nat) (g : Word → Word) (cx : Cx) :
    (SM.flags g >>= fun _ => SM.put c n d r) cx = .ok ((), cx.give c n d (g cx.x.psw) r) :=
  (SM.bind_ok rfl).trans put_give

/-- Where a place may be written if it lies in memory, the check of that goes by (R307). -/
theorem memChecked {l : Loc} {c k n : Nat} {f : Unit → SM β} {r : Except Stop (β × Cx)}
    (hw : ∀ x, l = .mem x → SM.mayWrite c k x n cx = .ok ((), cx)) (hf : f () cx = r) :
    (match l with | .mem x => SM.mayWrite c k x n >>= f | _ => f ()) cx = r := by
  cases l with
  | mem x => exact (SM.bind_ok (hw x rfl)).trans hf
  | reg | ws | imm => exact hf

end

/-! ## The row that an instruction belongs to -/

/-- A row takes the instruction of which the bytes are `bs`, by its opcode byte and the byte after it. -/
def RowTakes (row : Nat → Nat → Bool) (bs : List Byte) : Prop :=
  ∀ b r, bs = b :: r → row b.toNat (r.head?.getD 0).toNat = true

section
variable {row : Nat → Nat → Bool} {bs : List Byte} {i : SIns} {k : Nat} (hd : decodeShep bs = .ins i)
include hd

/-- A row takes an instruction by its operation code (R304). -/
theorem rowTakes_op (ho : i.op = k) (hr : ∀ b f, b / 4 = k → row b f = true) : RowTakes row bs := by
  intro b r hb
  obtain ⟨b', r', hb', hop, -⟩ := decode_op hd
  obtain ⟨rfl, rfl⟩ := List.cons.inj (hb.symm.trans hb')
  exact hr _ _ (hop.symm.trans ho)

theorem rowTakes_rowOps {lo hi : Nat} (ho : i.op = k) (hk : lo ≤ k ∧ k ≤ hi) : RowTakes (rowOps lo hi) bs :=
  rowTakes_op hd ho (by rintro b f rfl; simp [rowOps, hk.1, hk.2])

/-- A row takes an instruction of SYS by its function (Table 9.8). -/
theorem rowTakes_sys {f : Nat} (ho : i.op = 0) (hf : i.fn = f) (hr : row 0 f = true) : RowTakes row bs := by
  intro b r hb
  obtain ⟨b', r', hb', -, -, hfn, hzero, -⟩ := decode_op hd
  obtain ⟨rfl, rfl⟩ := List.cons.inj (hb.symm.trans hb')
  rw [(hzero ho).2, ← hfn (.inl ho), hf]
  exact hr

end

/-! ## What a row leaves -/

section
variable {s : State} {c : Nat} {i : SIns} {bs : List Byte} {own : Nat → Nat → Bool} {lost : Bool} {body : SIns → SM Unit} {cx : Cx}
  {t : State} (h : s.Fetched c i bs)
include h

section
variable (hr : RowTakes own bs)
include hr

/-- An instruction whose body completes. -/
theorem State.Fetched.ends (hn : i.op ≠ 0x3E) (hb : body (i.at_ bs) (s.start c i) = .ok ((), cx)) :
    done (s.shRun c own lost body) = cx.ends c := by
  rw [shRun_fetched h hr, shExec_ok hb (hatch := false) (by simpa using hn)]
  rfl

/-- An instruction that waits with its core outside RUN. -/
theorem State.Fetched.waits (hb : body (i.at_ bs) (s.start c i) = .error (.wait t)) (ht : (t.core c).st ≠ 1) :
    done (s.shRun c own lost body) = .next t.settle := by
  rw [shRun_fetched h hr, shExec_wait hb ht]
  rfl

/-- An instruction that a trap of class Fault stops (R321). -/
theorem State.Fetched.traps {vec : Vec} {sub : Option Nat} {opnd a : Nat}
    (hb : body (i.at_ bs) (s.start c i) = .error (.trap vec sub opnd a t)) :
    done (s.shRun c own lost body) = .next (t.shTrap c vec sub opnd a (some i.len) bs).settle := by
  rw [shRun_fetched h hr, State.shExec]
  have hstop : body (i.at_ bs) (Cx.mk (s.seen c) ((s.seen c).core c) 0 ((((s.seen c).core c).pc.toNat + (i.at_ bs).len) % 2 ^ 48)
      []) = .error (.trap vec sub opnd a t) := hb
  simp only [hstop]
  rfl

end

section
variable {k lo hi : Nat} (ho : i.op = k) (hk : lo ≤ k ∧ k ≤ hi ∧ k ≠ 0x3E)
include ho hk

/-- A scalar row whose instruction's body completes. -/
theorem State.Fetched.row (hb : body (i.at_ bs) (s.start c i) = .ok ((), cx)) : done (s.shOp c lo hi body) = cx.ends c :=
  h.ends (rowTakes_rowOps h.dec ho ⟨hk.1, hk.2.1⟩) (ho ▸ hk.2.2) hb

/-- A row of two sources and a destination gives its instruction's result and flags. -/
theorem State.Fetched.binaryRow {g : SIns → Word → Nat → Nat → Nat × Word} {a b r : Nat} {d : Loc} {p : Word}
    (hb : s.Binary c i.n i.n i.n i a b d cx) (hg : g (i.at_ bs) cx.x.psw a b = (r, p)) :
    done (s.shOp c lo hi (binary c g)) = (cx.give c i.n d p r).ends c := by
  rw [h.row ho hk (binary_ok hb), hg]

/-- A row of a source and a destination gives its instruction's result and flags. -/
theorem State.Fetched.unaryRow {m n : SIns → Nat} {g : SIns → Word → Nat → Nat × Word} {a r : Nat} {d : Loc} {p : Word}
    (hu : s.Unary c (m (i.at_ bs)) (n (i.at_ bs)) i a d cx) (hg : g (i.at_ bs) cx.x.psw a = (r, p)) :
    done (s.shOp c lo hi (fun i => unary c (m i) (n i) g i)) = (cx.give c (n (i.at_ bs)) d p r).ends c := by
  have hbody := unary_ok (bs := bs) (g := g) hu
  rw [hg] at hbody
  exact h.row ho hk hbody

end

/-- A row of SYS whose instruction's body completes. -/
theorem State.Fetched.sysRow {f : Nat} (ho : i.op = 0) (hf : i.fn = f) (hr : own 0 f = true)
    (hb : body (i.at_ bs) (s.start c i) = .ok ((), cx)) : done (s.shRun c own lost body) = cx.ends c :=
  h.ends (rowTakes_sys h.dec ho hf hr) (by omega) hb

end

end Sys2Proof.Machine
end

section
/-! PROOF. Registers and the workspace of a Shepherd core: what is read after a write (R302, R305). -/

namespace Sys2Proof.Machine

/-! ## The workspace (R302) -/

section
variable (x : Shep)

/-- The workspace is a sparse map whose unwritten bytes date from the reset. -/
theorem wsByte_eq_get (i : Nat) :
    x.wsByte i = SMap.get (BitVec.ofNat 8 (Config.freeReset x.wsSeed i).toNat) x.ws i := by
  cases h : x.ws.find? (fun e => e.1 == i) <;> simp only [Shep.wsByte, SMap.get, h]

/-- A byte of the workspace written. -/
theorem wsByte_write (i j : Nat) (b : Byte) :
    ({ x with ws := SMap.ins (SMap.drop x.ws i) i b } : Shep).wsByte j = if j = i then b else x.wsByte j := by
  rw [wsByte_eq_get, wsByte_eq_get]
  split_ifs with h
  · subst h
    exact SMap.get_ins_self _ _ _ _ fun e he => (SMap.mem_drop.mp he).2
  · exact (SMap.get_ins_other _ _ _ h).trans (SMap.get_drop_other _ _ h)

end

theorem wsByte_setWs_outside (l : List Byte) : ∀ (x : Shep) (i j : Nat), j < i ∨ i + l.length ≤ j →
    (x.setWs i l).wsByte j = x.wsByte j := by
  induction l with
  | nil => exact fun _ _ _ _ => rfl
  | cons b l ih =>
    intro x i j h
    rw [List.length_cons] at h
    rw [Shep.setWs, ih _ _ _ (by omega), wsByte_write, if_neg (by omega)]

theorem wsByte_setWs_inside (l : List Byte) : ∀ (x : Shep) (i k : Nat) (h : k < l.length), (x.setWs i l).wsByte (i + k) = l[k] := by
  induction l with
  | nil => exact fun _ _ k h => absurd h (Nat.not_lt_zero k)
  | cons b l ih =>
    intro x i k h
    cases k with
    | zero => exact (wsByte_setWs_outside _ _ _ _ (.inl (Nat.lt_succ_self i))).trans ((wsByte_write ..).trans (if_pos rfl))
    | succ k =>
      rw [Shep.setWs, show i + (k + 1) = i + 1 + k by omega]
      exact ih _ _ k (Nat.lt_of_succ_lt_succ h)

/-- A write of the workspace changes nothing else of the core. -/
theorem setWs_only_ws (l : List Byte) : ∀ (x : Shep) (i : Nat), x.setWs i l = { x with ws := (x.setWs i l).ws } := by
  induction l with
  | nil => exact fun _ _ => rfl
  | cons b l ih =>
    intro x i
    rw [Shep.setWs, ih]

theorem r_setWs (x : Shep) (i : Nat) (l : List Byte) (j : Nat) : (x.setWs i l).r j = x.r j := by
  rw [setWs_only_ws]
  rfl

/-- The little-endian bytes of a number (R9). -/
theorem leBytes_getElem {n v k : Nat} (h : k < (leBytes n v).length) : (leBytes n v)[k] = BitVec.ofNat 8 (v / 2 ^ (8 * k)) := by
  simp [leBytes, Nat.shiftRight_eq_div_pow]

end Sys2Proof.Machine
end

section
/-! PROOF. The flags of the Shepherd cores against exact arithmetic (R300, Table 9.5). -/

namespace Sys2Proof.Machine

/-! ## The flag bits of the PSW (Table 9.2) -/

section
variable (psw : Word) (n z v c : Bool)

theorem bit_putFlags {i : Nat} (hi : i < 4) :
    bit (putFlags psw n z v c) i = (b2n c + 2 * b2n v + 4 * b2n z + 8 * b2n n).testBit i := by
  have hmask : (fmask 64 3 0).getLsbD i = true := by
    simp only [getLsbD_fmask, Bool.and_eq_true, decide_eq_true_eq]
    omega
  simp only [bit, putFlags, getLsbD_setFld, hmask, if_true, Nat.sub_zero]

/-- The four flags lie apart (Table 9.2). -/
theorem flagBits : ∀ n z v c : Bool, (List.range 4).map (b2n c + 2 * b2n v + 4 * b2n z + 8 * b2n n).testBit = [c, v, z, n] := by
  decide

@[simp] theorem pswC_putFlags : pswC (putFlags psw n z v c) = c := by
  rw [pswC, bit_putFlags _ _ _ _ _ (by decide)]
  exact congrArg (fun l => l.getD 0 false) (flagBits n z v c)

@[simp] theorem pswV_putFlags : pswV (putFlags psw n z v c) = v := by
  rw [pswV, bit_putFlags _ _ _ _ _ (by decide)]
  exact congrArg (fun l => l.getD 1 false) (flagBits n z v c)

@[simp] theorem pswZ_putFlags : pswZ (putFlags psw n z v c) = z := by
  rw [pswZ, bit_putFlags _ _ _ _ _ (by decide)]
  exact congrArg (fun l => l.getD 2 false) (flagBits n z v c)

@[simp] theorem pswN_putFlags : pswN (putFlags psw n z v c) = n := by
  rw [pswN, bit_putFlags _ _ _ _ _ (by decide)]
  exact congrArg (fun l => l.getD 3 false) (flagBits n z v c)

/-- The flags leave the rest of the PSW as it is. -/
@[simp] theorem fld_putFlags : fld (putFlags psw n z v c) 63 4 = fld psw 63 4 := by
  refine Nat.eq_of_testBit_eq fun i => ?_
  have hmask : (fmask 64 3 0).getLsbD (4 + i) = false := by
    simp only [getLsbD_fmask, Bool.and_eq_false_iff, decide_eq_false_iff_not]
    omega
  simp [testBit_fld, putFlags, getLsbD_setFld, hmask]

end

/-! ## Signed values -/

/-- The sign bit of an operand says whether it lies in the upper half of its range. -/
theorem signOf_eq {n v : Nat} (hn : 0 < n) (hv : v < 2 ^ (8 * n)) : signOf n v = decide (2 ^ (8 * n - 1) ≤ v) := by
  rw [signOf, Bool.eq_iff_iff, decide_eq_true_eq]
  have htop : v < 2 ^ (8 * n - 1 + 1) := by rwa [Nat.sub_add_cancel (by omega)]
  exact ⟨Nat.ge_two_pow_of_testBit, fun h => Nat.testBit_of_two_pow_le_and_two_pow_add_one_gt h htop⟩

/-- A number below 2 ^ w read as a signed one. -/
theorem sgn_cases {w v : Nat} (hw : w ≠ 0) (hv : v < 2 ^ w) :
    (v < 2 ^ (w - 1) ∧ sgn w v = v) ∨ (2 ^ (w - 1) ≤ v ∧ sgn w v = v - (2 * 2 ^ (w - 1) : Nat)) := by
  rw [sgn, Nat.mod_eq_of_lt hv, mul_pow_sub_one hw]
  split_ifs with h
  · exact .inl ⟨h, rfl⟩
  · exact .inr ⟨Nat.le_of_not_lt h, rfl⟩

section
variable {m a b k r : Nat} {sa sb : Int} (hm : (a < m ∧ sa = a) ∨ (m ≤ a ∧ sa = a - (2 * m : Nat)))
  (hn : (b < m ∧ sb = b) ∨ (m ≤ b ∧ sb = b - (2 * m : Nat))) (ha : a < 2 * m) (hb : b < 2 * m) (hk : k ≤ 1)
include hm hn ha hb hk

/-- A sum of two signed numbers and a carry leaves the range where both have one sign and the sum the other. -/
theorem sum_leaves_range (hr : (a + b + k < 2 * m ∧ r = a + b + k) ∨ (2 * m ≤ a + b + k ∧ r + 2 * m = a + b + k)) :
    (decide (m ≤ a) == decide (m ≤ b) && decide (m ≤ r) != decide (m ≤ a)) =
      decide (sa + sb + k < -(m : Int) ∨ (m : Int) ≤ sa + sb + k) := by
  rw [Bool.eq_iff_iff]
  simp only [Bool.and_eq_true, beq_iff_eq, bne_iff_ne, ne_eq, decide_eq_decide, decide_eq_true_eq]
  omega

/-- A difference of two signed numbers and a borrow leaves the range where their signs differ and the difference has not the sign
of the first. -/
theorem difference_leaves_range (hr : (b + k ≤ a ∧ r + b + k = a) ∨ (a < b + k ∧ r + b + k = a + 2 * m)) :
    (decide (m ≤ a) != decide (m ≤ b) && decide (m ≤ r) != decide (m ≤ a)) =
      decide (sa - sb - k < -(m : Int) ∨ (m : Int) ≤ sa - sb - k) := by
  rw [Bool.eq_iff_iff]
  simp only [Bool.and_eq_true, bne_iff_ne, ne_eq, decide_eq_decide, decide_eq_true_eq]
  omega

end

theorem subN_lt (n a b k : Nat) : subN n a b k < 2 ^ (8 * n) := Nat.mod_lt _ (Nat.two_pow_pos _)

section
variable {n a b k : Nat} (ha : a < 2 ^ (8 * n)) (hb : b < 2 ^ (8 * n)) (hk : k ≤ 1)
include ha hb hk

/-- The sum of two operands and a carry, and its carry out. -/
theorem sum_cases : (a + b + k < 2 ^ (8 * n) ∧ (a + b + k) % 2 ^ (8 * n) = a + b + k) ∨
    (2 ^ (8 * n) ≤ a + b + k ∧ (a + b + k) % 2 ^ (8 * n) + 2 ^ (8 * n) = a + b + k) := by
  generalize 2 ^ (8 * n) = m at ha hb ⊢
  rcases Nat.lt_or_ge (a + b + k) m with h | h
  · exact .inl ⟨h, Nat.mod_eq_of_lt h⟩
  · rw [Nat.mod_eq_sub_mod h, Nat.mod_eq_of_lt (by omega)]
    omega

/-- The difference of two operands and a borrow. -/
theorem subN_cases : (b + k ≤ a ∧ subN n a b k + b + k = a) ∨ (a < b + k ∧ subN n a b k + b + k = a + 2 ^ (8 * n)) := by
  rw [subN]
  generalize 2 ^ (8 * n) = m at ha hb ⊢
  rcases Nat.lt_or_ge a (b + k) with h | h
  · rw [Nat.mod_eq_sub_mod (by omega), Nat.mod_eq_of_lt (by omega)]
    omega
  · rw [Nat.mod_eq_sub_mod (by omega), Nat.mod_eq_sub_mod (by omega), Nat.mod_eq_of_lt (by omega)]
    omega

/-- The flags of a sum of operands of n bytes: V says that the signed sum leaves the signed range. -/
theorem flagsA_eq (hn : 0 < n) (psw : Word) :
    flagsA psw n a b k = putFlags psw (decide (2 ^ (8 * n - 1) ≤ (a + b + k) % 2 ^ (8 * n))) (decide ((a + b + k) % 2 ^ (8 * n) = 0))
      (decide (sgn (8 * n) a + sgn (8 * n) b + k < -((2 ^ (8 * n - 1) : Nat) : Int) ∨
        ((2 ^ (8 * n - 1) : Nat) : Int) ≤ sgn (8 * n) a + sgn (8 * n) b + k)) (decide (2 ^ (8 * n) ≤ a + b + k)) := by
  have hw : 8 * n ≠ 0 := by omega
  have htwo : 2 * 2 ^ (8 * n - 1) = 2 ^ (8 * n) := mul_pow_sub_one hw 2
  rw [flagsA, signOf_eq hn ha, signOf_eq hn hb, signOf_eq hn (Nat.mod_lt _ (Nat.two_pow_pos _)),
    sum_leaves_range (sgn_cases hw ha) (sgn_cases hw hb) (htwo ▸ ha) (htwo ▸ hb) hk (htwo ▸ sum_cases ha hb hk)]
  rfl

/-- The flags of a difference of operands of n bytes: V says that the signed difference leaves the signed range. -/
theorem flagsS_eq (hn : 0 < n) (psw : Word) :
    flagsS psw n a b k = putFlags psw (decide (2 ^ (8 * n - 1) ≤ subN n a b k)) (decide (subN n a b k = 0))
      (decide (sgn (8 * n) a - sgn (8 * n) b - k < -((2 ^ (8 * n - 1) : Nat) : Int) ∨
        ((2 ^ (8 * n - 1) : Nat) : Int) ≤ sgn (8 * n) a - sgn (8 * n) b - k)) (decide (a < b + k)) := by
  have hw : 8 * n ≠ 0 := by omega
  have htwo : 2 * 2 ^ (8 * n - 1) = 2 ^ (8 * n) := mul_pow_sub_one hw 2
  rw [flagsS, signOf_eq hn ha, signOf_eq hn hb, signOf_eq hn (subN_lt n a b k),
    difference_leaves_range (sgn_cases hw ha) (sgn_cases hw hb) (htwo ▸ ha) (htwo ▸ hb) hk (htwo ▸ subN_cases ha hb hk)]
  rfl

end

end Sys2Proof.Machine
end

section
/-! PROOF. What stops an instruction of a Shepherd core before its body begins, and the Watchdog (R301, R316, R322, R327 to R330). -/

namespace Sys2Proof.Machine

/-! ## Instructions that do not begin (R301, R309) -/

section
variable {s : State} {c : Nat} {own : Nat → Nat → Bool} {lost : Bool} {body : SIns → SM Unit} (hr : s.coreReady c = true)
  (hw : (s.core c).wdTrap = false)
include hr hw

/-- A fetch that waits for its controller's wake leaves the state in which it waits (R309, R462). -/
theorem shRun_fetchWaits {t : State} (hf : s.fetchWaits c = some t) : s.shRun c own lost body = t := by
  simp [State.shRun, hr, hw, hf]

/-- A supervisor instruction of SYS in user mode (R301, Table 9.8). -/
theorem shRun_privilege {i : SIns} {bs : List Byte} (hf : s.fetchWaits c = none)
    (hb : (s.seen c).fetchBytes c (s.core c).pc.toNat 12 = (bs, none)) (hd : decodeShep bs = .ins i) (ho : i.op = 0)
    (hsup : i.supervisor = true) (hp : (s.core c).priv = false) (hown : RowTakes own bs) :
    s.shRun c own lost body = (s.seen c).shTrap c .privilege (some 0) 15 0 (some i.len) bs := by
  obtain ⟨b, r, rfl, hop, -⟩ := decode_op hd
  have hscalar : ¬ (b.toNat / 4 = 0x3E ∧ !(s.core c).hatch) := by omega
  have hsel : i.selOk = true := by simp [SIns.selOk, ho]
  simp only [State.shRun, hr, hw, hf, hb, hd, hp, hsup, hsel, hown b r rfl, hscalar, Bool.not_true, Bool.not_false, Bool.false_and,
    Bool.true_and, Bool.false_eq_true, if_true, if_false]

end

/-- An IEEE 754 result that raises an enabled exception is not delivered (R345). -/
theorem fpPut_traps {c n : Nat} {d : Loc} {r : Nat × Nat} {cx : Cx} (h : r.2 &&& pswFten cx.x.psw ≠ 0) :
    fpPut c n d r cx = .error (.trap .fp (some r.2) 15 0 cx.s) :=
  (SM.bind_ok rfl).trans (congrFun (if_pos h) cx)

/-! ## The Watchdog -/

section
variable {s : State} {c : Nat} {t : Word}

/-- The Watchdog of a core is due once the instant at which its count ends is past (log entry 63). -/
theorem wdDue_past (hw : (s.core c).wdAt = some t) (ht : t.toNat < s.now.toNat) : s.wdDue c = true := by
  simp [State.wdDue, hw, ht]

section
variable (hd : s.wdDue c = true)
include hd

/-- The first expiry reloads the Watchdog, with STAGE1 set; the core takes its trap at once, after the instruction under way, or
when it has woken (R329, R330, R459). -/
theorem watchdog_first {s1 : State} (h : s.b (shp c + R.shepWdogStat) 0 = false)
    (h1 : (s.wdReload c).putB (shp c + R.shepWdogStat) 0 true = s1) :
    s.watchdog c =
      if !s1.corePowered c then (s1.updCore c (fun x => { x with wdTrap := true })).react (.domWake (152 + c))
      else if ((s1.wakeBark c).core c).inside then (s1.wakeBark c).updCore c (fun x => { x with wdTrap := true })
      else (s1.wakeBark c).wdTrapNow c := by
  subst h1
  exact (if_neg (by simp [hd])).trans (if_pos (by simp [h]))

/-- The second expiry resets the core, restarts it where RESTART is 1, and raises a timeout fault (R330). -/
theorem watchdog_second {s1 : State} (h : s.b (shp c + R.shepWdogStat) 0 = true)
    (h1 : (s.inc (shp c + R.shepWdogStat) 63 48).coreReset c = s1) :
    s.watchdog c =
      (if !s1.corePowered c then
        (s1.updCore c (fun x => { x with restart := s.b (shp c + R.shepWdog) 2 })).react (.domWake (152 + c))
      else if s.b (shp c + R.shepWdog) 2 then (s1.coreStart c).2 else s1).fault (shp c) .timeout := by
  subst h1
  exact (if_neg (by simp [hd])).trans (if_neg (by simp [h]))

end

/-- START written for a core in RESET or STOPPED that is not isolated and has power (R332, Table 16.3). -/
theorem hookCoreCtl_starts {w : Wr} (hw : bit w.data 0 = true)
    (h : ((s.core c).st = 0 ∨ (s.core c).st = 4) ∧ s.b (shp c + R.pgErrLevel) 2 = false ∧ s.domOn (152 + c) = true) :
    (hookCoreCtl c).run w s =
      (true, (s.updCore c (fun x => { x with pc := BitVec.ofNat 48 (s.f (shp c + R.shepStartPc) 47 0) })).setSt c 1) := by
  obtain ⟨hst, hlevel, hon⟩ := h
  exact (if_pos hw).trans (if_pos ⟨hst, by simp [hlevel], hon⟩)

end
end Sys2Proof.Machine
end

section
/-! PROOF. Requests at memory: where a request is served, and that a word and a line of HBM or of the Shepherd store lie in no other
region (R423, R431, R442, R450). -/

namespace Sys2Proof.Machine

section
variable {s s0 : State} {r : MemReq} {q : Option InReq} {a n opc node : Nat} {k : Nat → Option InReq → State → State}
  (hq : s.takeInbox r = (q, s0)) (ht : s.reqTarget a n = (node, none))
include hq ht

/-- A request that its target does not turn away is served where it came over the mesh or finds the controller awake. -/
theorem serve_reaches (h : q ≠ none ∨ s.asleep a = none) : s.serve r a n opc k = k node q (s0.visit a .ok) := by
  simp only [State.serve, hq, ht]
  split
  case h_1 u hu => simp [hu] at h
  case h_2 => rfl

/-- One that has not come over the mesh and finds the controller's domain asleep is held (R450). -/
theorem serve_holds {u : Nat} (hn : q = none) (ha : s.asleep a = some u) :
    s.serve r a n opc k = s.holdFor u r.node 1 opc (.req r opc) := by
  simp only [State.serve, hq, ht, hn, ha]

end

section
variable {a : Nat}

/-- An address of HBM lies below its end (Table 13.1). -/
theorem region_hbm_lt (h : region a = .hbm) : a < 0x1680000000 := by
  by_contra hlt
  have hout : ¬ a < hbmEnd := hlt
  simp only [region, hout] at h
  split_ifs at h
  contradiction

/-- An address of the Shepherd store lies below the boot ROM. -/
theorem region_shep_lt (h : region a = .shep) : a < 0x2000800000 := by
  by_contra hlt
  have hout : (shepBase ≤ a && a < shepBase + 0x800000) = false := by
    rw [Bool.eq_false_iff, ne_eq, Bool.and_eq_true, decide_eq_true_eq, decide_eq_true_eq, shepBase]
    omega
  simp only [region, hout] at h
  split_ifs at h
  contradiction

/-- An address of the boot ROM lies from its base on. -/
theorem region_rom_ge (h : region a = .rom) : 0x2000800000 ≤ a := by
  by_contra hlt
  have hout : (romBase ≤ a && a < romBase + 0x10000) = false := by
    rw [Bool.eq_false_iff, ne_eq, Bool.and_eq_true, decide_eq_true_eq, decide_eq_true_eq, romBase]
    omega
  simp only [region, hout] at h
  split_ifs at h
  contradiction

/-- The boot ROM lies above HBM and the Shepherd store, so that no word or line of theirs is in it. -/
theorem region_block_ne_rom (h : region a = .hbm ∨ region a = .shep) (n : Nat) : region (a / n * n) ≠ .rom := by
  intro hrom
  have hge := region_rom_ge hrom
  have hle := Nat.div_mul_le_self a n
  rcases h with h | h
  · have := region_hbm_lt h
    omega
  · have := region_shep_lt h
    omega

end

/-! ## The requests -/

section
variable {s s0 s1 : State} {r : MemReq} {q : Option InReq} {n node : Nat} {e : LineErr}
  (hreg : region r.addr.toNat = .hbm ∨ region r.addr.toNat = .shep) (hq : s.takeInbox r = (q, s0))
  (ht : s.reqTarget (r.addr.toNat / n * n) n = (node, none))
include hreg hq ht

/-- A read that the controller serves answers the bytes read (R430). -/
theorem memReadReq_serves (hs : q ≠ none ∨ s.asleep (r.addr.toNat / n * n) = none)
    (hu : (s0.visit (r.addr.toNat / n * n) .ok).unitRead (r.addr.toNat / n * n) n e = (true, s1)) :
    s.memReadReq r n e = s1.respond node q r .ok (s1.bytes (r.addr.toNat / n * n) n) := by
  refine (if_neg (region_block_ne_rom hreg n)).trans ((serve_reaches hq ht hs).trans ?_)
  simp only [hu]

/-- A read that finds the controller's domain asleep is held (R450). -/
theorem memReadReq_holds {u : Nat} (hn : q = none) (ha : s.asleep (r.addr.toNat / n * n) = some u) :
    s.memReadReq r n e = s.holdFor u r.node 1 (if n = 64 then 2 else 1) (.req r (if n = 64 then 2 else 1)) :=
  (if_neg (region_block_ne_rom hreg n)).trans (serve_holds hq ht hn ha)

end

/-- A CAS of a double word that the controller serves answers the value read, and writes where that is the expected one (R442). -/
theorem memCas_serves {s s0 s1 : State} {r : MemReq} {q : Option InReq} {u node : Nat} {new : Word}
    (hunit : unitOf (r.addr.toNat / 8 * 8) = some u) (hq : s.takeInbox r = (q, s0))
    (ht : s.reqTarget (r.addr.toNat / 8 * 8) 8 = (node, none)) (hs : q ≠ none ∨ s.asleep (r.addr.toNat / 8 * 8) = none)
    (hu : (s0.visit (r.addr.toNat / 8 * 8) .ok).unitRead (r.addr.toNat / 8 * 8) 8 r.err = (true, s1)) :
    s.memCas r new true = (if s1.rd (r.addr.toNat / 8 * 8) 8 = fld r.data 63 0 then
      (s1.wr (r.addr.toNat / 8 * 8) 8 (fld new 63 0)).stored (r.addr.toNat / 8 * 8) 8 else s1).respond node q r .ok
        (leBytes 8 (s1.rd (r.addr.toNat / 8 * 8) 8)) := by
  simp only [State.memCas, if_true, hunit, serve_reaches hq ht hs, hu]

section
variable {s : State} {r : MemReq} (hs : s.porst = false)
include hs

section
variable (hreg : region r.addr.toNat = .hbm ∨ region r.addr.toNat = .shep)
include hreg

theorem exec_memRead8_memory {e : LineErr} : exec (.memRead8 r e) s = .next (s.memReadReq r 8 e).settle := by
  rw [exec_memRead8, execMemRead8, act_live hs]
  rcases hreg with h | h <;> simp only [h]

theorem exec_memRead64_memory {e : LineErr} : exec (.memRead64 r e) s = .next (s.memReadReq r 64 e).settle := by
  rw [exec_memRead64, execMemRead64, act_live hs]
  rcases hreg with h | h <;> simp only [h]

theorem exec_memWrite8_memory {e : LineErr} : exec (.memWrite8 r e) s = .next (s.memWrite8 r e).settle := by
  rw [exec_memWrite8, execMemWrite8, act_live hs]
  rcases hreg with h | h <;> simp only [h]

theorem exec_memWrite64_memory {line : List Byte} : exec (.memWrite64 r line) s = .next (s.memWrite64 r line).settle := by
  rw [exec_memWrite64, execMemWrite64, act_live hs]
  rcases hreg with h | h <;> simp only [h]

theorem exec_memCas_memory {new : Word} {isD : Bool} : exec (.memCas r new isD) s = .next (s.memCas r new isD).settle := by
  rw [exec_memCas, execMemCas, act_live hs]
  rcases hreg with h | h <;> simp only [h]

theorem exec_postedWrite_memory {line : Option (List Byte)} : exec (.postedWrite r line) s = .next (s.postedWrite r line).settle := by
  rw [exec_postedWrite, execPostedWrite, act_live hs]
  rcases hreg with h | h <;> simp only [h]

end

/-- A request in a semaphore window is an access of the window, whatever it asks (R399, R400). -/
theorem exec_request_window {k : Nat} (hk : region r.addr.toNat = .sem k) :
    (∀ e, exec (.memRead8 r e) s = .next (s.windowReq r k 8 false).settle) ∧
    (∀ e, exec (.memRead64 r e) s = .next (s.windowReq r k 64 false).settle) ∧
    (∀ e, exec (.memWrite8 r e) s = .next (s.windowReq r k (if r.be = 255 then 8 else 4) true).settle) ∧
    (∀ line, exec (.memWrite64 r line) s = .next (s.windowReq r k 64 true).settle) ∧
    (∀ new d, exec (.memCas r new d) s = .next (s.windowReq r k 0 true).settle) := by
  refine ⟨fun e => ?_, fun e => ?_, fun e => ?_, fun line => ?_, fun new d => ?_⟩
  · rw [exec_memRead8, execMemRead8, act_live hs, hk]
  · rw [exec_memRead64, execMemRead64, act_live hs, hk]
  · rw [exec_memWrite8, execMemWrite8, act_live hs, hk]
  · rw [exec_memWrite64, execMemWrite64, act_live hs, hk]
  · rw [exec_memCas, execMemCas, act_live hs, hk]

end

end Sys2Proof.Machine
end

section
/-! PROOF. Words of memory, and the entry of a trap: what an engine's write leaves in memory and of the cores (R9, R323, R324). -/

namespace Sys2Proof.Machine

/-! ## Words of memory (R9) -/

/-- The little-endian bytes of a number, from the lowest on. -/
theorem leBytes_succ (n v : Nat) : leBytes (n + 1) v = BitVec.ofNat 8 v :: leBytes n (v >>> 8) := by
  simp only [leBytes, List.range_succ_eq_map, List.map_cons, List.map_map]
  refine congrArg₂ List.cons rfl (List.map_congr_left fun i _ => ?_)
  rw [← Nat.shiftRight_add]
  exact congrArg (fun k => BitVec.ofNat 8 (v >>> k)) (by omega)

theorem ofLe_leBytes (n : Nat) : ∀ v, ofLe (leBytes n v) = v % 2 ^ (8 * n) := by
  induction n with
  | zero => exact fun v => (Nat.mod_one v).symm
  | succ n ih =>
    intro v
    rw [leBytes_succ, ofLe, ih, BitVec.toNat_ofNat, Nat.shiftRight_eq_div_pow, show 8 * (n + 1) = 8 + 8 * n by omega, Nat.pow_add,
      Nat.mod_mul]

/-- Bytes written one after another. -/
theorem wrBytes_append (x y : List Byte) : ∀ (s : State) (a : Nat),
    s.wrBytes a (x ++ y) = (s.wrBytes a x).wrBytes (a + x.length) y := by
  induction x with
  | nil => exact fun _ _ => rfl
  | cons b x ih =>
    intro s a
    rw [List.cons_append, State.wrBytes, ih, State.wrBytes, List.length_cons, show a + 1 + x.length = a + (x.length + 1) by omega]

section
variable (s : State) (a : Nat)

/-- Bytes written are the bytes read. -/
theorem bytes_wrBytes_self (bs : List Byte) : (s.wrBytes a bs).bytes a bs.length = bs := by
  refine List.ext_getElem (by simp [State.bytes]) fun i _ hi => ?_
  simp [State.bytes, byte_wrBytes_inside bs s a i hi]

/-- A word written is the word read. -/
theorem rd64_wr64_self (w : Word) : (s.wr64 a w).rd64 a = w := by
  have h := bytes_wrBytes_self s a (leBytes 8 w.toNat)
  rw [leBytes_length] at h
  rw [State.rd64, State.rd, State.wr64, State.wr, h, ofLe_leBytes, Nat.mod_eq_of_lt w.isLt, BitVec.ofNat_toNat, BitVec.setWidth_eq]

/-- A word lies in its eight bytes. -/
theorem rd64_congr {s t : State} {a : Nat} (h : ∀ x, a ≤ x → x < a + 8 → t.byte x = s.byte x) : t.rd64 a = s.rd64 a := by
  have hb : t.bytes a 8 = s.bytes a 8 := List.map_congr_left fun i hi => by
    have := List.mem_range.mp hi
    exact h _ (by omega) (by omega)
  rw [State.rd64, State.rd64, State.rd, State.rd, hb]

end

/-- The bytes of words one after another are the words. -/
theorem wrBytes_words (ws : List Word) : ∀ (s : State) (a : Nat),
    s.wrBytes a (ws.flatMap (fun w => leBytes 8 w.toNat)) = s.wrWords a ws := by
  induction ws with
  | nil => exact fun _ _ => rfl
  | cons w ws ih =>
    intro s a
    rw [List.flatMap_cons, wrBytes_append, leBytes_length, ih]
    rfl

theorem byte_wrWords_outside (ws : List Word) : ∀ (s : State) (a x : Nat), x < a ∨ a + 8 * ws.length ≤ x →
    (s.wrWords a ws).byte x = s.byte x := by
  induction ws with
  | nil => exact fun _ _ _ _ => rfl
  | cons w ws ih =>
    intro s a x h
    rw [List.length_cons] at h
    rw [State.wrWords, ih _ _ _ (by omega), byte_wr64_outside _ _ _ _ (by omega)]

/-- Each of the words written is the word read. -/
theorem rd64_wrWords (ws : List Word) : ∀ (s : State) (a k : Nat) (h : k < ws.length),
    (s.wrWords a ws).rd64 (a + 8 * k) = ws[k] := by
  induction ws with
  | nil => exact fun _ _ k h => absurd h (Nat.not_lt_zero k)
  | cons w ws ih =>
    intro s a k h
    cases k with
    | zero => exact (rd64_congr fun x hlo hhi => byte_wrWords_outside ws _ _ _ (.inl hhi)).trans (rd64_wr64_self s a w)
    | succ k =>
      rw [State.wrWords, show a + 8 * (k + 1) = a + 8 + 8 * k by omega]
      exact ih _ _ k (Nat.lt_of_succ_lt_succ h)

/-! ## What an engine's write leaves -/

section
variable (s : State) (a : Nat)

/-- A store that has reached memory only makes the semaphore units look at their waiters (R403). -/
theorem stored_signals (n : Nat) : Signals s (s.stored a n) := signals_foldl s _ _ fun _ _ => rfl

@[simp] theorem clearPoison_cores : (s.clearPoison a).cores = s.cores := by
  unfold State.clearPoison
  dsimp only
  split
  · rfl
  · split <;> rfl

@[simp] theorem clearLines_cores (n : Nat) : (s.clearLines a n).cores = s.cores := by
  unfold State.clearLines
  split
  · generalize (blocksOf 64 a n).filter _ = l
    induction l generalizing s with
    | nil => rfl
    | cons b l ih => rw [List.foldl_cons, ih, clearPoison_cores]
  · rfl

/-- An engine's write leaves the cores alone. -/
theorem memWrite_cores (bs : List Byte) : (s.memWrite a bs).2.cores = s.cores := by
  unfold State.memWrite
  split
  · rw [(signals_checkMem _ _ _ _).cores, clearLines_cores, (signals_hostSent _ _ _ _ _).cores, (signals_visit _ _ _ _).cores,
      (stored_signals _ _ _).cores, wrBytes_only_mem]
  · exact (signals_refused ..).cores

theorem memWrite_core {bs : List Byte} {st : Status} {s1 : State} (h : s.memWrite a bs = (st, s1)) (c : Nat) :
    s1.core c = s.core c := by
  rw [State.core, show s1 = _ from (congrArg Prod.snd h).symm, memWrite_cores, State.core]

/-- An engine's write that lands leaves the bytes written. -/
theorem memWrite_mem {bs : List Byte} {s1 : State} (h : s.memWrite a bs = (.ok, s1)) : s1.mem = (s.wrBytes a bs).mem := by
  have hok : s.engineStatus a bs.length true = .ok := by
    unfold State.memWrite at h
    split at h
    · assumption
    · exact congrArg Prod.fst h
  rw [State.memWrite, hok] at h
  rw [← (Prod.mk.inj h).2]
  simp

end

/-! ## The entry of a trap (R323, R324) -/

section
variable {s s1 s2 : State} {c : Nat}

/-- STATE set changes nothing of the core but the Watchdog's count. -/
theorem setSt_core (s : State) (c v : Nat) :
    ∃ t n, (s.setSt c v).core c = { s.core c with st := v, wdAt := t, wdLeft := n } := by
  simp only [State.setSt, State.wdSync, State.core_updCore]
  repeat' split
  all_goals exact ⟨_, _, rfl⟩

/-- A trap whose frame can be written and whose handler's address can be read goes on at the handler. -/
theorem takeTrap_enters {i : TrapInfo} {pc : BitVec 48} {bs : List Byte} (hal : (s.core c).frameAt.toNat % 8 = 0)
    (hw : (s.inc (shp c + R.shepCoreStat) 63 32).memWrite ((s.core c).frameAt.toNat % 2 ^ 48)
      ((s.frame c i pc).flatMap (fun w => leBytes 8 w.toNat)) = (.ok, s1))
    (hr : (s1.updCore c (fun y => { y.setR 7 (s.core c).frameAt with psw := setBit y.psw 25 true })).memRead
      (((s.core c).tbr.toNat + 8 * i.vec.num) % 2 ^ 48) 8 = (.ok, bs, s2)) :
    s.takeTrap c i pc = (s2.updCore c (fun x =>
      { x with pc := BitVec.ofNat 48 (ofLe bs), held := false, log := [], mid := false })).setSt c 1 := by
  have hcore : s1.core c = s.core c := memWrite_core _ _ hw c
  have hpush : (s.inc (shp c + R.shepCoreStat) 63 32).pushFrame c i pc =
      some (s1.updCore c (fun y => { y.setR 7 (s.core c).frameAt with psw := setBit y.psw 25 true })) := by
    have hx : (s.inc (shp c + R.shepCoreStat) 63 32).core c = s.core c := rfl
    have hframe : (s.inc (shp c + R.shepCoreStat) 63 32).frame c i pc = s.frame c i pc := rfl
    simp only [State.pushFrame, hx, hframe, hal, hw, ne_eq, not_true_eq_false, if_false]
    rfl
  simp only [State.takeTrap, hpush, State.core_updCore, hcore, State.enterHandler]
  rw [show (((s.core c).setR 7 (s.core c).frameAt).tbr) = (s.core c).tbr from rfl, hr]

end

end Sys2Proof.Machine
end

section
/-! PROOF. The operands of a Shepherd instruction: what their evaluation leaves of the cores (R307, R308, R312). -/

namespace Sys2Proof.Machine

/-! ## Steps that answer -/

section
variable {α β : Type} {m : SM α} {f : α → SM β} {cx cx1 : Cx} {v : β}

/-- Two steps of a body answer where both do. -/
theorem SM.bind_eq_ok : (m >>= f) cx = .ok (v, cx1) ↔ ∃ a cx0, m cx = .ok (a, cx0) ∧ f a cx0 = .ok (v, cx1) := by
  simp only [bind, StateT.bind, Except.bind]
  cases m cx with
  | error e => simp
  | ok p => exact ⟨fun h => ⟨p.1, p.2, rfl, h⟩, by rintro ⟨a, cx0, h, hf⟩; cases h; exact hf⟩

end

/-- The checks of an operand change nothing. -/
theorem check_ok {opnd a n : Nat} {cx cx1 : Cx} (h : SM.check opnd a n cx = .ok ((), cx1)) : cx1 = cx := by
  unfold SM.check at h
  repeat' split at h
  all_goals cases h
  all_goals rfl

/-- An error response never answers (R308). -/
theorem status_stops {α : Type} {st : Status} {opnd a : Nat} {cx : Cx} {p : α × Cx} : SM.status st opnd a cx ≠ .ok p := by
  cases st <;> exact nofun

/-- Nor does it where the state has been set first. -/
theorem set_status_stops {α : Type} {st : Status} {opnd a : Nat} {cx cx' : Cx} {p : α × Cx} :
    (set cx' >>= fun _ => SM.status st opnd a : SM α) cx ≠ .ok p := by
  intro h
  obtain ⟨_, _, -, h⟩ := SM.bind_eq_ok.mp h
  exact status_stops h

/-- Where a place may be written nothing has changed yet. -/
theorem mayWrite_ok {c opnd a n : Nat} {cx cx1 : Cx} (h : SM.mayWrite c opnd a n cx = .ok ((), cx1)) : cx1 = cx := by
  unfold SM.mayWrite at h
  obtain ⟨_, _, hc, hbody⟩ := SM.bind_eq_ok.mp h
  cases check_ok hc
  obtain ⟨_, _, hg, hact⟩ := SM.bind_eq_ok.mp hbody
  cases hg
  generalize region a = k at hact
  cases k
  case control => cases hact; rfl
  case rom => cases hact
  case sem w =>
    dsimp only at hact
    generalize cx.s.semAccess a n true (coreOrigin c) (cx.s.reqPrio c) (.core c) = p at hact
    obtain ⟨_ | _ | _ | st, s1⟩ := p
    case error => exact absurd hact set_status_stops
    all_goals cases hact; rfl
  all_goals
    dsimp only at hact
    generalize cx.s.engineStatus a n true = st at hact
    cases st
    case ok => cases hact; rfl
    all_goals exact absurd hact set_status_stops

/-! ## Reads of an operand leave the cores alone -/

section
variable (s : State)

@[simp] theorem wrBytes_cores (a : Nat) (bs : List Byte) : (s.wrBytes a bs).cores = s.cores := by
  rw [wrBytes_only_mem]

@[simp] theorem semTakeNow_cores (u a : Nat) (o : Origin) (old : Bool) : (s.semTakeNow u a o old).2.cores = s.cores :=
  wrBytes_cores ..

/-- The windows that are read take, try or peek (Table 12.2), and no core changes (R405). -/
theorem semOp_cores {k : Nat} (hk : k ≠ 1) (u a : Nat) (o : Origin) (prio : Nat) (who : SemBy) :
    (s.semOp k u a o prio who).2.cores = s.cores := by
  match k, hk with
  | 0, _ =>
    simp only [State.semOp, State.semTake]
    split_ifs <;> simp
  | 2, _ =>
    simp only [State.semOp, State.semTry]
    split_ifs <;> simp
  | _ + 3, _ => rfl

theorem semAccess_read_cores (a n : Nat) (o : Origin) (prio : Nat) (who : SemBy) :
    (s.semAccess a n false o prio who).2.cores = s.cores := by
  have hbad : (s.semBad (semInner a)).2.cores = s.cores := (signals_badWindow s _).cores
  unfold State.semAccess
  split
  · rename_i k _
    dsimp only
    split
    · split_ifs with hk
      · exact hbad
      · have hread : k ≠ 1 := by
          rintro rfl
          simp at hk
        split
        · exact (semOp_cores _ hread ..).trans ((signals_visit s _ _ _).trans (signals_checkMem _ _ _ _)).cores
        · exact (signals_refused s _ _ _ _).cores
    · exact hbad
  · rfl

theorem readReg_cores (off : Nat) (r : RegR) : (s.readReg off r).2.cores = s.cores := by
  unfold State.readReg
  dsimp only [State.beforeRead]
  split_ifs <;> rfl

theorem controlRead_cores (off : Nat) (r : RegR) : (s.controlRead off r).2.2.cores = s.cores := by
  unfold State.controlRead
  split
  · rfl
  · split_ifs
    · rfl
    · split
      · rfl
      · exact readReg_cores ..

end

/-- What memory, a register or a window answers leaves the cores and the registers of the execution. -/
theorem fetch_keeps {c opnd a n v : Nat} {cx cx1 : Cx} (h : SM.fetch c opnd a n cx = .ok (v, cx1)) :
    cx1.s.cores = cx.s.cores ∧ cx1.x = cx.x := by
  unfold SM.fetch at h
  obtain ⟨_, _, hc, hbody⟩ := SM.bind_eq_ok.mp h
  cases check_ok hc
  obtain ⟨_, _, hg, hact⟩ := SM.bind_eq_ok.mp hbody
  cases hg
  generalize region a = k at hact
  cases k
  case control =>
    cases hact
    exact ⟨controlRead_cores .., rfl⟩
  case rom =>
    dsimp only at hact
    split at hact
    · cases hact
      exact ⟨rfl, rfl⟩
    · cases hact
  case sem w =>
    dsimp only at hact
    have hcores := semAccess_read_cores cx.s a n (coreOrigin c) (cx.s.reqPrio c) (.core c)
    generalize cx.s.semAccess a n false (coreOrigin c) (cx.s.reqPrio c) (.core c) = p at hact hcores
    obtain ⟨_ | _ | _ | st, s1⟩ := p
    case value =>
      cases hact
      exact ⟨hcores, rfl⟩
    case error => exact absurd hact set_status_stops
    all_goals cases hact
  all_goals
    dsimp only at hact
    have hcores := (signals_memRead cx.s a n).cores
    generalize cx.s.memRead a n = p at hact hcores
    obtain ⟨st, bs, s1⟩ := p
    cases st
    case ok =>
      cases hact
      exact ⟨hcores, rfl⟩
    all_goals exact absurd hact set_status_stops

/-- The execution's registers are those of the core's workspace seed: what nothing has written since the reset reads alike. -/
def Cx.Seeded (c : Nat) (cx : Cx) : Prop := (cx.s.core c).wsSeed = cx.x.wsSeed

section
variable {c : Nat} {cx cx1 : Cx}

theorem read_seeded {opnd a n v : Nat} (h : SM.read c opnd a n cx = .ok (v, cx1)) (hs : cx.Seeded c) : cx1.Seeded c := by
  unfold SM.read at h
  split at h
  · cases h
    exact hs
  · split at h
    case h_1 v' cx' hf =>
      cases h
      obtain ⟨hcores, hx⟩ := fetch_keeps hf
      rw [Cx.Seeded, State.core_updCore, State.core, hcores, hx]
      exact hs
    case h_2 => cases h

theorem loc_seeded {opnd upd : Nat} {o : Opd} {l : Loc} (h : SM.loc c opnd upd o cx = .ok (l, cx1)) (hs : cx.Seeded c) :
    cx1.Seeded c := by
  unfold SM.loc at h
  obtain ⟨_, _, hg, hact⟩ := SM.bind_eq_ok.mp h
  cases hg
  cases o
  case ind i d =>
    obtain ⟨v, cx', hr, hl⟩ := SM.bind_eq_ok.mp hact
    cases hl
    exact read_seeded hr hs
  all_goals
    cases hact
    exact hs

theorem get_seeded {opnd n v : Nat} {l : Loc} (h : SM.get c opnd n l cx = .ok (v, cx1)) (hs : cx.Seeded c) : cx1.Seeded c := by
  unfold SM.get at h
  obtain ⟨_, _, hg, hact⟩ := SM.bind_eq_ok.mp h
  cases hg
  cases l
  case mem a => exact read_seeded hact hs
  all_goals
    cases hact
    exact hs

theorem src_seeded {opnd n v : Nat} {o : Opd} (h : SM.src c opnd n o cx = .ok (v, cx1)) (hs : cx.Seeded c) : cx1.Seeded c := by
  obtain ⟨l, cx', hl, hg⟩ := SM.bind_eq_ok.mp h
  exact get_seeded hg (loc_seeded hl hs)

theorem dst_seeded {opnd n : Nat} {o : Opd} {l : Loc} (h : SM.dst c opnd n o cx = .ok (l, cx1)) (hs : cx.Seeded c) :
    cx1.Seeded c := by
  obtain ⟨l', cx', hl, hact⟩ := SM.bind_eq_ok.mp h
  have hs' := loc_seeded hl hs
  cases l'
  case mem a =>
    obtain ⟨_, cx2, hm, hp⟩ := SM.bind_eq_ok.mp hact
    cases hp
    cases mayWrite_ok hm
    exact hs'
  all_goals
    cases hact
    exact hs'

/-- Two sources and a destination evaluated leave the workspace's seed. -/
theorem binary_seeded {s : State} {n m k : Nat} {i : SIns} {a b : Nat} {d : Loc} (h : s.Binary c n m k i a b d cx) :
    cx.Seeded c := by
  obtain ⟨cx1, cx2, ha, hb, hd⟩ := h
  exact dst_seeded hd (src_seeded hb (src_seeded ha rfl))

end

end Sys2Proof.Machine
end

section
/-! PROOF. The completion of an instruction of a Shepherd core: what it leaves of the core, of the other cores and of memory
(R305, R307, R321). -/

namespace Sys2Proof.Machine

/-! ## Registers of the cores' pages decide no access of memory -/

/-- Two states agree on what an access of memory asks for: the registers of pages other than the cores', the controllers and the
host's link (R423, R449). -/
structure AccessAlike (s t : State) : Prop where
  regs : ∀ o, o < 0x310000 ∨ 0x320000 ≤ o → t.reg o = s.reg o
  hbmc : t.hbmc = s.hbmc
  host : t.host = s.host

theorem unitNode_lt (u : Nat) : unitNode u < 160 := by
  match u with
  | 0 | 1 | 2 | 3 => decide
  | _ + 4 => exact (by decide : (151 : Nat) < 160)

theorem adapterOf_lt (a : Nat) : adapterOf a < 160 := by
  unfold adapterOf
  omega

section
variable {s t : State} (h : AccessAlike s t)
include h

theorem AccessAlike.isolated {n : Nat} (hn : n < 160) : t.isolated n = s.isolated n := by
  have hni : t.reg (pageAt .noc n + R.nocNiCtl) = s.reg (pageAt .noc n + R.nocNiCtl) :=
    h.regs _ (.inl (by simp only [pageAt, blkBase, R.nocNiCtl]; omega))
  have htile : t.reg (pageAt .tile (n - 16) + R.pgErrLevel) = s.reg (pageAt .tile (n - 16) + R.pgErrLevel) :=
    h.regs _ (.inl (by simp only [pageAt, blkBase, R.pgErrLevel]; omega))
  simp only [State.isolated, State.b, hni, htile]

theorem AccessAlike.lineBad (a : Nat) : t.lineBad a = s.lineBad a := by
  simp only [State.lineBad, State.poisoned, State.errsAt, State.hb, h.hbmc]

theorem AccessAlike.hostOk : t.hostOk = s.hostOk := by
  rw [State.hostOk, State.hostOk, State.f, State.f, h.host, h.regs _ (.inr (by decide))]

theorem AccessAlike.sramStops (a n : Nat) (w : Bool) : t.sramStops a n w = s.sramStops a n w := by
  have hinj : t.reg (pageAt .hbmc 4 + R.pgErrInj) = s.reg (pageAt .hbmc 4 + R.pgErrInj) := h.regs _ (.inl (by decide))
  unfold State.sramStops State.memArmed State.b State.f
  rw [hinj]

/-- They give an engine's access the same status. -/
theorem AccessAlike.engineStatus (a n : Nat) (w : Bool) : t.engineStatus a n w = s.engineStatus a n w := by
  simp only [State.engineStatus, State.access, h.isolated (unitNode_lt _), h.isolated (adapterOf_lt _), h.lineBad, h.hostOk,
    h.sramStops]

end

/-! ## The completion -/

/-- The instruction has completed but for what follows it. -/
def Cx.retired (cx : Cx) (c : Nat) : State :=
  (cx.s.retire c 0).updCore c (fun x => { x with
    gpr := cx.x.gpr, bk := cx.x.bk, psw := cx.x.psw, vl := cx.x.vl, tbr := cx.x.tbr, ksp := cx.x.ksp, v := cx.x.v, hfi := cx.x.hfi,
    ws := cx.x.ws, pc := BitVec.ofNat 48 cx.npc })

/-- What follows the delivery of a result: the write of one that goes to memory (R307). -/
def State.lands (s : State) (n : Nat) (r : Nat) : Loc → State
  | .mem e => (s.memWrite e (leBytes n r)).2
  | _ => s

section
variable (cx : Cx) (c : Nat)

@[simp] theorem State.core_setReg (s : State) (o : Nat) (w : Word) (c : Nat) : (s.setReg o w).core c = s.core c := by
  rw [State.core, State.setReg_cores, State.core]

@[simp] theorem State.core_putB (s : State) (o i : Nat) (v : Bool) (c : Nat) : (s.putB o i v).core c = s.core c := by
  rw [State.core, State.putB_cores, State.core]

/-- The registers of the execution hold, and the core has counted the instruction. -/
theorem retired_core : (cx.retired c).core c = { cx.s.core c with
    gpr := cx.x.gpr, bk := cx.x.bk, psw := cx.x.psw, vl := cx.x.vl, tbr := cx.x.tbr, ksp := cx.x.ksp, v := cx.x.v, hfi := cx.x.hfi,
    ws := cx.x.ws, pc := BitVec.ofNat 48 cx.npc, icount := (cx.s.core c).icount + 1, held := false, log := [], mid := false } := by
  simp only [Cx.retired, State.core_updCore, State.retire, State.core_setReg, State.core_putB, BitVec.add_zero]

theorem retired_core_other {m : Nat} (h : m ≠ c) : (cx.retired c).core m = cx.s.core m :=
  (SMap.get_set_other _ _ _ h).trans (SMap.get_set_other _ _ _ h)

@[simp] theorem retired_mem : (cx.retired c).mem = cx.s.mem := by
  simp only [Cx.retired, State.retire, State.updCore_mem, State.putB_mem, State.setReg_mem]

theorem retired_regs : (cx.retired c).regs = ((cx.s.setReg (shp c + R.shepPc) ((cx.s.core c).pc.zeroExtend 64)).putB
    (shp c + R.shepCoreStat) 4 (bit (cx.s.core c).psw 25)).regs := by
  simp only [Cx.retired, State.retire, State.updCore_regs]

/-- Of the registers only two of the core's page have changed (SHEP_PC, SHEP_CORE_STAT). -/
theorem retired_reg {o : Nat} (hpc : o ≠ shp c + R.shepPc) (hstat : o ≠ shp c + R.shepCoreStat) :
    (cx.retired c).reg o = cx.s.reg o := by
  rw [State.reg, retired_regs]
  exact (reg_putB_other _ _ _ hstat).trans (reg_setReg_other _ _ hpc)

theorem retired_accessAlike (hc : c < 16) : AccessAlike cx.s (cx.retired c) := by
  refine ⟨fun o ho => retired_reg cx c ?pc ?stat, ?hbmc, ?host⟩
  case hbmc => simp only [Cx.retired, State.retire, State.updCore_hbmc, State.putB_hbmc, State.setReg_hbmc]
  case host => simp only [Cx.retired, State.retire, State.updCore_host, State.putB_host, State.setReg_host]
  case pc =>
    simp only [shp, pageAt, blkBase, R.shepPc]
    omega
  case stat =>
    simp only [shp, pageAt, blkBase, R.shepCoreStat]
    omega

end

section
variable (s : State) (n r : Nat) (d : Loc)

@[simp] theorem lands_cores : (s.lands n r d).cores = s.cores := by
  cases d with
  | mem e => exact memWrite_cores ..
  | reg | ws | imm => rfl

/-- What lands elsewhere than in memory leaves memory alone. -/
theorem byte_lands_elsewhere (h : ∀ e, d ≠ .mem e) (x : Nat) : (s.lands n r d).byte x = s.byte x := by
  cases d with
  | mem e => exact absurd rfl (h e)
  | reg | ws | imm => rfl

variable {d} {e : Nat} (h : d = .mem e)
include h

theorem byte_lands_outside {x : Nat} (hx : x < e ∨ e + n ≤ x) : (s.lands n r d).byte x = s.byte x := by
  subst h
  exact byte_memWrite_outside _ _ _ _ (by simpa using hx)

theorem byte_lands_inside (hok : s.engineStatus e n true = .ok) {j : Nat} (hj : j < n) :
    (s.lands n r d).byte (e + j) = BitVec.ofNat 8 (r / 2 ^ (8 * j)) := by
  subst h
  have hw : s.memWrite e (leBytes n r) = (.ok, (s.memWrite e (leBytes n r)).2) := by
    simp only [State.memWrite, leBytes_length, hok]
  rw [State.lands, State.byte, memWrite_mem _ _ hw]
  exact (byte_wrBytes_inside _ _ _ _ (by simpa using hj)).trans (leBytes_getElem _)

end

/-- A core that may execute is one of the sixteen. -/
theorem coreReady_lt {s : State} {c : Nat} (h : s.coreReady c = true) : c < 16 := by
  simp only [State.coreReady, Bool.and_eq_true, decide_eq_true_eq] at h
  tauto

section
variable {cx : Cx} {c n r : Nat} {d : Loc} {p : Word}

@[simp] theorem give_s : (cx.give c n d p r).s = cx.s := by cases d <;> rfl
@[simp] theorem give_npc : (cx.give c n d p r).npc = cx.npc := by cases d <;> rfl

/-- A result delivered changes the flags and its register or its place in the workspace. -/
theorem give_x : (cx.give c n d p r).x =
    { cx.x with psw := p, gpr := (cx.give c n d p r).x.gpr, ws := (cx.give c n d p r).x.ws } := by
  cases d with
  | ws o =>
    simp only [Cx.give]
    rw [setWs_only_ws]
  | reg | mem | imm => rfl

theorem give_r_same {k : Nat} (h : d = .reg k) : (cx.give c n d p r).x.r k = BitVec.ofNat 64 (r % 2 ^ (8 * n)) := by
  subst h
  exact SMap.get_set_self ..

theorem give_r_other {j : Nat} (h : d ≠ .reg j) : (cx.give c n d p r).x.r j = cx.x.r j := by
  cases d with
  | reg k => exact SMap.get_set_other _ _ _ fun e => h (congrArg Loc.reg e.symm)
  | ws => exact r_setWs ..
  | mem | imm => rfl

theorem give_ws (h : ∀ o, d ≠ .ws o) : (cx.give c n d p r).x.ws = cx.x.ws := by
  cases d with
  | ws o => exact absurd rfl (h o)
  | reg | mem | imm => rfl

theorem give_wsByte {o j : Nat} (h : d = .ws o) (hj : j < o ∨ o + n ≤ j) : (cx.give c n d p r).x.wsByte j = cx.x.wsByte j := by
  subst h
  exact wsByte_setWs_outside _ _ _ _ (by simpa using hj)

/-- A byte of the workspace is that of its map and its seed. -/
theorem wsByte_congr {x y : Shep} (hw : x.ws = y.ws) (hs : x.wsSeed = y.wsSeed) (j : Nat) : x.wsByte j = y.wsByte j := by
  rw [Shep.wsByte, Shep.wsByte, hw, hs]

/-- The core with a result delivered and the instruction retired. -/
theorem give_retired_core : ((cx.give c n d p r).retired c).core c = { cx.s.core c with
    gpr := (cx.give c n d p r).x.gpr, bk := cx.x.bk, psw := p, vl := cx.x.vl, tbr := cx.x.tbr, ksp := cx.x.ksp, v := cx.x.v,
    hfi := cx.x.hfi, ws := (cx.give c n d p r).x.ws, pc := BitVec.ofNat 48 cx.npc, icount := (cx.s.core c).icount + 1,
    held := false, log := [], mid := false } := by
  rw [retired_core, give_s, give_npc, give_x]

/-- A write of a word of HBM or of the Shepherd store is an engine's write. -/
theorem coreWrite_memory {s : State} {e : Nat} (h : region e = .hbm ∨ region e = .shep) :
    s.coreWrite c e n r = (s.memWrite e (leBytes n r)).2 := by
  unfold State.coreWrite
  rcases h with h | h <;> rw [h]

/-- Where no trap of the Watchdog is due, the completion ends with what follows the instruction (R329). -/
theorem commit_calm {u : State} (hu : cx.post.foldl (fun (s : State) (g : State → State) => g s) (cx.retired c) = u)
    (hwd : (u.core c).wdTrap = false) : cx.commit c false = u := by
  subst hu
  refine if_neg fun hdue => ?_
  simp only [Bool.and_eq_true] at hdue
  obtain ⟨⟨⟨htrap, -⟩, -⟩, -⟩ := hdue
  exact absurd (htrap.symm.trans hwd) Bool.noConfusion

/-- A result delivered completes with its write, where no trap of the Watchdog is due and its place in memory is a word of HBM or of
the Shepherd store. -/
theorem give_commit (hpost : cx.post = []) (hcalm : (cx.s.core c).wdTrap = false)
    (hd : ∀ e, d = .mem e → region e = .hbm ∨ region e = .shep) :
    (cx.give c n d p r).commit c false = ((cx.give c n d p r).retired c).lands n (r % 2 ^ (8 * n)) d := by
  have hlands : (cx.give c n d p r).post.foldl (fun (s : State) (g : State → State) => g s) ((cx.give c n d p r).retired c) =
      ((cx.give c n d p r).retired c).lands n (r % 2 ^ (8 * n)) d := by
    cases d with
    | mem e => simp only [Cx.give, hpost, List.nil_append, List.foldl_cons, List.foldl_nil, coreWrite_memory (hd e rfl), State.lands]
    | reg | ws | imm => simp only [Cx.give, hpost, List.foldl_nil, State.lands]
  have hwd : ((((cx.give c n d p r).retired c).lands n (r % 2 ^ (8 * n)) d).core c).wdTrap = false := by
    rw [State.core, lands_cores, ← State.core, retired_core, give_s]
    exact hcalm
  exact commit_calm hlands hwd

end

end Sys2Proof.Machine
end

section
/-! PROOF. The obligations of the Shepherd instruction set. -/

open Sys2Proof Sys2Proof.Machine

/-- Settles O36: each row is the shared body of two sources and a destination, with its opcode's result and flags. -/
theorem shepherdIntegersComplete : Obligations.ShepherdIntegersComplete := by
  unfold Obligations.ShepherdIntegersComplete
  intro s c i bs a b d cx h hb n p q gives
  refine ⟨fun ho => ?add, fun ho => ?sub, fun ho => ?adc, fun ho => ?sbc, fun ho => ?mul, fun ho => ?mulhs, fun ho => ?mulhu,
    fun ho => ?divs, fun ho => ?divu, fun ho => ?rems, fun ho => ?remu, fun ho => ?and, fun ho => ?or, fun ho => ?xor,
    fun ho => ?andn, fun hlo hhi => ?shift⟩
  case mul => exact h.binaryRow ho (by decide) hb rfl
  case shift => exact h.binaryRow rfl ⟨hlo, hhi, by omega⟩ hb rfl
  all_goals exact h.binaryRow ho (by decide) hb (by simp [at_op, at_n, ho, n, p, q])

/-- Settles O37: the rows of one source and a destination share their body; LEA delivers the address itself, and CMP and TST set
the flags alone. -/
theorem shepherdMovesComplete : Obligations.ShepherdMovesComplete := by
  unfold Obligations.ShepherdMovesComplete
  refine ⟨fun s c i bs a d cx h hu => ⟨fun ho => ?mov, fun ho => ?neg, fun ho => ?not⟩,
    fun s c i bs a d cx h hu => ⟨fun ho => ?movz, fun ho => ?movs, fun ho => ?clz, fun ho => ?popc⟩,
    fun s c i bs a d cx cx1 h ho hl hd => ?lea, fun s c i bs a b cx h ⟨cx1, ha, hb⟩ => ⟨fun ho => ?cmp, fun ho => ?tst⟩⟩
  case mov => exact h.ends (rowTakes_op h.dec ho (by rintro b f hb; simp [hb])) (by omega) (unary_ok hu)
  case neg | not => exact h.unaryRow ho (by decide) hu rfl
  case movz | movs | clz | popc => exact h.unaryRow ho (by decide) hu (by simp [at_op, at_n, ho])
  case lea => exact h.row ho (by decide) ((SM.bind_ok hl).trans ((SM.bind_ok hd).trans (put_ok ..)))
  case cmp | tst => exact h.row ho (by decide) ((SM.bind_ok ha).trans ((SM.bind_ok hb).trans rfl))

/-- Settles O38: the field operand passes its check, and the rest is delivered as the result. -/
theorem shepherdFieldsComplete : Obligations.ShepherdFieldsComplete := by
  unfold Obligations.ShepherdFieldsComplete
  intro s c i bs a f cx cx1 h ⟨cx0, ha, hf⟩ pos w
  have hfield (hlo : 1 ≤ w) (hhi : w ≤ 64) : SM.fieldOpd c (i.opd 1) cx0 = .ok ((pos, w), cx1) :=
    (SM.bind_ok hf).trans (congrFun (if_neg (by omega)) cx1)
  refine ⟨fun d ho hlo hhi hd => ?bfext, fun d old cx2 ho hlo hhi hl hold hw => ?bfins, fun d ho hd => ?bperm⟩
  case bfext =>
    exact h.row ho (by decide) ((SM.bind_ok ha).trans ((SM.bind_ok (hfield hlo hhi)).trans ((SM.bind_ok hd).trans (flags_put ..))))
  case bfins =>
    exact h.row ho (by decide) ((SM.bind_ok ha).trans ((SM.bind_ok (hfield hlo hhi)).trans ((SM.bind_ok hl).trans
      ((SM.bind_ok hold).trans (memChecked hw (flags_put ..))))))
  case bperm =>
    exact h.row ho (by decide) ((SM.bind_ok ha).trans ((SM.bind_ok hf).trans ((SM.bind_ok hd).trans (flags_put ..))))

/-- Settles O40: each body reads its operand and then acts; a branch draws the amount of an update first where its specifier makes
one. -/
theorem shepherdControlComplete : Obligations.ShepherdControlComplete := by
  unfold Obligations.ShepherdControlComplete
  intro s c i bs h
  refine ⟨?branch, fun t cx1 cx ho ht => ?call, fun m cx ho hm => ?signal,
    fun t cx ho ht => ⟨fun hle => ?passed, fun hlt => ?sleeps⟩, fun k cx ho hk => ?trap,
    fun s0 t cx hs0 hs hst hwd hle ho ht => ?expire⟩
  case branch =>
    intro o u cx0 holds hlo hhi
    have hx : cx0.x = (s.start c i).x := by simp only [cx0]; split <;> rfl
    have hcond : condHolds cx0.x.psw (4 * (i.op - 0x22) + i.sz) = holds := by rw [hx]
    have hdraws {next : Word → SM Unit} {r : Except Stop (Unit × Cx)} (hr : ∀ w, w.toNat = u → next w cx0 = r) :
        (if o.updates = true then SM.draw >>= next else pure 0 >>= next) (s.start c i) = r := by
      simp only [u, cx0] at hr
      cases hu : o.updates with
      | true =>
        simp only [hu] at hr
        exact hr _ rfl
      | false =>
        simp only [hu] at hr
        exact hr 0 rfl
    clear_value u cx0
    have hrow {f : SIns → SM Unit} {r : Cx} := h.row (body := f) (cx := r) (lo := 0x22) (hi := 0x25) rfl ⟨hlo, hhi, by omega⟩
    refine ⟨fun t cx hc ht => hrow (hdraws fun w hw => ?taken), fun hc hn => hrow (hdraws fun w hw => ?passes),
      fun l cx hc hu hl => hrow (hdraws fun w hw => ?updates)⟩
    case taken =>
      subst hw
      exact (SM.bind_ok rfl).trans ((congrFun (if_pos (hcond.trans hc)) cx0).trans ((SM.bind_ok ht).trans rfl))
    case passes =>
      exact (SM.bind_ok rfl).trans ((congrFun (if_neg (Bool.eq_false_iff.mp (hcond.trans hc))) cx0).trans
        (congrFun (if_neg (Bool.eq_false_iff.mp hn)) cx0))
    case updates =>
      subst hw
      exact (SM.bind_ok rfl).trans ((congrFun (if_neg (Bool.eq_false_iff.mp (hcond.trans hc))) cx0).trans
        ((congrFun (if_pos hu) cx0).trans (SM.bind_ok hl)))
  case call =>
    intro sp a hw
    exact h.row ho (by decide) ((SM.bind_ok ht).trans ((SM.bind_ok rfl).trans ((SM.bind_ok hw).trans rfl)))
  case signal => exact h.row ho (by decide) ((SM.bind_ok hm).trans rfl)
  case passed => exact h.row ho (by decide) ((SM.bind_ok ht).trans (if_pos (by simpa using hle)))
  case sleeps =>
    exact h.waits (rowTakes_rowOps h.dec ho (by decide)) ((SM.bind_ok ht).trans (if_neg (by simpa using hlt)))
      (by rw [State.setSt_st]; decide)
  case trap => exact h.row ho (by decide) ((SM.bind_ok hk).trans rfl)
  case expire =>
    subst hs
    rw [exec_waittExpire, execWaittExpire, act_live hs0, if_pos ⟨hst, hle, by rw [hwd]; rfl⟩]
    exact h.row ho (by decide) ((SM.bind_ok ht).trans rfl)

/-- Settles O41: MOVSR and MOVRS go by the selector of their field (Table 9.3); CAS writes where the old value is the expected one,
and its expected value's place takes the old one either way. -/
theorem shepherdSpecialsComplete : Obligations.ShepherdSpecialsComplete := by
  unfold Obligations.ShepherdSpecialsComplete
  intro s c i bs h
  refine ⟨fun d cx ho hd => ?movsr, fun n cx ho hn => ?movrs,
    fun e ev nv a mv cx1 cx2 cx3 cx4 cx5 cx6 cx ho he hev hew hnv ha hc hra hmv hw => ?cas⟩
  case movsr => exact h.row ho (by decide) ((SM.bind_ok hd).trans (put_ok ..))
  case movrs =>
    intro v k
    refine ⟨fun hk hp => ?psw, fun hk => ?bk, fun hk => ?vl, fun hk => ?tbr, fun hk => ?ksp, fun hk => ?wdog, fun hk => ?none⟩
    case psw =>
      have hmay : ¬ (!cx.x.priv && (v ^^^ cx.x.psw) &&& (pswBits &&& ~~~ pswUser) != 0) = true := by
        rcases hp with hp | hp <;> simp [hp]
      refine h.row ho (by decide) ((SM.bind_ok hn).trans ((SM.bind_ok rfl).trans ?_))
      rw [show ((i.at_ bs).opd 1).sel = _ from hk]
      exact congrFun (if_neg hmay) cx
    case bk | vl | tbr | ksp | wdog =>
      refine h.row ho (by decide) ((SM.bind_ok hn).trans ((SM.bind_ok rfl).trans ?_))
      rw [show ((i.at_ bs).opd 1).sel = _ from hk]
      rfl
    case none =>
      refine h.row ho (by decide) ((SM.bind_ok hn).trans ((SM.bind_ok rfl).trans ?_))
      rw [show ((i.at_ bs).opd 1).sel = k from rfl]
      rcases hk with hk | hk
      · rw [hk]
        rfl
      · obtain ⟨j, hj⟩ := Nat.exists_eq_add_of_le' hk
        rw [hj]
        rfl
  case cas =>
    refine h.row ho (by decide) ((SM.bind_ok he).trans ((SM.bind_ok hev).trans (memChecked hew ((SM.bind_ok hnv).trans
      ((SM.bind_ok ha).trans ((SM.bind_ok hc).trans ((congrFun (if_neg (by tauto)) cx5).trans ((SM.bind_ok hmv).trans
      ((SM.bind_ok hw).trans ((SM.bind_ok rfl).trans ?_))))))))))
    by_cases hq : mv = ev
    · simp only [hq, beq_self_eq_true, if_true]
      exact put_give
    · simp only [hq, beq_eq_false_iff_ne.mpr hq, if_false]
      exact put_give

/-- Settles O42: the bodies of RET and RTE read the stack; WAITSIG asks for signals and for pending sources; the others do not
stop. -/
theorem shepherdSystemComplete : Obligations.ShepherdSystemComplete := by
  unfold Obligations.ShepherdSystemComplete
  intro s c i bs h ho cx a
  refine ⟨fun hf => ?nop, fun t cx1 hf ht => ?ret, fun l cx1 hf hl => ?rte, fun hf hsig => ?signalled, fun hf hsig hbark => ?sleeps,
    fun hf => ?fence, fun hf => ?icinv, fun hf => ?brk, fun hf => ?stop⟩
  case nop | fence | icinv | brk | stop => exact h.sysRow ho hf rfl rfl
  case ret => exact h.sysRow ho hf rfl ((SM.bind_ok rfl).trans ((SM.bind_ok ht).trans rfl))
  case rte => exact h.sysRow ho hf rfl ((SM.bind_ok rfl).trans ((SM.bind_ok hl).trans rfl))
  case signalled =>
    have hawake : ¬ ((cx.s.core c).sig = 0 ∧ cx.s.barkWakes c = false) := by
      rintro ⟨h0, hb⟩
      exact hsig.elim (absurd h0) (fun hw => absurd (hw.symm.trans hb) Bool.noConfusion)
    exact h.sysRow ho hf rfl (if_neg hawake)
  case sleeps =>
    exact h.waits (rowTakes_sys h.dec ho hf rfl) (if_pos ⟨hsig, hbark⟩) (by rw [State.setSt_st]; decide)

/-- Settles O53: the workspace is a map of bytes, apart from the general registers. -/
theorem workspaceOperands : Obligations.WorkspaceOperands := by
  unfold Obligations.WorkspaceOperands
  refine ⟨fun sp b h => ?specifier, fun c k n off cx => ⟨rfl, rfl⟩, fun c n off v p cx => ⟨fun i hi => ?inside, fun i hi => ?outside,
    fun r => ?register⟩⟩
  case specifier =>
    simp only [opdOf, h, ofLe, Opd.ws.injEq]
    omega
  case inside => exact (wsByte_setWs_inside _ _ _ _ (by simpa using hi)).trans (leBytes_getElem _)
  case outside => exact wsByte_setWs_outside _ _ _ _ (by simpa using hi)
  case register => exact r_setWs ..

/-- Settles O55: the body delivers the result and the flags, the instruction retires, and a result for memory is written. -/
theorem shepherdFrame : Obligations.ShepherdFrame := by
  unfold Obligations.ShepherdFrame
  intro s c i bs a b d cx h hb hpost hcalm hd ho n r
  obtain ⟨p, hexec, hflags⟩ : ∃ p, exec (.shAddSub c) s = (cx.give c n d p r).ends c ∧ fld p 63 4 = fld cx.x.psw 63 4 := by
    rcases ho with ho | ho
    · exact ⟨flagsA cx.x.psw n a b 0, h.binaryRow ho (by decide) hb (by simp [at_op, at_n, ho, n, r]), fld_putFlags ..⟩
    · exact ⟨flagsS cx.x.psw n a b 0, h.binaryRow ho (by decide) hb (by simp [at_op, at_n, ho, n, r]), fld_putFlags ..⟩
  have hr : r % 2 ^ (8 * n) = r := by
    refine Nat.mod_eq_of_lt ?_
    simp only [r]
    split_ifs
    · exact Nat.mod_lt _ (Nat.two_pow_pos _)
    · exact subN_lt ..
  have ht := give_commit (c := c) (n := n) (p := p) (r := r) hpost hcalm hd
  rw [hr] at ht
  have hcore : ((cx.give c n d p r).commit c false).core c = ((cx.give c n d p r).retired c).core c := by
    rw [ht, State.core, lands_cores, State.core]
  refine ⟨(cx.give c n d p r).commit c false, hexec, ?_⟩
  rw [hcore, give_retired_core]
  refine ⟨fun k hk => ?register, fun j hj => give_r_other hj, fun o hd j hj => ?workspace, fun hn => give_ws hn, hflags, rfl, rfl, rfl,
    rfl, rfl, rfl, rfl, rfl, rfl, fun m hm => ?other, fun hn x => ?elsewhere, fun e he hok => ⟨fun x hx => ?outside, fun j hj => ?inside⟩⟩
  case register => exact (give_r_same hk).trans (congrArg (BitVec.ofNat 64) hr)
  case workspace =>
    have hseed : (cx.s.core c).wsSeed = (cx.give c n d p r).x.wsSeed := by
      rw [give_x]
      exact binary_seeded hb
    refine Eq.trans ?_ (give_wsByte (c := c) (p := p) (r := r) hd hj)
    refine wsByte_congr ?_ ?_ j
    · rfl
    · exact hseed
  case other => rw [ht, State.core, lands_cores, ← State.core, retired_core_other _ _ hm, give_s]
  case elsewhere => rw [ht, byte_lands_elsewhere _ _ _ _ hn, State.byte, retired_mem, give_s, State.byte]
  case outside => rw [ht, byte_lands_outside _ _ _ he hx, State.byte, retired_mem, give_s, State.byte]
  case inside =>
    have hstatus : ((cx.give c n d p r).retired c).engineStatus e n true = .ok := by
      rw [(retired_accessAlike _ c (coreReady_lt h.ready)).engineStatus, give_s]
      exact hok
    rw [ht, byte_lands_inside _ _ _ he hstatus hj]

/-- Settles O56: the flags are those of the exact sum and difference, and the PSW keeps its other fields. -/
theorem flagArithmetic : Obligations.FlagArithmetic := by
  unfold Obligations.FlagArithmetic
  intro psw n a b k hn ha hb hk w lim out
  have hpos : 0 < n := by
    simp only [List.mem_cons, List.not_mem_nil, or_false] at hn
    omega
  refine ⟨?sum, ?difference⟩
  case sum =>
    rw [flagsA_eq ha hb hk hpos]
    simp [w, lim, out]
  case difference =>
    rw [flagsS_eq ha hb hk hpos]
    simp [w, lim, out]

/-- Settles O57: the frame is written and the handler's address read, and neither touches a core. -/
theorem trapEntry : Obligations.TrapEntry := by
  unfold Obligations.TrapEntry
  intro s c i pc s1 s2 bs x sp e words hal hw hr t
  have ht := takeTrap_enters hal hw hr
  have hcores : s2.core c = { x.setR 7 sp with psw := setBit x.psw 25 true } := by
    rw [State.core, show s2 = _ from (congrArg (fun p => p.2.2) hr).symm, (signals_memRead ..).cores]
    refine (State.core_updCore ..).trans ?_
    rw [memWrite_core _ _ hw]
    rfl
  obtain ⟨wd, left, hst⟩ := setSt_core (s2.updCore c (fun x =>
    { x with pc := BitVec.ofNat 48 (ofLe bs), held := false, log := [], mid := false })) c 1
  have htc : t.core c =
      { x.setR 7 sp with
        psw := setBit x.psw 25 true, pc := BitVec.ofNat 48 (ofLe bs), held := false, log := [], mid := false, st := 1,
        wdAt := wd, wdLeft := left } := by
    rw [show t = _ from ht, hst, State.core_updCore, hcores]
  have hbyte (a : Nat) : t.byte a = ((s.inc (shp c + R.shepCoreStat) 63 32).wrWords e words).byte a := by
    have hmem : t.mem = s1.mem := by
      rw [show t = _ from ht]
      exact (congrArg State.mem (congrArg (fun p => p.2.2) hr).symm).trans (memRead_mem ..)
    rw [State.byte, hmem, memWrite_mem _ _ hw, wrBytes_words, State.byte]
  rw [htc]
  refine ⟨SMap.get_set_self .., rfl, rfl, rfl, fun j hj => SMap.get_set_other _ _ _ hj, rfl, rfl, rfl, rfl, rfl, fun k hk => ?word,
    fun a ha => ?outside⟩
  case word =>
    refine (rd64_congr fun a _ _ => hbyte a).trans ((rd64_wrWords words _ e k hk).trans ?_)
    exact (List.getD_eq_getElem words 0 hk).symm
  case outside => exact (hbyte a).trans (byte_wrWords_outside words _ e a ha)

/-- Settles O48: the state after reset is the one with every field at its default (R331). -/
theorem resetState : Obligations.ResetState := by
  unfold Obligations.ResetState
  exact ⟨rfl, rfl, rfl, rfl, fun c => ⟨rfl, rfl, rfl, rfl, rfl, rfl, rfl, fun r => rfl⟩, fun o => rfl⟩

/-- Settles O43: an expiry that is due is the first or the second by STAGE1; the writes are those of the hooks of their registers. -/
theorem watchdogAndStartComplete : Obligations.WatchdogAndStartComplete := by
  unfold Obligations.WatchdogAndStartComplete
  refine ⟨fun s c t hs hc ht hlt => ?expiry, fun s c w new => ⟨fun h => ?wdog, ?start⟩⟩
  case expiry =>
    have hd := wdDue_past ht hlt
    have hexec {u : State} (hu : s.watchdog c = u) : exec (.watchdogExpiry c) s = .next u.settle := by
      rw [exec_watchdogExpiry, execWatchdogExpiry, act_live hs, if_pos hc, hu]
    refine ⟨fun h0 hp => ⟨fun hi => ?trap, fun hi => ?later⟩, fun h0 hp => ?asleep,
      fun h1 => ⟨fun hp => ?resets, fun hp => ?resetsAsleep⟩⟩
    case trap => exact hexec ((watchdog_first hd h0 rfl).trans ((if_neg (by simp [hp])).trans (if_neg (by simp [hi]))))
    case later => exact hexec ((watchdog_first hd h0 rfl).trans ((if_neg (by simp [hp])).trans (if_pos hi)))
    case asleep => exact hexec ((watchdog_first hd h0 rfl).trans (if_pos (by simp [hp])))
    case resets =>
      exact hexec ((watchdog_second hd h1 rfl).trans (congrArg (State.fault · _ _) (if_neg (by simp [hp]))))
    case resetsAsleep =>
      exact hexec ((watchdog_second hd h1 rfl).trans (congrArg (State.fault · _ _) (if_pos (by simp [hp]))))
  case wdog => exact wrRow_acted rfl h rfl rfl
  case start =>
    intro l may h hw hs hl pc
    have hdata : bit (s.wrOf .shep c R.shepCoreCtl w new).data 0 = true := hw
    exact wrRow_acted rfl h (congrArg Prod.fst (hookCoreCtl_starts hdata hs)) (congrArg Prod.snd (hookCoreCtl_starts hdata hl))

/-- Settles O60: what stops the body - the mode, the fetch, the first source, the enabled exception - is what the row traps with or
waits on (that an engine waits on its fetch is the model's choice, log entry 26). -/
theorem shepherdFaults : Obligations.ShepherdFaults := by
  unfold Obligations.ShepherdFaults
  intro s c i bs
  refine ⟨fun hr hw hf hb hd ho hp => ?privilege, fun s1 hr hw hf => ?fetch, fun vec sub k a s1 h ho hsrc => ?source,
    fun a b d cx h ⟨cx1, cx2, ha, hb, hdst⟩ ho => ?fp⟩
  case privilege =>
    intro traps
    have hrow {f : Nat} {body : SIns → SM Unit} (hfn : i.fn = f) (hsup : f = 2 ∨ f = 5 ∨ f = 7) :
        done (s.shRun c (rowSys f) false body) = traps := by
      refine congrArg done (shRun_privilege hr hw hf hb hd ho ?_ hp (rowTakes_sys hd ho hfn (by simp [rowSys])))
      rcases hsup with rfl | rfl | rfl <;> simp [SIns.supervisor, ho, hfn]
    exact ⟨fun hfn => hrow hfn (by decide), fun hfn => hrow hfn (by decide), fun hfn => hrow hfn (by decide)⟩
  case fetch => exact ⟨congrArg done (shRun_fetchWaits hr hw hf), congrArg done (shRun_fetchWaits hr hw hf)⟩
  case source =>
    have hrow : RowTakes (rowOps 5 6) bs := rowTakes_rowOps h.dec rfl (by omega)
    exact h.traps hrow (SM.bind_error hsrc)
  case fp =>
    intro r hen
    refine h.traps (rowTakes_rowOps h.dec ho (by decide)) ((SM.bind_ok ha).trans ((SM.bind_ok hb).trans ((SM.bind_ok hdst).trans
      ((SM.bind_ok rfl).trans ?_))))
    beta_reduce
    rw [at_op, ho]
    exact fpPut_traps hen

/-- Settles O20: a request of HBM or of the Shepherd store is served by its unit where it reaches it; the unit's codes judge what is
read, and a whole word of the store is written unread (R436). -/
theorem memoryComplete : Obligations.MemoryComplete := by
  unfold Obligations.MemoryComplete
  intro s r q s0 u hs hq ad served
  refine ⟨fun hreg => ⟨fun e s1 hv hu => ⟨?read8, fun hpart => ?write8⟩, fun e hshep hbe hv => ?word, fun e s1 hv hu => ?read64,
    fun line hv => ?write64, fun new v s1 hunit hv hu hval => ⟨fun heq => ?swaps, fun hne => ?keeps⟩, fun e v ht hn ha => ?held,
    fun line ht ha => ?posted⟩, fun k hk => ?window⟩
  case read8 =>
    rw [exec_memRead8_memory hs hreg, memReadReq_serves hreg hq hv.1 hv.2 hu]
  case read64 =>
    rw [exec_memRead64_memory hs hreg, memReadReq_serves hreg hq hv.1 hv.2 hu]
  case held =>
    rw [exec_memRead8_memory hs hreg, memReadReq_holds hreg hq ht hn ha]
    rfl
  case write8 =>
    have hmerge : ¬ (region (ad / 8 * 8) = .shep ∧ r.be = 255) := by tauto
    rw [exec_memWrite8_memory hs hreg, State.memWrite8, serve_reaches hq hv.1 hv.2, State.partialWrite, if_neg hmerge, hu]
  case word =>
    have hbits (i : Nat) (hi : i < 8) : r.be.getLsbD i = true := by
      rw [hbe]
      interval_cases i <;> rfl
    rw [exec_memWrite8_memory hs hreg, State.memWrite8, serve_reaches hq hv.1 hv.2, State.partialWrite, if_pos ⟨hshep, hbe⟩]
    have hwhole (t : State) : (List.range 8).map (fun i => if r.be.getLsbD i then BitVec.ofNat 8 (fld r.data (8 * i + 7) (8 * i))
        else t.byte (ad / 8 * 8 + i)) = (List.range 8).map (fun i => BitVec.ofNat 8 (fld r.data (8 * i + 7) (8 * i))) :=
      List.map_congr_left fun i hi => if_pos (hbits i (List.mem_range.mp hi))
    simp only [← hwhole (s0.visit (ad / 8 * 8) .ok)]
    rfl
  case write64 =>
    rw [exec_memWrite64_memory hs hreg, State.memWrite64, serve_reaches hq hv.1 hv.2]
  case swaps =>
    rw [exec_memCas_memory hs hreg, memCas_serves hunit hq hv.1 hv.2 hu, if_pos (hval.symm.trans heq), ← hval]
  case keeps =>
    rw [exec_memCas_memory hs hreg, memCas_serves hunit hq hv.1 hv.2 hu, if_neg (fun h => hne (hval.trans h)), ← hval]
  case posted =>
    rw [exec_postedWrite_memory hs hreg]
    simp only [State.postedWrite, ad, ht, ha]
  case window =>
    obtain ⟨hr8, hr64, hw8, hw64, hcas⟩ := exec_request_window hs hk
    exact ⟨fun e => ⟨hr8 e, hr64 e⟩, hw8, hw64, hcas⟩

end

section
/-! PROOF. IEEE 754 results of a Shepherd core, and the rows of the Hatch: what a row leaves of the instruction that its core has
fetched (R345, R350, R352, R354). -/

namespace Sys2Proof.Machine

/-! ## IEEE 754 results (R345) -/

/-- An IEEE 754 result none of whose raised flags is enabled is delivered, and FFLAGS collects the flags. -/
theorem fpPut_delivers {c n : Nat} {d : Loc} {r : Nat × Nat} {cx : Cx} (h : r.2 &&& pswFten cx.x.psw = 0) :
    fpPut c n d r cx = .ok ((), cx.give c n d (addFflags cx.x.psw r.2) r.1) :=
  (SM.bind_ok rfl).trans ((congrFun (if_neg (not_not_intro h)) cx).trans (flags_put ..))

section
variable {s : State} {c : Nat} {i : SIns} {bs : List Byte} {a : Nat} {d : Loc} {cx : Cx} {r : Nat × Nat} {k lo hi : Nat}
  (h : s.Fetched c i bs) (ho : i.op = k) (hk : lo ≤ k ∧ k ≤ hi ∧ k ≠ 0x3E) (hq : r.2 &&& pswFten cx.x.psw = 0)
include h ho hk hq

/-- A row of an IEEE 754 operation of two operands delivers its instruction's result. -/
theorem State.Fetched.fpBinaryRow {b : Nat} {g : SIns → Fmt → FEnv → Nat → Nat → Nat × Nat}
    (hb : s.Binary c i.n i.n i.n i a b d cx) (hg : g (i.at_ bs) (fmtOf i.n) (pswEnv cx.x.psw) a b = r) :
    done (s.shOp c lo hi (fpBinary c g)) = (cx.give c i.n d (addFflags cx.x.psw r.2) r.1).ends c := by
  obtain ⟨cx1, cx2, ha, hb, hd⟩ := hb
  subst hg
  exact h.row ho hk ((SM.bind_ok ha).trans ((SM.bind_ok hb).trans ((SM.bind_ok hd).trans ((SM.bind_ok rfl).trans
    (fpPut_delivers hq)))))

/-- A row of an IEEE 754 operation of one operand delivers its instruction's result. -/
theorem State.Fetched.fpUnaryRow {m n : SIns → Nat} {g : SIns → FEnv → Nat → Nat × Nat}
    (hu : s.Unary c (m (i.at_ bs)) (n (i.at_ bs)) i a d cx) (hg : g (i.at_ bs) (pswEnv cx.x.psw) a = r) :
    done (s.shOp c lo hi (fun i => fpUnary c (m i) (n i) g i)) =
      (cx.give c (n (i.at_ bs)) d (addFflags cx.x.psw r.2) r.1).ends c := by
  obtain ⟨cx1, ha, hd⟩ := hu
  subst hg
  exact h.row ho hk ((SM.bind_ok ha).trans ((SM.bind_ok hd).trans ((SM.bind_ok rfl).trans (fpPut_delivers hq))))

end

/-! ## Rows of the Hatch (R350, R352) -/

section
variable {s : State} {c : Nat} {i : SIns} {bs : List Byte} {body : SIns → SM Unit} {cx : Cx}

/-- A row takes a Hatch instruction by its function (R352). -/
theorem rowTakes_hatch {row : Nat → Nat → Bool} (hd : decodeShep bs = .ins i) (ho : i.op = 0x3E)
    (hr : ∀ b, b / 4 = 0x3E → row b i.fn = true) : RowTakes row bs := by
  intro b r hb
  obtain ⟨b', r', hb', hop, -, hfn, -⟩ := decode_op hd
  obtain ⟨rfl, rfl⟩ := List.cons.inj (hb.symm.trans hb')
  rw [← hfn (.inr ho)]
  exact hr _ (hop.symm.trans ho)

variable (h : s.Fetched c i bs) (ho : i.op = 0x3E) (hb : body (i.at_ bs) (s.start c i) = .ok ((), cx))
include h ho hb

/-- A Hatch instruction whose body completes. -/
theorem State.Fetched.endsHatch {row : Nat → Nat → Bool} {lost : Bool} (hr : ∀ b, b / 4 = 0x3E → row b i.fn = true) :
    done (s.shRun c row lost body) = cx.endsHatch c := by
  rw [shRun_fetched h (rowTakes_hatch h.dec ho hr), shExec_ok hb (hatch := true) (by simpa using ho)]
  rfl

/-- A Hatch row whose instruction's body completes. -/
theorem State.Fetched.hatchRow {k lo hi : Nat} (hf : i.fn = k) (hk : lo ≤ k ∧ k ≤ hi) :
    done (s.hOp c lo hi body) = cx.endsHatch c :=
  h.endsHatch ho hb fun b hb4 => by simp [rowHatch, hb4, hf, hk.1, hk.2]

end

/-! ## Elements (R350, R354) -/

/-- The operands and their length follow from the kinds of the instruction's function (R352). -/
theorem decodeHatch_operands {sz : Nat} {l : List Byte} {i : SIns} (h : decodeHatch sz l = .ins i) :
    ∃ kinds r ok n, hatchKinds i.fn i.n = some kinds ∧ parseHatch kinds r = some (i.ops, ok, n) := by
  unfold decodeHatch at h
  split at h
  · cases h
  · split at h
    · cases h
    · rename_i kinds hk
      split at h
      · cases h
      · rename_i hp
        split_ifs at h
        cases h
        exact ⟨kinds, _, _, _, hk, hp⟩

/-- An operand of kind V is a vector register, and the other operands follow it. -/
theorem parseHatch_vec {ks : List HKind} {r : List Byte} {ops : List Opd} {ok : Bool} {n : Nat}
    (h : parseHatch (.v :: ks) r = some (ops, ok, n)) :
    ∃ d rest r' ok' n', ops = .vec d :: rest ∧ parseHatch ks r' = some (rest, ok', n') := by
  cases r with
  | nil => cases h
  | cons b r =>
    simp only [parseHatch] at h
    split at h
    · rename_i rest ok' n' hp
      cases h
      exact ⟨_, rest, r, ok', n', rfl, hp⟩
    · cases h

/-- The third operand of an instruction of three vector registers is one (Table 10.5). -/
theorem State.Fetched.thirdVec {s : State} {c : Nat} {i : SIns} {bs : List Byte} (h : s.Fetched c i bs) (ho : i.op = 0x3E)
    (hk : hatchKinds i.fn i.n = some [.v, .v, .v]) : ∃ r, i.opd 2 = .vec r := by
  have hd := h.dec
  obtain ⟨b, r, rfl, hop, -⟩ := decode_op hd
  have hb : b.toNat / 4 = 0x3E := hop.symm.trans ho
  simp only [decodeShep, hb, if_true, if_neg (show ¬ (0x3E = 0) by decide)] at hd
  obtain ⟨kinds, r0, ok0, n0, hkinds, hp⟩ := decodeHatch_operands hd
  cases hkinds.symm.trans hk
  obtain ⟨d, rest, r1, ok1, n1, hops, hp1⟩ := parseHatch_vec hp
  obtain ⟨a, rest1, r2, ok2, n2, hops1, hp2⟩ := parseHatch_vec hp1
  obtain ⟨v, rest2, r3, ok3, n3, hops2, -⟩ := parseHatch_vec hp2
  exact ⟨v, by simp [SIns.opd, hops, hops1, hops2]⟩

/-- The elements of an operand: those of the vector register that it names, and zeros where it names none. -/
def Shep.vsrc (x : Shep) (o : Opd) : BitVec 128 := match o with | .vec r => x.vreg r | _ => 0

section
variable {s : State} {c : Nat} {i : SIns} {bs : List Byte} {k lo hi : Nat} (h : s.Fetched c i bs) (ho : i.op = 0x3E)
  (hf : i.fn = k) (hk : lo ≤ k ∧ k ≤ hi)
include h ho hf hk

/-- A row of element-wise integer instructions gives each active element its result. -/
theorem State.Fetched.vecRow {g : SIns → Nat → Nat → Nat} {g' : Nat → Nat → Nat} (hg : ∀ a b, g (i.at_ bs) a b = g' a b) :
    let x := (s.start c i).x
    done (s.hOp c lo hi (vecMap g)) =
      ((s.start c i).regs (x.setV (i.opd 0).vec! ((List.range (x.active i.n)).foldl (fun v j => setElem v i.n j
        (g' (elem (x.vreg (i.opd 1).vec!) i.n j) (elem (x.vsrc (i.opd 2)) i.n j))) (x.vreg (i.opd 0).vec!)))).endsHatch c := by
  obtain rfl : g (i.at_ bs) = g' := funext₂ hg
  exact h.hatchRow ho rfl hf hk

/-- A row of element-wise IEEE 754 instructions gives each active element its result, and FFLAGS collects the flags, where none of
those raised is enabled (R354). -/
theorem State.Fetched.vecFpRow {g : SIns → Fmt → FEnv → Nat → Nat → Nat × Nat} {g' : Nat → Nat → Nat × Nat}
    (hkinds : hatchKinds i.fn i.n = some [.v, .v, .v])
    (hg : ∀ a b, g (i.at_ bs) (fmtOf i.n) (pswEnv (s.start c i).x.psw) a b = g' a b) :
    let x := (s.start c i).x
    let res := (List.range (x.active i.n)).map fun j =>
      g' (elem (x.vreg (i.opd 1).vec!) i.n j) (elem (x.vsrc (i.opd 2)) i.n j)
    let fl := res.foldl (fun f r => f ||| r.2) 0
    fl &&& pswFten x.psw = 0 → done (s.hOp c lo hi (vecFp g)) =
      (((s.start c i).regs (x.setV (i.opd 0).vec! (res.zipIdx.foldl (fun v r => setElem v i.n r.2 r.1.1) (x.vreg (i.opd 0).vec!)))).flags
        (addFflags x.psw fl)).endsHatch c := by
  obtain rfl : g (i.at_ bs) (fmtOf i.n) (pswEnv (s.start c i).x.psw) = g' := funext₂ hg
  obtain ⟨r, hr⟩ := h.thirdVec ho hkinds
  intro x res fl hq
  refine h.hatchRow ho ((SM.bind_ok rfl).trans ?_) hf hk
  have hvec : x.vreg ((i.at_ bs).opd 2).vec! = x.vsrc (i.opd 2) := by rw [at_opd, hr]; rfl
  rw [hvec]
  exact congrFun (if_neg (not_not_intro hq)) _

end

end Sys2Proof.Machine
end

section
/-! PROOF. Loads and stores of the Hatch: their elements are accessed one after another, and reads of memory see no register but the
PSW (R355 to R357). -/

namespace Sys2Proof.Machine

/-! ## Reads of memory see of the registers only the mode -/

section
variable {c opnd a n v : Nat} {cx cx1 : Cx} {y : Shep} (hy : y.psw = cx.x.psw)
include hy

/-- The checks of an operand in memory ask for the mode alone (R308). -/
theorem check_regs (h : SM.check opnd a n cx = .ok ((), cx1)) : SM.check opnd a n (cx.regs y) = .ok ((), cx1.regs y) := by
  have hp : (cx.regs y).x.priv = cx.x.priv := congrArg (bit · 25) hy
  cases check_ok h
  unfold SM.check at h ⊢
  rw [hp, show (cx.regs y).s = cx.s from rfl]
  repeat' split at h
  all_goals cases h
  all_goals simp_all

/-- What memory, a register or a window answers depends on no other register of the core. -/
theorem fetch_regs (h : SM.fetch c opnd a n cx = .ok (v, cx1)) : SM.fetch c opnd a n (cx.regs y) = .ok (v, cx1.regs y) := by
  unfold SM.fetch at h ⊢
  obtain ⟨_, cx0, hc, hbody⟩ := SM.bind_eq_ok.mp h
  refine (SM.bind_ok (check_regs hy hc)).trans ?_
  cases check_ok hc
  obtain ⟨_, _, hg, hact⟩ := SM.bind_eq_ok.mp hbody
  cases hg
  refine (SM.bind_ok rfl).trans ?_
  rw [show (cx.regs y).s = cx.s from rfl]
  generalize region a = k at hact
  cases k
  case control =>
    cases hact
    rfl
  case rom =>
    dsimp only at hact ⊢
    split at hact
    · rename_i hrom
      cases hact
      exact congrFun (if_pos hrom) _
    · cases hact
  case sem w =>
    dsimp only at hact ⊢
    generalize cx.s.semAccess a n false (coreOrigin c) (cx.s.reqPrio c) (.core c) = p at hact
    obtain ⟨_ | _ | _ | st, s1⟩ := p
    case value =>
      cases hact
      rfl
    case error => exact absurd hact set_status_stops
    all_goals cases hact
  all_goals
    dsimp only at hact ⊢
    generalize cx.s.memRead a n = p at hact
    obtain ⟨st, bs, s1⟩ := p
    cases st
    case ok =>
      cases hact
      rfl
    all_goals exact absurd hact set_status_stops

/-- Nor does what a read answers, which the core may have logged (R312). -/
theorem read_regs (h : SM.read c opnd a n cx = .ok (v, cx1)) : SM.read c opnd a n (cx.regs y) = .ok (v, cx1.regs y) := by
  unfold SM.read at h ⊢
  rw [show (cx.regs y).s = cx.s from rfl, show (cx.regs y).k = cx.k from rfl]
  split at h
  · cases h
    rfl
  · split at h
    case h_1 v' cx' hf =>
      cases h
      rw [fetch_regs hy hf]
      rfl
    case h_2 => cases h

end

/-! ## Elements one after another -/

/-- The loop of a memory instruction goes through the elements from the first that is due (R357). -/
theorem forElems_eq_forM (hi : Nat) (m : Nat → SM Unit) : ∀ n k, hi - k ≤ n → forElems hi m n k = forM (List.range' k (hi - k)) m
  | 0, k, h => by rw [Nat.le_zero.mp h]; rfl
  | n + 1, k, h => by
    rw [forElems]
    split_ifs with hk
    · rw [Nat.sub_eq_zero_of_le hk]
      rfl
    · rw [show hi - k = hi - (k + 1) + 1 by omega, List.range'_succ, List.forM_cons, forElems_eq_forM hi m n (k + 1) (by omega)]

/-- A register holds at most sixteen elements (R350, R351). -/
theorem active_le (x : Shep) (n : Nat) : x.active n ≤ 16 :=
  (Nat.min_le_right ..).trans (Nat.div_le_self ..)

/-- The element at which a memory instruction begins, of the execution whose operand has been evaluated (R357). -/
def Cx.firstDue (cx : Cx) (c : Nat) : Nat :=
  if bit cx.x.hfi 5 ∧ fld cx.x.hfi 63 16 = (cx.s.core c).pc.toNat then fld cx.x.hfi 4 0 else 0

/-- The elements that are due, of which the first hi are active. -/
def Cx.due (cx : Cx) (c hi : Nat) : List Nat := List.range' (cx.firstDue c) (hi - cx.firstDue c)

/-- HATCH_FAULT_INDEX with VALID clear (R357). -/
def Cx.cleared (cx : Cx) : Cx := cx.regs { cx.x with hfi := setBit cx.x.hfi 5 false }

/-- A memory instruction whose elements have all been accessed completes with VALID clear. -/
theorem elements_then_clear {c hi : Nat} {m : Nat → SM Unit} {cx cx1 : Cx} (hhi : hi ≤ 16)
    (h : forM (cx.due c hi) m cx = .ok ((), cx1)) :
    (firstElem c >>= fun k0 => forElems hi m 16 k0 >>= fun _ => clearHfi) cx = .ok ((), cx1.cleared) := by
  refine (SM.bind_ok (a := cx.firstDue c) (cx1 := cx) rfl).trans ?_
  rw [forElems_eq_forM _ _ _ _ (by omega)]
  exact (SM.bind_ok h).trans rfl

/-- An element access that is not stopped is the access (R356). -/
theorem hatchEl_ok {α : Type} {k : Nat} {m : SM α} {cx : Cx} {p : α × Cx} (h : m cx = .ok p) : hatchEl k m cx = .ok p := by
  rw [hatchEl, h]

/-- A read leaves the registers. -/
theorem read_x {c opnd a n v : Nat} {cx cx1 : Cx} (h : SM.read c opnd a n cx = .ok (v, cx1)) : cx1.x = cx.x := by
  unfold SM.read at h
  split at h
  · cases h
    rfl
  · split at h
    case h_1 v' cx' hf =>
      cases h
      exact (fetch_keeps hf).2
    case h_2 => cases h

section
variable {c opnd n : Nat} {place : Nat → Nat}

/-- Nor do reads of elements one after another change the registers. -/
theorem loads_x {ks vs : List Nat} {cx cx1 : Cx} (h : SM.loads c opnd n place ks cx = .ok (vs, cx1)) : cx1.x = cx.x := by
  induction ks generalizing cx vs with
  | nil =>
    cases h
    rfl
  | cons k ks ih =>
    obtain ⟨v, cx0, hread, hrest⟩ := SM.bind_eq_ok.mp h
    obtain ⟨vs', cx2, hloads, hpure⟩ := SM.bind_eq_ok.mp hrest
    cases hpure
    exact (ih hloads).trans (read_x hread)

/-- Elements that can be read one after another can be loaded one after another, each written as it is read: no read sees the
vector registers (R355). -/
theorem forM_loads_regs {d : Nat} {ks : List Nat} {vs : List Nat} {cx cx1 : Cx} {y : Shep}
    (h : SM.loads c opnd n place ks cx = .ok (vs, cx1)) (hy : y.psw = cx.x.psw) :
    forM ks (fun k => hatchEl k (SM.read c opnd (place k) n) >>= fun v => SM.upd (fun x => x.setV d (setElem (x.vreg d) n k v)))
      (cx.regs y) = .ok ((), cx1.regs (y.setElems d n (ks.zip vs))) := by
  induction ks generalizing cx vs y with
  | nil =>
    cases h
    rfl
  | cons k ks ih =>
    obtain ⟨v, cx0, hread, hrest⟩ := SM.bind_eq_ok.mp h
    obtain ⟨vs', cx2, hloads, hpure⟩ := SM.bind_eq_ok.mp hrest
    cases hpure
    rw [List.forM_cons]
    refine (SM.bind_ok ((SM.bind_ok (hatchEl_ok (read_regs hy hread))).trans rfl)).trans ?_
    have hloop := ih (y := y.setV d (setElem (y.vreg d) n k v)) hloads (hy.trans (congrArg Shep.psw (read_x hread)).symm)
    exact hloop

/-- A load leaves its elements in the vector register (R355). -/
theorem forM_loads {ks vs : List Nat} {cx cx1 : Cx} (d : Nat) (h : SM.loads c opnd n place ks cx = .ok (vs, cx1)) :
    forM ks (fun k => hatchEl k (SM.read c opnd (place k) n) >>= fun v => SM.upd (fun x => x.setV d (setElem (x.vreg d) n k v)))
      cx = .ok ((), cx1.regs (cx1.x.setElems d n (ks.zip vs))) := by
  rw [loads_x h]
  exact forM_loads_regs (y := cx.x) h rfl

/-- Elements that can be stored one after another are. -/
theorem forM_stores {w : BitVec 128} {ks : List Nat} {cx cx1 : Cx} (h : SM.stores c opnd n place w ks cx = .ok ((), cx1)) :
    forM ks (fun k => hatchEl k (SM.store c opnd (place k) n (elem w n k))) cx = .ok ((), cx1) := by
  induction ks generalizing cx with
  | nil => exact h
  | cons k ks ih =>
    obtain ⟨_, cx0, hstore, hrest⟩ := SM.bind_eq_ok.mp h
    rw [List.forM_cons]
    exact (SM.bind_ok (hatchEl_ok hstore)).trans (ih hrest)

/-- Elements of the workspace are read from where they lie, whatever vector register they are written into. -/
theorem forM_wsLoads (c opnd n d o : Nat) (ks : List Nat) (cx : Cx) :
    forM ks (fun k => SM.get c opnd n (.ws (o + n * k)) >>= fun v => SM.upd (fun x => x.setV d (setElem (x.vreg d) n k v))) cx =
      .ok ((), cx.regs (cx.x.setElems d n
        (ks.zip (ks.map fun k => ofLe ((List.range n).map fun j => cx.x.wsByte (o + n * k + j)))))) := by
  induction ks generalizing cx with
  | nil => rfl
  | cons k ks ih =>
    rw [List.forM_cons]
    exact (SM.bind_ok rfl).trans ((ih _).trans rfl)

/-- Elements are written into the workspace one after another. -/
theorem forM_wsStores (c n o : Nat) (w : BitVec 128) (ks : List Nat) (cx : Cx) :
    forM ks (fun k => SM.put c n (.ws (o + n * k)) (elem w n k)) cx =
      .ok ((), cx.regs (ks.foldl (fun y k => y.setWs (o + n * k) (leBytes n (elem w n k))) cx.x)) := by
  induction ks generalizing cx with
  | nil => rfl
  | cons k ks ih =>
    rw [List.forM_cons]
    exact (SM.bind_ok rfl).trans ((ih _).trans rfl)

end

end Sys2Proof.Machine
end

section
/-! PROOF. The obligations of arithmetic and of the Hatch. -/

open Sys2Proof Sys2Proof.Machine

/-- Settles O39: the IEEE 754 rows share the delivery of a result; FCMP and the decimal rows pass their checks. -/
theorem shepherdFloatsComplete : Obligations.ShepherdFloatsComplete := by
  unfold Obligations.ShepherdFloatsComplete
  refine ⟨fun s c i bs a b d cx h hb => ⟨fun ho hq => ?add, fun ho hq => ?sub, fun ho hq => ?mul, fun ho hq => ?div,
      fun ho hq => ?min, fun ho hq => ?max⟩,
    fun s c i bs m k a d cx h hu => ⟨fun ho hm hk hq => ?sqrt, fun ho hm hk hq => ?ofInt, fun ho hm hk hq => ?toInt,
      fun ho hn hm hk hq => ?widen, fun ho hn hm hk hq => ?narrow⟩,
    fun s c i bs a b cx h ho ⟨cx1, ha, hb⟩ => ?cmp,
    fun s c i bs a b d cx h ⟨cx1, cx2, ha, hb, hd⟩ hda hdb => ⟨fun ho => ?dadd, fun ho => ?dsub⟩⟩
  case add | sub | mul | div | min | max => exact h.fpBinaryRow ho (by decide) hq hb (by simp [at_op, ho])
  case sqrt | ofInt | toInt =>
    subst hm hk
    exact h.fpUnaryRow ho (by decide) hq hu rfl
  case widen | narrow =>
    have hk' : k = 12 - i.n := by omega
    have hm' : m = i.n := by omega
    subst hk' hm'
    exact h.fpUnaryRow ho (by decide) hq hu (by simp [at_n, hn])
  case cmp =>
    intro p ftz un eq lt hq
    exact h.row ho (by decide) ((SM.bind_ok ha).trans ((SM.bind_ok hb).trans ((SM.bind_ok rfl).trans
      (congrFun (if_neg (not_not_intro hq)) cx))))
  case dadd | dsub =>
    have hdec : (decOk a && decOk b) = true := by rw [hda, hdb]; rfl
    refine h.row ho (by decide) ((SM.bind_ok ha).trans ((SM.bind_ok hb).trans ((SM.bind_ok hd).trans
      ((congrFun (if_pos hdec) cx).trans ?_))))
    rw [at_op, ho]
    exact flags_put ..

/-- Settles O44: each body evaluates its operand and changes VL, HATCH_FAULT_INDEX or a vector register, or delivers its result;
VBCAST with no active element evaluates the specifier alone (R351, log entry 63). -/
theorem hatchMovesComplete : Obligations.HatchMovesComplete := by
  unfold Obligations.HatchMovesComplete
  refine ⟨fun s c i bs h ho => ⟨fun r l cx hf ⟨cx1, hr, hl⟩ => ?setvl, fun l cx hf hl => ?hfiget, fun v cx hf hv => ?hfiset,
    fun l cx hf h0 hl => ?vbcastNone, fun v cx hf h0 hv => ?vbcast, fun l cx hf hl => ?vget, fun v cx hf hv => ?vset⟩,
    fun s c hs => ⟨fun t ht hdur => ?wake, fun hh hdur => ?down⟩⟩
  case setvl =>
    intro v
    have hput := put_give (c := c) (n := 8) (d := l) (p := flagsM cx.x.psw 8 v) (r := v)
      (cx := cx.regs { cx.x with vl := BitVec.ofNat 32 v })
    exact h.endsHatch ho ((SM.bind_ok hr).trans ((SM.bind_ok hl).trans hput)) fun b hb => by simp [hb, hf]
  case hfiget | vget => exact h.hatchRow ho ((SM.bind_ok hl).trans (put_ok ..)) hf (by decide)
  case hfiset | vset => exact h.hatchRow ho ((SM.bind_ok hv).trans rfl) hf (by decide)
  case vbcastNone =>
    refine h.hatchRow ho ((SM.bind_ok rfl).trans ?_) hf (by decide)
    refine (congrFun (if_pos h0) _).trans ((SM.bind_ok ((SM.bind_ok hl).trans rfl)).trans ?_)
    rw [at_n, h0]
    rfl
  case vbcast =>
    refine h.hatchRow ho ((SM.bind_ok rfl).trans ?_) hf (by decide)
    exact (congrFun (if_neg h0) _).trans ((SM.bind_ok hv).trans rfl)
  case wake =>
    rw [exec_hatchWake, execHatchWake, act_live hs, ht]
    exact congrArg (fun t : State => Host.Outcome.next t.settle) (if_pos hdur)
  case down =>
    rw [exec_hatchPowerDown, execHatchPowerDown, act_live hs, if_pos ⟨hh, hdur⟩]

/-- Settles O45: the loop goes through the elements that are due, and each access of one is that of the list; what memory is asked
for does not depend on the vector registers, so that the elements can be written after all have been read. An AUTOINC or AUTODEC of
the M operand moves by the size of the active elements, which is the model's choice (log entry 53). -/
theorem hatchMemoryComplete : Obligations.HatchMemoryComplete := by
  unfold Obligations.HatchMemoryComplete
  intro s c i bs l cx cx1 h ho n x hi k0 ks cleared loaded
  have hhi : hi ≤ 16 := active_le ..
  refine ⟨fun hf hl => ⟨fun o ho' => ?vldWs, fun a vs ha hvs => ?vld⟩, fun hf hl => ⟨fun o ho' => ?vstWs, fun a ha hst => ?vst⟩,
    fun a vs hf hl hvs => ?vgather, fun a hf hl hst => ?vscatter⟩
  all_goals
    refine h.hatchRow ho ((SM.bind_ok rfl).trans ?_) hf (by decide)
    refine (SM.bind_ok hl).trans (elements_then_clear hhi ?_)
  case vldWs =>
    subst ho'
    exact forM_wsLoads ..
  case vld =>
    subst ha
    exact forM_loads _ hvs
  case vstWs =>
    subst ho'
    exact forM_wsStores ..
  case vst =>
    subst ha
    exact forM_stores hst
  case vgather => exact forM_loads _ hvs
  case vscatter => exact forM_stores hst

/-- Settles O46: the integer rows share one map over the active elements, and the IEEE 754 rows another with its flags; the third
operand of the latter is a vector register, as their kinds say. -/
theorem hatchElementsComplete : Obligations.HatchElementsComplete := by
  unfold Obligations.HatchElementsComplete
  intro s c i bs h ho n w x d a b k ks gives floats m env
  have row {f lo hi : Nat} {g : SIns → Nat → Nat → Nat} {g' : Nat → Nat → Nat} (hf : i.fn = f) (hk : lo ≤ f ∧ f ≤ hi)
      (hg : ∀ a b, g (i.at_ bs) a b = g' a b) : done (s.hOp c lo hi (vecMap g)) = gives g' :=
    h.vecRow ho hf hk hg
  have fpRow {f lo hi : Nat} {g : SIns → Fmt → FEnv → Nat → Nat → Nat × Nat} {g' : Nat → Nat → Nat × Nat} (hf : i.fn = f)
      (hk : lo ≤ f ∧ f ≤ hi) (hkinds : hatchKinds f n = some [.v, .v, .v]) (hg : ∀ a b, g (i.at_ bs) m env a b = g' a b) :
      floats g' (done (s.hOp c lo hi (vecFp g))) :=
    h.vecFpRow ho hf hk (hf ▸ hkinds) hg
  clear_value gives floats
  refine ⟨fun hf => ?add, fun hf => ?sub, fun hf => ?mul, fun hf => ?addss, fun hf => ?subss, fun hf => ?addsu, fun hf => ?subsu,
    fun hf => ?mulhrs, fun hf => ?rshr, fun hf => ?shl, fun hf => ?mins, fun hf => ?maxs, fun hf => ?minu, fun hf => ?maxu,
    fun hf => ?and, fun hf => ?or, fun hf => ?xor, fun hf => ?cmpeq, fun hf => ?cmplt, fun hf => ?cmpltu, fun hf => ?fadd,
    fun hf => ?fsub, fun hf => ?fmul, fun hf => ?fmin, fun hf => ?fmax⟩
  case fadd | fsub | fmul | fmin | fmax => exact fpRow hf (by decide) rfl fun _ _ => by simp [at_fn, hf]
  case mulhrs | rshr | shl => exact row hf (by decide) fun _ _ => rfl
  case mins | maxs | cmplt =>
    refine row hf (by decide) fun a b => ?_
    by_cases hlt : sgn w a < sgn w b <;> simp [at_fn, at_n, hf, hlt, n, w]
  case minu | maxu =>
    refine row hf (by decide) fun a b => ?_
    by_cases hlt : a < b <;> simp [at_fn, hf, hlt] <;> omega
  all_goals exact row hf (by decide) fun _ _ => by simp [at_fn, at_n, hf, n, w]

end

section
/-! PROOF. Registers of Kennel's rings and of the DMA channels: what a write that takes effect does there (R363, R388, R393, R395,
R420, R585). -/

namespace Sys2Proof.Machine

/-- The page of a DMA channel. -/
theorem pageAt_dma (n : Nat) : pageAt .dma n = dp n := rfl

section
variable {s : State} {n v : Nat} {o : Origin} {w : RegW} {new : Word}

/-! ## Doorbells of Kennel (R363, R393) -/

/-- How many items a doorbell of value `v` posts on ring `n`. -/
def State.posted (s : State) (n v : Nat) : Nat := (v + 2 ^ 32 - SMap.get 0 s.plast (kr n)) % 2 ^ 32

/-- A doorbell of value `v` posts items on ring `n`: an enabled IN ring, which they do not overrun. -/
def State.Rings (s : State) (n v : Nat) : Prop :=
  s.b (kr n) 6 = true ∧ s.b (kr n) 5 = false ∧
    doorbellOk (s.f (kr n) 4 0) (SMap.get 0 s.plast (kr n)) (s.f (kr n + 16) 31 0) v = true ∧ s.posted n v ≠ 0

/-- Kennel is enabled, withholds no doorbell of ring `n`, and has store entries for the items that value `v` posts. -/
def State.HasRoom (s : State) (n v : Nat) : Prop :=
  s.ken.heldDb.any (fun d => d.ring == n) = false ∧ s.posted n v ≤ s.kenFree ∧ s.b (kp + R.kenCtl) 0 = true

/-- The value `v` is the last doorbell of ring `n`. -/
def State.rang (s : State) (n v : Nat) : State := { s with plast := SMap.set 0 s.plast (kr n) v }

/-- A doorbell that a core has rung is withheld, and the core stalls. -/
def State.withheld (s : State) (n v : Nat) (o : Origin) : State :=
  ((s.rang n v).updKen (fun k => { k with
    heldDb := k.heldDb ++ [{ ring := n, origin := o, items := s.posted n v, index := v }] })).updCore (o.toNat % 4096)
      (fun c => { c with stall := true })

theorem kenDoorbell_accepted (h : s.Rings n v) (hroom : s.HasRoom n v) :
    s.kenDoorbell n o v = (true, (s.rang n v).kenDoorAccept n v (s.posted n v)) := by
  obtain ⟨hen, hin, hok, hne⟩ := h
  obtain ⟨hheld, hfree, hctl⟩ := hroom
  unfold State.posted at hne hfree
  simp [State.kenDoorbell, hen, hin, hok, hne, hheld, hfree, hctl, State.rang, State.posted, -Nat.reducePow]

/-- Items of a core that find too few store entries. -/
theorem kenDoorbell_withheld (h : s.Rings n v) (hcore : orgClass o = 1) (hfull : s.kenFree < s.posted n v) :
    s.kenDoorbell n o v = (true, s.withheld n v o) := by
  obtain ⟨hen, hin, hok, hne⟩ := h
  unfold State.posted at hne hfull
  unfold orgClass at hcore
  simp [State.kenDoorbell, hen, hin, hok, hne, hfull, hcore, State.withheld, State.rang, State.posted, -Nat.reducePow]

/-! ## Configuration registers (R388, R585) -/

/-- EN = 1 written whole to KEN_RING_CFG. -/
theorem hookKenCfg_enabled {x : Wr} (hfull : x.full = true) (hen : bit x.new 6 = true) :
    (hookKenCfg n).run x s =
      (true, (({ x.set s with wfail := s.wfail.filter (fun a => a != x.off) } : State).kenRingOn n).kenRoom) := by
  simp [hookKenCfg, hfull, hen]

section
variable {b : PKind} {p a : Nat}

/-- A write of 64 bits that enables a ring of Kennel; the failure of an earlier write to the ring is forgotten. -/
theorem kenCfgRow_enabled (hK : hookOf b p a = hookKenCfg n) (ha : pageAt b p + a = kr n) (h : s.Takes b p a w new)
    (hsize : w.size = .d64) (hen : bit new 6 = true) :
    wrRow s b p a w = (({ s.written b p a w new with wfail := (s.logged b p a w new).wfail.filter (fun x => x != kr n) } :
      State).kenRingOn n).kenRoom.acted w := by
  have hrun (t : State) := hookKenCfg_enabled (n := n) (s := t) (x := s.wrOf b p a w new) (beq_iff_eq.mpr hsize) hen
  refine wrRow_acted hK h (by rw [hrun]) ?_
  rw [hrun, State.wrOf_set_logged, State.wrOf_off, ha]

/-! ## Consumer indices (R395) -/

/-- The first 32 routers have a probe with a ring (R455). -/
theorem hookOf_prbCons (hn : n < 32) : hookOf .noc n R.nocPrbCons = hookCons (prbRing n) id := by
  show (if R.nocPrbCons = R.nocPrbCons ∧ n < 32 then hookCons (prbRing n) id else {}) = _
  exact if_pos ⟨rfl, hn⟩

/-- A valid index of the consumer of a ring that an engine produces. -/
theorem consRow_acted {c : Ring} {cnt : State → State} (hK : hookOf b p a = hookCons c cnt)
    (h : s.Takes b p a w new) (hs : s.consOk c (wFld w 31 0) = true)
    (hl : (s.logged b p a w new).consOk c (wFld w 31 0) = true) :
    wrRow s b p a w = (s.written b p a w new).acted w :=
  reg_wr' (fun t => t.consOk c (wFld w 31 0) = true) (fun t => (s.wrOf b p a w new).set t) hK h
    (fun _ ht => if_pos ht) hs hl

end

/-! ## DMA channels (R393, R420) -/

/-- A doorbell of value `v` is valid at an enabled DMA channel. -/
def State.DmaRings (s : State) (n v : Nat) : Prop :=
  s.dmaEn n = true ∧
    doorbellOk (s.f (dp n + R.dmaRing) 4 0) (s.f (dp n + R.dmaProd) 31 0) (s.f (dp n + R.dmaCons) 31 0) v = true

theorem dmaDoorbell_rings (h : s.DmaRings n v) : s.dmaDoorbell n v = (true, s.putF (dp n + R.dmaProd) 31 0 v) := by
  obtain ⟨hen, hok⟩ := h
  simp [State.dmaDoorbell, hen, hok]

end

end Sys2Proof.Machine
end

section
/-! PROOF. Completions and thread commands that a core writes to Kennel, and writes of Bark's registers (R368, R374, R378, R390). -/

namespace Sys2Proof.Machine

/-- Word `i` of the bytes that Kennel has read. -/
def kenWord (bs : List Byte) (i : Nat) : Word := BitVec.ofNat 64 (ofLe ((bs.drop (8 * i)).take 8))

section
variable {s u : State} {a : Nat} {bs : List Byte}

/-- An item, a mailbox or a control block that meets no error is read as its four words. -/
theorem kenRead_four (h : s.memRead a 32 = (.ok, bs, u)) :
    s.kenRead a 4 = ([kenWord bs 0, kenWord bs 1, kenWord bs 2, kenWord bs 3], u) := by
  simp only [State.kenRead, h]
  rfl

/-! ## KEN_CDONE (R368, R374) -/

section
variable {c st : Nat} {o : Origin} {i : KItem}

/-- The item that a preempted core gives back, with the words of its mailbox. -/
def KItem.yielded (i : KItem) (bs : List Byte) : KItem :=
  { i with w0 := setFld i.w0 15 0 (fld (kenWord bs 0) 15 0), w1 := kenWord bs 1, w2 := kenWord bs 2, w3 := kenWord bs 3, st := .ready }

/-- Core `c` gives item `j` back to the head of the ready items. -/
def State.kenYield (s : State) (c : Nat) (j : KItem) : State :=
  ((((s.kenIdle c).kenCopy j).updKen (fun k => { k with
    items := replFirst (fun x => x.id == j.id) (fun _ => j) k.items, ready := j.id :: k.ready })).kenTraceItem 6 c j j.ring 0).kenPreempt

/-- A completion takes effect where its core runs an item. -/
theorem cdone_takes (ho : orgClass o = 1) (hi : s.coreItem (o.toNat % 4096) = some i) : (s.cdone o st).1 = true := by
  unfold orgClass at ho
  simp only [State.cdone, ho, hi]
  split_ifs <;> trivial

theorem cdone_finishes (ho : orgClass o = 1) (hi : s.coreItem (o.toNat % 4096) = some i)
    (hm : s.memRead (s.mbox (o.toNat % 4096) + 32) 32 = (.ok, bs, u)) (hst : st = 0) :
    s.cdone o st = (true, ((((u.kenIdle (o.toNat % 4096)).kenTraceItem 4 (o.toNat % 4096) i i.ring 0).kenFinish i
      (fld (kenWord bs 0) 15 0) (kenWord bs 1) (kenWord bs 2) (kenWord bs 3)).kenPreempt)) := by
  unfold orgClass at ho
  simp [State.cdone, ho, hi, kenRead_four hm, hst]

theorem cdone_yields (ho : orgClass o = 1) (hi : s.coreItem (o.toNat % 4096) = some i)
    (hm : s.memRead (s.mbox (o.toNat % 4096) + 32) 32 = (.ok, bs, u)) (hst : st = 1)
    (hp : (s.kc (o.toNat % 4096)).preempt = true) :
    s.cdone o st = (true, u.kenYield (o.toNat % 4096) (i.yielded bs)) := by
  unfold orgClass at ho
  simp [State.cdone, ho, hi, kenRead_four hm, hst, hp, State.kenYield, KItem.yielded]

end

/-! ## KEN_THR_CMD (R378, Table 11.3) -/

section
variable {c t line : Nat} {o : Origin}

/-- The fields that firmware gives a thread in its control block (Table 11.2). -/
def KThread.created (x : KThread) (bs : List Byte) : KThread :=
  { x with prio := fld (kenWord bs 0) 7 2, affinity := fld (kenWord bs 0) 23 8, slice := fld (kenWord bs 0) 39 24,
           context := kenWord bs 1, wake := kenWord bs 3 }

section
variable {v : Word}

theorem thrCmd_create (h : fld v 11 8 = 1) : s.thrCmd o v = s.thrCreate (fld v 7 0) := by simp only [State.thrCmd, h]
theorem thrCmd_exit (h : fld v 11 8 = 2) : s.thrCmd o v = s.thrExit o := by simp only [State.thrCmd, h]
theorem thrCmd_switch (h : fld v 11 8 = 3) : s.thrCmd o v = s.thrSwitch o := by simp only [State.thrCmd, h]
theorem thrCmd_blockEvent (h : fld v 11 8 = 4) : s.thrCmd o v = s.thrBlockEvent o (fld v 17 12) := by simp only [State.thrCmd, h]
theorem thrCmd_blockTime (h : fld v 11 8 = 5) : s.thrCmd o v = s.thrBlockTime o := by simp only [State.thrCmd, h]
theorem thrCmd_wake (h : fld v 11 8 = 6) : s.thrCmd o v = s.thrWake (fld v 7 0) := by simp only [State.thrCmd, h]

end

theorem thrCreate_takes (hf : (s.thr t).st = .free) : (s.thrCreate t).1 = true := by
  simp [State.thrCreate, hf]

theorem thrCreate_creates (hf : (s.thr t).st = .free) (hm : s.memRead (s.tcb t) 32 = (.ok, bs, u)) :
    s.thrCreate t = (true, ((u.updThr t (fun x => x.created bs)).thrReady t false).kenPreempt) := by
  simp [State.thrCreate, hf, kenRead_four hm, KThread.created]

/-- A thread that waits for an event or for a time. -/
def State.ThrBlocked (s : State) (t : Nat) : Prop := (∃ k, (s.thr t).st = .onEvent k) ∨ ∃ k, (s.thr t).st = .onTime k

theorem thrWake_wakes (h : s.ThrBlocked t) : s.thrWake t = (true, (s.thrReady t false).kenPreempt) := by
  obtain ⟨k, hk⟩ | ⟨k, hk⟩ := h <;> simp [State.thrWake, hk]

theorem thrExit_frees (h : s.coreThread o = some (c, t)) :
    s.thrExit o = (true, ((s.kenIdle c).updThr t (fun x => { x with st := .free })).tcbWrite t 0 0 0) := by
  simp [State.thrExit, h]

theorem thrSwitch_yields (h : s.coreThread o = some (c, t)) :
    s.thrSwitch o = (true, ((s.kenIdle c).thrReady t false).kenPreempt) := by
  simp [State.thrSwitch, h]

/-- BLOCK_EVENT takes the pulse that its line has latched. -/
def State.eventTaken (s : State) (c t line : Nat) : State :=
  (((s.kenIdle c).updKen (fun k => { k with latches := setBit k.latches line false })).thrReady t true).kenPreempt

/-- Core `c` gives up thread `t`, which blocks in state `st`. -/
def State.thrBlocks (s : State) (c t : Nat) (st : TState) (line : Nat) : State :=
  (((s.kenIdle c).updThr t (fun x => { x with st := st })).tcbWrite t 3 0 line).kenTrace 11 c 0 (s.thr t).prio 0 0 t 0 0

theorem thrBlockEvent_eq (h : s.coreThread o = some (c, t)) : s.thrBlockEvent o line =
    (true, if bit s.ken.latches line then s.eventTaken c t line else s.thrBlocks c t (.onEvent line) line) := by
  simp only [State.thrBlockEvent, h]
  split_ifs <;> rfl

theorem thrBlockTime_eq (h : s.coreThread o = some (c, t)) : s.thrBlockTime o =
    (true, if (s.thr t).wake.toNat ≤ s.now.toNat then ((s.kenIdle c).thrReady t true).kenPreempt
      else s.thrBlocks c t (.onTime (s.thr t).wake) 0) := by
  simp only [State.thrBlockTime, h]
  split_ifs <;> rfl

end

end

/-- A thread command acts by its OP, whose operation takes effect before the ledger's record and after it. -/
theorem thrRow_acted {s u : State} {op : Nat} {w : RegW} {new : Word} {run : State → Bool × State}
    (hop : wFld w 11 8 = op) (hrun : ∀ t : State, t.thrCmd w.origin (placed w) = run t)
    (h : s.Takes .ken 0 R.kenThrCmd w new) (hs : (run s).1 = true) (hl : run (s.logged .ken 0 R.kenThrCmd w new) = (true, u)) :
    thrRow op w s = u.acted w :=
  opRow_acted (K := hookThrCmd) rfl (beq_iff_eq.mpr hop) h ((congrArg Prod.fst (hrun s)).trans hs)
    (congrArg Prod.snd ((hrun _).trans hl))

/-- DISCARD of a Bark source whose COUNT it leaves at 0 wakes no core. -/
theorem hookSrc_discards {n : Nat} {s : State} {x : Wr} (hd : bit x.data 24 = true)
    (h0 : ((x.set s).putF x.off 23 16 0).f x.off 23 16 = 0) :
    (hookSrc n).run x s = (true, (x.set s).putF x.off 23 16 0) := by
  simp [hookSrc, hd, h0]

end Sys2Proof.Machine
end

section
/-! PROOF. Items, threads and interrupts: what each step of Kennel and of Bark does where it finds its work (R364, R367, R371 to
R373, R379, R380, R385, R397). -/

namespace Sys2Proof.Machine

section
variable {s u : State} {r c t : Nat}

/-! ## Items (R364, R367, R371, R372) -/

/-- Address of the next item of a ring. -/
def State.itemAt (s : State) (r : Nat) : Nat :=
  s.ringBase (kenRing r) + 32 * (s.f (kr r + 16) 31 0 % 2 ^ s.f (kr r) 4 0)

/-- Kennel reads the next item of ring `r`, the bytes `bs`, which leaves `u`. -/
structure State.Fetches (s : State) (r : Nat) (bs : List Byte) (u : State) : Prop where
  inRing : s.kenIn r = true
  live   : s.b (kp + R.kenCtl) 0 = true
  notFull : SMap.get 0 s.ken.full r = 0
  posted : s.f (kr r + 16) 31 0 ≠ s.f (kr r + 8) 31 0
  room   : s.kenFree ≠ 0
  read   : s.memRead (s.itemAt r) 32 = (.ok, bs, u)

section
variable {bs : List Byte} (h : s.Fetches r bs u)
include h

/-- An ordered item of a flow that is full stays in its ring (R371). -/
theorem State.Fetches.flowFull (hord : bit (kenWord bs 0) 22 = true)
    (hfull : 256 ≤ (s.kflow (fld (kenWord bs 0) 35 24)).out) :
    s.itemFetch r = (u.putB (kr r + 24) 8 true).updKen (fun k =>
      { k with full := SMap.set 0 k.full r (fld (kenWord bs 0) 35 24 + 1) }) := by
  have hread := kenRead_four h.read
  unfold State.itemAt at hread
  simp [State.itemFetch, h.inRing, h.live, h.notFull, h.posted, h.room, hread, hord, hfull]

/-- An item without an order is accepted. -/
theorem State.Fetches.accepts (hord : bit (kenWord bs 0) 22 = false) :
    s.itemFetch r = (((((u.putB (kr r + 24) 8 false).putF (kr r + 16) 31 0 ((s.f (kr r + 16) 31 0 + 1) % 2 ^ 32)).updKen (fun k =>
      { k with resv := SMap.set 0 k.resv r (SMap.get 0 k.resv r - 1), full := SMap.set 0 k.full r 0 })).kenAccept r false
        (kenWord bs 0) (kenWord bs 1) (kenWord bs 2) (kenWord bs 3)).kenPreempt) := by
  have hread := kenRead_four h.read
  unfold State.itemAt at hread
  simp [State.itemFetch, h.inRing, h.live, h.notFull, h.posted, h.room, hread, hord]

end

/-- The one item of the store becomes ready at its tick. -/
theorem delayExpire_one {i : KItem} {d : Word} (hi : s.ken.items = [i]) (hd : i.st = .delayed d)
    (hdue : (d.toNat + (us - 1)) / us * us ≤ s.now.toNat) :
    s.delayExpire = ((s.updKen (fun k => { k with
      ready := k.ready ++ [i.id],
      items := replFirst (fun j => j.id == i.id) (fun j => { j with st := .ready }) k.items })).kenTraceItem 9 0 i i.ring 0).kenPreempt := by
  simp [State.delayExpire, hi, hd, hdue, insDue]

/-- An item goes to the idle work core of lowest number. -/
theorem dispatchTo_item {i : KItem} (hctl : s.b (kp + R.kenCtl) 0 = true) (hidle : s.workIdle c = true)
    (hlow : (List.range c).any s.workIdle = false) (hi : s.nextItem = some i) :
    s.dispatchTo c = (((((s.updKen (fun k => { k with
      ready := k.ready.filter (fun j => j != i.id), order := k.order + 1,
      items := replFirst (fun j => j.id == i.id) (fun j => { j with st := .running c }) k.items })).updKc c
        (fun _ => { st := 1, what := i.id, since := s.now, order := s.ken.order + 1 })).deliverMbox c
          [i.w0, i.w1, i.w2, i.w3]).kenTraceItem 3 c i i.ring 0).kenPreempt) := by
  simp only [State.dispatchTo, hctl, hidle, hlow, hi, Bool.not_true, Bool.not_false, Bool.and_self, Bool.false_eq_true, if_true, if_false]

/-- A thread goes to an idle core in thread mode. -/
theorem dispatchTo_thread (hctl : s.b (kp + R.kenCtl) 0 = true) (hbusy : s.workIdle c = false) (hidle : s.thrIdle c = true)
    (ht : firstMin (fun t => (s.thr t).prio) (s.readyThreads c) = some t) :
    s.dispatchTo c = ((((((s.updKen (fun k => { k with
      thrRdy := k.thrRdy.filter (fun u => u != t), order := k.order + 1 })).updThr t (fun x => { x with st := .running c })).tcbWrite
        t 2 c 0).updKc c (fun _ => { st := 2, what := t, since := s.now, order := s.ken.order + 1 })).deliverMbox c
          [0xFFFE, BitVec.ofNat 64 t, (s.thr t).context, 0]).kenTrace 10 c 0 (s.thr t).prio 0 0 t 0 (BitVec.ofNat 64 t)).kenPreempt := by
  simp only [State.dispatchTo, hctl, hbusy, hidle, ht, Bool.not_true, Bool.false_and, Bool.false_eq_true, if_true, if_false]

/-! ## Threads (R372, R379, R380) -/

theorem threadWake_due {w : Word} (hst : (s.thr t).st = .onTime w) (hdue : (w.toNat + (us - 1)) / us * us ≤ s.now.toNat) :
    s.threadWake t = (s.thrReady t false).kenPreempt := by
  simp only [State.threadWake, hst]
  exact if_pos hdue

/-- A thread whose slice has passed gives its core to a READY thread of its priority. -/
theorem sliceExpire_preempts (hst : (s.kc c).st = 2) (hp : (s.kc c).preempt = false) (hslice : (s.thr (s.kc c).what).slice ≠ 0)
    (hdur : us * (s.thr (s.kc c).what).slice ≤ dur (s.kc c).since s.now) (hctl : s.b (kp + R.kenCtl) 1 = true)
    (hrdy : (s.readyThreads c).any (fun u => (s.thr u).prio == s.corePrio c) = true) :
    s.sliceExpire c = s.preemptThread c (s.corePrio c) :=
  if_pos ⟨hst, by simp [hp], hslice, hdur, hctl, hrdy⟩

/-! ## Interrupts and stashed records (R385, R397) -/

/-- A source that its core may take, whose frame is written. -/
theorem interruptEntry_commits {src : Nat} (hmay : s.mayInterrupt c = true)
    (hsrc : s.selectSource c (s.core c).ilvl = some src)
    (hpush : (s.inc (shp c + R.shepCoreStat) 63 32).pushFrame c { vec := .interrupt, source := src } (s.core c).pc = some u) :
    s.interruptEntry c = u.commitSource c src := by
  simp only [State.interruptEntry, hmay, hsrc, hpush, if_true]

/-- The oldest record of a stash goes to the completion ring. -/
theorem retStash_drains {ws : List Word} {rest : List (List Word)} (hst : (s.sub r).stash = ws :: rest)
    (hpush : s.ringPush (retRing r) ws = (true, u)) :
    s.retStash r = (u.updSub r (fun y => { y with stash := rest ++ y.late.take 1, late := y.late.drop 1 })).pageInt (rtp r) 0 := by
  simp [State.retStash, hst, hpush]

end

end Sys2Proof.Machine
end

section
/-! PROOF. The obligations of the family of Kennel and Bark. -/

open Sys2Proof Sys2Proof.Machine

/-- Settles O29: each row is the write of one register, and its hook acts as the same function of the state before and after the
ledger's record. -/
theorem ringRegistersComplete : Obligations.RingRegistersComplete := by
  unfold Obligations.RingRegistersComplete
  intro s n w new
  refine ⟨?doorbell, ?config, ?consumer,
    fun h => ?dmaRing, fun h hs hl => ?dmaDoorbell, fun h hz ho hn => ?dmaDisable⟩
  case doorbell =>
    intro pg o l v rung room k kept h hs hl
    refine ⟨fun hroom hroom' => ?accepted, fun hcore hfull hfull' => ?withheld⟩
    case accepted =>
      exact reg_wr' (fun t => t.Rings n v ∧ t.HasRoom n v) (fun t => (t.rang n v).kenDoorAccept n v (t.posted n v))
        (hk_prod n) h (fun t ht => kenDoorbell_accepted ht.1 ht.2) ⟨hs, hroom⟩ ⟨hl, hroom'⟩
    case withheld =>
      exact reg_wr' (fun t => t.Rings n v ∧ t.kenFree < t.posted n v) (fun t => t.withheld n v w.origin)
        (hk_prod n) h (fun t ht => kenDoorbell_withheld ht.1 hcore ht.2) ⟨hs, hfull⟩ ⟨hl, hfull'⟩
  case config =>
    intro pg o l h hsize hen
    have hrow := kenCfgRow_enabled (hk_cfg n) (kr_cfg n) h hsize hen
    exact ⟨hrow, hrow⟩
  case consumer =>
    intro r b p o c hr hout hprobe hc l h hs hl
    subst hc
    cases r with
    | kenOut m => exact absurd rfl (hout m)
    | retStart m | dma m => exact absurd hr (by simp [ringConsumer])
    | kenTrace | retComp m | quiescence | failLog q =>
      cases hr
      exact consRow_acted rfl h hs hl
    | probe k =>
      cases hr
      exact consRow_acted (hookOf_prbCons hprobe) h hs hl
  case dmaRing => exact wrRow_acted (K := hookDmaRing n) rfl h rfl rfl
  case dmaDoorbell =>
    exact reg_wr' (fun t => t.DmaRings n (wFld w 31 0)) (fun t => t.putF (dp n + R.dmaProd) 31 0 (wFld w 31 0))
      (K := hookDmaProd n) rfl h (fun t ht => dmaDoorbell_rings ht) hs hl
  case dmaDisable =>
    exact opRow_acted (K := hookDmaCtl n) rfl hz h rfl (by simp [hookDmaCtl, hn, bit_reg, pageAt_dma, ho])

/-- Settles O30: a completion and a thread command act on what their core runs, before the ledger's record and after it; the
register operations of Bark are those of its hooks. -/
theorem kennelRegistersComplete : Obligations.KennelRegistersComplete := by
  unfold Obligations.KennelRegistersComplete
  intro s n w new
  refine ⟨?cdone, ?threads, fun h => ?swset, ?discard⟩
  case cdone =>
    intro l c m i j bs u v h ho hj hi hm
    have hs : (s.cdone w.origin (wFld w 1 0)).1 = true := cdone_takes ho hj
    refine ⟨fun hst hsize => ?done, fun hst hp hp' => ?yield⟩
    case done =>
      exact opRow_acted (K := hookCdone) rfl (by simp [hst, hsize]) h hs
        (congrArg Prod.snd (cdone_finishes ho hi hm hst))
    case yield =>
      exact opRow_acted (K := hookCdone) rfl (beq_iff_eq.mpr hst) h hs
        (congrArg Prod.snd (cdone_yields ho hi hm hst hp'))
  case threads =>
    intro l t h
    have wakes (hop : wFld w 11 8 = 6) (hs : s.ThrBlocked t) (hl : l.ThrBlocked t) :
        exec (.thrWake w) s = ((l.thrReady t false).kenPreempt).acted w :=
      thrRow_acted hop (fun _ => thrCmd_wake hop) h (congrArg Prod.fst (thrWake_wakes hs)) (thrWake_wakes hl)
    refine ⟨?create, fun hop hk hk' => wakes hop (.inl hk) (.inl hk'),
      fun hop hk hk' => wakes hop (.inr hk) (.inr hk'), fun c u e he hc => ?ofCore⟩
    case create =>
      intro bs u v read hop hf hf' hm
      exact thrRow_acted hop (fun _ => thrCmd_create hop) h (thrCreate_takes hf) (thrCreate_creates hf' hm)
    case ofCore =>
      intro idle line
      refine ⟨fun hop => ?exit, fun hop => ?switch, fun hop hb => ?pulsed, fun hop hb => ?blocks, fun hop ht => ?past,
        fun hop ht => ?waits⟩
      case exit =>
        exact thrRow_acted hop (fun _ => thrCmd_exit hop) h (congrArg Prod.fst (thrExit_frees he)) (thrExit_frees hc)
      case switch =>
        exact thrRow_acted hop (fun _ => thrCmd_switch hop) h (congrArg Prod.fst (thrSwitch_yields he))
          (thrSwitch_yields hc)
      case pulsed =>
        exact thrRow_acted hop (fun _ => thrCmd_blockEvent hop) h (congrArg Prod.fst (thrBlockEvent_eq he))
          ((thrBlockEvent_eq hc).trans (congrArg (Prod.mk true) (if_pos hb)))
      case blocks =>
        exact thrRow_acted hop (fun _ => thrCmd_blockEvent hop) h (congrArg Prod.fst (thrBlockEvent_eq he))
          ((thrBlockEvent_eq hc).trans (congrArg (Prod.mk true) (if_neg (Bool.eq_false_iff.mp hb))))
      case past =>
        exact thrRow_acted hop (fun _ => thrCmd_blockTime hop) h (congrArg Prod.fst (thrBlockTime_eq he))
          ((thrBlockTime_eq hc).trans (congrArg (Prod.mk true) (if_pos ht)))
      case waits =>
        exact thrRow_acted hop (fun _ => thrCmd_blockTime hop) h (congrArg Prod.fst (thrBlockTime_eq he))
          ((thrBlockTime_eq hc).trans (congrArg (Prod.mk true) (if_neg ht.not_ge)))
  case swset => exact wrRow_acted (K := hookSwset) rfl h rfl rfl
  case discard =>
    intro o p cleared h hd h0
    exact opRow_acted (hk_src n) hd h rfl (congrArg Prod.snd (hookSrc_discards (x := s.wrOf .bark p o w new) hd h0))

/-- Settles O17: each command does the one operation of Kennel or Bark whose conditions it names; the THREAD record at a dispatch is
the model's choice (log entry 19). -/
theorem kennelAndBarkComplete : Obligations.KennelAndBarkComplete := by
  unfold Obligations.KennelAndBarkComplete
  intro s hs
  refine ⟨fun r hr => ?fetch, fun i d hi hd hdue ha => ?delay,
    fun c hc hctl => ⟨fun i hidle hlow hi ha => ?item, fun t hbusy hidle ht ha => ?thread⟩, fun t w ht hst hdue ha => ?wake,
    fun c hc hst hp hslice hdur hctl hrdy ha => ?slice, fun n hn => ?pulse,
    fun c src s1 hc hmay hsrc hpush ha => ?interrupt, fun r ws rest s1 hr hst hpush ha => ?stash⟩
  case fetch =>
    intro _ _ bs u w hin hctl hfull hne hfree hm
    have h : s.Fetches r bs u := ⟨hin, hctl, hfull, hne, hfree, hm⟩
    exact ⟨fun hord hout ha => (exec_itemFetch ..).trans (engOn_gives hs ha (decide_eq_true hr) (h.flowFull hord hout)),
      fun hord ha => (exec_itemFetch ..).trans (engOn_gives hs ha (decide_eq_true hr) (h.accepts hord))⟩
  case delay => exact (exec_delayExpire ..).trans (engOn_gives hs ha rfl (delayExpire_one hi hd hdue))
  case item => exact (exec_dispatch ..).trans (engOn_gives hs ha (decide_eq_true hc) (dispatchTo_item hctl hidle hlow hi))
  case thread => exact (exec_dispatch ..).trans (engOn_gives hs ha (decide_eq_true hc) (dispatchTo_thread hctl hbusy hidle ht))
  case wake => exact (exec_threadWakeTime ..).trans (engOn_gives hs ha (decide_eq_true ht) (threadWake_due hst hdue))
  case slice =>
    exact (exec_threadSliceExpire ..).trans
      (engOn_gives hs ha (decide_eq_true hc) (sliceExpire_preempts hst hp hslice hdur hctl hrdy))
  case pulse => exact (exec_eventLinePulse ..).trans (actOn_gives hs (decide_eq_true hn) rfl)
  case interrupt =>
    exact (exec_interruptEntry ..).trans (engOn_gives hs ha (decide_eq_true hc) (interruptEntry_commits hmay hsrc hpush))
  case stash =>
    exact (exec_stashDrain ..).trans (engOn_gives hs ha rfl ((if_pos hr).trans (retStash_drains hst hpush)))

end

section
/-! PROOF. How a command ends: with what it set going settled, from the state it was given where PORST_N is low; only a reserved
DMA operation is refused (R17, R414, R571). -/

namespace Sys2Proof.Machine

/-- An outcome of a command on `s`: a state at the end of the command, which while PORST_N is low is made of `s` itself. -/
def EndsHeld (s : State) (o : Host.Outcome State Fault Refusal) : Prop := ∃ t, o = done t ∧ (s.porst = true → t = s)

/-- The commands that act while PORST_N is low: power-on reset, its release, and the two of a brown-out (R571, R572). -/
def actsInReset : Instr → Bool
  | .powerOnReset | .brownOut | .porstNRelease _ | .brownOutRelease => true
  | _ => false

section
variable (s : State) {t : State} {ok : Bool}

theorem EndsHeld.safe {o : Host.Outcome State Fault Refusal} (h : EndsHeld s o) : Safe o := by
  obtain ⟨t, rfl, -⟩ := h
  exact ⟨t.settle, rfl⟩

theorem EndsHeld.held {o : Host.Outcome State Fault Refusal} (h : EndsHeld s o) (hs : s.porst = true) : o = .next s := by
  obtain ⟨t, rfl, ht⟩ := h
  rw [ht hs, done_next, settle_porst hs]

theorem done_endsHeld (h : s.porst = true → t = s) : EndsHeld s (done t) := ⟨t, rfl, h⟩

theorem act_endsHeld (k : State → State) : EndsHeld s (act s k) := done_endsHeld s fun h => if_pos h

theorem actOn_endsHeld (k : State → State) : EndsHeld s (actOn ok s k) := done_endsHeld s fun h => if_pos (by rw [h, Bool.true_or])

theorem engOn_endsHeld (k : State → State) : EndsHeld s (engOn ok s k) := actOn_endsHeld s _

theorem wrRow_endsHeld (b : PKind) (p o : Nat) (w : RegW) : EndsHeld s (wrRow s b p o w) :=
  done_endsHeld s fun h => pageRow_porst h ..

theorem opRow_endsHeld (b : PKind) (p o : Nat) (w : RegW) : EndsHeld s (opRow ok s b p o w) := by
  unfold opRow
  split
  · exact wrRow_endsHeld ..
  · exact done_endsHeld s fun _ => rfl

theorem hdrRow_endsHeld (page o : Nat) (w : RegW) : EndsHeld s (hdrRow ok page o w s) := by
  unfold hdrRow
  split
  · exact opRow_endsHeld ..
  · exact done_endsHeld s fun _ => rfl

/-- A step of a core, which takes no instruction while PORST_N is low. -/
theorem shRun_endsHeld (c : Nat) (r : Nat → Nat → Bool) (l : Bool) (b : SIns → SM Unit) :
    EndsHeld s (done (s.shRun c r l b)) := done_endsHeld s fun h => shRun_porst h ..

/-- COPY, FILL and PROOF: refused for a reserved descriptor, and otherwise a step of the channel (R414, log entry 21). -/
theorem dmaRow_outcome (op ch : Nat) :
    EndsHeld s (dmaRow op ch s) ∨ (dmaRow op ch s = .refused .reservedDescriptor ∧ s.porst = false ∧ s.dmaOp3 ch = true) := by
  unfold dmaRow
  split
  · next h =>
    rw [Bool.and_eq_true, Bool.not_eq_true'] at h
    exact .inr ⟨rfl, h⟩
  · exact .inl (actOn_endsHeld ..)

end

/-- Every command that does not act in reset ends held, a reserved DMA operation apart. -/
theorem exec_outcome (c : Instr) (s : State) : actsInReset c = true ∨ EndsHeld s (exec c s) ∨
    (exec c s = .refused .reservedDescriptor ∧ s.porst = false ∧
      ∃ ch, s.dmaOp3 ch = true ∧ (c = .dmaCopy ch ∨ c = .dmaFill ch ∨ c = .dmaProof ch)) := by
  cases c with
  | powerOnReset | brownOut | porstNRelease | brownOutRelease => exact .inl rfl
  | dmaCopy ch => exact .inr ((dmaRow_outcome s 0 ch).imp_right fun ⟨h, hs, h3⟩ => ⟨h, hs, ch, h3, .inl rfl⟩)
  | dmaFill ch => exact .inr ((dmaRow_outcome s 1 ch).imp_right fun ⟨h, hs, h3⟩ => ⟨h, hs, ch, h3, .inr (.inl rfl)⟩)
  | dmaProof ch => exact .inr ((dmaRow_outcome s 2 ch).imp_right fun ⟨h, hs, h3⟩ => ⟨h, hs, ch, h3, .inr (.inr rfl)⟩)
  | functionReset page w =>
    refine .inr (.inl ?_)
    simp only [exec_functionReset, execFunctionReset, frstRow]
    split
    · split
      · exact done_endsHeld s fun _ => rfl
      · exact opRow_endsHeld ..
    · exact done_endsHeld s fun _ => rfl
  | kenRingPageReset p w =>
    refine .inr (.inl ?_)
    simp only [exec_kenRingPageReset, execKenRingPageReset, frstRow]
    split
    · exact done_endsHeld s fun _ => rfl
    · exact opRow_endsHeld ..
  | ringConsumerWrite r w =>
    refine .inr (.inl ?_)
    simp only [exec_ringConsumerWrite, execRingConsumerWrite]
    split
    · exact wrRow_endsHeld ..
    · exact done_endsHeld s fun _ => rfl
  | credit | sbRsp | resume | linkid =>
    refine .inr (.inl ?_)
    simp only [exec_credit, execCredit, exec_sbRsp, execSbRsp, exec_resume, execResume, exec_linkid, execLinkid]
    exact actOn_endsHeld ..
  | registerWrite => exact .inr (.inl (done_endsHeld s fun h => writeRow_porst h ..))
  | readClear | gaugeSnap => exact .inr (.inl (done_endsHeld s fun h => readRow_porst h ..))
  | wdogConfigWrite | coreStart => exact .inr (.inl (done_endsHeld s fun h => pageRow_porst h ..))
  | tileMsSpillWrite | glbQmAbort | portFailCtlWrite | retStartDoorbell | kenRingDoorbell | kenRingConfig | barkSwset |
  dmaDoorbell | routeTableWrite | routerPortEnableWrite | gaugeCfgWrite | ledgRingWrite | ledgConsWrite | ringConfigWrite =>
    refine .inr (.inl ?_)
    dsimp only [exec]
    exact wrRow_endsHeld ..
  | glbRst | tileFunctionReset | hubFunctionReset | portFunctionReset | retFunctionReset | shepFunctionReset |
  dmaFunctionReset | kenFunctionReset | barkFunctionReset | hbmcFunctionReset | ledgFunctionReset | forceRot | tileLoadGo
  | tileFence | excPop | streamRun | streamStop | scrambleWrite | linkEnable | retrain | spareGo | switchSend | retRun |
  retResume | emergArm | cdoneDone | cdoneYield | thrCreate | thrExit | thrSwitch | thrBlockEvent | thrBlockTime | thrWake
  | barkDiscard | dmaDisable | niIsolate | routeFenceGo | retireAdd | domainTargetWrite | bcastGo | barrierArrive |
  packMsgGo | brcEnable | brcTakeover | brcSwap | brcDetach | brcResync | brcSeal | h2dPost | h2dDone | d2hPost | d2hDone =>
    refine .inr (.inl ?_)
    dsimp only [exec]
    exact opRow_endsHeld ..
  | faultAck | errEnWrite | levelRaise | injectArm | injectForce =>
    refine .inr (.inl ?_)
    dsimp only [exec]
    exact hdrRow_endsHeld ..
  | functionResetDone | functionLevelReset | ctxQueueGrant | waittExpire | watchdogExpiry | hatchWake | hatchPowerDown |
  semTake | semTry | semGive | semPeek | semPlainStore | resetNotice | memRead8 | memRead64 | memWrite8 | memWrite64 |
  memCas | postedWrite | routeFenceDone | sramScrub | governorInterval | packSyncEdge | refLoss | timeLock | railExcursion
  | token | arrive | release | cfg | cfgAck | msg | msgAck | rstart | rstartAck | leadhb | leadhbInterval | deputyTakeover
  | bamiorLinkid | hbInterval | hbLoss | epochBoundary | takeoverDeadline | reactionTimerExpire | hostWrite | hostRead |
  romLoad | romProgramKey | romRevokeKey | romSetSvn | hostLinkTrain | l1Entry | l1Exit | referenceReturn |
  hostConfigWrite | hostCompletion =>
    refine .inr (.inl ?_)
    dsimp only [exec]
    exact act_endsHeld ..
  | queueChainRefill | spillAccessComplete | spillBucketGrant | tileLoadEntry | qmRecordPost | storedLineReturn |
  startEntryTake | ccwFetch | ccwWrite | ccwRead | ccwControl | ccwSense | ccwJump | ccwWaitEvent | ccwWaitTime |
  ccwSkipIf | ccwPost | ccwNop | gpioOutSet | gpioOutClr | gpioOutToggle | gpioDirOut | gpioDirIn | gpioArm | gpioDisarm |
  gpioCapture | waitEventTimeout | waitTimeExpire | remoteTimeout | stashDrain | itemFetch | delayExpire | dispatch |
  threadWakeTime | threadSliceExpire | interruptEntry | dmaDescriptorBegin | dmaComplete | ledgerDrain =>
    refine .inr (.inl ?_)
    dsimp only [exec]
    exact engOn_endsHeld ..
  | shMov | shMovzMovs | shLea | shAddSub | shAdcSbc | shMul | shMulhsMulhu | shDivsDivuRemsRemu | shNeg | shAndOrXorAndn
  | shNot | shShlShrSarRolRor | shCmp | shTst | shClzPopc | shBfext | shBfins | shBperm | shBcc | shCall | shSignal |
  shWaitt | shTrap | shMovsr | shMovrs | shCas | shFaddFsubFmulFdiv | shFsqrt | shFminFmax | shFcmp | shFcvtif | shFcvtfi
  | shFcvtff | shDaddDsub | sysNop | sysRet | sysRte | sysWaitsig | sysFence | sysIcinv | sysBrk | sysStop | setvl | vld |
  vst | vgather | vscatter | vbcast | vget | vset | hfiget | hfiset | vaddVsubVmul | vaddssVsubss | vaddsuVsubsu | vmulhrs
  | vrshr | vshl | vminsVmaxsVminuVmaxu | vandVorVxor | vcmpeqVcmpltVcmpltu | vfaddVfsubVfmul | vfminVfmax =>
    refine .inr (.inl ?_)
    dsimp only [exec]
    exact shRun_endsHeld ..
  | _ =>
    refine .inr (.inl ?_)
    dsimp only [exec]
    exact actOn_endsHeld ..

end Sys2Proof.Machine
end

section
/-! PROOF. The obligations on every command: what goes on, and what PORST_N holds. -/

open Sys2Proof Sys2Proof.Machine

/-- Settles O50: a command that acts in reset ends as every other, and DMA's reserved operation is the one that is refused. -/
theorem commandsGoOn : Obligations.CommandsGoOn := by
  unfold Obligations.CommandsGoOn
  intro c s
  obtain hr | h | h := exec_outcome c s
  · cases c with
    | powerOnReset | brownOut | porstNRelease | brownOutRelease => exact .inl ⟨_, rfl⟩
    | _ => exact absurd hr Bool.false_ne_true
  · exact .inl h.safe
  · exact .inr h

/-- Settles O49: a command that does not act in reset is given back the state it was given (log entry 6 starts the model there), and
a step takes the front of the queue or, where it is empty, is no tick. -/
theorem heldInReset : Obligations.HeldInReset := by
  unfold Obligations.HeldInReset
  intro frees
  have hexec : ∀ (c : Instr) (s : State), s.porst = true → frees c = false → exec c s = .next s := by
    intro c s hs hc
    obtain hr | h | ⟨-, hs', -⟩ := exec_outcome c s
    · exact absurd (hr.symm.trans hc) Bool.true_eq_false_eq_False.elim
    · exact h.held s hs
    · exact absurd (hs.symm.trans hs') (by decide)
  refine ⟨hexec, fun s t hs hq ht => ?_⟩
  cases hp : s.pending with
  | nil =>
    obtain rfl : s = t := by simpa [step, hp, State.tick, hs] using ht
    exact ⟨hs, by rw [List.tail_nil, ← hp]⟩
  | cons c rest =>
    obtain rfl : ({ s with pending := rest } : State) = t := by
      simpa [step, hp, hexec c { s with pending := rest } hs (hq c rest hp)] using ht
    exact ⟨hs, rfl⟩

end

section
/-! PROOF. HBM addresses: what the controller, the local address and the device address are of an address's three parts, the group
of bits 9:8, the bits above it and the bits below (R425). -/

namespace Sys2Proof.Machine

/-- The XOR of the 2-bit groups above bits 9:8, of the bits above bit 9. -/
def hbmHigh (h : Nat) : Nat := ((List.range 14).map (fun i => h / 2 ^ (2 * i) % 4)).foldl Nat.xor 0

/-- The XOR of numbers below 4 is below 4. -/
theorem foldl_xor_lt (l : List Nat) (hl : ∀ x ∈ l, x < 4) : l.foldl Nat.xor 0 < 4 := by
  suffices h : ∀ a, a < 4 → l.foldl Nat.xor a < 4 from h 0 (by decide)
  induction l with
  | nil => exact fun a ha => ha
  | cons x l ih =>
    exact fun a ha => ih (fun y hy => hl y (.tail _ hy)) _ (Nat.xor_lt_two_pow (n := 2) ha (hl x (.head _)))

theorem hbmHigh_lt (h : Nat) : hbmHigh h < 4 :=
  foldl_xor_lt _ fun x hx => by
    obtain ⟨i, -, rfl⟩ := List.mem_map.mp hx
    exact Nat.mod_lt _ (by decide)

/-- The controller is the XOR of the address's fifteen 2-bit groups. -/
theorem hbmUnit_eq_foldl (a : Nat) :
    hbmUnit a = ((List.range 15).map (fun i => a / 2 ^ (8 + 2 * i) % 4)).foldl Nat.xor 0 := by
  simp only [hbmUnit, List.foldl_map, Nat.shiftRight_eq_div_pow]
  rfl

/-- The group of bits 9:8 and the groups above it. -/
theorem hbmUnit_eq_xor (a : Nat) : hbmUnit a = (a / 256 % 4) ^^^ hbmHigh (a / 1024) := by
  have hgroup (i : Nat) : a / 2 ^ (8 + 2 * (i + 1)) % 4 = a / 1024 / 2 ^ (2 * i) % 4 := by
    rw [Nat.div_div_eq_div_mul, show 8 + 2 * (i + 1) = 10 + 2 * i by omega, pow_add, show 1024 = 2 ^ 10 from rfl]
  have : Std.Associative Nat.xor := ⟨Nat.xor_assoc⟩
  rw [hbmUnit_eq_foldl, List.range_succ_eq_map, List.map_cons, List.map_map, List.foldl_cons]
  simp only [Function.comp_def, Nat.succ_eq_add_one, hgroup, hbmHigh]
  exact (congrArg (List.foldl _ · _) (Nat.xor_comm _ _)).trans List.foldl_assoc

variable {h b c u : Nat} (hb : b < 4) (hc : c < 256)
include hb hc

/-- The controller of an address by its parts. -/
theorem hbmUnit_parts : hbmUnit (h * 1024 + b * 256 + c) = b ^^^ hbmHigh h := by
  rw [hbmUnit_eq_xor, show (h * 1024 + b * 256 + c) / 256 % 4 = b by omega, show (h * 1024 + b * 256 + c) / 1024 = h by omega]

theorem hbmLocal_parts (hh : h < 2 ^ 28) : hbmLocal (h * 1024 + b * 256 + c) = h * 256 + c := by
  rw [hbmLocal, Nat.shiftRight_eq_div_pow, show (h * 1024 + b * 256 + c) / 2 ^ 10 % 2 ^ 28 = h by omega,
    show (h * 1024 + b * 256 + c) % 256 = c by omega, ← Nat.shiftLeft_add_eq_or_of_lt hc, Nat.shiftLeft_eq]

omit hb in
theorem hbmDevice_parts (hu : u < 4) : hbmDevice u (h * 256 + c) = h * 1024 + (u ^^^ hbmHigh h) * 256 + c := by
  have hx : u ^^^ hbmHigh h < 4 := Nat.xor_lt_two_pow (n := 2) hu (hbmHigh_lt h)
  have ha : (h * 256 + c) >>> 8 <<< 10 ||| (h * 256 + c) % 256 = h <<< 10 ||| c := by
    rw [Nat.shiftRight_eq_div_pow, show (h * 256 + c) / 2 ^ 8 = h by omega, show (h * 256 + c) % 256 = c by omega]
  have ha' : h <<< 10 ||| c = h * 1024 + 0 * 256 + c := by
    rw [← Nat.shiftLeft_add_eq_or_of_lt (by omega), Nat.shiftLeft_eq]
    omega
  calc hbmDevice u (h * 256 + c)
      = h <<< 10 ||| c ||| (u ^^^ hbmHigh h) <<< 8 := by
        rw [hbmDevice, ha, ha', hbmUnit_parts (by decide) hc, Nat.zero_xor]
    _ = (h <<< 2 ||| (u ^^^ hbmHigh h)) <<< 8 ||| c := by
        rw [Nat.shiftLeft_or_distrib, ← Nat.shiftLeft_add, Nat.or_assoc, Nat.or_comm c, ← Nat.or_assoc]
    _ = h * 1024 + (u ^^^ hbmHigh h) * 256 + c := by
        rw [← Nat.shiftLeft_add_eq_or_of_lt hc, ← Nat.shiftLeft_add_eq_or_of_lt hx, Nat.shiftLeft_eq, Nat.shiftLeft_eq]
        omega

end Sys2Proof.Machine
end

section
/-! PROOF. Routes of the mesh: a route is the list of its segments, the reversed route that of the inverted ones, and the route that
reset fills in goes west, then along its column, then east (R439, R440, R444). -/

namespace Sys2Proof.Machine

/-! ## Segments of a route (R439) -/

/-- Segments that a route can hold: at most eight, of six bits each, none of length 0. -/
structure SegsOk (l : List Nat) : Prop where
  short : l.length ≤ 8
  seg   : ∀ g ∈ l, g < 64 ∧ g % 16 ≠ 0

theorem routeOf_from (l : List Nat) (k r : Nat) :
    (l.zipIdx k).foldl (fun r e => r + e.1 * 2 ^ (6 * e.2)) r = r + 2 ^ (6 * k) * routeOf l := by
  induction l generalizing k r with
  | nil => rfl
  | cons g l ih =>
    have hcons : routeOf (g :: l) = 0 + g * 2 ^ (6 * 0) + 2 ^ (6 * 1) * routeOf l := ih 1 _
    rw [List.zipIdx_cons, List.foldl_cons, ih, hcons]
    ring

theorem routeOf_cons (g : Nat) (l : List Nat) : routeOf (g :: l) = g + 64 * routeOf l :=
  (routeOf_from l 1 _).trans (by ring)

/-- The places of a route hold its segments, and 0 after them. -/
theorem routeOf_place {l : List Nat} (hl : ∀ g ∈ l, g < 64) (k : Nat) : routeOf l >>> (6 * k) % 64 = l.getD k 0 := by
  induction l generalizing k with
  | nil => simp [routeOf]
  | cons g l ih =>
    have hg := hl g (.head _)
    rw [routeOf_cons]
    cases k with
    | zero => simp; omega
    | succ k =>
      rw [show 6 * (k + 1) = 6 + 6 * k by ring, Nat.shiftRight_add, List.getD_cons_succ, ← ih fun g hg => hl g (.tail _ hg),
        Nat.shiftRight_eq_div_pow _ 6, show (g + 64 * routeOf l) / 2 ^ 6 = routeOf l by omega]

theorem routeOf_places {l : List Nat} (h : SegsOk l) :
    (List.range 8).map (fun k => routeOf l >>> (6 * k) % 64) = l ++ List.replicate (8 - l.length) 0 := by
  refine List.ext_getElem (by simp [Nat.add_sub_cancel' h.short]) fun k hk hk' => ?_
  rw [List.getElem_map, List.getElem_range, routeOf_place fun g hg => (h.seg g hg).1, List.getElem_append]
  split
  · next hlt => exact List.getD_eq_getElem _ _ hlt
  · next hge => rw [List.getElem_replicate, List.getD_eq_default _ _ (Nat.le_of_not_lt hge)]

theorem routeSegs_routeOf {l : List Nat} (h : SegsOk l) : routeSegs (routeOf l) = l := by
  rw [routeSegs, routeOf_places h, List.takeWhile_append_of_pos fun g hg => bne_iff_ne.mpr (h.seg g hg).2]
  cases 8 - l.length <;> simp [List.replicate_succ]

/-! ## Where a route ends (R440) -/

/-- The node at the end of a segment, from a node. -/
def walkSeg (n : Option Nat) (g : Nat) : Option Nat := (List.range (g % 16)).foldl (fun n _ => n.bind (hopNode · (g / 16))) n

theorem routeEnd_eq (node r : Nat) : routeEnd node r = (routeSegs r).foldl walkSeg (some node) := by
  have hstep : ∀ (d : Nat) (n : Option Nat), (match n with | some m => hopNode m d | none => none) = n.bind (hopNode · d) := by
    rintro d (_ | m) <;> rfl
  unfold routeEnd walkSeg
  simp only [← hstep] <;> rfl

theorem walkSeg_none (g : Nat) : walkSeg none g = none := by
  unfold walkSeg
  induction g % 16 with
  | zero => rfl
  | succ n ih => rw [List.range_succ, List.foldl_append, ih]; rfl

/-- A segment of `n` hops in direction `d` follows a path of nodes. -/
theorem walkSeg_path {d n : Nat} (hn : n < 16) (p : Nat → Nat) (hp : ∀ i, i < n → hopNode (p i) d = some (p (i + 1))) :
    walkSeg (some (p 0)) (seg d n) = some (p n) := by
  rw [walkSeg, show seg d n % 16 = n by unfold seg; omega, show seg d n / 16 = d by unfold seg; omega]
  clear hn
  induction n with
  | zero => rfl
  | succ n ih =>
    rw [List.range_succ, List.foldl_append, ih fun i hi => hp i (by omega)]
    exact hp n (by omega)

/-! ## The route that reset fills in (R444) -/

/-- West to a lower column. -/
def westSegs (x x' : Nat) : List Nat := if x' < x then [seg 1 (x - x')] else []
/-- Along the column. -/
def colSegs (y y' : Nat) : List Nat := if y < y' then [seg 2 (y' - y)] else if y' < y then [seg 3 (y - y')] else []
/-- East to a higher column. -/
def eastSegs (x x' : Nat) : List Nat := if x < x' then [seg 0 (x' - x)] else []
/-- The segments of the route that reset fills in. -/
def xySegs (src dst : Nat) : List Nat :=
  westSegs (src % 16) (dst % 16) ++ colSegs (src / 16) (dst / 16) ++ eastSegs (src % 16) (dst % 16)

theorem xyRoute_eq (src dst : Nat) : xyRoute src dst = routeOf (xySegs src dst) := rfl

section
variable {x x' y y' g : Nat}

theorem mem_westSegs (h : g ∈ westSegs x x') : x' < x ∧ g = seg 1 (x - x') := by
  unfold westSegs at h
  split at h
  · next hlt => exact ⟨hlt, List.mem_singleton.mp h⟩
  · cases h

theorem mem_eastSegs (h : g ∈ eastSegs x x') : x < x' ∧ g = seg 0 (x' - x) := by
  unfold eastSegs at h
  split at h
  · next hlt => exact ⟨hlt, List.mem_singleton.mp h⟩
  · cases h

theorem mem_colSegs (h : g ∈ colSegs y y') : (y < y' ∧ g = seg 2 (y' - y)) ∨ (y' < y ∧ g = seg 3 (y - y')) := by
  unfold colSegs at h
  split at h
  · next hlt => exact .inl ⟨hlt, List.mem_singleton.mp h⟩
  · split at h
    · next hlt => exact .inr ⟨hlt, List.mem_singleton.mp h⟩
    · cases h

theorem seg_reversed {d n : Nat} (hn : n < 16) : seg (seg d n / 16 ^^^ 1) (seg d n % 16) = seg (d ^^^ 1) n := by
  rw [show seg d n / 16 = d by unfold seg; omega, show seg d n % 16 = n by unfold seg; omega]

theorem westSegs_reversed (hx : x < 16) :
    (westSegs x x').reverse.map (fun g => seg (g / 16 ^^^ 1) (g % 16)) = eastSegs x' x := by
  unfold westSegs eastSegs
  split
  · exact congrArg (fun g => [g]) (seg_reversed (by omega))
  · rfl

theorem eastSegs_reversed (hx' : x' < 16) :
    (eastSegs x x').reverse.map (fun g => seg (g / 16 ^^^ 1) (g % 16)) = westSegs x' x := by
  unfold westSegs eastSegs
  split
  · exact congrArg (fun g => [g]) (seg_reversed (by omega))
  · rfl

theorem colSegs_reversed (hy : y < 10) (hy' : y' < 10) :
    (colSegs y y').reverse.map (fun g => seg (g / 16 ^^^ 1) (g % 16)) = colSegs y' y := by
  unfold colSegs
  obtain h | rfl | h := Nat.lt_trichotomy y y'
  · rw [if_pos h, if_neg (by omega), if_pos h]
    exact congrArg (fun g => [g]) (seg_reversed (by omega))
  · rw [if_neg (lt_irrefl y), if_neg (lt_irrefl y)]; rfl
  · rw [if_neg (by omega), if_pos h, if_pos h]
    exact congrArg (fun g => [g]) (seg_reversed (by omega))

theorem walk_west (hx : x < 16) (y : Nat) :
    (westSegs x x').foldl walkSeg (some (16 * y + x)) = some (16 * y + min x x') := by
  unfold westSegs
  split
  · next hlt =>
    have hpath := walkSeg_path (d := 1) (n := x - x') (by omega) (fun i => 16 * y + x - i) fun i hi => by
      rw [hopNode, if_pos (by omega)]
      congr 1
    rw [min_eq_right (by omega), show 16 * y + x' = 16 * y + x - (x - x') by omega]
    exact hpath
  · next hge => rw [min_eq_left (by omega)]; rfl

theorem walk_east (hx' : x' < 16) (y : Nat) :
    (eastSegs x x').foldl walkSeg (some (16 * y + min x x')) = some (16 * y + x') := by
  unfold eastSegs
  split
  · next hlt =>
    have hpath := walkSeg_path (d := 0) (n := x' - x) (by omega) (fun i => 16 * y + x + i) fun i hi => by
      rw [hopNode, if_pos (by omega)]
      rfl
    rw [min_eq_left (by omega), show 16 * y + x' = 16 * y + x + (x' - x) by omega]
    exact hpath
  · next hge => rw [min_eq_right (by omega)]; rfl

theorem walk_col (hx : x < 16) (hy : y < 10) (hy' : y' < 10) :
    (colSegs y y').foldl walkSeg (some (16 * y + x)) = some (16 * y' + x) := by
  unfold colSegs
  split
  · next hlt =>
    have hpath := walkSeg_path (d := 2) (n := y' - y) (by omega) (fun i => 16 * y + x + 16 * i) fun i hi => by
      rw [hopNode, if_pos (by omega)]
      rfl
    rw [show 16 * y' + x = 16 * y + x + 16 * (y' - y) by omega]
    exact hpath
  · split
    · next hgt =>
      have hpath := walkSeg_path (d := 3) (n := y - y') (by omega) (fun i => 16 * y + x - 16 * i) fun i hi => by
        rw [hopNode, if_pos (by omega)]
        · rw [show 16 * y + x - 16 * i - 16 = 16 * y + x - 16 * (i + 1) by omega]
        · omega
        · omega
        · omega
      rw [show 16 * y' + x = 16 * y + x - 16 * (y - y') by omega]
      exact hpath
    · obtain rfl : y = y' := by omega
      rfl

end

section
variable {src dst : Nat} (hs : src < 160) (hd : dst < 160)
include hs hd

theorem xySegs_ok : SegsOk (xySegs src dst) where
  short := by
    have hw : (westSegs (src % 16) (dst % 16)).length ≤ 1 := by unfold westSegs; split <;> simp
    have hc : (colSegs (src / 16) (dst / 16)).length ≤ 1 := by unfold colSegs; split_ifs <;> simp
    have he : (eastSegs (src % 16) (dst % 16)).length ≤ 1 := by unfold eastSegs; split <;> simp
    simp only [xySegs, List.length_append]
    omega
  seg g hg := by
    simp only [xySegs, List.mem_append] at hg
    obtain (hg | hg) | hg := hg
    · obtain ⟨_, rfl⟩ := mem_westSegs hg; unfold seg; omega
    · obtain ⟨_, rfl⟩ | ⟨_, rfl⟩ := mem_colSegs hg <;> unfold seg <;> omega
    · obtain ⟨_, rfl⟩ := mem_eastSegs hg; unfold seg; omega

theorem xyRoute_ends : routeEnd src (xyRoute src dst) = some dst := by
  rw [routeEnd_eq, xyRoute_eq, routeSegs_routeOf (xySegs_ok hs hd), xySegs, List.foldl_append, List.foldl_append]
  have h := walk_west (x := src % 16) (x' := dst % 16) (by omega) (src / 16)
  rw [Nat.div_add_mod] at h
  rw [h, walk_col (by omega) (by omega) (by omega), walk_east (by omega), Nat.div_add_mod]

/-- The reversed route is the route back. -/
theorem xyRoute_reversed : rrouteOf (xyRoute src dst) = xyRoute dst src := by
  rw [xyRoute_eq, xyRoute_eq, rrouteOf, routeSegs_routeOf (xySegs_ok hs hd), xySegs, xySegs]
  simp only [List.reverse_append, List.map_append]
  rw [westSegs_reversed (by omega), colSegs_reversed (by omega) (by omega), eastSegs_reversed (by omega), List.append_assoc]

omit hs hd in
/-- No segment goes west after one in another direction. -/
theorem xySegs_west_first :
    ((xySegs src dst).dropWhile (fun g => g / 16 == 1)).any (fun g => g / 16 == 1) = false := by
  rw [xySegs, List.append_assoc, List.dropWhile_append_of_pos, List.any_eq_false]
  · intro g hg
    obtain hg | hg := List.mem_append.mp ((List.dropWhile_sublist _).mem hg)
    · obtain ⟨_, rfl⟩ | ⟨_, rfl⟩ := mem_colSegs hg <;> simp [seg] <;> omega
    · obtain ⟨_, rfl⟩ := mem_eastSegs hg
      simp [seg]
      omega
  · intro g hg
    obtain ⟨_, rfl⟩ := mem_westSegs hg
    simp [seg]
    omega

theorem xyRoute_valid : routeValid src dst (xyRoute src dst) = true := by
  have hok := xySegs_ok hs hd
  have hend := xyRoute_ends hs hd
  rw [xyRoute_eq] at hend ⊢
  simp only [routeValid, routeOf_places hok, routeSegs_routeOf hok, hend, xySegs_west_first, List.drop_left]
  simp

end

/-- The entries of the route tables after reset (R444). -/
theorem reset_route {src bank dst : Nat} (hb : bank < 2) (hd : dst < 160) :
    State.reset.route src bank dst = if bank = 0 then BitVec.ofNat 64 (xyRoute src dst + 2 ^ 48) else 0 := by
  have hidx : routeKey src bank dst % 256 = dst := by unfold routeKey; omega
  have hbank : routeKey src bank dst / 256 % 2 = bank := by unfold routeKey; omega
  have hnode : routeKey src bank dst / 512 = src := by unfold routeKey; omega
  show routeReset (routeKey src bank dst) = _
  simp only [routeReset, hidx, hbank, hnode, hd, decide_true, Bool.and_true, decide_eq_true_eq]

end Sys2Proof.Machine
end

section
/-! PROOF. The obligations of the address maps: HBM's controllers and the routes of the mesh. -/

open Sys2Proof Sys2Proof.Machine

/-- Settles O51: an address is its bits above bit 9, its group of bits 9:8 and its low byte, and the group is what the controller and
the bits above make it. -/
theorem hbmAddresses : Obligations.HbmAddresses := by
  unfold Obligations.HbmAddresses
  refine ⟨fun a ha => ?_, fun u l hu hl => ?_⟩
  · obtain ⟨h, b, c, hb, hc, rfl⟩ : ∃ h b c, b < 4 ∧ c < 256 ∧ a = h * 1024 + b * 256 + c :=
      ⟨a / 1024, a / 256 % 4, a % 256, by omega, by omega, by omega⟩
    rw [show hbmEnd = 96636764160 from rfl] at ha
    have hh : h < 94371840 := by omega
    clear ha
    rw [hbmLocal_parts hb hc (by omega), hbmUnit_parts hb hc]
    have hx : b ^^^ hbmHigh h < 4 := Nat.xor_lt_two_pow (n := 2) hb (hbmHigh_lt h)
    refine ⟨by rw [← hbmUnit_parts hb hc, hbmUnit_eq_foldl], hx, by omega, by omega, ?_⟩
    rw [hbmDevice_parts hc hx, Nat.xor_assoc, Nat.xor_self, Nat.xor_zero]
  · obtain ⟨h, c, hc, rfl⟩ : ∃ h c, c < 256 ∧ l = h * 256 + c := ⟨l / 256, l % 256, by omega, by omega⟩
    have hh : h < 94371840 := by omega
    have hx : u ^^^ hbmHigh h < 4 := Nat.xor_lt_two_pow (n := 2) hu (hbmHigh_lt h)
    rw [hbmDevice_parts hc hu, hbmUnit_parts hx hc, hbmLocal_parts hx hc (by omega), Nat.xor_assoc, Nat.xor_self, Nat.xor_zero]
    exact ⟨u ^^^ hbmHigh h, hx, by omega, rfl, rfl⟩

/-- Settles O59: the route that reset fills in is a list of segments whose reversal is that of the route back. -/
theorem defaultRoutes : Obligations.DefaultRoutes := by
  unfold Obligations.DefaultRoutes
  intro src dst hs hd
  refine ⟨xyRoute_valid hs hd, ?_, reset_route (by decide) hd, reset_route (by decide) hd⟩
  rw [xyRoute_reversed hs hd]
  exact xyRoute_ends hd hs

end

section
/-! PROOF. Registers of page headers and of the ledger: what a write that takes effect does there (R516 to R522, R532, R534). -/

namespace Sys2Proof.Machine

section
variable {b : PKind} {p : Nat} (hb : hasHeader b p = true)
include hb

/-- The hook of a register of the common header. -/
theorem hookOf_hdr {o : Nat} (ho : o < 0x100) : hookOf b p o = hookHdr b p o := if_pos (by simp [ho, hb])

/-- A row of a header register is the operation of that register of the page. -/
theorem hdrRow_page (hp : p < blkPages b) (ok : Bool) (o : Nat) (w : RegW) (s : State) :
    hdrRow ok (pageAt b p) o w s = opRow ok s b p o w := by
  have hpage : pageOf (pageAt b p) = some (b, p) := pageOf_pageAt (o := 0) hp (by decide)
  simp only [hdrRow, hpage, hb, Bool.and_true]

end

section
variable {s : State} {page d : Nat}

/-- The classes left after an acknowledgement (R520). -/
def State.leftAfter (s : State) (page d : Nat) : Nat := s.f (page + R.pgErrStat) 4 0 &&& (31 - d % 32)

section
variable (hk : s.f (page + R.pgErrStat) 4 0 &&& d &&& s.persist page = 0)
include hk

/-- An acknowledgement of no persisting class takes effect. -/
theorem errAck_takes : (s.errAck page d).1 = true := by simp [State.errAck, hk]

theorem errAck_leaves (hl : s.leftAfter page d ≠ 0) :
    (s.errAck page d).2 = s.putF (page + R.pgErrStat) 4 0 (s.leftAfter page d) := by
  unfold State.leftAfter at hl ⊢
  simp [State.errAck, hk, hl]

theorem errAck_stops (hl : s.leftAfter page d = 0) (h0 : s.f (page + R.pgErrLevel) 1 0 = 0) :
    (s.errAck page d).2 = (s.putF (page + R.pgErrStat) 4 0 0).setTimer page none := by
  unfold State.leftAfter at hl
  simp [State.errAck, hk, hl, h0]

theorem errAck_returns (hl : s.leftAfter page d = 0) (h0 : s.f (page + R.pgErrLevel) 1 0 ≠ 0) :
    (s.errAck page d).2 = (s.putF (page + R.pgErrStat) 4 0 0).setLevel page 0 5 (s.firstClass page) := by
  unfold State.leftAfter at hl
  simp [State.errAck, hk, hl, h0]

end

/-- Nothing is forced (R522). -/
theorem errForce_zero : s.errForce page 0 = s := by simp [State.errForce]

/-- A whole write of EN = 1 to LEDG_RING while it is 0 (R534). -/
theorem ledgRingSet_enables {w : Word} (he : s.b (lgp + R.ledgRing) 5 = false) (ha : ringAligned w 20 64 = true)
    (hw : bit w 5 = true) :
    s.ledgRingSet w true false = (true, ((({ s.setReg (lgp + R.ledgRing) w with
      wfail := s.wfail.filter (fun r => r != lgp + R.ledgRing) } : State).drainAt s.oldestSeq).putF
        (lgp + R.ledgProd) 31 0 s.oldestSeq).putF (lgp + R.ledgCons) 31 0 s.oldestSeq) := by
  simp [State.ledgRingSet, he, ha, hw]

end

end Sys2Proof.Machine
end

section
/-! PROOF. Registers of the mesh, of the HBM controllers, of domains and of gauges: what a write that takes effect does there (R433,
R445, R449, R453, R464, R474). -/

namespace Sys2Proof.Machine

/-! ## Hooks of register arrays -/

/-- The hook of the register of a domain. -/
theorem hookOf_dom {n : Nat} (hn : n < 176) : hookOf .pwr 0 (R.pwrDom + 8 * n) = hookDom n := by
  have h1 : ¬ (R.pwrDom + 8 * n < 256) := by simp only [R.pwrDom]; omega
  have h2 : R.pwrDom + 8 * n ≠ R.pwrCtl := by simp only [R.pwrDom, R.pwrCtl]; omega
  have h3 : 2048 ≤ R.pwrDom + 8 * n := by simp only [R.pwrDom]; omega
  have h4 : (R.pwrDom + 8 * n - 2048) / 8 = n := by simp only [R.pwrDom]; omega
  simp [hookOf, hookPwr, h1, h2, h3, h4]

/-- The hook of the configuration register of a gauge. -/
theorem hookOf_gauge (n : Nat) : hookOf .time (1 + n / 128) (R.gaugeCfg + 8 * (n % 128)) = hookGauge n := by
  have hm : n % 128 < 128 := by omega
  have hn : n = 128 * (n / 128) + n % 128 := by omega
  generalize n % 128 = m at *
  generalize n / 128 = d at *
  subst hn
  have h1 : ¬ (R.gaugeCfg + 8 * m < 256) := by simp only [R.gaugeCfg]; omega
  have h2 : 2048 ≤ R.gaugeCfg + 8 * m := by simp only [R.gaugeCfg]; omega
  have h3 : (R.gaugeCfg + 8 * m - 2048) / 8 = m := by simp only [R.gaugeCfg]; omega
  simp [hookOf, hookTime, h1, h2, h3]

theorem hookOf_retAdd {n : Nat} (hn : n < 4) : hookOf .hbmc n R.hbmcRetAdd = hookRetAdd n := by
  show (if R.hbmcRetAdd = R.hbmcRetAdd ∧ n < 4 then hookRetAdd n else {}) = _
  exact if_pos ⟨rfl, hn⟩

/-! ## Routes (R453) -/

/-- The table that NOC_RT_SEL names. -/
def State.rtBank (s : State) (n : Nat) : Nat := fld (s.reg (pageAt .noc n + R.nocRtSel)) 8 8
/-- The entry that NOC_RT_SEL names. -/
def State.rtIdx (s : State) (n : Nat) : Nat := fld (s.reg (pageAt .noc n + R.nocRtSel)) 7 0

/-- A route of that table written. -/
def State.rtWritten (s : State) (n : Nat) (v : Word) : State :=
  let k := routeKey n (s.rtBank n) (s.rtIdx n)
  { s with routes := SMap.set (routeReset k) s.routes k (v &&& 0x1FFFFFFFFFFFF) }

/-- A route that is valid or an entry made invalid, in the table that is not in use. -/
theorem rtWrite_writes {s : State} {n : Nat} {v : Word} (hbank : s.rtBank n ≠ b2n (s.niGen n))
    (hv : bit v 48 = false ∨ routeValid n (s.rtIdx n) (fld v 47 0) = true) :
    s.rtWrite n v = (true, s.rtWritten n v) := by
  refine if_neg fun h => ?_
  obtain h | ⟨h48, hr⟩ := h
  · exact hbank h
  · obtain hv | hv := hv
    · exact Bool.false_ne_true (hv.symm.trans h48)
    · exact Bool.false_ne_true ((congrArg (!·) hv).symm.trans hr)

/-! ## Targets of domains (R457, R464) -/

section
variable {s : State} {o : Origin} {d tgt : Nat}

/-- Domain 173 takes any target (Table 14.1). -/
theorem domTarget_link (h173 : d = 173) (h : s.domState d < 3) : s.domTarget o d tgt = (true, s.putF (domAt d) 1 0 tgt) := by
  unfold State.domTarget
  have h0 : s.domState d = 0 ∨ s.domState d = 1 ∨ s.domState d = 2 := by omega
  obtain h | h | h := h0 <;> simp only [h] <;> exact if_pos (.inr h173)

/-- A domain that is ON begins to drain. -/
theorem domTarget_drains (h173 : d ≠ 173) (h : s.domState d = 0) (ht : tgt ≠ 0) (hc : s.domCond d tgt = true) :
    s.domTarget o d tgt = (true, ({ s.putF (domAt d) 1 0 tgt with
      domOrg := SMap.set 0 s.domOrg d (o.toNat + 1) } : State).domPut d 3 o) := by
  simp only [State.domTarget, h, h173, ht, hc, or_self, if_false, Bool.not_true, Bool.false_eq_true, OfNat.zero_ne_ofNat, zero_ne_one]
  rfl

/-- A domain without power wakes. -/
theorem domTarget_wakes (h173 : d ≠ 173) (h : s.domState d = 1 ∨ s.domState d = 2) :
    s.domTarget o d 0 = (true, (s.putF (domAt d) 1 0 0).domWakeStart d o) := by
  obtain h | h := h <;> simp [State.domTarget, h, h173]

end

@[simp] theorem State.wrOf_origin (s : State) (b : PKind) (p o : Nat) (w : RegW) (new : Word) :
    (s.wrOf b p o w new).origin = w.origin := rfl

section
variable {s : State} {n : Nat} {w : RegW} {new : Word}

/-- The other fields of a domain's register, once its TARGET is applied. -/
def State.domFields (t : State) (n : Nat) (new : Word) : State :=
  ((t.putF (domAt n) 5 5 (fld new 5 5)).putF (domAt n) 25 16 (fld new 25 16)).vHold n

/-- A write of a domain's register that addresses TARGET, which the domain takes. -/
theorem domRow_acted {C : State → Prop} {f : State → State} (h : s.Takes .pwr 0 (R.pwrDom + 8 * n) w new) (hn : n < 176)
    (hsize : w.size ≠ .hi32) (hmask : bit (sizeMask w.size) 0 = true)
    (hrun : ∀ t : State, C t → t.domTarget w.origin n (fld new 1 0) = (true, f t)) (hs : C s)
    (hl : C (s.logged .pwr 0 (R.pwrDom + 8 * n) w new)) :
    exec (.domainTargetWrite n w) s = ((f (s.logged .pwr 0 (R.pwrDom + 8 * n) w new)).domFields n new).acted w := by
  have hhas : bit (wrMask .pwr 0 (R.pwrDom + 8 * n) w) 0 = true := by
    rw [wrMask, hookOf_dom hn]
    simp only [hookDom]
    split
    · simpa [bit] using hmask
    · simpa [bit, fmask] using hmask
  have hhook (t : State) (ht : C t) :
      (hookDom n).run (s.wrOf .pwr 0 (R.pwrDom + 8 * n) w new) t = (true, (f t).domFields n new) := by
    have hoff : (s.wrOf .pwr 0 (R.pwrDom + 8 * n) w new).off = domAt n := (Nat.add_assoc ..).symm
    simp only [hookDom, State.wrOf_has, hhas, if_true, State.wrOf_origin, State.wrOf_new, hrun t ht, hoff, State.domFields]
  exact reg_op' C (fun t => (f t).domFields n new) (hookOf_dom hn) (by simp [hn, hsize]) h hhook hs hl

end

end Sys2Proof.Machine
end
section
/-! PROOF. Registers of the pack, the brace and the host: what a write that takes effect does there (R484, R495, R498, R501, R502,
R509 to R511, R547). -/

namespace Sys2Proof.Machine

section
variable {s : State} {n : Nat}

/-! ## The pack (R509, R510) -/

/-- The lead begins a broadcast. -/
def State.bcastBegun (s : State) : State :=
  (({ s.putF (kpk + R.packBcastCtl) 3 1 1 with
    pack := { s.pack with bcOn := true, bcKids := s.children, bcUp := none, bcErr := false, bcId := s.pack.bcId + 1 } } : State).toKids
      (.cfg (BitVec.ofNat 24 (s.f (kpk + R.packBcastAddr) 23 0)) s.pack.bcId (s.reg (kpk + R.packBcastData)))).react
      (.cfg (s.f (kpk + R.packBcastAddr) 23 0) (s.reg (kpk + R.packBcastData)))

theorem bcastGo_begins (h : s.isLead = true ∧ s.b (kpk + R.packBcastCtl) 1 = false) : s.bcastGo = (true, s.bcastBegun) := by
  obtain ⟨hl, hb⟩ := h
  exact if_neg (by simp [hl, hb])

/-- The device arrives at an enabled barrier. -/
theorem barArrive_arrives (h : s.b (barAt n) 6 = true ∧ s.b (barAt n) 8 = false) :
    s.barArrive n = (true, (s.putB (barAt n) 8 true).barTry n) := by
  obtain ⟨h6, h8⟩ := h
  simp only [State.barArrive, h6, h8, Bool.not_true, Bool.false_eq_true, if_false]

theorem hookOf_bar (hn : n < 16) : hookOf .pack 0 (R.packBar + 8 * n) = hookPackBar n := by
  have h1 : ¬ (R.packBar + 8 * n < 256) := by simp only [R.packBar]; omega
  have h2 : R.packBar ≤ R.packBar + 8 * n ∧ R.packBar + 8 * n < R.packBar + 0x80 := by simp only [R.packBar]; omega
  have h3 : ∀ o, o < R.packBar → R.packBar + 8 * n ≠ o := by intro o ho; omega
  have h4 : ¬ (R.packMsgW ≤ R.packBar + 8 * n ∧ R.packBar + 8 * n < R.packMsgW + 0x20) := by
    simp only [R.packBar, R.packMsgW]; omega
  have h5 : (R.packBar + 8 * n - R.packBar) / 8 = n := by omega
  simp only [hookOf, hookPack, h1, h2, h4, h5, decide_false, Bool.false_and, Bool.false_eq_true, if_false, or_false,
    h3 R.packCtl (by decide), h3 R.packRtData (by decide), h3 R.packBcastData (by decide), h3 R.packBcastCtl (by decide),
    h3 R.packMsgCtl (by decide), and_self, if_true]

/-! ## Commands and seals of the brace (R495, R498, R501, R502) -/

section
variable {x : Wr} (hh : x.has 0 = true)
include hh

theorem hookBrcCmd_takeover (hop : x.d 2 0 = 1) : hookBrcCmd.run x s = s.brcTakeover := by simp [hookBrcCmd, hh, hop]

theorem hookBrcCmd_swap (hop : x.d 2 0 = 2) : hookBrcCmd.run x s = s.brcSwap := by simp [hookBrcCmd, hh, hop]

theorem hookBrcCmd_detach (hop : x.d 2 0 = 3) : hookBrcCmd.run x s = s.brcDetach := by simp [hookBrcCmd, hh, hop]

/-- The ACTIVE's twin is SYNCING, and no stream, no subchannel and no context is in use (R501). -/
def State.Calm (s : State) : Prop :=
  s.brcRole = 1 ∧ s.brace.twinRole = 4 ∧ (∀ h ∈ List.range 24, s.strmLive h = false) ∧ (∀ k ∈ List.range 64, s.subSt k = 0) ∧
    s.ctxFree + (s.ctxs.filter (fun e => e.2.teardown.isSome)).length = 65535

theorem hookBrcCmd_resync (hop : x.d 2 0 = 4) (h : s.Calm) : hookBrcCmd.run x s = (true, s.react .resync) := by
  obtain ⟨hr, ht, hstrm, hsub, hctx⟩ := h
  have hstrm' : (List.range 24).all (fun h => !s.strmLive h) = true :=
    List.all_eq_true.mpr fun h hh => by rw [hstrm h hh, Bool.not_false]
  have hsub' : (List.range 64).all (fun n => s.subSt n == 0) = true :=
    List.all_eq_true.mpr fun k hk => beq_iff_eq.mpr (hsub k hk)
  simp only [hookBrcCmd, hh, hop, Bool.not_true, Bool.false_eq_true, if_false]
  exact if_pos ⟨hr, ht, hstrm', hsub', beq_iff_eq.mpr hctx⟩

end

/-- A STANDBY that leaves the brace tells its twin with its last HB (R501). -/
def State.leaves (s : State) : State := s.unbrace.bothLinks s.unbrace.hbOut

theorem brcDetach_standby (h : s.brcRole = 2) : s.brcDetach = (true, s.leaves) := by
  simp only [State.brcDetach, h]
  rfl

theorem brcDetach_active (h : s.brcRole = 1) :
    s.brcDetach = (true, (s.toTwin (.replay (s.ledgerSlot ((s.ledger.next - 1).toNat % 4096)))).solo) := by
  simp only [State.brcDetach, h]

/-- The seal of a context and a colour is appended to the device's own, with what the writes accumulated for it (R495). -/
def State.sealed (s : State) (c k seq : Nat) : State :=
  let acc := match s.brace.accs.find? (fun x => x.ctx == c && x.colour == k) with | some x => (x.a, x.n) | none => (0, 0)
  { s with brace := { s.brace with
      own := s.brace.own ++ [{ seq := BitVec.ofNat 32 seq, a := acc.1, n := acc.2, value := s.reg (bp + R.brcSealVal),
                               ovf := s.brace.ovf.contains (c, k) }]
      accs := s.brace.accs.filter (fun x => !(x.ctx == c && x.colour == k))
      ovf := s.brace.ovf.filter (fun x => x != (c, k)) } }

theorem seal_appends {v : Word} (hgo : bit v 63 = true) (h : s.brace.own.length < 1024) :
    s.seal v = (true, s.sealed (fld v 15 0) (fld v 23 16) (fld v 55 24)) := by
  have hgo' : ¬ ((!bit v 63) = true) := by simp [hgo]
  exact (if_neg hgo').trans (if_neg (Nat.not_le.mpr h))

section
variable {w : RegW} {new : Word}

/-- A write of BRC_CMD is the command of its OP, which the state before the ledger's record takes too. -/
theorem brcRow_acted {op : Nat} {C : State → Prop} {F : State → State} (h : s.Takes .brc 0 R.brcCmd w new)
    (hm : bit (sizeMask w.size) 0 = true) (hop : wFld w 2 0 = op)
    (hrun : ∀ t : State, (s.wrOf .brc 0 R.brcCmd w new).has 0 = true → C t →
      hookBrcCmd.run (s.wrOf .brc 0 R.brcCmd w new) t = (true, F t))
    (hs : C s) (hl : C (s.logged .brc 0 R.brcCmd w new)) :
    brcRow op w s = (F (s.logged .brc 0 R.brcCmd w new)).acted w := by
  have hhas : (s.wrOf .brc 0 R.brcCmd w new).has 0 = true := by rw [State.wrOf_has, wrMask_all rfl, hm]
  exact reg_op' C F (K := hookBrcCmd) rfl (beq_iff_eq.mpr hop) h (fun t ht => hrun t hhas ht) hs hl

end

/-! ## The mailbox (R547) -/

section
variable {x : Wr} {d : Nat} (hd : x.d 5 0 = d)
include hd

theorem mbx_bit {i : Nat} (hi : i < 6) : bit x.data i = d.testBit i := by
  rw [← hd, Wr.d, testBit_fld, bit]
  simp [hi]

variable {s : State}

theorem hookMbx_h2dPost (h2 : d = 2) (ho : orgClass x.origin = 0) (hf : (x.set s).b (hop + R.hostMbx) 0 = false) :
    hookMbx.run x s = (true, ((x.set s).putB (hop + R.hostMbx) 0 true).pageInt hop 0) := by
  subst h2
  have b1 : bit x.data 1 = true := mbx_bit hd (by decide)
  have b2 : bit x.data 2 = false := mbx_bit hd (by decide)
  have b4 : bit x.data 4 = false := mbx_bit hd (by decide)
  have b5 : bit x.data 5 = false := mbx_bit hd (by decide)
  simp [hookMbx, b1, b2, b4, b5, ho, hf]

theorem hookMbx_h2dDone (h4 : d = 4) (ho : orgClass x.origin ≠ 0) :
    hookMbx.run x s = (true, (x.set s).putB (hop + R.hostMbx) 0 false) := by
  subst h4
  have b1 : bit x.data 1 = false := mbx_bit hd (by decide)
  have b2 : bit x.data 2 = true := mbx_bit hd (by decide)
  have b4 : bit x.data 4 = false := mbx_bit hd (by decide)
  have b5 : bit x.data 5 = false := mbx_bit hd (by decide)
  simp [hookMbx, b1, b2, b4, b5, ho]

theorem hookMbx_d2hPost (h16 : d = 16) (ho : orgClass x.origin ≠ 0) (hf : (x.set s).b (hop + R.hostMbx) 3 = false) :
    hookMbx.run x s =
      (true, ((x.set s).putB (hop + R.hostMbx) 3 true).bark (1216 + (x.set s).f (hop + R.hostMbx) 13 8)) := by
  subst h16
  have b1 : bit x.data 1 = false := mbx_bit hd (by decide)
  have b2 : bit x.data 2 = false := mbx_bit hd (by decide)
  have b4 : bit x.data 4 = true := mbx_bit hd (by decide)
  have b5 : bit x.data 5 = false := mbx_bit hd (by decide)
  simp [hookMbx, b1, b2, b4, b5, ho, hf]

theorem hookMbx_d2hDone (h32 : d = 32) (ho : orgClass x.origin = 0) :
    hookMbx.run x s = (true, ((x.set s).putB (hop + R.hostMbx) 3 false).pageInt hop 1) := by
  subst h32
  have b1 : bit x.data 1 = false := mbx_bit hd (by decide)
  have b2 : bit x.data 2 = false := mbx_bit hd (by decide)
  have b4 : bit x.data 4 = false := mbx_bit hd (by decide)
  have b5 : bit x.data 5 = true := mbx_bit hd (by decide)
  simp [hookMbx, b1, b2, b4, b5, ho]

end

end

end Sys2Proof.Machine
end

section
/-! PROOF. The obligations of the registers of page headers, the ledger, the mesh, power, the pack, the brace and the host. -/

open Sys2Proof Sys2Proof.Machine

/-- Settles O32: each row is the write of one register, which its hook makes an acknowledgement, a raise or an injection of its page,
or a configuration of the ledger's ring. -/
theorem faultRegistersComplete : Obligations.FaultRegistersComplete := by
  unfold Obligations.FaultRegistersComplete
  intro s b p w new hb hp page
  refine ⟨?ack, fun h => ?enable, fun h hn hlt => ?raise, fun h hc hf => ?arm, fun h hf => ?force, ?ring, ?cons⟩
  case ack =>
    intro o l left h hm hs hl
    have hrow {u : State} (hu : (l.errAck page (wFld w 4 0)).2 = u) : exec (.faultAck page w) s = u.acted w := by
      have hhas : bit (wrMask b p R.pgErrStat w) 0 = true := by
        rw [wrMask_all (by rw [hookOf_hdr hb (by decide)]; rfl), hm]
      refine (hdrRow_page hb hp true R.pgErrStat w s).trans (opRow_acted (K := hookErrStat) (hookOf_hdr hb (by decide)) rfl h ?_ ?_)
      · simp only [hookErrStat, State.wrOf_has, hhas, if_true]
        exact errAck_takes hs
      · simp only [hookErrStat, State.wrOf_has, hhas, if_true]
        exact hu
    exact ⟨fun hleft => hrow (errAck_leaves hl hleft), fun hleft h0 => hrow (errAck_stops hl hleft h0),
      fun hleft h0 => hrow (errAck_returns hl hleft h0)⟩
  case enable =>
    exact (hdrRow_page hb hp true R.pgErrEn w s).trans (opRow_acted (K := hookErrEn) (hookOf_hdr hb (by decide)) rfl h rfl rfl)
  case raise =>
    exact (hdrRow_page hb hp _ R.pgErrLevel w s).trans (opRow_acted (K := hookErrLevel) (hookOf_hdr hb (by decide))
      (bne_iff_ne.mpr hn) h rfl (if_pos hlt))
  case arm =>
    exact (hdrRow_page hb hp _ R.pgErrInj w s).trans (opRow_acted (K := hookErrInj) (hookOf_hdr hb (by decide))
      (bne_iff_ne.mpr hc) h rfl ((congrArg (State.errForce _ _) hf).trans errForce_zero))
  case force =>
    exact (hdrRow_page hb hp _ R.pgErrInj w s).trans (opRow_acted (K := hookErrInj) (hookOf_hdr hb (by decide))
      (bne_iff_ne.mpr hf) h rfl rfl)
  case ring =>
    intro o l h hsize hw hen hs hl ha
    have hrun (t : State) (ht : t.b o 5 = false) := by
      have hset := ledgRingSet_enables (s := t) ht (decide_eq_true ha) hen
      have hwr : hookLedgRing.run (s.wrOf .ledg 0 R.ledgRing w new) t = t.ledgRingSet new true false := by
        simp [hookLedgRing, State.wrOf, hsize, bit_placed, hw]
      exact hwr.trans hset
    exact wrRow_acted (K := hookLedgRing) rfl h (congrArg Prod.fst (hrun s hs)) (congrArg Prod.snd (hrun l hl))
  case cons =>
    intro o l c ok h hs hl
    have hrun (t : State) (ht : ok t) : t.ledgConsSet c = (true, t.putF o 31 0 c) := if_pos ht
    exact wrRow_acted (K := hookLedgCons) rfl h (congrArg Prod.fst (hrun s hs)) (congrArg Prod.snd (hrun l hl))

/-- Settles O31: each row is the write of one register, whose hook acts as the same function of the state before and after the
ledger's record; a domain takes a TARGET by its STATE. -/
theorem meshAndPowerRegistersComplete : Obligations.MeshAndPowerRegistersComplete := by
  unfold Obligations.MeshAndPowerRegistersComplete
  intro s n w new
  refine ⟨fun h hw hnew hold => ?isolate, fun h hs hl => ?route, fun h => ?ports, fun h hw hold => ?fence, fun h hn hw => ?retire,
    fun h hn hsize hmask => ⟨fun h173 hs hl => ?link, fun h173 hs hl ht hcs hcl => ?drain, fun h173 hs hl ht => ?wake⟩, fun h => ?gauge⟩
  case isolate =>
    exact opRow_acted (K := hookNiCtl n) rfl hw h rfl (by simp [hookNiCtl, hnew, bit_reg, hold])
  case route =>
    exact reg_wr' (K := hookRtData n) (fun t => t.rtBank n ≠ b2n (t.niGen n) ∧
        (bit (placed w) 48 = false ∨ routeValid n (t.rtIdx n) (fld (placed w) 47 0) = true))
      (fun t => t.rtWritten n (placed w)) rfl h
      (fun t ht => rtWrite_writes ht.1 ht.2) hs hl
  case ports => exact wrRow_acted (K := hookRtrCtl n) rfl h rfl rfl
  case fence =>
    have hrun (t : State) : hookNocFence.run (s.wrOf .noc 0 R.nocFence w new) t =
        (true, ((s.wrOf .noc 0 R.nocFence w new).set t).fenceGo) :=
      (if_pos hw).trans (if_neg (Bool.eq_false_iff.mp hold))
    refine (opRow_acted (K := hookNocFence) rfl hw h (by rw [hrun]) (congrArg Prod.snd (hrun _))).trans ?_
    simp only [State.fenceGo]
    rfl
  case retire =>
    exact opRow_acted (hookOf_retAdd hn) (by simp [hw, hn]) h rfl (if_pos hw)
  case link =>
    exact domRow_acted (C := fun t => t.domState n < 3) (f := fun t => t.putF (domAt n) 1 0 (fld new 1 0)) h hn hsize hmask
      (fun t ht => domTarget_link h173 ht) hs hl
  case drain =>
    exact domRow_acted (C := fun t => t.domState n = 0 ∧ t.domCond n (fld new 1 0) = true)
      (f := fun t => ({ t.putF (domAt n) 1 0 (fld new 1 0) with
      domOrg := SMap.set 0 t.domOrg n (w.origin.toNat + 1) } : State).domPut n 3 w.origin) h hn hsize hmask
      (fun t hc => domTarget_drains h173 hc.1 ht hc.2) ⟨hs, hcs⟩ ⟨hl, hcl⟩
  case wake =>
    exact domRow_acted (C := fun t => t.domState n = 1 ∨ t.domState n = 2)
      (f := fun t => (t.putF (domAt n) 1 0 0).domWakeStart n w.origin) h hn hsize hmask
      (fun t hc => (congrArg (t.domTarget w.origin n) ht).trans (domTarget_wakes h173 hc)) hs hl
  case gauge => exact wrRow_acted (hookOf_gauge n) h rfl rfl

/-- Settles O33: each row is the write of one register, whose hook acts as the same function of the state before and after the
ledger's record. That DETACH clears EN and ROLE and tells the twin by the last HB, or by the REPLAY of its own record, is the model's
choice (log entries 41 and 62). -/
theorem packBraceHostRegistersComplete : Obligations.PackBraceHostRegistersComplete := by
  unfold Obligations.PackBraceHostRegistersComplete
  intro s n w new
  refine ⟨?bcast, ?arrive, fun h hw hold => ?msg, fun h hsize hold hnew => ?enable, ?cmd, ?append, ?mbx⟩
  case bcast =>
    intro l off data id ok begun h hw hs hl
    exact reg_op' (K := hookBcast) (fun t => t.isLead = true ∧ t.b (kpk + R.packBcastCtl) 1 = false) State.bcastBegun rfl hw h
      (fun t ht => (if_pos hw).trans (bcastGo_begins ht)) hs hl
  case arrive =>
    intro o at_ ok h hn hw hold hs hl
    have hrun (t : State) (ht : ok t) :
        (hookPackBar n).run (s.wrOf .pack 0 o w new) t = (true, ((at_ t).putB (barAt n) 8 true).barTry n) := by
      have hno : ¬ (bit (s.wrOf .pack 0 o w new).data 7 && bit (s.wrOf .pack 0 o w new).old 8) = true := by
        have hoff : pageAt .pack 0 + o = barAt n := (Nat.add_assoc ..).symm
        simp [hoff, hold]
      exact (if_neg hno).trans ((if_pos hw).trans (barArrive_arrives ht))
    exact reg_op' ok (fun t => ((at_ t).putB (barAt n) 8 true).barTry n) (hookOf_bar hn) (by simp [hn, hw]) h hrun hs hl
  case msg =>
    have hrun (t : State) : hookPackMsg.run (s.wrOf .pack 0 R.packMsgCtl w new) t =
        (true, ((s.wrOf .pack 0 R.packMsgCtl w new).set t).msgGo) := by
      have hno : ¬ (bit (s.wrOf .pack 0 R.packMsgCtl w new).old 17 && bit (s.wrOf .pack 0 R.packMsgCtl w new).data 16) = true := by
        rw [kpk] at hold
        simp [hold]
      exact (if_neg hno).trans (congrArg (Prod.mk true) (if_pos hw))
    exact opRow_acted (K := hookPackMsg) rfl hw h (congrArg Prod.fst (hrun s)) (congrArg Prod.snd (hrun _))
  case enable =>
    have hrun (t : State) : hookBrcCtl.run (s.wrOf .brc 0 R.brcCtl w new) t = (true, ((s.wrOf .brc 0 R.brcCtl w new).set t).brcEn) := by
      have hne : (bit (s.wrOf .brc 0 R.brcCtl w new).old 0 != bit (s.wrOf .brc 0 R.brcCtl w new).new 0) = true := by
        rw [bp] at hold
        simp [hnew, hold]
      exact congrArg (Prod.mk true) (if_pos hne)
    exact opRow_acted (K := hookBrcCtl) rfl (bne_iff_ne.mpr hsize) h (congrArg Prod.fst (hrun s)) (congrArg Prod.snd (hrun _))
  case cmd =>
    intro l h hm
    refine ⟨fun hop hs hl => ?takeover, fun hop hs hl => ?swap, fun hop hs hl => ?standby, fun hop hs hl => ?active, ?resync⟩
    case takeover =>
      exact brcRow_acted (C := fun t => t.brcRole = 2) (F := State.takeover) h hm hop
        (fun t hh ht => (hookBrcCmd_takeover hh hop).trans (if_pos ht)) hs hl
    case swap =>
      exact brcRow_acted (C := fun t => t.braced = true)
        (F := fun t => ({ t with brace := { t.brace with swapping := true } } : State).swapNow) h hm hop
        (fun t hh ht => (hookBrcCmd_swap hh hop).trans (if_pos ht)) hs hl
    case standby =>
      exact brcRow_acted (C := fun t => t.brcRole = 2) (F := State.leaves) h hm hop
        (fun t hh ht => (hookBrcCmd_detach hh hop).trans (brcDetach_standby ht)) hs hl
    case active =>
      exact brcRow_acted (C := fun t => t.brcRole = 1)
        (F := fun t => (t.toTwin (.replay (t.ledgerSlot ((t.ledger.next - 1).toNat % 4096)))).solo) h hm hop
        (fun t hh ht => (hookBrcCmd_detach hh hop).trans (brcDetach_active ht)) hs hl
    case resync =>
      intro calm hop hs hl
      exact brcRow_acted (C := State.Calm) (F := fun t => t.react .resync) h hm hop
        (fun t hh ht => hookBrcCmd_resync hh hop ht) hs hl
  case append =>
    intro l c k acc o h hw hs hl
    exact reg_op' (K := hookBrcSeal) (fun t => t.brace.own.length < 1024) (fun t => t.sealed c k (wFld w 55 24)) rfl hw h
      (fun t ht => seal_appends hw ht) hs hl
  case mbx =>
    intro t at_ o l h
    have hbit {d i : Nat} (hd : wFld w 5 0 = d) (hi : i < 6) : wBit w i = d.testBit i :=
      mbx_bit (x := s.wrOf .host 0 R.hostMbx w new) hd hi
    refine ⟨fun hd ho hs hl => ?h2dPost, fun hd ho => ?h2dDone, fun hd ho hs hl => ?d2hPost, fun hd ho => ?d2hDone⟩
    case h2dPost =>
      exact reg_op' (K := hookMbx) (fun u => (at_ u).b o 0 = false) (fun u => ((at_ u).putB o 0 true).pageInt hop 0) rfl
        (hbit hd (by decide)) h (fun u hu => hookMbx_h2dPost (x := s.wrOf .host 0 R.hostMbx w new) hd rfl ho hu) hs hl
    case h2dDone =>
      exact reg_op' (K := hookMbx) (fun _ => True) (fun u => (at_ u).putB o 0 false) rfl (hbit hd (by decide)) h
        (fun u _ => hookMbx_h2dDone (x := s.wrOf .host 0 R.hostMbx w new) hd rfl ho) trivial trivial
    case d2hPost =>
      exact reg_op' (K := hookMbx) (fun u => (at_ u).b o 3 = false)
        (fun u => ((at_ u).putB o 3 true).bark (1216 + (at_ u).f o 13 8)) rfl (hbit hd (by decide)) h
        (fun u hu => hookMbx_d2hPost (x := s.wrOf .host 0 R.hostMbx w new) hd rfl ho hu) hs hl
    case d2hDone =>
      exact reg_op' (K := hookMbx) (fun _ => True) (fun u => ((at_ u).putB o 3 false).pageInt hop 1) rfl (hbit hd (by decide)) h
        (fun u _ => hookMbx_d2hDone (x := s.wrOf .host 0 R.hostMbx w new) hd rfl ho) trivial trivial

end

section
/-! PROOF. Accesses of semaphores (R399 to R410): what a request at a window reaches, what each operation answers there, and the ends
of a lease and of a reset notice. -/

namespace Sys2Proof.Machine

theorem act_gives {s u : State} {k : State → State} (h : s.porst = false) (hk : k s = u) : act s k = .next u.settle := by
  rw [act_live h, hk]

/-! ## The operations of the windows on a word (R405, R406) -/

section
variable {s : State} {u a prio : Nat} {o : Origin} {who : SemBy}

/-- The state in which a TAKE has begun to wait, with the request that came over the mesh. -/
def State.semWaits (s : State) (u a prio : Nat) (o : Origin) (who : SemBy) (q : Option InReq) : State :=
  { s with waiters := s.waiters ++ [{ unit := u, addr := a, who := who, origin := o, prio := prio, boost := s.boostOf u a prio,
                                      req := q, gen := match q with | some q => q.gen | none => s.niGen who.node }] }

theorem semTake_grants (h : s.semFree u a = true) :
    s.semTake u a o prio who =
      (.value (semValue (s.rd64 a) (semCount (s.rd64 a) - 1) true false), (s.semTakeNow u a o).2) := if_pos h

theorem semTake_waits (h : s.semFree u a = false) (hw : (s.waitersOf u).length < waitCap u) :
    s.semTake u a o prio who = (.waits, s.semWaits u a prio o who none) :=
  (if_neg (Bool.eq_false_iff.mp h)).trans (if_pos hw)

/-- The TAKE that waits keeps the request that came over the mesh. -/
theorem semWaits_keepReq (q : Option InReq) : (s.semWaits u a prio o who none).keepReq q = s.semWaits u a prio o who q := by
  cases q <;> simp only [State.keepReq, State.semWaits, List.dropLast_concat, List.getLast?_concat, Option.toList_some,
    List.map_cons, List.map_nil]

theorem semTry_grants (h : s.semFree u a = true) :
    s.semTry u a o = (.value (semValue (s.rd64 a) (semCount (s.rd64 a) - 1) true false), (s.semTakeNow u a o).2) := if_pos h

theorem semTry_refuses (h : semCount (s.rd64 a) = 0) :
    s.semTry u a o = (.value (semValue (s.rd64 a) 0 false false), s) := by
  simp [State.semTry, State.semFree, h]

theorem semGive_held {h : Hold} {l : List Hold}
    (hold : takeFirst (fun h => h.liveOn u a && h.origin == o && !h.old) s.holds = some (h, l)) :
    s.semGive u a o = (({ s with holds := l } : State).semRaise a false).semGrant u := by
  simp only [State.semGive, hold]

/-- GIVE of a word that is no mutex and that nobody holds. -/
theorem semGive_free (hh : s.holds = []) (hm : semMutex (s.rd64 a) = false) (hc : semCount (s.rd64 a) ≠ 2 ^ 32 - 1) :
    s.semGive u a o = (s.semRaise a false).semGrant u := by
  simp only [State.semGive, hh, takeFirst, hm, Bool.false_or]
  exact if_neg (mt beq_iff_eq.mp hc)

end

/-! ## Requests at a window (R399, R400, R449, R450) -/

section
variable {t : State} {r : SemReq} {u k : Nat} {q : Option InReq} {s0 : State}

/-- The unit's answer to a window access over the mesh. -/
def SemRes.reply (node : Nat) (q : Option InReq) (r : SemReq) : SemRes × State → State
  | (.value v, s) => s.answer node q r.node r.txid .ok (leBytes 8 v.toNat)
  | (.given, s) => s.answer node q r.node r.txid .ok []
  | (.error st, s) => s.answer node q r.node r.txid st []
  | (.waits, s) => s.keepReq q

variable (hk : region r.addr.toNat = .sem k) (hu : unitOf (semInner r.addr.toNat) = some u) (hq : t.takeReq r.node r.txid = (q, s0))
  (hi : t.isolated (unitNode u) = false)
include hk hu hq hi

/-- A request that meets an awake unit, or that came over the mesh, is an access of its window. -/
theorem semReq_reaches (hs : q ≠ none ∨ t.asleep (semInner r.addr.toNat) = none) :
    t.semReq k r = SemRes.reply (unitNode u) q r
      (s0.semAccess r.addr.toNat r.bytes r.write r.origin r.prio (.mesh r.node r.txid)) := by
  have hnode : semUnit r.addr.toNat = u := by rw [semUnit, hu, Option.getD_some]
  simp only [State.semReq, hk, hq, hnode, hi, if_true, Bool.false_eq_true, if_false]
  split
  case h_1 _ _ v hv => exact absurd hs (by simp [hv])
  case h_2 =>
    obtain ⟨res, s1⟩ := s0.semAccess r.addr.toNat r.bytes r.write r.origin r.prio (.mesh r.node r.txid)
    cases res <;> rfl

/-- One that has not come over the mesh is held where the unit has no power (R450). -/
theorem semReq_holds {v : Nat} (hn : q = none) (hv : t.asleep (semInner r.addr.toNat) = some v) :
    t.semReq k r = t.holdFor v r.node 1 8 (.req ⟨r.node, r.txid, r.origin, r.addr, 255, 0, ⟨[], false⟩⟩ 8) := by
  have hnode : semUnit r.addr.toNat = u := by rw [semUnit, hu, Option.getD_some]
  subst hn
  simp only [State.semReq, hk, hq, hnode, hi, hv, if_true, Bool.false_eq_true, if_false]

end

/-- A window access of 8 aligned bytes in the direction of its window is the window's operation on the word. -/
theorem semAccess_acts {s : State} {addr k u prio : Nat} {write : Bool} {o : Origin} {who : SemBy} (hk : region addr = .sem k)
    (hu : unitOf (semInner addr) = some u) (ha : semInner addr % 8 = 0) (hw : write = (k == 1))
    (hst : s.engineStatus (semInner addr) 8 false = .ok) :
    s.semAccess addr 8 write o prio who =
      ((s.visit (semInner addr) .ok 8).checkMem (semInner addr) 8 false).semOp k u (semInner addr) o prio who := by
  simp only [State.semAccess, hk, hu, hst]
  exact if_neg (by simp [ha, hw])

/-! ## Plain stores, leases and reset notices (R403, R409, R410) -/

theorem semStore_writes {t : State} {p : MemReq} {u : Nat} {q : Option InReq} {s0 : State} (hq : t.takeReq p.node p.txid = (q, s0))
    (hu : unitOf p.addr.toNat = some u) (hst : t.engineStatus p.addr.toNat (if p.be = 0xFF then 8 else 1) true = .ok)
    (hs : q ≠ none ∨ t.asleep p.addr.toNat = none) :
    t.semStore p = (((((s0.visit p.addr.toNat .ok 8).checkMem p.addr.toNat (if p.be = 0xFF then 8 else 1) true).wrBytes p.addr.toNat
      ((List.range 8).map (fun i => if p.be.getLsbD i then BitVec.ofNat 8 (fld p.data (8 * i + 7) (8 * i)) else
        t.byte (p.addr.toNat + i)))).semGrant u).respond (unitNode u) q p .ok []) := by
  simp only [State.semStore, hq, hu, hst]
  split
  case h_1 v hv => exact absurd hs (by simp [(Prod.mk.injEq ..).mp hv])
  case h_2 => rfl

theorem leashExpire_one {t : State} {u : Nat} {h : Hold}
    (hd : (t.holdsOf u).filter (fun h => !h.expired && decide (h.till.toNat ≤ t.now.toNat)) = [h]) :
    t.leashExpire u = (((({ t with holds := replFirst (fun x => x == h) (fun x => { x with expired := true }) t.holds } :
      State).semRaise h.addr true).semGrant u).inc (pageAt .hbmc u + R.hbmcSemEvt) 15 0).fault (pageAt .hbmc u) .timeout := by
  simp only [State.leashExpire, hd, List.foldl_nil]

end Sys2Proof.Machine
end

section
/-! PROOF. DMA channels (R413 to R417): how a descriptor is read, begins, does its work and completes. -/

namespace Sys2Proof.Machine

/-- A step of an engine that asks for no wake and sends nothing to host memory goes on. -/
theorem engOn_still {s u : State} {ok : Bool} {k : State → State} (h : s.porst = false) (hok : ok = true) (hk : k s = u)
    (hr : u.reactions = s.reactions) (hh : u.host = s.host) : engOn ok s k = .next u.settle := by
  subst hk
  exact engOn_goes h hok (by simp [State.slept, hr]) (by simp [State.l1Waits, hh])

section
variable {s : State} {ch : Nat}

/-- A channel that holds no descriptor reads the next one, whose OWN is 1, and begins it where it may. -/
theorem dmaBegin_reads {a : Nat} {bs : List Byte} {t : State} (hh : (s.dmaCh ch).held = none) (hn : s.dmaNext ch = some a)
    (hm : s.memRead a 32 = (.ok, bs, t)) (hown : bit (t.rd64 a) 2 = true) :
    s.dmaBegin ch = ((t.putF (dp ch + R.dmaCons) 31 0 ((s.f (dp ch + R.dmaCons) 31 0 + 1) % 2 ^ 32)).updDma ch (fun x => { x with
      held := some { idx := s.f (dp ch + R.dmaCons) 31 0, w0 := t.rd64 a, src := fld (t.rd64 (a + 8)) 47 0,
                     dst := fld (t.rd64 (a + 16)) 47 0, cst := t.rd64 (a + 24), fin := none } })).dmaGo ch := by
  simp only [State.dmaBegin, hh, Option.isNone_none, if_true, State.dmaRead, hn, hm, hown, Bool.not_true, Bool.false_eq_true, if_false]

variable {d : DmaDesc}

/-- One that holds a descriptor waits with it or begins it. -/
theorem dmaBegin_held (hh : (s.dmaCh ch).held = some d) : s.dmaBegin ch = s.dmaGo ch := by
  simp only [State.dmaBegin, hh, Option.isNone_some, Bool.false_eq_true, if_false]

theorem dmaGo_waits (hh : (s.dmaCh ch).held = some d)
    (hw : (bit d.w0 3 && !(s.dmaCh ch).begun.isEmpty) = true ∨ (s.dmaCh ch).waitsFor d.w0 = true) : s.dmaGo ch = s := by
  simp only [State.dmaGo, hh]
  exact if_pos (Bool.or_eq_true_iff.mpr hw)

theorem dmaGo_begins (hh : (s.dmaCh ch).held = some d) (hf : (bit d.w0 3 && !(s.dmaCh ch).begun.isEmpty) = false)
    (hw : (s.dmaCh ch).waitsFor d.w0 = false) :
    s.dmaGo ch = s.updDma ch (fun x => { x with
      held := none, begun := x.begun ++ [d],
      latches := if bit d.w0 11 then setBit x.latches (fld d.w0 17 12) false else x.latches }) := by
  simp only [State.dmaGo, hh, hf, hw, Bool.or_self, Bool.false_eq_true, if_false]

/-! ## The work of a descriptor (R414) -/

/-- A begun descriptor has ended. -/
def State.dmaFin (s : State) (ch : Nat) (d : DmaDesc) (fin : Nat × Option Nat) : State :=
  s.updDma ch (fun x => { x with begun := replFirst (fun e => e == d) (fun e => { e with fin := some fin }) x.begun })

/-- A command of a channel does the work of its oldest unfinished descriptor, whose OP it names. -/
theorem dmaRow_works {op : Nat} {m : Option Nat} {t : State} (h : s.porst = false) (ha : s.memAwake = true) (hch : ch < 32)
    (hd : (s.dmaCh ch).begun.find? (fun d => d.fin.isNone) = some d) (hop : fld d.w0 1 0 = op) (h3 : op ≠ 3)
    (hrun : s.dmaRun d = ((0, m), t)) : dmaRow op ch s = .next (t.dmaFin ch d (0, m)).settle := by
  have hleg : s.dmaOp3 ch = false := by simp [State.dmaOp3, hd, hop, h3]
  have hgo : s.dmaOp ch op = t.dmaFin ch d (0, m) := by
    simp only [State.dmaOp, hd, hop, hrun]
    exact if_neg (by simp)
  rw [dmaRow, hleg, Bool.and_false, if_neg Bool.false_ne_true, engOn_gives h ha (decide_eq_true hch) hgo]

section
variable (hl : d.len ≠ 0)
include hl

theorem dmaRun_copies {t : State} (hop : fld d.w0 1 0 = 0) (hs : dmaRegion d.src d.len = true) (hd : dmaRegion d.dst d.len = true)
    (ho : overlap d.src d.dst d.len = false) (hm : s.dmaMove d.src d.dst d.len (d.len / 64 + 2) = (.ok, t)) :
    s.dmaRun d = ((0, none), t) := by
  simp only [State.dmaRun, hl, hop, dmaBadRegion, hs, hd, ho, hm, Bool.not_true, Bool.or_self, Bool.false_eq_true, if_false, and_false,
    dmaErr]

theorem dmaRun_fills {t : State} (hop : fld d.w0 1 0 = 1) (h8 : d.dst % 8 = 0) (hn : d.len % 8 = 0)
    (hd : dmaRegion d.dst d.len = true) (hm : s.dmaFillMem d.dst d.len d.cst (d.len / 64 + 2) = (.ok, t)) :
    s.dmaRun d = ((0, none), t) := by
  simp only [State.dmaRun, hl, hop, dmaBadRegion, h8, hn, hd, hm, ne_eq, not_true_eq_false, or_self, Bool.not_true, Bool.false_eq_true,
    if_false, dmaErr]

theorem dmaRun_compares {t : State} {m : Option Nat} (hop : fld d.w0 1 0 = 2) (hs : dmaRegion d.src d.len = true)
    (hd : dmaRegion d.dst d.len = true) (hm : s.dmaCmp d.src d.dst d.len 0 (d.len / 32 + 4) = (.ok, m, t)) :
    s.dmaRun d = ((0, m), t) := by
  simp only [State.dmaRun, hl, hop, dmaBadRegion, hs, hd, hm, Bool.not_true, Bool.or_self, Bool.false_eq_true, if_false, dmaErr]

end

/-! ## Completion (R416) -/

/-- The oldest descriptor, a copy or a fill that ended without an error, is written back with OWN 0 and signals its event. -/
theorem dmaComplete_writes {r : List DmaDesc} (hb : (s.dmaCh ch).begun = d :: r) (hf : d.fin = some (0, none))
    (hop : fld d.w0 1 0 ≠ 2) :
    let s0 := s.updDma ch (fun x => { x with begun := r })
    let done := (s0.memWrite (s0.ringBase (dmaRing ch) + 32 * (d.idx % 2 ^ s.f (dp ch + R.dmaRing) 4 0))
      (leBytes 8 (setFld (setFld (setFld (setFld (setFld d.w0 31 18 0) 2 2 0) 20 20 0) 21 21 0) 24 22 0).toNat)).2
    s.dmaComplete ch = if bit d.w0 4 then done.react (.pulse (fld d.w0 10 5)) else done := by
  have hop' : (fld d.w0 1 0 == 2) = false := beq_eq_false_iff_ne.mpr hop
  simp only [State.dmaComplete, hb, hf, hop', Bool.false_and, Bool.false_eq_true, if_false]
  rfl

end

end Sys2Proof.Machine
end

section
/-! PROOF. The mesh and the HBM controllers (chapter 13): the cases of responses, of a router's forwarding, of scrubbing and of page
retirement. -/

namespace Sys2Proof.Machine

section
variable {s : State}

/-! ## Responses at a requester (R448) -/

theorem response_completes {o : Outst} {node txid : Nat} (st : Status) (d : List Byte)
    (ho : s.outst.find? (fun p => p.node == node && p.txid == txid) = some o) :
    s.response node txid st d = s.complete o st d := by
  simp only [State.response, ho]

theorem niTimeout_completes {o : Outst} {node txid : Nat} (ho : s.outst.find? (fun p => p.node == node && p.txid == txid) = some o)
    (hw : s.wakeSince = none) (ht : 160000 ≤ dur o.since s.now) :
    s.niTimeout node txid = (s.complete o .isolated []).inc (pageAt .noc node + R.nocNiEvt) 15 0 := by
  simp only [State.niTimeout, ho, hw]
  exact if_pos ⟨rfl, ht⟩

/-! ## Routers and route changes (R439, R441, R445) -/

/-- A flit whose ports are enabled goes on to the input buffer of the next router. -/
theorem routerForward_passes {node port vn m : Nat} {f : Flit} {l : List Flit} (hb : s.buf (bufKey node port vn) = f :: l)
    (hf : s.outFree node f.outPort vn f.flits = true) (ht : s.vnTurn node f.outPort vn = true) (h4 : f.outPort ≠ 4)
    (hin : (s.f (pageAt .noc node + R.nocRtrCtl) 4 0).testBit port = true)
    (hout : (s.f (pageAt .noc node + R.nocRtrCtl) 4 0).testBit f.outPort = true) (hm : hopNode node f.outPort = some m) :
    let g := { f with route := routeHop f.route }
    let s0 := (((s.setBuf (bufKey node port vn) l).served node f.outPort vn).probes node port 0 f).probes node f.outPort 1 g
    let j := bufKey m (f.outPort ^^^ 1) vn
    let s1 := s0.setBuf j (s0.buf j ++ [g])
    s.routerForward node port vn = s1.niRelease s1.heldCount := by
  simp only [State.routerForward, hb, hf, ht, h4, hin, hout, hm, Bool.not_true, Bool.or_self, Bool.false_eq_true, if_false]

theorem fenceDone_ends (hf : s.fencing = true) (h1 : s.oldFlits = 0) (h2 : s.oldReqs = 0) :
    let s1 := (s.putB (pageAt .noc 0 + R.nocFence) 2 false).putB (pageAt .noc 0 + R.nocFence) 3 true
    s.fenceDone = s1.niRelease s1.heldCount := if_pos (by simp [hf, h1, h2])

/-! ## Scrubbing (R432, R436) -/

section
variable {u line : Nat} {e : LineErr}

/-- The raw line that the scrubber's number names. -/
def scrubRaw (line : Nat) : Nat := if line < 377487360 then line else 0x5FA000000 / 64 + (line - 377487360)

variable (hen : s.b (hbp u + R.hbmcCtl) 0 = true) (hl : line < 377487360 + 262144)
include hen hl

theorem hbmScrub_of_device {a : Nat} (ha : s.rawDevice u (scrubRaw line) = some a) : s.hbmScrub u line e = (s.lineRead a e).2 := by
  refine (if_neg (by simp [hen, hl])).trans ?_
  rw [← scrubRaw, ha]

theorem hbmScrub_of_spare (ha : s.rawDevice u (scrubRaw line) = none) :
    s.hbmScrub u line e = (s.rawRead u (scrubRaw line) none e).2 := by
  refine (if_neg (by simp [hen, hl])).trans ?_
  rw [← scrubRaw, ha]

end

theorem injected_off {page checker : Nat} (h : s.f (page + R.pgErrInj) 47 32 = 0) : s.injected page checker = (none, s) :=
  if_neg fun hc => hc.1 h

theorem sramScrub_clean {a : Nat} (h : s.f (hbp 4 + R.pgErrInj) 47 32 = 0) : s.sramScrub a .clean = s := by
  simp only [State.sramScrub, State.sramWord, injected_off h, injEcc]

theorem sramScrub_corrected {a : Nat} (h : s.f (hbp 4 + R.pgErrInj) 47 32 = 0) :
    s.sramScrub a .corrected = (s.inc (hbp 4 + R.hbmcEccCnt) 15 0).fault (hbp 4) .correctable false := by
  simp only [State.sramScrub, State.sramWord, injected_off h, injEcc]

/-! ## Page retirement (R433, R434) -/

/-- A line of the page under copy that is not its last, read without an error. -/
theorem retireCopy_goes {u p k : Nat} {e : LineErr} {s1 : State} (hc : (s.hb u).copy = some (p, k)) (hk : k ≠ 63)
    (hr : s.lineRead (hbmDevice u (4096 * p + 64 * k)) e = (true, s1)) :
    s.retireCopy u e = s1.updHb u (fun h => { h with copy := some (p, k + 1) }) := by
  simp only [State.retireCopy, hc, hr, hk, if_true, if_false]

theorem trackerAge_drops {u p : Nat} {t : Nat × Nat × Word} (ht : (s.hb u).tracker.find? (fun t => t.1 == p) = some t)
    (hd : us * 1000 * s.f (hbp u + R.hbmcRetCtl) 31 16 ≤ dur t.2.2 s.now) :
    s.trackerAge u p = s.updHb u (fun h => { h with tracker := h.tracker.filter (fun t => t.1 != p) }) := by
  simp only [State.trackerAge, ht]
  exact if_pos hd

end

end Sys2Proof.Machine
end

section
/-! PROOF. Power domains, the slack governor, pack time and gauges (chapter 14): the cases of their transitions and intervals, and the
engines whose steps may meet memory without power (R450, R462, R463). -/

namespace Sys2Proof.Machine

/-! ## Transitions of domains (R461 to R463) -/

section
variable {s : State} {d : Nat}

/-- Is the work of a draining domain done (steps 2 and 3 of Table 14.2)? -/
def State.domQuiet (s : State) (d : Nat) : Prop :=
  (d < 128 → (s.b (tp d + R.tileFence) 0 = true ∨ (s.tile d).atRest = true) ∧ s.outst.any (fun o => o.node == tileNode d) = false) ∧
    (128 ≤ d → d < 152 → (s.hub (d - 128)).flight = [] ∧ ∀ i, i < 4 → (s.port (4 * (d - 128) + i)).fails = []) ∧
    (152 ≤ d → d < 168 → s.domCond d (s.f (domAt d) 1 0) = true) ∧ (168 ≤ d → d < 172 → s.hbQuiet (d - 168) = true)

theorem domDrained_commits (h3 : s.domState d = 3) (hq : s.domQuiet d) : s.domDrained d = s.domPut d 4 (s.domOrigin d) := by
  obtain ⟨htile, hhub, hcore, hhb⟩ := hq
  refine if_pos ⟨h3, ?_⟩
  split
  next hd => simp [htile hd]
  next hd =>
    split
    next hd' =>
      obtain ⟨hflight, hfails⟩ := hhub (Nat.le_of_not_lt hd) hd'
      simpa [hflight] using hfails
    next hd' =>
      split
      next hd'' => exact hcore (Nat.le_of_not_lt hd') hd''
      next hd'' =>
        split
        next h => exact hhb (Nat.le_of_not_lt hd'') h
        next => rfl

/-- A domain below the HBM controllers that reaches RETAIN. -/
def State.domRetains (s : State) (d : Nat) : State :=
  ({ s with wakeAsk := s.wakeAsk.filter (fun e => e != d) } : State).domPut d 1 (s.domOrigin d)

section
variable (hd : d < 168) (h4 : s.domState d = 4) (ht : s.f (domAt d) 1 0 = 1)
include hd h4 ht

theorem domPowerOff_wakes (hc : s.wakeAsk.contains d = true ∨ (s.domRetains d).domCalled d = true) :
    s.domPowerOff d = (s.domRetains d).domWakeStart d pwrAgent := by
  have hhb : ¬ (168 ≤ d ∧ d < 172) := fun h => absurd h.1 (Nat.not_le.mpr hd)
  simp only [State.domPowerOff, h4, ht, hhb, if_true, if_false, OfNat.one_ne_ofNat, true_or, and_true]
  exact if_pos hc

theorem domPowerOff_stays (ha : s.wakeAsk.contains d = false) (hc : (s.domRetains d).domCalled d = false) :
    s.domPowerOff d = (s.domRetains d).domApplyHeld d := by
  have hhb : ¬ (168 ≤ d ∧ d < 172) := fun h => absurd h.1 (Nat.not_le.mpr hd)
  simp only [State.domPowerOff, h4, ht, hhb, if_true, if_false, OfNat.one_ne_ofNat, true_or, and_true]
  exact if_neg (not_or.mpr ⟨Bool.eq_false_iff.mp ha, Bool.eq_false_iff.mp hc⟩)

end

theorem domWakeDone_tile (hd : d < 128) (h5 : s.domState d = 5) :
    s.domWakeDone d = (let s1 := s.domPut d 0 (s.domOrigin d)
      (if s1.governed d then s1.floorTile d else s1).react (.woken d)) := by
  have h1 : ¬ (168 ≤ d ∧ d < 172) := by omega
  have h2 : ¬ (152 ≤ d ∧ d < 168) := by omega
  have h3 : ¬ 174 ≤ d := by omega
  simp only [State.domWakeDone, h5, h1, h2, h3, hd, if_true, if_false, true_and]

end

/-! ## The governor's interval (R465 to R469) -/

section
variable {s : State} {i : GovIn}

/-- The state once an interval has begun, its sensors are read and its power is shown (R469). -/
def State.govBegun (s : State) (i : GovIn) : State :=
  (({ s with govAt := s.now } : State).thermal i.temps).putF (pwp + R.pwrCapStat) 47 32 i.watts

/-- The rest of an interval of a governor that is on: the voltages, then what CAP_STAT shows of the cap. -/
def State.govActs (s : State) (i : GovIn) : State :=
  let binds := s.b (pwp + R.pwrCtl) 1 && decide (s.f (pwp + R.pwrCap) 8 0 < i.watts)
  let s2 := s.govern i binds
  let bottom := binds && s.govTiles.all (fun t => decide (s.vnow t ≤ s.f (pwp + R.pwrVlim) 9 0))
  let s3 := (s2.putB (pwp + R.pwrCapStat) 24 binds).putB (pwp + R.pwrCapStat) 25 bottom
  if bottom && !s2.b (pwp + R.pwrCapStat) 25 then s3.fault pwp .config else s3

/-- In an interval in which the cap does not stand at its limits. -/
theorem govActs_above {binds : Bool}
    (hb : (s.b (pwp + R.pwrCtl) 1 && decide (s.f (pwp + R.pwrCap) 8 0 < i.watts)) = binds)
    (hbot : (binds && s.govTiles.all (fun t => decide (s.vnow t ≤ s.f (pwp + R.pwrVlim) 9 0))) = false) :
    s.govActs i = ((s.govern i binds).putB (pwp + R.pwrCapStat) 24 binds).putB (pwp + R.pwrCapStat) 25 false := by
  simp only [State.govActs, hb, hbot, Bool.false_and, Bool.false_eq_true, if_false]

theorem governor_early (h : dur s.govAt s.now < 10 * us) : s.governor i = s := if_pos h

section
variable (h : 10 * us ≤ dur s.govAt s.now)
include h

theorem governor_off (h0 : (s.govBegun i).b (pwp + R.pwrCtl) 0 = false) :
    s.governor i = (s.govBegun i).putB (pwp + R.pwrCapStat) 24 false := by
  refine (if_neg (Nat.not_lt.mpr h)).trans ?_
  exact if_neg (Bool.eq_false_iff.mp h0)

theorem governor_on (h0 : (s.govBegun i).b (pwp + R.pwrCtl) 0 = true) : s.governor i = (s.govBegun i).govActs i :=
  (if_neg (Nat.not_lt.mpr h)).trans (if_pos h0)

end

/-- The tiles that the cap does not move take an interval of their own (R466, R467). -/
def State.govOthers (s : State) (i : GovIn) (binds : Bool) (s1 u : State) : State :=
  (s1.govRest u s1.govTiles).foldl (fun v t => v.govTile t
    (i.temps.any (fun e => e.1 == tileNode t && decide ((8 * s.f (pwp + R.pwrTherm) 7 0 : Int) ≤ e.2))) binds) u

/-- While the cap does not bind, restoration goes on below LIMIT_W − 10 W, and without bound while CAP_EN is 0 (log entry 39). -/
theorem govern_frees : s.govern i false =
    let s1 := s.govTiles.foldl (fun s t => s.floorTile t) s
    s.govOthers i false s1
      (if i.watts + 10 < s.f (pwp + R.pwrCap) 8 0 ∨ s.b (pwp + R.pwrCtl) 1 = false then s1.capRestore else s1) := by
  have hiff : (i.watts + 10 < s.f (pwp + R.pwrCap) 8 0 ∨ (!s.b (pwp + R.pwrCtl) 1) = true) ↔
      (i.watts + 10 < s.f (pwp + R.pwrCap) 8 0 ∨ s.b (pwp + R.pwrCtl) 1 = false) := by rw [Bool.not_eq_true']
  exact congrArg (s.govOthers i false _) ((if_neg Bool.false_ne_true).trans (if_congr hiff rfl rfl))

end

/-! ## Pack time (R470 to R473) -/

section
variable {s : State}

section
variable (h : s.b (tmp + R.timeCtl) 2 = true)
include h

theorem packSync_loads (hl : s.now.toNat ≤ (s.reg (tmp + R.timeLoad)).toNat) :
    s.packSync = (({ s.putB (tmp + R.timeCtl) 2 false with now := s.reg (tmp + R.timeLoad) } : State).inc
      (tmp + R.timeStat) 47 32).pageInt tmp 1 :=
  (if_pos h).trans (if_neg (Nat.not_lt.mpr hl))

theorem packSync_late (hl : (s.reg (tmp + R.timeLoad)).toNat < s.now.toNat) :
    s.packSync = ((s.putB (tmp + R.timeCtl) 2 false).inc (tmp + R.timeStat) 63 48).fault tmp .config :=
  (if_pos h).trans (if_pos hl)

end

section
variable (h : s.timeRole = 1)
include h

theorem refLoss_holds (h2 : s.b (tmp + R.timeStat) 2 = false) :
    s.refLoss = ((s.putF (tmp + R.timeStat) 2 0 4).pageInt tmp 0).fault tmp .timeout := if_pos ⟨h, by simp [h2]⟩

theorem refReturn_relocks (h0 : s.b (tmp + R.timeStat) 0 = false) : s.refReturn = s.putF (tmp + R.timeStat) 2 0 1 :=
  if_pos ⟨h, by simp [h0]⟩

end

/-! ## Gauges (R474) -/

section
variable {g n : Nat} {w : Word} (hp : gaugePeriod (s.f (gaugeAt g) 15 0) = some n)
include hp

theorem sample_early (h : dur (s.gauge g).last s.now < n) : s.sample g w = s := by
  simp only [State.sample, hp]
  exact if_neg (Nat.not_le.mpr h)

theorem sample_adds (h : n ≤ dur (s.gauge g).last s.now) :
    s.sample g w = (s.gaugeAdd g ((s.gaugeValue g (s.f (gaugeAt g) 15 0)).getD w.toNat)).updGauge g (fun x =>
      { x with base := SMap.get 0 s.tally (s.f (gaugeAt g) 15 0), last := x.last + BitVec.ofNat 64 n }) := by
  simp only [State.sample, hp]
  exact if_pos h

end

theorem railExcursion_isolates (h : s.porst = false) : s.railExcursion = (s.fault pwp .timeout).direct pwp 3 3 :=
  if_neg (Bool.eq_false_iff.mp h)

/-! ## Steps of engines (R450, R462, R463, R537) -/

/-- Commands that are steps of an engine, each with what the step does. -/
noncomputable def engineSteps (n ch r c : Nat) : List (Instr × (State → State)) :=
  [(Instr.startEntryTake n, fun s => s.startTake n), (.ccwFetch n, fun s => s.ccwFetch n),
    (.ccwPost n, fun s => s.ccwPost n), (.ccwWrite n, fun s => s.ccwUnit n (fun c _ => c == 1)),
    (.itemFetch r, fun s => s.itemFetch r), (.dispatch c, fun s => s.dispatchTo c),
    (.interruptEntry c, fun s => s.interruptEntry c), (.dmaDescriptorBegin ch, fun s => s.dmaBegin ch),
    (.dmaComplete ch, fun s => s.dmaComplete ch), (.qmRecordPost, State.qmDrain), (.ledgerDrain, State.ledgerDrain)]

theorem exec_engineSteps {n ch r c : Nat} (hn : n < 64) (hch : ch < 32) (hr : r < 256) (hc : c < 16) :
    ∀ e ∈ engineSteps n ch r c, exec e.1 s = engOn true s e.2 := by
  simp only [engineSteps, List.forall_mem_cons, exec_startEntryTake, execStartEntryTake, exec_ccwFetch, execCcwFetch, exec_ccwPost,
    execCcwPost, exec_ccwWrite, execCcwWrite, exec_itemFetch, execItemFetch, exec_dispatch, execDispatch, exec_interruptEntry,
    execInterruptEntry, exec_dmaDescriptorBegin, execDmaDescriptorBegin, exec_dmaComplete, execDmaComplete, exec_qmRecordPost,
    execQmRecordPost, exec_ledgerDrain, execLedgerDrain, hn, hch, hr, hc, decide_true, true_and]
  exact fun _ h => absurd h List.not_mem_nil

end

end Sys2Proof.Machine
end

section
/-! PROOF. Bamior links and the pack (R481, R482, R504 to R511): a message that is accepted, where it goes, and what each message and
timer does. -/

namespace Sys2Proof.Machine

section
variable {s : State} {l : Nat}

/-! ## Links (R481, R482) -/

/-- The state in which a link has accepted the next message of its LSEQ order. -/
def State.received (s : State) (l : Nat) : State := s.updLink l (fun b => { b with recvSeq := b.recvSeq + 1, naked := false })

theorem accept_takes {q : BitVec 16} {k : State → State} (hup : s.linkIsUp l = true) (hq : q = (s.link l).recvSeq) :
    s.accept l q k = k (s.received l) := (if_neg (by simp [hup])).trans (if_pos hq)

theorem onBsync_child {f : BSyncF} (hup : s.linkIsUp l = true) (hp : s.parentLink ≠ l) :
    let s2 := (s.updPort l (fun x => { x with lastSync := s.now })).updLink l (fun b => { b.ackTo (f.ack + 1) with
      tcredit := f.tcredit, peerTx := f.txTime, peerRx := f.rxTime })
    s.onBsync l f = s2.linkPump l (s2.link l).waitq.length :=
  (if_pos hup).trans (if_neg hp)

/-- NAK: the messages from EXPECT on are sent again; a device that still discards sends its own NAK again (log entry 62). -/
theorem onNak_resends {e : BitVec 16} (hup : s.linkIsUp l = true) :
    let s2 := (if (s.link l).naked then s.nakOut l else s).updLink l (fun b => b.ackTo e)
    s.onNak l e = ((s2.link l).unacked.foldl (fun s e => s.sendMsg l e.1 e.2) s2).linkPump l (s2.link l).waitq.length :=
  if_pos hup

/-! ## Ways between devices (R505, R506) -/

section
variable {dst hops p : Nat}

theorem packNext_here (h : dst = s.deviceId) : s.packNext dst hops = (none, s) := if_pos h

theorem packNext_on (h : dst ≠ s.deviceId) (h0 : hops ≠ 0) (hp : s.packPort dst = some p) :
    s.packNext dst hops = (some (some p), s) := by
  simp only [State.packNext, h, h0, hp, if_false]

end

section
variable {t : Token} {hops p : Nat}

/-- The state in which a link's buffer has given up a TOKEN. -/
def State.tokenTaken (s : State) (l : Nat) : State := s.updLink l (fun b => { b with taken := b.taken + 1 })

theorem onToken_here (h : dDev t.dest = (s.tokenTaken l).deviceId) :
    s.onToken l t hops = (s.tokenTaken l).sendFrom (if l < 96 then pageNode .hub (l / 4) else pageNode .brc 0) t := by
  rw [State.tokenTaken] at h ⊢
  simp only [State.onToken, packNext_here h]

theorem onToken_on (h : dDev t.dest ≠ (s.tokenTaken l).deviceId) (h0 : hops ≠ 0)
    (hp : (s.tokenTaken l).packPort (dDev t.dest) = some p) :
    s.onToken l t hops = (s.tokenTaken l).linkSend p (.token t (hops - 1)) := by
  rw [State.tokenTaken] at h hp ⊢
  simp only [State.onToken, packNext_on h h0 hp]

end

/-! ## Messages and remote starts (R278, R511) -/

section
variable {src dst hops sub p : Nat} {item : List Word} {r : Bool}

theorem onMsg_here (h : dst = s.deviceId) : s.onMsg l src dst hops item = s.msgTake l src item := by
  simp only [State.onMsg, packNext_here h]

theorem onMsg_on (h : dst ≠ s.deviceId) (h0 : hops ≠ 0) (hp : s.packPort dst = some p) :
    s.onMsg l src dst hops item = s.linkSend p (.msg src dst (hops - 1) item) := by
  simp only [State.onMsg, packNext_on h h0 hp]

theorem onMsgAck_here (h : src = s.deviceId) (hb : s.b (kpk + R.packMsgCtl) 17 = true) :
    s.onMsgAck src dst hops r = (s.putB (kpk + R.packMsgCtl) 17 false).putB (kpk + R.packMsgCtl) 18 r := by
  simp only [State.onMsgAck, packNext_here h, hb, if_true]

theorem onRstart_here {ok : Bool} {t : State} (h : dst = s.deviceId) (hr : s.remoteStart (sub % 64) item = (ok, t))
    (hp : t.packPort src = some p) :
    s.onRstart src dst hops sub item = t.linkSend p (.rstartAck src dst 15 sub (!ok)) := by
  simp only [State.onRstart, packNext_here h, hr, hp]

theorem onRstartAck_here (h : src = s.deviceId) : s.onRstartAck src dst hops sub r = s.remoteAck dst sub r := by
  simp only [State.onRstartAck, packNext_here h]

end

/-! ## The tree (R507 to R510) -/

section
variable {b : Nat} {epoch : BitVec 16} (hb : b < 16) (hn : newer s.leadEpoch epoch.toNat = false)
include hb hn

theorem onArrive_notes : s.onArrive l b epoch =
    (s.updBar b (fun x => { x with kids := if x.kids.contains l then x.kids else x.kids ++ [l] })).barTry b :=
  if_neg (by simp [hn, hb])

theorem onRelease_waits {t : Word} (ht : s.now.toNat ≤ t.toNat) : s.onRelease b epoch t =
    (s.toKids (.release b epoch t)).updBar b (fun x => { x with till := some t, kids := [] }) :=
  (if_neg (by simp [hn, hb])).trans (if_neg (Nat.not_lt.mpr ht))

end

theorem onCfg_applies {off : Nat} {id : BitVec 16} {data : Word} {err : Bool} {t : State} (h : s.cfgApply off data = (err, t)) :
    let s2 := t.toKids (.cfg (BitVec.ofNat 24 off) id data)
    s.onCfg l off id data = ({ s2 with pack := { s2.pack with
      bcOn := true, bcKids := s2.children, bcUp := some (l, id), bcErr := err } } : State).bcTry := by
  simp only [State.onCfg, h]

/-- An acknowledgement of the lead's own broadcast. -/
theorem onCfgAck_notes {id : BitVec 16} {err : Bool} (hon : s.pack.bcOn = true) (hup : s.pack.bcUp = none)
    (hid : id = s.pack.bcId - 1) (hk : s.pack.bcKids.contains l = true) :
    s.onCfgAck l id err = ({ s with pack := { s.pack with
      bcKids := s.pack.bcKids.erase l, bcErr := s.pack.bcErr || err } } : State).bcTry := by
  simp only [State.onCfgAck, hup]
  exact if_pos ⟨hon, hid, hk⟩

/-- LEADHB of the epoch in force. -/
theorem onLeadhb_renews {id : BitVec 10} {epoch : BitVec 16} (h1 : newer s.leadEpoch epoch.toNat = false)
    (h2 : newer epoch.toNat s.leadEpoch = false) :
    s.onLeadhb id epoch = ((({ s with pack := { s.pack with leadAt := s.now, miss := 0 } } : State).putF
      (kpk + R.packLead) 9 0 id.toNat).putF (kpk + R.packLead) 31 16 epoch.toNat).toKids (.leadhb id epoch) :=
  (if_neg (Bool.eq_false_iff.mp h1)).trans (if_neg (Bool.eq_false_iff.mp h2))

/-! ## Timers of the pack and LINKID (R504, R508, R510) -/

section
variable (h : 10 * us ≤ dur s.pack.leadAt s.now)
include h

theorem leadhbInterval_lead (hl : s.isLead = true) :
    s.leadhbInterval = (({ s with pack := { s.pack with leadAt := s.now } } : State).putF (kpk + R.packLead) 9 0 s.deviceId).toKids
      (.leadhb (BitVec.ofNat 10 s.deviceId) (BitVec.ofNat 16 s.leadEpoch)) :=
  (if_neg (Nat.not_lt.mpr h)).trans (if_pos hl)

theorem leadhbInterval_member (hl : s.isLead = false) :
    s.leadhbInterval = ({ s with pack := { s.pack with
      leadAt := s.now, miss := if s.b (kpk + R.packCtl) 36 then s.pack.miss + 1 else 0 } } : State).inc (kpk + R.packLead) 47 32 :=
  (if_neg (Nat.not_lt.mpr h)).trans (if_neg (Bool.eq_false_iff.mp hl))

end

section
variable {p dev : Nat} {serial : Word} (hp : p < 96) (hb : s.bamior p = true) (h4 : (s.port p).phase = 4) (hl : s.lnk p ≠ 4)
include hp hb h4 hl

theorem bamiorUp_local (hd : dev = s.deviceId) : s.bamiorUp p serial dev = s.fault (pp p) .config :=
  (if_pos ⟨hp, hb, h4, hl⟩).trans (if_pos hd)

theorem bamiorUp_peer (hd : dev ≠ s.deviceId) : s.bamiorUp p serial dev =
    ((s.setReg (pp p + R.portLnkPeer) serial).updPort p (fun x => { x with idSeen := true })).tryUp p :=
  (if_pos ⟨hp, hb, h4, hl⟩).trans (if_neg hd)

end

theorem barTime_releases {b : Nat} {t : Word} (hb : (s.bar b).till = some t) (ht : t.toNat ≤ s.now.toNat) :
    s.barTime b = s.barRelease b := by
  simp only [State.barTime, hb]
  exact if_pos ht

end

end Sys2Proof.Machine
end

section
/-! PROOF. The brace (R483 to R502): messages of the twin, heartbeats, epochs, links and the end of a takeover. -/

namespace Sys2Proof.Machine

section
variable {s : State}

/-! ## Messages of the twin (R484 to R488, R492, R495 to R502) -/

/-- HB of a twin that is in the brace and below level 3 reaches the ACTIVE. -/
theorem onHb_active {f : HbF} (hl : f.level ≠ 3) (h0 : f.role ≠ 0) (hr : s.brcRole = 1) (hg : newer f.gen.toNat s.brcGen = false) :
    s.onHb f = ({ s with brace := { s.brace with
      twinRole := f.role, twinGen := f.gen, twinRun := f.role == 1 || f.role == 3 || f.role == 6, hbSeen := true, misses := 0,
      hbAfter := true } } : State).putB (bp + R.brcStat) 6 true := by
  simp only [State.onHb, hl, h0, hr, hg, Bool.false_eq_true, if_false, false_and, or_self, and_false, OfNat.one_ne_ofNat]

theorem onReplay_detach {f : ReplayF} (ho : f.offset.toNat = bp + R.brcCmd) (hop : fld f.new 2 0 = 3) (hr : s.brcRole = 2) :
    s.onReplay f = s.unbrace := if_pos ⟨ho, hop, .inl hr⟩

/-- The record of a host's write is applied on a STANDBY. -/
theorem onReplay_applies {f : ReplayF} (hd : f.offset.toNat ≠ bp + R.brcCmd ∨ fld f.new 2 0 ≠ 3) (hr : s.brcRole = 2)
    (hc : orgClass f.origin = 0) (hrep : replays f.offset.toNat = true) :
    s.onReplay f = (s.controlWrite f.offset.toNat ⟨0x5000, .d64, f.new⟩).2 := by
  have hno : ¬ (f.offset.toNat = bp + R.brcCmd ∧ fld f.new 2 0 = 3 ∧ (s.brcRole = 2 ∨ s.brcRole = 4 ∨ s.brcRole = 5)) := by
    rintro ⟨ho, hop, -⟩
    exact hd.elim (· ho) (· hop)
  exact (if_neg hno).trans (if_pos ⟨.inl hr, .inl (by rw [hc]; rfl), hrep⟩)

theorem onMirror_writes {addr : BitVec 48} {be : Word} {line : List Byte} (hr : s.brcRole = 2)
    (hm : region (addr.toNat / 64 * 64) = .hbm) (hb : be ≠ BitVec.allOnes 64 → s.lineBad (addr.toNat / 64 * 64) = false) :
    let a := addr.toNat / 64 * 64
    let w := ((s.wrEnabled a be (line.take 64) 0).stored a 64).visit a .ok
    s.onMirror addr be line = if be = BitVec.allOnes 64 then w.clearLines a 64 else w := by
  intro a w
  refine (if_pos ⟨.inl hr, hm⟩).trans ?_
  by_cases hw : be = BitVec.allOnes 64
  · simp only [hw, beq_self_eq_true, Bool.not_true, Bool.false_and, Bool.false_eq_true, if_false, if_true]
    simp only [w, hw]
    rfl
  · have hbad : ¬ (!(be == BitVec.allOnes 64) && s.lineBad (addr.toNat / 64 * 64)) = true := by simp [hb hw]
    exact (if_neg hbad).trans ((if_neg (by simpa using hw)).trans (if_neg hw).symm)

section
variable {f : UnitResF}

/-- A result of the twin's unit step has reached the device. -/
def State.resKept (s : State) (f : UnitResF) : State := { s with ret := { s.ret with results := s.ret.results ++ [f] } }

theorem unitRes_keeps (h : (s.sub f.subch).ccw = none) : s.unitRes f = s.resKept f := by
  simp only [State.unitRes, h, State.resKept]

theorem unitRes_takes {w : BitVec 128} (h : (s.sub f.subch).ccw = some w) (hw : (s.sub f.subch).unitWait = true)
    (ho : (s.sub f.subch).opnum = f.opnum.toNat) : s.unitRes f = (s.resKept f).takeResult f.subch w f := by
  simp only [State.unitRes, h]
  exact if_pos ⟨hw, ho⟩

end

/-- The ACTIVE that loses its twin. -/
theorem solo_active (h : s.brcRole = 1) :
    s.solo = { (s.setRole 3) with brace := { s.brace with swapping := false } } := if_pos h

theorem onFence_active (h : s.brcRole = 1) :
    s.onFence = { (s.setRole 3) with brace := { s.brace with swapping := false } } :=
  (if_neg (by rw [h]; decide)).trans (solo_active h)

/-! ## Heartbeats (R497) -/

section
variable (hr : s.brcRole ≠ 0) (hd : us * s.f (bp + R.brcEpoch) 10 8 ≤ dur s.brace.hbEnd s.now)
include hr hd

theorem hbInterval_seen (hs : s.brace.hbSeen = true) :
    let s1 := ({ s with brace := { s.brace with hbEnd := s.now, hbSeen := false, misses := 0 } } : State).putB (bp + R.brcStat) 6 true
    s.hbInterval = s1.bothLinks s1.hbOut := by
  refine (if_pos ⟨hr, hd⟩).trans ?_
  simp only [hs, if_true]

theorem hbInterval_missed (hs : s.brace.hbSeen = false) :
    let s1 := (({ s with brace := { s.brace with hbEnd := s.now, hbSeen := false, misses := s.brace.misses + 1 } } : State).inc
      (bp + R.brcEvt) 15 0).putB (bp + R.brcStat) 6 false
    s.hbInterval = s1.bothLinks s1.hbOut := by
  refine (if_pos ⟨hr, hd⟩).trans ?_
  simp only [hs, Bool.false_eq_true, if_false]

end

section
variable (hm : 3 ≤ s.brace.misses)
include hm

theorem hbLoss_takes (hr : s.brcRole = 2) (hc : s.b (bp + R.brcCtl) 2 = true) : s.hbLoss = s.takeover :=
  (if_neg (Nat.not_lt.mpr hm)).trans (if_pos ⟨hr, hc⟩)

theorem hbLoss_active (hr : s.brcRole = 1) :
    s.hbLoss = { (s.setRole 3) with brace := { s.brace with swapping := false } } :=
  (if_neg (Nat.not_lt.mpr hm)).trans ((if_neg (by simp [hr])).trans (solo_active hr))

end

/-! ## Epochs (R496) -/

/-- The seals of the twin, an epoch older. -/
def State.aged (s : State) : List (DigestF × Nat) := s.brace.theirs.map (fun e => (e.1, e.2 + 1))

/-- An epoch has ended, with the seals that the device goes on to hold. -/
def State.epochAt (s : State) (own : List Seal) (theirs : List (DigestF × Nat)) : State :=
  { s with brace := { s.brace with epochEnd := s.now, own := own, theirs := theirs } }

/-- Own seals are sent to the twin and compared with what it has sent. -/
def State.digestsOut (s : State) (o : Seal) : State :=
  let s1 := s.toTwin (.digest { seq := o.seq, a := o.a, n := o.n, value := o.value, ovf := o.ovf })
  { s1 with brace := { s1.brace with own := s1.brace.own.map (fun (o : Seal) => { o with sent := true }) } }

/-- No seal of the twin is late while all are younger than the limit. -/
theorem partition_young {m : Nat} (hy : ∀ e ∈ s.aged, e.2 < m) :
    s.aged.partition (fun e => decide (m ≤ e.2) && !(s.brace.own.any (fun o => o.seq == e.1.seq))) = ([], s.aged) := by
  have hp (e) (he : e ∈ s.aged) : (decide (m ≤ e.2) && !(s.brace.own.any (fun o => o.seq == e.1.seq))) = false := by
    rw [decide_eq_false (Nat.not_le.mpr (hy e he)), Bool.false_and]
  rw [List.partition_eq_filter_filter, List.filter_eq_nil_iff.mpr fun e he => Bool.eq_false_iff.mp (hp e he),
    List.filter_eq_self.mpr fun e he => by rw [Function.comp, hp e he, Bool.not_false]]

/-- A device without seals has none that is late. -/
theorem partition_ownless {m : Nat} (hown : s.brace.own = []) :
    (s.brace.own.map (fun o => if o.sent then { o with age := o.age + 1 } else o)).partition (fun o => decide (m ≤ o.age)) =
      ([], []) := by
  rw [hown]
  rfl

section
variable (hd : s.brace.epochEnd.toNat / (us * s.f (bp + R.brcEpoch) 5 0) < s.now.toNat / (us * s.f (bp + R.brcEpoch) 5 0))
include hd

theorem epochBoundary_young (hown : s.brace.own = []) (hr : s.brcRole = 3) (hy : ∀ e ∈ s.aged, e.2 < s.f (bp + R.brcCtl) 11 8) :
    s.epochBoundary = s.epochAt [] s.aged := by
  have halone := partition_young hy
  rw [State.aged] at halone ⊢
  simp only [State.epochBoundary, Nat.not_le.mpr hd, if_false, halone, partition_ownless hown]
  simp only [hr, List.map_nil, List.append_nil, List.foldl_nil, State.epochAt, OfNat.ofNat_ne_one,
    Nat.reduceEqDiff, or_self, false_and, if_false]

theorem epochBoundary_late {f : DigestF} {n : Nat} (hown : s.brace.own = []) (hr : s.brcRole = 3) (ht : s.brace.theirs = [(f, n)])
    (hn : s.f (bp + R.brcCtl) 11 8 ≤ n + 1) :
    s.epochBoundary = (State.compareSeal.diverge (s.epochAt [] []) f.seq.toNat true).fault bp .timeout := by
  have halone : (s.brace.theirs.map (fun e => (e.1, e.2 + 1))).partition (fun e =>
      decide (s.f (bp + R.brcCtl) 11 8 ≤ e.2) && !(s.brace.own.any (fun o => o.seq == e.1.seq))) = ([(f, n + 1)], []) := by
    rw [ht, hown, List.partition_eq_filter_filter]
    simp [hn]
  simp only [State.epochBoundary, Nat.not_le.mpr hd, if_false, halone, partition_ownless hown]
  simp only [hr, List.map_nil, List.nil_append, List.map_cons, List.foldl_cons, List.foldl_nil, State.epochAt,
    OfNat.ofNat_ne_one, Nat.reduceEqDiff, or_self, false_and, if_false]

theorem epochBoundary_sends {o : Seal} (hown : s.brace.own = [o]) (hs : o.sent = false) (ho : o.age < s.f (bp + R.brcCtl) 11 8)
    (hy : ∀ e ∈ s.aged, e.2 < s.f (bp + R.brcCtl) 11 8) (hr : s.brcRole = 1) (hlink : s.braceLink.isSome = true) :
    let s2 := (s.epochAt [o] s.aged).digestsOut o
    s.epochBoundary = s2.matchSeals s2.brace.own.length := by
  have halone := partition_young hy
  have hlate : (s.brace.own.map (fun o => if o.sent then { o with age := o.age + 1 } else o)).partition (fun o =>
      decide (s.f (bp + R.brcCtl) 11 8 ≤ o.age)) = ([], [o]) := by
    rw [hown, List.partition_eq_filter_filter]
    simp [hs, Nat.not_le.mpr ho]
  rw [State.aged] at halone ⊢
  simp only [State.epochBoundary, Nat.not_le.mpr hd, if_false, halone, hlate]
  simp only [hr, hlink, hs, List.map_nil, List.append_nil, List.foldl_nil, true_or, true_and, if_true, Bool.not_false,
    List.filter_cons_of_pos, List.filter_nil, List.foldl_cons, State.epochAt, State.digestsOut]

end

/-! ## Links of the brace (R484, R504) -/

section
variable {k : Nat}

theorem braceUp_takes {serial : Word} {run pref : Bool} (hk : k < 2) (h4 : (s.port (96 + k)).phase = 4)
    (hup : s.linkIsUp (96 + k) = false) (ht : s.fuses.twin ≠ 0) (hs : serial = s.fuses.twin) :
    s.braceUp k serial run pref = ((({ s.putB (bp + R.brcStat) 3 true with
      brace := { s.brace with twinSerial := serial, twinRun := run, twinPref := pref } } : State).updPort (96 + k)
        (fun x => { x with idSeen := true })).braceTry k) := by
  refine (if_pos ⟨hk, h4, by simp [hup]⟩).trans (if_neg ?_)
  rintro (h | h)
  · exact ht h
  · exact h hs

theorem braceTime_blocks (hp : s.bracePhy (96 + k) = true) (h4 : (s.port (96 + k)).phase = 4)
    (hb : (s.port (96 + k)).blk.isSome = true) : s.braceTime (96 + k) = (s.braceTry k).bamiorBlock (96 + k) := by
  have hbegun : s.braceBegin (96 + k) = s := if_neg (by simp [h4])
  have htr : s.training (96 + k) = false := by
    simp [State.training, Option.isNone_eq_false_iff.mpr hb]
  simp only [State.braceTime, hbegun, hp, htr, Bool.not_true, Bool.false_eq_true, if_false, Nat.add_sub_cancel_left]

/-- A link whose LINKID has come is UP after eight codewords; without EN no role is fixed (log entry 62). -/
theorem braceTry_ups (h4 : (s.port (96 + k)).phase = 4) (hup : s.linkIsUp (96 + k) = false)
    (hid : (s.port (96 + k)).idSeen = true) (hd : 1639 ≤ dur (s.port (96 + k)).badAt s.now) :
    let s1 := { s.putB (bp + R.brcStat) (4 + k) true with brace := { s.brace with misses := 0, hbEnd := s.now } }
    let s2 := s1.updPort (96 + k) (fun x => { x with misses := 0 })
    s2.b (bp + R.brcCtl) 0 = false → s.braceTry k = s2.linkResume (96 + k) := by
  intro s1 s2 hen
  refine (if_pos ⟨h4, by simp [hup], hid, hd⟩).trans ?_
  have hno : ¬ (s.braceLink.isNone && s2.b (bp + R.brcCtl) 0) = true := by simp [hen]
  exact congrArg (State.linkResume · (96 + k)) (if_neg hno)

end

/-- A takeover ends once every RUNNING Plate's port has resumed. -/
theorem takeoverEnd_ends (hr : s.brcRole = 6) (hn : s.notResumed = []) :
    let s1 := s.setRole (if s.brace.hbAfter then 1 else 3)
    s.takeoverEnd = ({ s1 with ledger := { s1.ledger with sent := s1.ledger.next } } : State).pageInt bp 0 := by
  refine (if_pos ⟨hr, .inl (by rw [hn]; rfl)⟩).trans ?_
  simp only [hn, List.foldl_nil]

end

end Sys2Proof.Machine
end

section
/-! PROOF. Reaction timers, the ledger's ring, the host and boot (R517, R531, R532, R535 to R543, R549, R552 to R555): the cases of
their commands. -/

namespace Sys2Proof.Machine

section
variable {s : State}

/-! ## Reaction timers and the ledger's ring (R517, R531, R532) -/

theorem timerExpire_escalates {page : Nat} {t : Word} (ht : s.timer page = some t) (hd : t.toNat ≤ s.now.toNat)
    (hl : s.liveClasses page ≠ 0) (hc : s.f (page + R.pgErrLevel) 1 0 < s.f (page + R.pgErrEn) 9 8) :
    s.timerExpire page =
      (s.setTimer page none).setLevel page (s.f (page + R.pgErrLevel) 1 0 + 1) 2 (s.firstClass page) := by
  simp only [State.timerExpire, ht]
  exact (if_neg (Nat.not_lt.mpr hd)).trans (if_pos ⟨hl, hc⟩)

/-- The ring slot of the next record to drain. -/
def State.drainSlot (s : State) : Nat :=
  s.f (lgp + R.ledgRing) 47 20 * 2 ^ 20 + 64 * (s.ledger.drain.toNat % 2 ^ s.f (lgp + R.ledgRing) 4 0)

/-- The bytes of the next record to drain. -/
def State.drainBytes (s : State) : List Byte :=
  (List.range 8).flatMap (fun i => leBytes 8 ((s.ledgerSlot (s.ledger.drain.toNat % 4096)).word i).toNat)

/-- Records in the ring before the next. -/
def State.drainFill (s : State) : Nat := (s.ledger.drain.toNat + 2 ^ 32 - s.f (lgp + R.ledgCons) 31 0) % 2 ^ 32

/-- The record has been written: the producer index goes on. -/
def State.drainedBy (s1 s : State) : State :=
  (s1.drainAt ((s.ledger.drain.toNat + 1) % 2 ^ 32)).ledgProdTo ((s.ledger.drain.toNat + 1) % 2 ^ 32)

section
variable {s1 : State} (hen : s.b (lgp + R.ledgRing) 5 = true) (hu : 0 < s.undrained)
  (hw : s.wfail.contains (lgp + R.ledgRing) = false) (hm : s.memWrite s.drainSlot s.drainBytes = (.ok, s1))
include hen hu hw hm

theorem ledgerDrain_fits (hf : s.drainFill < 2 ^ s.f (lgp + R.ledgRing) 4 0) : s.ledgerDrain = s1.drainedBy s := by
  rw [State.drainSlot, State.drainBytes] at hm
  refine (if_pos (by rw [hen, decide_eq_true hu, hw]; rfl)).trans ?_
  simp only [hm]
  exact congrArg (State.drainedBy · s) (if_neg (Nat.not_le.mpr hf))

/-- A full ring loses its oldest record. -/
theorem ledgerDrain_overruns (hf : 2 ^ s.f (lgp + R.ledgRing) 4 0 ≤ s.drainFill) :
    s.ledgerDrain = ((s1.putF (lgp + R.ledgCons) 31 0 ((s.f (lgp + R.ledgCons) 31 0 + 1) % 2 ^ 32)).inc
      (lgp + R.ledgCnt) 31 0).drainedBy s := by
  rw [State.drainSlot, State.drainBytes] at hm
  refine (if_pos (by rw [hen, decide_eq_true hu, hw]; rfl)).trans ?_
  simp only [hm]
  exact congrArg (State.drainedBy · s) (if_pos hf)

end

/-! ## Requests of the host (R539 to R543) -/

section
variable {off a : Nat} {bytes : List Byte}

theorem barAddr_ctl (h : off < 0x1000000) : barAddr 0 off = some (ctrlBase + off) := if_pos h

theorem region_ctl (h : off < 0x1000000) : region (ctrlBase + off) = .control := by
  have h1 : ¬ ctrlBase + off < hbmEnd := by simp only [ctrlBase, hbmEnd]; omega
  have h2 : ¬ (shepBase ≤ ctrlBase + off ∧ ctrlBase + off < shepBase + 0x800000) := by simp only [ctrlBase, shepBase]; omega
  have h3 : ¬ (romBase ≤ ctrlBase + off ∧ ctrlBase + off < romBase + 0x10000) := by simp only [ctrlBase, romBase]; omega
  have h4 : ctrlBase ≤ ctrlBase + off ∧ ctrlBase + off < ctrlBase + 0x1000000 := by omega
  simp only [region, h1, h2, h3, h4, Bool.and_eq_true, decide_eq_true_eq, if_false, and_self, if_true]

theorem ctlSize_word (h : off % 8 = 0) : ctlSize off 8 = some .d64 := if_pos ⟨rfl, h⟩

section
variable (h : s.porst = false) (hup : 2 ≤ s.hostState) (hd3 : s.host.d3hot = false) (hheld : s.host.held = [])
include h hup hd3 hheld

theorem hostWrite_serves {bar : Nat} (hb : bytes ≠ []) (hn : bytes.length ≤ 512)
    (hw : s.hostMustWait bar off bytes.length = false) : s.hostWrite bar off bytes = s.hostWriteNow bar off bytes := by
  have hno : ¬ (s.porst = true ∨ s.hostState < 2 ∨ bytes = [] ∨ s.pcieCaps.maxPayload < bytes.length) := by
    simpa [h, hb, hn, State.pcieCaps] using Nat.lt_of_succ_le hup
  refine (if_neg hno).trans ?_
  simp only [hd3, hheld, hw, List.isEmpty_nil, Bool.not_true, Bool.false_eq_true, if_false]

theorem hostRead_serves {bar len : Nat} (h0 : len ≠ 0) (hn : len ≤ 4096) (hp : s.hostParked = false) :
    s.hostRead bar off len = s.hostReadNow bar off len := by
  have hno : ¬ (s.porst = true ∨ s.hostState < 2 ∨ len = 0 ∨ 4096 < len) := by simpa [h, h0, hn] using Nat.lt_of_succ_le hup
  refine (if_neg hno).trans ?_
  simp only [hd3, hheld, hp, List.isEmpty_nil, Bool.not_true, Bool.or_self, Bool.false_eq_true, if_false]

end

/-- A write through a BAR that leads to HBM or the Shepherd store. -/
theorem hostWriteNow_stores {bar b : Nat} (ha : barAddr bar off = some a) (hb : barAddr bar (off + bytes.length - 1) = some b)
    (hr : region a = .hbm ∨ region a = .shep) : s.hostWriteNow bar off bytes = s.hostStore a bytes := by
  obtain hr | hr := hr <;> simp only [State.hostWriteNow, ha, hb, hr]

section
variable (ho : off < 0x1000000) (h8 : off % 8 = 0)
include ho h8

theorem hostWriteNow_ctl {s1 : State} (hn : bytes.length = 8)
    (hc : s.controlWrite off ⟨0, .d64, BitVec.ofNat 64 (ofLe bytes)⟩ = (.ok, s1)) (hp : s1.parked.length ≤ s.parked.length) :
    s.hostWriteNow 0 off bytes = s1 := by
  have hlast : off + 8 - 1 < 0x1000000 := by omega
  have hoff : off / 8 * 8 = off := Nat.div_mul_cancel (Nat.dvd_of_mod_eq_zero h8)
  simp only [State.hostWriteNow, hn, barAddr_ctl ho, barAddr_ctl hlast, region_ctl ho, ctlSize_word h8, hoff, hc]
  exact if_neg (Nat.not_lt.mpr hp)

theorem hostReadNow_ctl {s1 : State} {v : Word} (hc : s.controlRead off ⟨0, .d64⟩ = (.ok, some v, s1)) :
    s.hostReadNow 0 off 8 = s1.hostDone 0 off .ok (leBytes 8 v.toNat) := by
  have hlast : off + 8 - 1 < 0x1000000 := by omega
  have hoff : off / 8 * 8 = off := Nat.div_mul_cancel (Nat.dvd_of_mod_eq_zero h8)
  simp only [State.hostReadNow, barAddr_ctl ho, barAddr_ctl hlast, region_ctl ho, ctlSize_word h8, hoff, hc]

end

end

theorem hostCompletion_answers {id : Nat} {data : List Byte} {q : InReq} {l : List InReq}
    (hq : takeFirst (fun q => q.req.txid == id && q.ofHost) s.inbox = some (q, l)) :
    s.hostCompletion id data true = ({ s with inbox := l } : State).hostAnswer q .ok
      ((List.range (if q.opc = 2 ∨ q.opc = 128 then 64 else 8)).map (fun i => data.getD i 0)) := by
  simp only [State.hostCompletion, hq, if_true]

/-! ## The host's link (R535 to R537) -/

theorem hostTrain_live {m0 m1 : Bool} {r : UcieReport} (h : s.porst = false) :
    let o := hop + R.hostLink
    let s1 := if 2 ≤ s.hostState then s.inc o 31 16 else s
    let s2 := (((s1.putF o 3 2 (b2n m0 + 2 * b2n m1)).putB o 4 (m0 != m1)).putF o 47 32 r.repaired).inc o 63 48 r.retries
    let s3 := if s.hostState = 3 then s2.leaveL1 else s2
    let s4 := { s3 with host := { s3.host with rate := [32, 24, 16, 12, 8, 4].getD r.failed 0 } }
    s.hostTrain m0 m1 r = (s4.setHostState 1).setHostState (if (m0 || m1) && decide (r.failed < 6) then 2 else 0) :=
  if_neg (Bool.eq_false_iff.mp h)

/-! ## The boot ROM (R551 to R555) -/

section
variable (hr : s.romReady = true)
include hr

theorem romLoad_checks (hc : fld (s.h2d 0) 15 0 = 2) :
    s.romLoad = if imgCheck s.fuses s.storeImage = 0 then
        (s.romAnswer 0 [BitVec.ofNat 64 (imgSvn s.storeImage)]).handOff 2 s.storeImage
      else (s.romFail (imgCheck s.fuses s.storeImage)).romAnswer (imgCheck s.fuses s.storeImage) [] := by
  simp only [State.romLoad, hr, hc, Bool.not_true, Bool.false_eq_true, if_false, if_true]
  cases imgCheck s.fuses s.storeImage <;> rfl

theorem romKey_programs (hc : fld (s.h2d 0) 15 0 = 0x10) (hv : s.fuses.keyValid.testBit (fld (s.h2d 1) 1 0) = false) :
    let k := fld (s.h2d 1) 1 0
    let hash := (List.range 6).foldl (fun n i => n + (s.h2d (2 + i)).toNat * 2 ^ (64 * i)) 0
    s.romKey = ({ s with fuses := { s.fuses with
      keyValid := s.fuses.keyValid + 2 ^ k, keyHash := SMap.set 0 s.fuses.keyHash k hash } } : State).romAnswer 0 [] :=
  (if_pos ⟨hr, hc⟩).trans (if_neg (Bool.eq_false_iff.mp hv))

theorem romRevoke_revokes {k : Nat} (hc : fld (s.h2d 0) 15 0 = 0x11) (hk : fld (s.h2d 1) 1 0 = k)
    (hv : s.fuses.keyValid.testBit k = true)
    (hl : (List.range 4).filter (fun i => s.fuses.keyValid.testBit i && !s.fuses.keyRevoked.testBit i) ≠ [k]) :
    s.romRevoke = ({ s with fuses := { s.fuses with keyRevoked := s.fuses.keyRevoked ||| 2 ^ k } } : State).romAnswer 0 [] := by
  subst hk
  refine (if_pos ⟨hr, hc⟩).trans (if_neg ?_)
  rintro (h | h)
  · exact absurd h (by simp [hv])
  · exact hl h

theorem romSvn_raises {n : Nat} (hc : fld (s.h2d 0) 15 0 = 0x12) (hn : fld (s.h2d 1) 6 0 = n) (hf : s.fuses.svnFloor ≤ n)
    (h64 : n ≤ 64) : s.romSvn = ({ s with fuses := { s.fuses with svnFloor := n } } : State).romAnswer 0 [] := by
  subst hn
  exact (if_pos ⟨hr, hc⟩).trans (if_neg (not_or.mpr ⟨Nat.not_lt.mpr hf, Nat.not_lt.mpr h64⟩))

end

section
variable {x : RomSt} {r : BusResult} (hx : s.rom = some x)
include hx

/-- The header of slot A has been read. -/
theorem romBus_first (hh : x.hdrs = []) (ht : x.todo = []) (hl : 512 ≤ r.data.length) :
    s.romBus r = ({ s with rom := some { hdrs := [r.data.take 512] } } : State).flashRead (slotAt 1) 512 := by
  simp only [State.romBus, hx, ht, hh, Nat.not_lt.mpr hl, if_false, List.nil_append, List.length_cons, List.length_nil]
  exact if_pos (by decide)

/-- An image has been read, and is checked in the Shepherd store. -/
theorem romBus_image {k : Nat} {l : List Nat} (ht : x.todo = k :: l) (hl : romSize (x.hdrs.getD k []) ≤ r.data.length) :
    let s1 := s.wrBytes shepBase (r.data.take (romSize (x.hdrs.getD k [])))
    let e := imgCheck s.fuses s1.storeImage
    s.romBus r = if e = 0 then ({ s1 with rom := none } : State).handOff k s1.storeImage
      else (s1.romFail e).romTry x.hdrs 2 l := by
  simp only [State.romBus, hx, ht, Nat.not_lt.mpr hl, if_false]
  cases imgCheck s.fuses (s.wrBytes shepBase (r.data.take (romSize (x.hdrs.getD k [])))).storeImage <;> rfl

end

end

end Sys2Proof.Machine
end

section
/-! PROOF. The obligations of semaphores, DMA channels, the mesh, power and time, Bamior links, the pack, the brace, and the host and
boot. -/

open Sys2Proof Sys2Proof.Machine

/-- Settles O18: a request at a window that its unit serves is the window's operation on the word, whose answer goes to the
requester; the word, its holds and its waiters decide what the operation answers. -/
theorem semaphoresComplete : Obligations.SemaphoresComplete := by
  unfold Obligations.SemaphoresComplete
  intro t r u h a q s w waits reply
  have hq : t.takeReq r.node r.txid = (q, (t.takeReq r.node r.txid).2) := rfl
  refine ⟨fun hu ha hb hst hi hs => ?served, fun v hu hi hn hv hk => ?held, ?store, fun x hu hd => ?leash, fun o ho => ?notice⟩
  case served =>
    have hreq {k : Nat} {res : SemRes} {s1 : State} (hk : region r.addr.toNat = .sem k) (hw : r.write = (k == 1))
        (hop : s.semOp k u a r.origin r.prio (.mesh r.node r.txid) = (res, s1)) :
        t.semReq k r = SemRes.reply (unitNode u) q r (res, s1) := by
      rw [semReq_reaches hk hu hq hi hs, hb, semAccess_acts hk hu ha hw hst]
      exact congrArg _ hop
    refine ⟨fun hk hw => ⟨fun hf => ?take, fun hf hc => ?wait⟩, fun hk hw => ⟨fun hf => ?tries, fun hc => ?fails⟩, fun hk hw => ?peek,
      fun hk hw => ⟨fun x l hx => ?give, fun hh hm hc => ?free⟩⟩
    case take => exact (exec_semTake ..).trans (act_gives h (hreq hk hw (semTake_grants hf)))
    case wait => exact (exec_semTake ..).trans (act_gives h ((hreq hk hw (semTake_waits hf hc)).trans (semWaits_keepReq q)))
    case tries => exact (exec_semTry ..).trans (act_gives h (hreq hk hw (semTry_grants hf)))
    case fails => exact (exec_semTry ..).trans (act_gives h (hreq hk hw (semTry_refuses hc)))
    case peek => exact (exec_semPeek ..).trans (act_gives h (hreq hk hw rfl))
    case give => exact (exec_semGive ..).trans (act_gives h (hreq hk hw (congrArg (Prod.mk _) (semGive_held hx))))
    case free => exact (exec_semGive ..).trans (act_gives h (hreq hk hw (congrArg (Prod.mk _) (semGive_free hh hm hc))))
  case held => exact (exec_semTake ..).trans (act_gives h (semReq_holds hk hu hq hi hn hv))
  case store =>
    intro p b n hu hst hs
    have hp : t.takeReq p.node p.txid = ((t.takeReq p.node p.txid).1, (t.takeReq p.node p.txid).2) := rfl
    exact (exec_semPlainStore ..).trans (act_gives h (semStore_writes hp hu hst hs))
  case leash => exact (exec_leashExpiry ..).trans (actOn_gives h (decide_eq_true hu) (leashExpire_one hd))
  case notice => exact (exec_resetNotice ..).trans (act_gives h (if_pos ho))

/-- Settles O19: a channel's step is the reading and the beginning of a descriptor, the work of the oldest unfinished one, or the
write-back of the oldest; a step that neither reads nor writes memory needs no controller awake. -/
theorem dmaComplete : Obligations.DmaComplete := by
  unfold Obligations.DmaComplete
  intro s ch h hch
  have hok : decide (ch < 32) = true := decide_eq_true hch
  refine ⟨?read, fun d hh => ⟨fun hw => ?wait, fun hf hw => ?begin_⟩, fun d hd hl => ?work,
    ?complete⟩
  case read =>
    intro a bs t hh hn hm hown c d ha
    exact (exec_dmaDescriptorBegin ..).trans (engOn_gives h ha hok (dmaBegin_reads hh hn hm hown))
  case wait =>
    exact (exec_dmaDescriptorBegin ..).trans (engOn_still h hok ((dmaBegin_held hh).trans (dmaGo_waits hh hw)) rfl rfl)
  case begin_ =>
    exact (exec_dmaDescriptorBegin ..).trans (engOn_still h hok ((dmaBegin_held hh).trans (dmaGo_begins hh hf hw)) rfl rfl)
  case work =>
    intro fin
    refine ⟨fun hop hs hd' ho t hm ha => ?copy, fun hop h8 hn hd' t hm ha => ?fill, fun hop hs hd' m t hm ha => ?proof_⟩
    case copy =>
      exact (exec_dmaCopy ..).trans (dmaRow_works h ha hch hd hop (by decide) (dmaRun_copies hl hop hs hd' ho hm))
    case fill =>
      exact (exec_dmaFill ..).trans (dmaRow_works h ha hch hd hop (by decide) (dmaRun_fills hl hop h8 hn hd' hm))
    case proof_ =>
      exact (exec_dmaProof ..).trans (dmaRow_works h ha hch hd hop (by decide) (dmaRun_compares hl hop hs hd' hm))
  case complete =>
    intro d r hb hf hop done ha
    exact (exec_dmaComplete ..).trans (engOn_gives h ha hok (dmaComplete_writes hb hf hop))

/-- Settles O21: each command is one function of the state, which the conditions of its clause make take one of its branches. -/
theorem meshComplete : Obligations.MeshComplete := by
  unfold Obligations.MeshComplete
  intro s h
  refine ⟨fun o st d hn ho => ⟨?response, fun hw ht => ?timeout⟩, ?forward, ?fence, fun u line e hu hen hl => ?scrub,
    fun a hi => ⟨?clean, ?corrected⟩, fun u p k e s1 hu hc hk hr => ?copy, fun u p t hu ht hd => ?age, fun u hu => ?hot⟩
  case response => exact (exec_meshResponse ..).trans (actOn_gives h (decide_eq_true hn) (response_completes st d ho))
  case timeout => exact (exec_niRequestTimeout ..).trans (actOn_gives h (decide_eq_true hn) (niTimeout_completes ho hw ht))
  case forward =>
    intro node port vn f l m hn hp hv hb hf ht s0 en g j h4 hin hout hm hen s1
    exact (exec_routerForward ..).trans (actOn_gives h (decide_eq_true ⟨hn, hp, hv⟩)
      (routerForward_passes hb hf ht h4 (hen ▸ hin) (hen ▸ hout) hm))
  case fence =>
    intro o s1 hf h1 h2
    exact (exec_routeFenceDone ..).trans (act_gives h (fenceDone_ends hf h1 h2))
  case scrub =>
    intro raw
    exact ⟨fun a ha => (exec_hbmScrub ..).trans (actOn_gives h (decide_eq_true hu) (hbmScrub_of_device hen hl ha)),
      fun ha => (exec_hbmScrub ..).trans (actOn_gives h (decide_eq_true hu) (hbmScrub_of_spare hen hl ha))⟩
  case clean => exact (exec_sramScrub ..).trans (act_gives h (sramScrub_clean hi))
  case corrected => exact (exec_sramScrub ..).trans (act_gives h (sramScrub_corrected hi))
  case copy => exact (exec_retireCopyLine ..).trans (actOn_gives h (decide_eq_true hu) (retireCopy_goes hc hk hr))
  case age => exact (exec_trackerAgeExpire ..).trans (actOn_gives h (decide_eq_true hu) (trackerAge_drops ht hd))
  case hot => exact (exec_hbmOvertemp ..).trans (actOn_gives h (decide_eq_true hu) (if_pos hu))

/-- Settles O22: each command takes the branch that its clause's conditions name; an engine's step is the step itself, or the wait for
the wake or the exit that its access asks for. That the engine then waits (log entry 26), restoration without bound while CAP_EN is 0
(log entry 39), and the instants of intervals and samples (log entry 58) are the model's choices. -/
theorem powerAndTimeComplete : Obligations.PowerAndTimeComplete := by
  unfold Obligations.PowerAndTimeComplete
  intro s h
  refine ⟨fun d hd h3 htile hhub hcore hhb => ?drained, ?off, ?woken, ?governor, ?sync, fun hr h2 => ?loss, fun hr h0 => ?lock,
    fun hr h0 => ?back, ?gauge, ?rail, fun n ch r c hn hch hr hc i k hik => ?engine⟩
  case drained =>
    exact (exec_domainDrainDone ..).trans (actOn_gives h (decide_eq_true hd) (domDrained_commits h3 ⟨htile, hhub, hcore, hhb⟩))
  case off =>
    intro d s1 hd h4 ht
    have hok : decide (d < 176) = true := decide_eq_true (by omega)
    exact ⟨fun hc => (exec_domainPowerOffDone ..).trans (actOn_gives h hok (domPowerOff_wakes hd h4 ht hc)),
      fun ha hc => (exec_domainPowerOffDone ..).trans (actOn_gives h hok (domPowerOff_stays hd h4 ht ha hc))⟩
  case woken =>
    intro d s1 hd h5
    have hok : decide (d < 176) = true := decide_eq_true (by omega)
    exact (exec_domainWakeDone ..).trans (actOn_gives h hok (domWakeDone_tile hd h5))
  case governor =>
    intro i s1 lim warm s2 rest
    refine ⟨fun hd => ?early, fun hd h0 => ?idle, fun hd h0 h1 hw hbot => ?binds, fun hd h0 hc => ?frees⟩
    case early => exact (exec_governorInterval ..).trans (act_gives h (governor_early hd))
    case idle => exact (exec_governorInterval ..).trans (act_gives h (governor_off hd h0))
    case binds =>
      have hb : (s1.b (pwp + R.pwrCtl) 1 && decide (s1.f (pwp + R.pwrCap) 8 0 < i.watts)) = true :=
        Bool.and_eq_true_iff.mpr ⟨h1, decide_eq_true hw⟩
      exact (exec_governorInterval ..).trans (act_gives h ((governor_on hd h0).trans (govActs_above hb hbot)))
    case frees =>
      have hb : (s1.b (pwp + R.pwrCtl) 1 && decide (s1.f (pwp + R.pwrCap) 8 0 < i.watts)) = false :=
        Bool.and_eq_false_iff.mpr (hc.imp_right fun hle => decide_eq_false (Nat.not_lt.mpr hle))
      have hshow := congrArg (fun u : State => (u.putB (pwp + R.pwrCapStat) 24 false).putB (pwp + R.pwrCapStat) 25 false)
        (govern_frees (s := s1) (i := i))
      exact (exec_governorInterval ..).trans (act_gives h ((governor_on hd h0).trans ((govActs_above hb rfl).trans hshow)))
  case sync =>
    intro h2 s1 t
    exact ⟨fun hl => (exec_packSyncEdge ..).trans (act_gives h (packSync_loads h2 hl)),
      fun hl => (exec_packSyncEdge ..).trans (act_gives h (packSync_late h2 hl))⟩
  case loss => exact (exec_refLoss ..).trans (act_gives h (refLoss_holds hr h2))
  case lock => exact (exec_timeLock ..).trans (act_gives h (if_pos ⟨hr, h0⟩))
  case back => exact (exec_referenceReturn ..).trans (act_gives h (refReturn_relocks hr h0))
  case gauge =>
    intro g n w hg c hp
    have hok : decide (g < 256) = true := decide_eq_true hg
    exact ⟨fun hd => (exec_gaugeSample ..).trans (actOn_gives h hok (sample_early hp hd)),
      fun hd => (exec_gaugeSample ..).trans (actOn_gives h hok (sample_adds hp hd))⟩
  case rail => exact (exec_railExcursion ..).trans (act_gives h (railExcursion_isolates h))
  case engine =>
    have hexec : exec i s = engOn true s k := exec_engineSteps hn hch hr hc (i, k) hik
    refine ⟨fun hs hl => ?goes, fun hs hl => ?exits, fun u hu => ?waits⟩
    case goes => exact hexec.trans (engOn_goes h rfl hs hl)
    case exits => exact hexec.trans (engOn_exits h rfl hs hl)
    case waits =>
      obtain ⟨t, ht, hwake, w, l, rfl⟩ := engOn_waits h rfl hu
      exact ⟨_, hexec.trans ht, hwake, rfl, rfl, rfl, rfl, rfl, rfl, rfl⟩

/-- Settles O23: a message in LSEQ order is accepted and does what its clause's conditions name. That a device which still discards
sends its NAK again on a NAK is the model's choice (log entry 62). -/
theorem packComplete : Obligations.PackComplete := by
  unfold Obligations.PackComplete
  intro s l q h hl hup s1
  refine ⟨?bsync, ?nak, fun hq => ?messages⟩
  case bsync =>
    intro f hp s2
    exact (exec_bsync ..).trans (actOn_gives h (decide_eq_true hl) (onBsync_child hup hp))
  case nak =>
    intro e s2
    exact (exec_nak ..).trans (actOn_gives h (decide_eq_true hl) (onNak_resends hup))
  case messages =>
    have hact {k : State → State} {u : State} (hk : k s1 = u) : act s (fun s => s.accept l q k) = .next u.settle :=
      act_gives h ((accept_takes hup hq).trans hk)
    refine ⟨?token, fun b e hb hn => ?arrive, fun b e t hb hn ht => ?release, ?cfg, fun id err hon hu hid hk => ?cfgAck,
      fun src dst hops item p => ⟨fun hd => ?msgHere, fun hd h0 hp => ?msgOn⟩, fun src dst hops r hs hb => ?msgAck,
      fun src dst hops sub entry p ok t hd hr hp => ?rstart, fun src dst hops sub r hs => ?rstartAck, fun id e h1 h2 => ?leadhb⟩
    case token =>
      intro t hops p s2
      exact ⟨fun hd => (exec_token ..).trans (hact (onToken_here hd)),
        fun hd h0 hp => (exec_token ..).trans (hact (onToken_on hd h0 hp))⟩
    case arrive => exact (exec_arrive ..).trans (hact (onArrive_notes hb hn))
    case release => exact (exec_release ..).trans (hact (onRelease_waits hb hn ht))
    case cfg =>
      intro off id data err t ht s2
      exact (exec_cfg ..).trans (hact (onCfg_applies ht))
    case cfgAck => exact (exec_cfgAck ..).trans (hact (onCfgAck_notes hon hu hid hk))
    case msgHere => exact (exec_msg ..).trans (hact (onMsg_here hd))
    case msgOn => exact (exec_msg ..).trans (hact (onMsg_on hd h0 hp))
    case msgAck => exact (exec_msgAck ..).trans (hact (onMsgAck_here hs hb))
    case rstart => exact (exec_rstart ..).trans (hact (onRstart_here hd hr hp))
    case rstartAck => exact (exec_rstartAck ..).trans (hact (onRstartAck_here hs))
    case leadhb => exact (exec_leadhb ..).trans (hact (onLeadhb_renews h1 h2))

/-- Settles O24: each timer takes the branch that its clause's conditions name. -/
theorem packTimersComplete : Obligations.PackTimersComplete := by
  unfold Obligations.PackTimersComplete
  intro s h
  refine ⟨?interval, ?deputy, fun p serial dev hp hb h4 hl => ⟨fun hd => ?same, fun hd => ?peer⟩, fun b t hb ht hd => ?barrier⟩
  case interval =>
    intro hd s1
    exact ⟨fun hl => (exec_leadhbInterval ..).trans (act_gives h (leadhbInterval_lead hd hl)),
      fun hl => (exec_leadhbInterval ..).trans (act_gives h (leadhbInterval_member hd hl))⟩
  case deputy =>
    intro c e s1 s2 hen hid hl hm
    exact (exec_deputyTakeover ..).trans (act_gives h (if_pos ⟨hen, hid, by simp [hl], hm⟩))
  case same => exact (exec_bamiorLinkid ..).trans (act_gives h (bamiorUp_local hp hb h4 hl hd))
  case peer => exact (exec_bamiorLinkid ..).trans (act_gives h (bamiorUp_peer hp hb h4 hl hd))
  case barrier => exact (exec_barrierReleaseTime ..).trans (actOn_gives h (decide_eq_true hb) (barTime_releases ht hd))

/-- Settles O25: a message of the twin in LSEQ order is accepted and does what its clause's conditions name, and each timer and block
time takes its branch. The GEN of SWAP unused and EN cleared on DETACH (log entry 41), DETACH told by REPLAY, the ageing of the twin's
seals and a link UP by LINKID and eight codewords (log entry 62) are the model's choices. -/
theorem braceComplete : Obligations.BraceComplete := by
  unfold Obligations.BraceComplete
  intro s h
  refine ⟨fun l q hl _ hup hq => ?messages, ?seen, ?missed, fun hm hr hc => ?loss, fun hm hr => ?alone, ?epoch, ?up, ?block, ?done_⟩
  case messages =>
    intro s1
    have hact {k : State → State} {u : State} (hk : k s1 = u) :
        actOn (decide (96 ≤ l)) s (fun s => s.accept l q k) = .next u.settle :=
      actOn_gives h (decide_eq_true hl) ((accept_takes hup hq).trans hk)
    refine ⟨fun f h3 h0 hr hg => ?hb, fun f ho hop hr => ?detach, fun f hd hr hc hrep => ?replay, ?mirror, fun f hc => ?keep,
      fun f w hc hw ho => ?take, fun f => ?digest, fun hr => ⟨?fence, fun g => ?swap⟩, fun hr => ?fenced, fun hr => ?sync⟩
    case hb => exact (exec_hb ..).trans (hact (onHb_active h3 h0 hr hg))
    case detach => exact (exec_replay ..).trans (hact (onReplay_detach ho hop hr))
    case replay => exact (exec_replay ..).trans (hact (onReplay_applies hd hr hc hrep))
    case mirror =>
      intro addr be line a w hr hm hb
      exact (exec_mirror ..).trans (hact (onMirror_writes hr hm hb))
    case keep => exact (exec_unitres ..).trans (hact (unitRes_keeps hc))
    case take => exact (exec_unitres ..).trans (hact (unitRes_takes hc hw ho))
    case digest => exact (exec_digest ..).trans (hact rfl)
    case fence => exact (exec_fence ..).trans (hact (if_pos hr))
    case swap => exact (exec_swap ..).trans (hact (if_pos hr))
    case fenced => exact (exec_fence ..).trans (hact (onFence_active hr))
    case sync => exact (exec_syncDone ..).trans (hact (if_pos hr))
  case seen =>
    intro hr hd hs s1
    exact (exec_hbInterval ..).trans (act_gives h (hbInterval_seen hr hd hs))
  case missed =>
    intro hr hd hs s1
    exact (exec_hbInterval ..).trans (act_gives h (hbInterval_missed hr hd hs))
  case loss => exact (exec_hbLoss ..).trans (act_gives h (hbLoss_takes hm hr hc))
  case alone => exact (exec_hbLoss ..).trans (act_gives h (hbLoss_active hm hr))
  case epoch =>
    intro iv m aged hd
    refine ⟨fun hown hr hy => ?young, fun f n hown hr ht hn => ?late, fun o hown hs ho hy hr hlink => ?sends⟩
    case young => exact (exec_epochBoundary ..).trans (act_gives h (epochBoundary_young hd hown hr hy))
    case late => exact (exec_epochBoundary ..).trans (act_gives h (epochBoundary_late hd hown hr ht hn))
    case sends => exact (exec_epochBoundary ..).trans (act_gives h (epochBoundary_sends hd hown hs ho hy hr hlink))
  case up =>
    intro k serial run pref hk h4 hup ht hs s1
    exact (exec_braceLinkUp ..).trans (actOn_gives h (decide_eq_true hk) (braceUp_takes hk h4 hup ht hs))
  case block =>
    intro k hk l hp h4 hb
    have hl : ¬ l < 96 := Nat.not_lt.mpr (Nat.le_add_right 96 k)
    have hl98 : l < 98 := Nat.add_lt_add_left hk 96
    refine ⟨(exec_downstreamBlockTime ..).trans (actOn_gives h (decide_eq_true hl98) ((if_neg hl).trans (braceTime_blocks hp h4 hb))),
      fun hup hid hd => braceTry_ups h4 hup hid hd⟩
  case done_ =>
    intro s1 hr hn
    exact (exec_takeoverDeadline ..).trans (act_gives h (takeoverEnd_ends hr hn))

/-- Settles O26: each command takes the branch that its clause's conditions name. What the report of a link training holds (log entry
57), that a reaction timer acts at the instant of its expiry (log entry 63) and the form of the ROM's commands (log entry 35) are the
model's choices. -/
theorem hostAndBootComplete : Obligations.HostAndBootComplete := by
  unfold Obligations.HostAndBootComplete
  intro s h
  refine ⟨fun page t ht hd hl hc => ?timer, ?drain, fun hup hd3 hheld => ⟨fun off bytes a b hb hn hw ha hb' hr => ?store,
      fun off bytes s1 hn h8 ho hw hc hp => ?write, fun off v s1 hp h8 ho hc => ?read⟩, fun hr => ?rom, fun x r hx => ?flash, ?train,
    fun h2 => ?enter, ?exit, fun v hv => ?unmask, fun u hu => ?stack, fun bm d3 en fm => ?config, fun id data q l hq => ?answer⟩
  case timer => exact (exec_reactionTimerExpire ..).trans (act_gives h (timerExpire_escalates ht hd hl hc))
  case drain =>
    intro lg p a hen hu hw s1 hm c p1
    exact ⟨fun hf ha => (exec_ledgerDrain ..).trans (engOn_gives h ha rfl (ledgerDrain_fits hen hu hw hm hf)),
      fun hf ha => (exec_ledgerDrain ..).trans (engOn_gives h ha rfl (ledgerDrain_overruns hen hu hw hm hf))⟩
  case store =>
    exact (exec_hostWrite ..).trans (act_gives h ((hostWrite_serves h hup hd3 hheld hb hn hw).trans (hostWriteNow_stores ha hb' hr)))
  case write =>
    have hne : bytes ≠ [] := fun hb => by simp [hb] at hn
    exact (exec_hostWrite ..).trans (act_gives h
      ((hostWrite_serves h hup hd3 hheld hne (hn ▸ by decide) hw).trans (hostWriteNow_ctl ho h8 hn hc hp)))
  case read =>
    exact (exec_hostRead ..).trans (act_gives h
      ((hostRead_serves h hup hd3 hheld (by decide) (by decide) hp).trans (hostReadNow_ctl ho h8 hc)))
  case rom =>
    refine ⟨?load, fun k hc hk hv => ?key, fun k hc hk hv hl => ?revoke, fun n hc hn hf h64 => ?svn⟩
    case load =>
      intro hc g e
      exact (exec_romLoad ..).trans (act_gives h (romLoad_checks hr hc))
    case key =>
      subst hk
      exact (exec_romProgramKey ..).trans (act_gives h (romKey_programs hr hc hv))
    case revoke => exact (exec_romRevokeKey ..).trans (act_gives h (romRevoke_revokes hr hc hk hv hl))
    case svn => exact (exec_romSetSvn ..).trans (act_gives h (romSvn_raises hr hc hn hf h64))
  case flash =>
    refine ⟨fun hh ht hl => ?first, ?image⟩
    case first => exact (exec_busTransferComplete ..).trans (actOn_gives h rfl (romBus_first hx hh ht hl))
    case image =>
      intro k l n s1 e ht hl
      exact (exec_busTransferComplete ..).trans (actOn_gives h rfl (romBus_image hx ht hl))
  case train =>
    intro m0 m1 r o s1 s2 s3 s4
    exact (exec_hostLinkTrain ..).trans (act_gives h (hostTrain_live h))
  case enter => exact (exec_l1Entry ..).trans (act_gives h (if_pos h2))
  case exit =>
    intro h3 hl t
    exact (exec_l1Exit ..).trans (act_gives h (if_pos ⟨h3, hl⟩))
  case unmask => exact (exec_msixUnmask ..).trans (actOn_gives h (decide_eq_true hv) (if_pos hv))
  case stack => exact (exec_hbmStackTrained ..).trans (actOn_gives h (decide_eq_true hu) (if_pos hu))
  case config => exact (exec_hostConfigWrite ..).trans (act_gives h rfl)
  case answer => exact (exec_hostCompletion ..).trans (act_gives h (hostCompletion_answers hq))

end
